-- ==== Sys2Proof/Word.lean ====
section
/-! DEFINITION. The words of the GX-3256: 32-bit registers and bytes, and little-endian composition (R3). -/

namespace Sys2Proof

/-- A register's value: every register is 32 bits wide (R5, "Registers"). -/
abbrev Word := BitVec 32

/-- One byte of a table, a record or a frame. -/
abbrev Byte := BitVec 8

/-- The n least significant bytes of v, little-endian (R3). -/
def bytesLE : Nat → Nat → List Byte
  | 0, _ => []
  | n + 1, v => BitVec.ofNat 8 v :: bytesLE n (v / 256)

/-- The number that a little-endian byte string spells (R3). -/
def natLE : List Byte → Nat
  | [] => 0
  | b :: bs => b.toNat + 256 * natLE bs

/-- The n bytes of v, most significant first (fields of the IEEE standards, R3). -/
def bytesBE (n v : Nat) : List Byte := (bytesLE n v).reverse

/-- The number that a big-endian byte string spells. -/
def natBE (bs : List Byte) : Nat := natLE bs.reverse

/-- Bit n of v as a Boolean. -/
def bitOf (v n : Nat) : Bool := (v >>> n) % 2 == 1

/-- 1 for true, 0 for false. -/
def b2n (b : Bool) : Nat := if b then 1 else 0

/-- Bits hi to lo of v. -/
def bitsOf (v hi lo : Nat) : Nat := (v >>> lo) % 2 ^ (hi + 1 - lo)

/-- v read as a two's complement number of w bits. -/
def signedOf (w v : Nat) : Int := if 2 * (v % 2 ^ w) < 2 ^ w then (v % 2 ^ w : Nat) else ((v % 2 ^ w : Nat) : Int) - (2 ^ w : Nat)

/-- The w-bit two's complement form of x. -/
def unsignedOf (w : Nat) (x : Int) : Nat := (x % ((2 ^ w : Nat) : Int)).toNat

/-- v limited to lo to hi: "values outside act as the nearer end". -/
def clampTo (lo hi v : Nat) : Nat := if v < lo then lo else if hi < v then hi else v

/-- The integer v limited to lo to hi. -/
def clampInt (lo hi v : Int) : Int := if v < lo then lo else if hi < v then hi else v

/-- The numbers 0 to n − 1 whose bit is set in mask. -/
def bitsSet (n mask : Nat) : List Nat := (List.range n).filter (fun i => bitOf mask i)

/-- n / d rounded up. -/
def ceilDiv (n d : Nat) : Nat := (n + d - 1) / d

/-- The sum of a list of numbers. -/
def sumNat (l : List Nat) : Nat := l.foldl (fun a b => a + b) 0

/-- v with bit n set to b. -/
def setBit (v n : Nat) (b : Bool) : Nat :=
  if b then (if bitOf v n then v else v + 2 ^ n) else (if bitOf v n then v - 2 ^ n else v)

/-- x put before the first element of a list that it may precede. -/
def insertBy {α : Type} (le : α → α → Bool) (x : α) : List α → List α
  | [] => [x]
  | y :: t => if le x y then x :: y :: t else y :: insertBy le x t

/-- A list in the order of le, equal elements in the order they had. -/
def sortBy {α : Type} (le : α → α → Bool) : List α → List α
  | [] => []
  | x :: t => insertBy le x (sortBy le t)

end Sys2Proof
end

