-- ==== Sys2Proof/Syntax.lean ====
section
/-! DEFINITION. The commands of the GX-3256: one constructor per row of spec/opcode_table.json, in the table's order, with
the operands the rule gives it. Octets, bits and levels as they arrive, measured values, drawn numbers and answers of external parts
are operands; an operand that names what the state determines must agree with it (log entry 177). -/

namespace Sys2Proof

/-- The road by which a register or window write arrives (R535). -/
inductive Road where
  | bar0 | creosh | hitch | dap | device
  deriving DecidableEq, Repr

/-- The owner of a set of counters with a CLEAR bit (R13 and the *_CNT_SEL registers): the lane counters of an engine,
or the counters behind a *_CNT_SEL register: PHY per radio, RFC per front end, link MAC per radio, Marshal, Drover per
radio, Sieve, Post, Carter per port, Locksmith, HOST, CLK per group, Watchman, FLASH, Packhorse, HATCH. -/
inductive CntSet where
  | lanes (e : Fin 12) | phy (r : Fin 3) | rfc (f : Fin 4) | lm (r : Fin 3) | mars | drov (r : Fin 3) | sieve | post
  | cart (p : Fin 8) | lock | host | clk (g : Fin 11) | watch | flash | packhorse | hatch
  deriving DecidableEq, Repr

/-- The owner of banked tables (R26): an engine, the PHY (R85) or the RFC (R252). -/
inductive BankOwner where
  | eng (e : Fin 12) | phy | rfc
  deriving DecidableEq, Repr

/-- What a GAIT transition's supplies find, and other answers of the outside world, are operands of the commands. The
result of reading the NOR by SFDP (R36): whether it answers, whether 1-4-4 and 1-1-4 fast read and 4-byte addressing are
declared, the density in bytes on each chip select, whether discovery failed, whether the copy of the map at 0 or at 0x1000 could not
be read (R37), whether 4 KiB erase is declared. -/
structure NorProbe where
  sfdp    : Bool
  fast144 : Bool
  fast114 : Bool
  addr4   : Bool
  bytes0  : Nat
  bytes1  : Nat
  failed  : Bool
  err0    : Bool
  err1    : Bool
  erase4k : Bool
  deriving DecidableEq, Repr

/-- An Ethernet frame without FCS, as its fields (the order inside is that of IEEE 802.3, R3): addresses as 48-bit
numbers, the 802.1Q tag if any (priority, VLAN), EtherType, payload after it. -/
structure EthFrame where
  da      : Nat
  sa      : Nat
  tag     : Option (Nat × Nat) := none
  etype   : Nat
  payload : List Byte
  deriving DecidableEq, Repr

/-- An IP header as the lookups use it (R277, R280): version 6 or 4, protocol, addresses, DSCP, fragment, TTL or hop
limit, whether the IPv4 checksum holds, L4 ports. -/
structure IpHdr where
  v6     : Bool
  proto  : Nat
  sa     : Nat
  da     : Nat
  dscp   : Nat
  frag   : Bool
  ttl    : Nat
  csumOk : Bool
  sport  : Nat
  dport  : Nat
  deriving DecidableEq, Repr

/-- A decoded 802.11 MPDU header (R105, R106, R111, R116): addresses, kind (0 data, 1 management, 2 probe request,
3 BlockAckReq, 4 other control, 5 RTS, 6 a Basic or BSRP trigger), TID (8 = non-QoS), SN (of a BlockAckReq its SSN), FN, Retry,
PM, Duration, a CF-End, octets, protection with its PN, the BSS index it is addressed to (none = not one of the radio's BSSs),
whether it came from a BSS of the radio (R102), power, rate as in LAST_RATE, a buffer status (access category, octets), whether
it starts a TXOP, and the frame it carries to Carter with its IP header. -/
structure MpduHdr where
  ta       : Nat
  ra       : Nat
  kind     : Nat
  tid      : Nat
  sn       : Nat
  fn       : Nat
  retry    : Bool
  pm       : Bool
  duration : Nat
  cfEnd    : Bool := false
  octets   : Nat
  prot     : Bool
  pn       : Nat
  bss      : Option Nat
  intra    : Bool
  rssi     : Int
  rate     : Nat
  bsr      : Option (Nat × Nat) := none
  opensTxop : Bool := false
  frame    : EthFrame
  ip       : Option IpHdr := none
  deriving DecidableEq, Repr

/-- The four cases in which a TXOP is lost (R101). -/
inductive LossCause where
  | cca | noCts | noResponse | refused
  deriving DecidableEq, Repr

/-- The result of one user of a TB PPDU (R129): the station, the MPDUs decoded, the buffer status reported. -/
structure TbUser where
  sta     : Nat
  decoded : Bool
  bsr     : Option (Nat × Nat) := none
  deriving DecidableEq, Repr

/-- The EDCA parameters and TSF carried by an upstream beacon (R133). -/
structure BhBeacon where
  edca : List Nat
  tsf  : Nat
  deriving DecidableEq, Repr

/-- A probe request (R123): sender, broadcast or addressed, SSID (empty = wildcard), short SSID if carried. -/
structure ProbeReq where
  ta    : Nat
  bcast : Bool
  bss   : Option Nat
  ssid  : List Byte
  short : Option Nat
  deriving DecidableEq, Repr

/-- A plan to be made (R155): the radio, the slot, and the loss in dB that the precoder of a group predicts for each of its
members against its own SU beamforming (R159). -/
structure PlanInput where
  radio : Fin 3
  slot  : Fin 2
  loss  : List (Nat × Nat) := []
  deriving DecidableEq, Repr

/-- The outcome of one user at settle (R169): the frames acknowledged, whether any response came. -/
structure SettleUser where
  sta   : Nat
  acked : List Nat
  heard : Bool
  deriving DecidableEq, Repr

/-- Why Sieve refuses or drops a transmission (R191, R192). -/
inductive TxVerdict where
  | ok | txOk | regulatory | duty | late
  deriving DecidableEq, Repr

/-- A mesh transmission request (R191): channel, hypothesis, preamble octets, coded and interleaved flags, whitening,
4-octet FCS, PSDU octets, power in 0.5 dBm at the Tack die pin, start in device-time ns, and who waits for it: 0 an
acknowledgement, 1 a downlink frame, 2 a broadcast, 3 a grant. -/
structure MeshTx where
  ch    : Nat
  hyp   : Nat
  pre   : Nat
  coded : Bool
  il    : Bool
  dw    : Bool
  fcs4  : Bool
  psdu  : List Byte
  power : Int
  start : Nat
  role  : Nat
  node  : Nat := 0
  deriving DecidableEq, Repr

/-- An SFD as a stall finds it (R184, R188): the 16 bits found, most significant first, and the carrier offset estimate in Hz. -/
structure SfdFound where
  sfd : BitVec 16
  cfo : Int
  deriving DecidableEq, Repr

/-- A match of an SFD in a stall. -/
structure SfdHit extends SfdFound where
  stall : Fin 128
  deriving DecidableEq, Repr

/-- A PHR as one code reads it (R176, R179): MS, frame length, a 4-octet FCS, DW. -/
structure PhrRead where
  ms     : Bool
  len    : Nat
  fcs4   : Bool
  dw     : Bool
  deriving DecidableEq, Repr

/-- The send header of a frame for the MESH port (R232). -/
structure SendHdr where
  node      : Nat
  broadcast : Bool
  level     : Nat
  report    : Bool
  eventOnly : Bool
  channel   : Nat
  lifeS     : Nat
  cookie    : Nat
  hyp       : Nat
  pan       : Nat
  deriving DecidableEq, Repr

/-- The verdict on a received frame's FCS (R279, R288). -/
inductive FcsVerdict where
  | good | bad | stomped
  deriving DecidableEq, Repr

/-- A frame entering Carter (R270, R279): source index, octets with FCS, FCS verdict, its IP header if any, the station
it came from (AIR), the receive timestamp of a PTP event message, ONESTEP of a host descriptor (R336), its RS-FEC codewords left uncorrected. -/
structure Ingress where
  src   : Nat
  len   : Nat
  fcs   : FcsVerdict
  frame : EthFrame
  ip    : Option IpHdr := none
  sta   : Option Nat := none
  ts    : Option Nat := none
  oneStep : Bool := false
  tsReq : Bool := false
  rsLost : Nat := 0
  deriving DecidableEq, Repr

/-- A transit PTP message (R294): sync with its one-step flag, Delay_Req or Follow_Up; sequenceId, sourcePortIdentity,
transport (0 = IEEE 802.3, 4 or 6 = UDP), residence time in ns, correctionField in 2^-16 ns. -/
structure PtpMsg where
  kind      : Fin 3
  oneStep   : Bool
  seqId     : Nat
  portId    : Nat
  transport : Nat
  residence : Nat
  corr      : Int
  deriving DecidableEq, Repr

/-- A servo sample (R295, R410): a Sync with its Follow_Up applied, a PPS_IN edge at a device time, or the latched edge. -/
inductive ServoSrc where
  | sync (port domain : Nat) (tIngress origin : Nat) (corrNs : Int)
  | pps (time : Nat)
  | latched
  deriving DecidableEq, Repr

/-- The four host-port resets (R332). -/
inductive HostResetCause where
  | perst | hotReset | flr | linkLoss
  deriving DecidableEq, Repr

/-- The host link as found (R333): in L0 or L1, generation, width, Bus Master Enable, D3hot, the MSI-X vector
masked (R347). -/
structure LinkFacts where
  l0    : Bool
  gen   : Nat
  width : Nat
  bme   : Bool
  d3    : Bool
  mask  : Bool := false
  deriving DecidableEq, Repr

/-- A fetched transmit descriptor (R336) with the frame it names; dmaOk: neither fetch failed. head: for KIND 8 the send
header of R232 with the body. -/
structure TxDesc where
  addr    : Nat
  len     : Nat
  tsReq   : Bool
  oneStep : Bool
  direct  : Bool
  cls     : Nat
  dest    : Nat
  frame   : EthFrame
  ip      : Option IpHdr := none
  mesh    : Option (SendHdr × List Byte) := none
  dmaOk   : Bool
  deriving DecidableEq, Repr

/-- A receive descriptor as the host posted it (R337). -/
structure RxDesc where
  addr   : Nat
  bufLen : Nat
  dmaOk  : Bool := true
  deriving DecidableEq, Repr

/-- Who sent an accepted Creosh request (R349, R353): Carter source index, VLAN, SA, SEQ. -/
structure CreoshReq where
  src  : Nat
  vlan : Nat
  sa   : Nat
  seq  : Nat
  deriving DecidableEq, Repr

/-- A steward-path frame at LOCAL (R291, R353): octets as the receive descriptor of R337 would have carried it. -/
structure StewFrame where
  src    : Nat
  cls    : Nat
  vlan   : Nat
  time   : Nat
  octets : List Byte
  deriving DecidableEq, Repr

/-- A transaction of the hitching port (R357). -/
inductive HitchXfer where
  | read (addr count : Nat)
  | write (addr : Nat) (data : List Byte)
  deriving DecidableEq, Repr

/-- What happens at a ring receiver (R392): signal detected, the 5 ms of acquisition over, no block lock in 100 ms, block
lock lost and regained, SPEED changed. -/
inductive EqEvent where
  | signal | tracking | lockFail | relock | speedChange
  deriving DecidableEq, Repr

/-- What a detector shows at the end of a window (R181): channel, hypothesis, power in 0.5 dBm, correlation in sixteenths; of a watch
round, which of its windows (R408). -/
structure RoundHit where
  ch    : Nat
  hyp   : Nat
  power : Int
  corr  : Nat
  win   : Nat := 0
  deriving DecidableEq, Repr

/-- An access through the debug port (R427): BAR0 read or write, or an internal memory by its scan chain. -/
inductive DapOp where
  | read (addr : Nat)
  | write (addr : Nat) (value : Word)
  | scanRead (addr : Nat)
  | scanWrite (addr : Nat) (value : Byte)
  deriving DecidableEq, Repr

/-- The two inputs of the Assay die (R471). -/
inductive AssayIn where
  | hatch | cal
  deriving DecidableEq, Repr

/-- A piece of an update (R458): UPDATE_ID, piece index, data. -/
structure PieceReq where
  update : Nat
  index  : Nat
  data   : List Byte
  norOk  : Bool := true
  deriving DecidableEq, Repr

/-- Why a flash block retires (R450). -/
inductive RetireCase where
  | eraseFail | programFail | worn | scrub
  deriving DecidableEq, Repr

/-- The data of a write (R331): its dword; a write with partial byte enables or longer than a dword is none. -/
structure WriteData where
  value : Word
  dword : Bool := true
  deriving DecidableEq, Repr

/-- What the reading of a slot gives (R52, R57): its header, the whole of it. -/
structure SlotRead where
  hdr : Bool
  all : Bool
  deriving DecidableEq, Repr

/-- What a radio hears (R74, R82): the power of a signal in dBm; of each subchannel in ascending frequency energy and signal in dBm. -/
structure RxLevel where
  power : Int
  cca   : List (Int × Int) := []
  deriving DecidableEq, Repr

/-- The end of a reception (R81, R82): the chains that received it; the levels of the subchannels after it. -/
structure RxTail where
  chains : Nat
  cca    : List (Int × Int) := []
  deriving DecidableEq, Repr

/-- A node command's node (R216), and whether its record is found in error. -/
structure NodeAccess where
  node   : Fin 131072
  recErr : Bool := false
  deriving DecidableEq, Repr

/-- A chain's transmission as its monitor sees it (R262): offsets in 100 kHz, levels in 0.1 dBr. -/
structure ChainSpectrum where
  chain    : Fin 17
  spectrum : List (Int × Int)
  deriving DecidableEq, Repr

/-- What a detector's window shows (R181): correlation in sixteenths, power in 0.5 dBm. -/
structure HitLevel where
  corr  : Nat
  power : Int
  deriving DecidableEq, Repr

/-- The commands, one per row of the opcode table. -/
inductive Instr where
  | registerWrite (road : Road) (addr : Nat) (value : WriteData)
  | tableWindowWrite (road : Road) (addr : Nat) (value : WriteData)
  | topEngGateWrite (road : Road) (value : Word)
  | topEngReset (road : Road) (value : Word)
  | topSectReset (road : Road) (value : Word)
  | topDevReset (road : Road) (value : Word)
  | engCtrlStop (e : Fin 12) (stop : Bool)
  | engCtrlHold (e : Fin 12) (hold : Bool)
  | cntClear (set : CntSet)
  | bankSwitchRequest (o : BankOwner) (tables : BitVec 16)
  | bankCopyRequest (o : BankOwner) (tables : BitVec 16)
  | bankCopyComplete (o : BankOwner) (table : Fin 16)
  | engineBoundary (e : Fin 12)
  | drainComplete (e : Fin 12)
  | drainTimeout (e : Fin 12)
  | engineReset (e : Fin 12)
  | sectionReset (sct : Fin 6)
  | resetRelease (e : Fin 12)
  | runReapplyComplete (e : Fin 12) (readOk : Bool)
  | powerOnReset (strap : BitVec 2)
  | brownOut (strap : BitVec 2)
  | pinReset (strap : BitVec 2)
  | startSequence (vbatMv : Nat)
  | tallyScan (badHeader : Option Nat) (badUnits : List (Nat × Nat))
  | norDiscovery (probe : NorProbe)
  | slotChoice
  | pass1 (rd : SlotRead)
  | migration
  | pass2 (readOk : Bool)
  | waitRecordTimeout
  | startGaitRaise
  | lameStateEntry
  | ostSettle (road : Road) (value : Word)
  | autoSettle
  | rollbackBurn (vbatMv : Nat)
  | rxDetection (r : Fin 3) (level : RxLevel)
  | rxFalseRelease (r : Fin 3)
  | lsigValid (r : Fin 3)
  | signalFieldCrcFail (r : Fin 3)
  | rxUnsupported (r : Fin 3)
  | capturePowerStep (r : Fin 3) (power : Int)
  | captureRestart (r : Fin 3)
  | captureRestartFail (r : Fin 3)
  | phyRxend (r : Fin 3) (rssi : Int) (ownGood : Bool) (ldpcFails : Nat) (tail : RxTail)
  | txStartCommand (r : Fin 3) (cca : List (Int × Int))
  | obssPdUpdate (r : Fin 3)
  | obssPpduIgnored (r : Fin 3) (rssi : Int)
  | spExpired
  | phyBankSwitch (r : Fin 3) (k : Fin 3)
  | mpduProvisional (r : Fin 3) (m : MpduHdr)
  | mpduVerdict (r : Fin 3) (id : Nat) (fcs : Bool) (mic : Bool)
  | responseSend (r : Fin 3)
  | reorderRelease (r : Fin 3) (agr : Fin 1024) (moveTo : Option Nat)
  | reorderTimeout (r : Fin 3) (agr : Fin 1024)
  | agreementValidWrite (r : Fin 3) (agr : Fin 1024) (valid : Bool)
  | edcaTxopGain (r : Fin 3) (slots : Nat) (draw : Nat) (draws : List Nat) (idlePifs : Bool)
  | txopLost (r : Fin 3) (cause : LossCause)
  | rtsProtection (r : Fin 3) (toSelf : Bool) (mu : Bool) (dest : List Nat) (width : Nat)
  | tbtt (r : Fin 3) (bss : Fin 16)
  | beaconDropped (r : Fin 3) (bss : Fin 16)
  | probeRequest (r : Fin 3) (q : ProbeReq)
  | probeResponseDrop (r : Fin 3)
  | psPoll (r : Fin 3) (sta : Fin 2048)
  | uapsdTrigger (r : Fin 3) (sta : Fin 2048) (ac : Fin 4) (eosp : Bool)
  | twtServicePeriodEnd (r : Fin 3) (i : Fin 256)
  | triggerFrameSend (r : Fin 3) (kind : Nat)
  | tbPpduReceive (r : Fin 3) (users : List TbUser)
  | soundingSequence (r : Fin 3)
  | beamformingReport (r : Fin 3) (sta : Fin 2048) (seg : Nat) (total : Nat) (last : Bool)
  | bhBeaconLoss (r : Fin 3)
  | bhBeaconReceived (r : Fin 3) (b : BhBeacon)
  | placementPeriod (u0 u1 u2 : BitVec 8)
  | airEnqueue (r : Fin 3) (sta : Option (Fin 2048)) (bss : Fin 16) (tid : Fin 8) (f : EthFrame)
  | queueAgeDrop (q : Nat)
  | planMade (p : PlanInput)
  | planSwap (r : Fin 3) (ac : Fin 4)
  | planCommit (r : Fin 3) (overrun : Bool) (failed : List Nat)
  | planSettle (r : Fin 3) (users : List SettleUser)
  | planUndo (r : Fin 3) (slot : Fin 2) (user : Option Nat)
  | soundingDue
  | precoderReady (solver : Fin 2) (us : Nat)
  | sieveDetection (ns : Nat) (ch : Nat) (hyp : Nat) (level : HitLevel) (others : List RoundHit)
  | sfdMatch (ns : Nat) (stall : Fin 128) (found : SfdFound) (others : List SfdHit)
  | preambleTimeout (stall : Fin 128)
  | phrJudgement (stall : Fin 128) (nrnsc : PhrRead) (rsc : Option PhrRead) (metrics : Nat × Nat)
  | meshFrameVerdict (stall : Fin 128) (body : List Byte) (fcs : List Byte)
  | channelBlanking (cal : Bool) (tx : Nat)
  | nfLoopUpdate (samples : List (Nat × List Int))
  | sieveTxRequest (t : MeshTx)
  | sieveTxCommit (id : Nat)
  | sieveTxEnd (id : Nat) (tailOver : Bool)
  | sieveSpanApply
  | postFrameAccept (stall : Fin 128)
  | postFrameUndo (stall : Fin 128)
  | dataRequestPoll (node : Fin 131072)
  | admitNode (node : NodeAccess)
  | forget (node : Fin 131072)
  | create (node : Fin 131072)
  | throw (node : Fin 131072)
  | read (node : NodeAccess)
  | write (node : NodeAccess)
  | flush (node : Fin 131072)
  | grantAcknowledged (node : Fin 131072)
  | grantExpired (node : Fin 131072)
  | tetherWindowOpen (node : Fin 131072)
  | tetherEventEnd (node : Fin 131072)
  | meshEnqueue (h : SendHdr) (body : List Byte)
  | downlinkSend (node : Fin 131072)
  | downlinkExpired (node : Fin 131072)
  | meshBroadcast (h : SendHdr) (body : List Byte)
  | saddlebagDrain
  | hotTableRebuild
  | feWarmDone (f : Fin 4) (temp : Int)
  | feSettleDone (f : Fin 4)
  | startupCalibrationDone (f : Fin 4) (ok : Bool) (temp : Int)
  | calibrationDue (f : Fin 4) (temp : Int)
  | inserviceStep (f : Fin 4) (ok : Bool) (temp : Int)
  | calStepAbort (f : Fin 4)
  | txWaitedLate (f : Fin 4) (tx : Option Nat)
  | alcUpdate (c : Fin 17) (measured : Int)
  | alcOvershoot (c : Fin 17) (measured : Int)
  | maskViolation (c : ChainSpectrum)
  | chainRevive (road : Road) (value : Word)
  | dutyTick
  | synthLockLost (f : Fin 4)
  | regFuseWrite (road : Road) (value : Word)
  | rfcImgcapWrite (road : Road) (value : Word)
  | frameIngress (g : Ingress)
  | loftSpill (id : Nat)
  | cutThrough (g : Ingress)
  | cutThroughStomp (p : Fin 2) (len : Nat) (cause : FcsVerdict)
  | egressSchedule (p : Fin 4)
  | ringLink (p : Fin 2) (up : Bool)
  | l2Insert (road : Road)
  | l2Delete (road : Road)
  | l2Lookup (road : Road)
  | l2Flush (road : Road)
  | macAgeing
  | ptpTimestamp (p : Fin 2) (seqId : BitVec 16) (tx : Bool) (ns : Fin 30518)
  | tsFifoPop
  | transparentClock (p : Fin 2) (m : PtpMsg)
  | servoSample (q : ServoSrc)
  | ptpHoldover
  | timeStep (road : Road) (value : Word)
  | ppsOut (high : Bool)
  | keeperRelease (supplyLost : Bool)
  | keeperOpen
  | keepRetry
  | aesRequest (core : Fin 16)
  | txCipherLate (r : Fin 3) (frame : Nat) (atStart : Bool)
  | keyInstall (road : Road) (sp : Fin 4) (h : Fin 131072)
  | keyClear (road : Road) (sp : Fin 4) (h : Fin 131072)
  | keyRead (road : Road) (sp : Fin 4) (h : Fin 131072)
  | keyFetch (sp : Fin 2) (h : Fin 131072)
  | limitFifoRead
  | mfcReservationWrite
  | mfcWrap
  | mfcResume
  | vaultRecrypt
  | backingRewrite (norOk : Bool)
  | vaultRebuild (crcBad : List Nat)
  | noiseWindow (pass : Bool)
  | drbgReseed
  | drbgStopped (us : Nat)
  | hostPortReset (cause : HostResetCause)
  | hostPortUp (st : LinkFacts)
  | wakeNAssert
  | doorbellWrite (ring : Fin 16) (value : BitVec 16)
  | ringCtrlEnable (road : Road) (ring : Fin 16) (value : Word)
  | txDescriptor (n : Fin 8) (d : TxDesc)
  | rxDescriptorFill (n : Fin 8) (ds : List RxDesc)
  | dmaFault (ring : Fin 16)
  | ledgerRecord (origin : Fin 25) (src : BitVec 8) (kind : BitVec 8) (payload : List Byte)
  | ledgerFeed
  | ledgerTailWrite (road : Road) (value : Word)
  | ledgerCfgWrite (road : Road) (value : Word)
  | servedSourceFire (origin : Fin 25) (src : BitVec 8) (payload : List Byte)
  | done (road : Road) (value : Word)
  | msixMessage
  | copyDataRead
  | creoshFrame (src : Fin 64) (vlan : BitVec 12) (sa : BitVec 48) (octets : List Byte)
  | creoshRead (q : CreoshReq) (addr count : Nat)
  | creoshWrite (q : CreoshReq) (addr : Nat) (dwords : List Word)
  | creoshLedger (q : CreoshReq) (index count : Nat)
  | creoshDone (q : CreoshReq) (origin src : Byte)
  | creoshPiece (q : CreoshReq) (body : List Byte)
  | creoshGait (q : CreoshReq) (req resume lmgate flags : Byte)
  | creoshReset (q : CreoshReq) (key : BitVec 16)
  | creoshSend (q : CreoshReq) (dest : BitVec 16) (cls : Byte) (frame : List Byte)
  | armKey (q : CreoshReq)
  | armKeyExpiry
  | creoshFloorWrite
  | creoshTxblkWrite
  | delivery (d : StewFrame)
  | hitchAddressMatch (addr : BitVec 7) (inTime : Bool)
  | registerAccess (x : HitchXfer)
  | ledgerCopyRead (index count : Nat)
  | hitchSclTimeout
  | paddockStable
  | paddockLost
  | groomFailure
  | groomRecovered
  | crossingModeChange (g : Fin 11)
  | groupPark (g : Fin 11)
  | groupUnpark (g : Fin 11)
  | stoppedClock (g : Fin 11) (cls : Fin 5) (dom : Fin 8) (coreDead : Bool)
  | evtHeldSaturated (g : Fin 11) (n : Nat)
  | streamFault (g : Fin 11) (r : Fin 3)
  | avsUpdate (readings : List (Nat × Nat)) (busOk : Bool)
  | avsUrgentRaise (monitor : Fin 24) (slack : Nat) (busOk : Bool)
  | droopStretch (mv : Nat)
  | dfeUpdate (p : Fin 2) (accs : List Int) (peaking : Int)
  | eqAcquisition (p : Fin 2) (ev : EqEvent)
  | watchGaitReq (road : Road) (value : Word)
  | gaitTransition
  | pwrLoss
  | pwrRestored
  | fatalLift
  | lowbat (vbatMv : Nat)
  | lowbatLift (vbatMv : Nat)
  | watchRound (hits : List RoundHit)
  | saddleWake
  | saddleSleep
  | wakeSource (src : Fin 8)
  | watchTimer
  | ppsInEdge
  | alwaysOnTick
  | ponyHpRequest
  | ponyLpRelease
  | genSecret (road : Road) (value : Word) (secret : BitVec 256) (vbatMv : Nat)
  | toMaker (road : Road) (value : Word) (vbatMv : Nat)
  | toField (road : Road) (value : Word) (vbatMv : Nat)
  | toRetired (road : Road) (value : Word) (vbatMv : Nat)
  | lifecycleTransition
  | secFuseWrite (road : Road) (value : Word) (vbatMv : Nat)
  | zeroise (road : Road) (value : Word)
  | wipeOverwriteDone (bit : Fin 3)
  | tapInstructionLoad (code : BitVec 8)
  | dapAccess (op : DapOp)
  | dbgChallenge
  | challengeExpiry
  | dbgResponse (octets : List Byte)
  | dbgSeal
  | sessionEnd (road : Road) (value : Word)
  | sessionIdleTimeout
  | tamper (low : Bool)
  | tallyWrite (road : Road) (id : Fin 2048) (value : Word)
  | flashErase (blk : Fin 96)
  | eraseSuspend
  | starve (ms : Nat)
  | journalReclaim
  | scrubVisit (weak : Bool)
  | scrubRewrite (blk : Fin 96)
  | blockRetire (blk : Fin 96) (why : RetireCase)
  | wear
  | lifeHourTick
  | manifestPiece (q : CreoshReq) (p : PieceReq)
  | payloadPiece (q : CreoshReq) (p : PieceReq)
  | query (q : CreoshReq) (index update : Nat)
  | abort (q : CreoshReq) (update : Nat)
  | sheafCheck
  | stagingComplete
  | stagingInstall (norOk : Bool)
  | assaySample (codes : List (Int × Int))
  | assayPulse
  | intervalRecord
  | sealChange (openNow : Bool)
  | assayStatus (port : AssayIn)
  | snapshot (port : AssayIn)
  | readRecord (port : AssayIn) (seq : Nat)
  | readLog (port : AssayIn) (idx : Nat)
  | timeSet (port : AssayIn) (req : List Byte)
  | readParam (port : AssayIn)
  | writeParam (port : AssayIn) (block : List Byte)
  | installKey (port : AssayIn) (which : Nat) (key : List Byte)
  | setTime (port : AssayIn) (rtc : Word)
  | calibrationFrame (octets : List Byte) (openThroughout : Bool)
  | hatchCmdFailed (timeout : Bool)
  | assaySupplyFail (holdup : Bool)
  | assaySupplyReturn
  | assayCrystalFault
  | assayCrystalRecovered
  | alert
  | errorDetected (origin : Fin 25) (code : BitVec 8) (lane : BitVec 16) (item : Nat)
  | errAck (road : Road) (value : Word)
  | muster
  | bookCapture (book : Fin 8) (inst : Nat) (drift : Int) (recountOk : Bool)
  | musterDefer (book : Fin 8)
  | gpio (levels : BitVec 24)
  | therm (die : Fin 3) (temp : Int)
  | overtemperature (die : Fin 3) (temp : Int)
  | supplyUndervoltage (io : Bool)
  | downlinkAckTimeout (node : Fin 131072)
  | eraseComplete
  | bsrpDue (r : Fin 3)
  | wakeNTimeout
  deriving DecidableEq, Repr

end Sys2Proof
end

