-- ==== Sys2Proof/Machine/Counters.lean ====
section
/-! DEFINITION. The counters of each block under the manual's own names (the counter tables of chapters 3 to 18). -/

namespace Sys2Proof.Machine

/-! Counters of spec/03_wifi_radios_and_phy.md, block PHY. -/
def C.PHY.RX_DETECT : Nat := 0
def C.PHY.RX_FALSE : Nat := 1
def C.PHY.RX_PPDU : Nat := 2
def C.PHY.RX_DISPLACED : Nat := 3
def C.PHY.RX_RESTART_FAIL : Nat := 4
def C.PHY.RX_UNSUPP : Nat := 5
def C.PHY.RX_HDR_ERR : Nat := 6
def C.PHY.RX_LDPC_FAIL : Nat := 7
def C.PHY.RX_TX_ABORT : Nat := 8
def C.PHY.TX_PPDU : Nat := 9
def C.PHY.TX_PUNCT : Nat := 10
def C.PHY.TX_NARROWED : Nat := 11
def C.PHY.TX_SP_REFUSED : Nat := 12
def C.PHY.OBSS_IGNORED : Nat := 13
def C.PHY.CCA_BUSY_US : Nat := 14
def C.PHY.BRIDLE_CRC : Nat := 15

/-! Counters of spec/04_link_mac_engines.md, block LM. -/
def C.LM.RX_MPDU_OK : Nat := 0
def C.LM.RX_FCS_FAIL : Nat := 1
def C.LM.RX_MIC_FAIL : Nat := 2
def C.LM.RX_UNDONE_OTHER : Nat := 3
def C.LM.RX_NOCELL : Nat := 4
def C.LM.RX_DUP : Nat := 5
def C.LM.RX_REPLAY : Nat := 6
def C.LM.RX_REORDER_TIMEOUT : Nat := 7
def C.LM.RX_MIC_LATE : Nat := 8
def C.LM.RX_UNKNOWN_TA : Nat := 9
def C.LM.RX_NO_ANCHOR : Nat := 10
def C.LM.RESP_SENT : Nat := 11
def C.LM.RESP_TIMEOUT : Nat := 12
def C.LM.INTERNAL_COLLISION : Nat := 13
def C.LM.BCN_SENT : Nat := 14
def C.LM.BCN_DROPPED : Nat := 15
def C.LM.PROBE_RESP_SENT : Nat := 16
def C.LM.TRIG_SENT : Nat := 17
def C.LM.UL_USER_MISS : Nat := 18
def C.LM.SND_REPORT : Nat := 19
def C.LM.SND_MISS : Nat := 20
def C.LM.BA_NOSLOT : Nat := 21
def C.LM.BH_RX : Nat := 22
def C.LM.BH_TX : Nat := 23

/-! Counters of spec/05_marshal_and_drover.md, block MARS. -/
def C.MARS.MOVES : Nat := 0
def C.MARS.NO_LINK : Nat := 1
def C.MARS.UL_OFF_MAP : Nat := 2
def C.MARS.EMLSR_SWITCH : Nat := 3
def C.MARS.YOKE_JOINT : Nat := 4
def C.MARS.YOKE_DEFER : Nat := 5
def C.MARS.YOKE_PAD_US : Nat := 6
def C.MARS.YOKE_BLANKED : Nat := 7
def C.MARS.LINK_ABSENT : Nat := 8
def C.MARS.LOOP_PERIODS : Nat := 9

/-! Counters of spec/05_marshal_and_drover.md, block DROV. -/
def C.DROV.PLAN_MADE : Nat := 0
def C.DROV.PLAN_COMMIT : Nat := 1
def C.DROV.PLAN_UNDONE : Nat := 2
def C.DROV.PLAN_SWAP : Nat := 3
def C.DROV.USER_REMOVED : Nat := 4
def C.DROV.PPDU_SU : Nat := 5
def C.DROV.PPDU_OFDMA : Nat := 6
def C.DROV.PPDU_MU_MIMO : Nat := 7
def C.DROV.TRIG_UL : Nat := 8
def C.DROV.SOUNDING : Nat := 9
def C.DROV.PRECODER_READY : Nat := 10
def C.DROV.RETRY_DROP : Nat := 11
def C.DROV.AGED : Nat := 12
def C.DROV.Q_FULL_DROP : Nat := 13
def C.DROV.REFILL : Nat := 14
def C.DROV.CIPHER_LIMITED : Nat := 15
def C.DROV.GROUP_US : Nat := 16
def C.DROV.FLUSHED : Nat := 17
def C.DROV.LATE_PLAN_US : Nat := 18

/-! Counters of spec/06_sieve_mesh_receiver.md, block SIEVE. -/
def C.SIEVE.DETECT : Nat := 0
def C.SIEVE.SEATED : Nat := 1
def C.SIEVE.UNSEATED : Nat := 2
def C.SIEVE.EVICTED : Nat := 3
def C.SIEVE.RESERVED_USED : Nat := 4
def C.SIEVE.FALSE : Nat := 5
def C.SIEVE.RACE_LOST : Nat := 6
def C.SIEVE.ADJACENT : Nat := 7
def C.SIEVE.DISPLACED : Nat := 8
def C.SIEVE.RESTART_FAIL : Nat := 9
def C.SIEVE.PHR_ERR : Nat := 10
def C.SIEVE.UNSUPP : Nat := 11
def C.SIEVE.FRAME_OK : Nat := 12
def C.SIEVE.FCS_FAIL : Nat := 13
def C.SIEVE.BLINKED : Nat := 14
def C.SIEVE.ABANDONED : Nat := 15
def C.SIEVE.TX_FRAME : Nat := 16
def C.SIEVE.TX_CUT : Nat := 17
def C.SIEVE.TX_LATE : Nat := 18
def C.SIEVE.TX_REFUSED : Nat := 19
def C.SIEVE.TX_CUT_SHORT : Nat := 20
def C.SIEVE.TACK_CRC : Nat := 21

/-! Counters of spec/07_post_and_tethers.md, block POST. -/
def C.POST.RX_FRAME : Nat := 0
def C.POST.RX_FILTERED : Nat := 1
def C.POST.UNKNOWN_SRC : Nat := 2
def C.POST.ACK_SENT : Nat := 3
def C.POST.ACK_REFUSED : Nat := 4
def C.POST.DUP : Nat := 5
def C.POST.SEC_FAIL : Nat := 6
def C.POST.REPLAY : Nat := 7
def C.POST.DELIVERED : Nat := 8
def C.POST.UNDONE : Nat := 9
def C.POST.EVT_HIT : Nat := 10
def C.POST.EVT_MISS : Nat := 11
def C.POST.OUT_OF_REACH : Nat := 12
def C.POST.THROWN : Nat := 13
def C.POST.STRAY_ANCHOR : Nat := 14
def C.POST.GRANT_SENT : Nat := 15
def C.POST.DL_SENT : Nat := 16
def C.POST.DL_ACKED : Nat := 17
def C.POST.DL_RETRY_DROP : Nat := 18
def C.POST.DL_EXPIRED : Nat := 19
def C.POST.DL_FULL_DROP : Nat := 20
def C.POST.HOLD_ACK : Nat := 21
def C.POST.BAGGED : Nat := 22

/-! Counters of spec/08_radio_front_end_and_regulatory.md, block RFC. -/
def C.RFC.CAL_STARTUP : Nat := 0
def C.RFC.CAL_INSERVICE : Nat := 1
def C.RFC.CAL_ABORT : Nat := 2
def C.RFC.CAL_FAIL : Nat := 3
def C.RFC.TX_WAITED : Nat := 4
def C.RFC.TX_LATE : Nat := 5
def C.RFC.ALC_OVERSHOOT : Nat := 6
def C.RFC.ALC_AT_BOUND : Nat := 7
def C.RFC.MON_VIOLATION : Nat := 8
def C.RFC.CHAIN_SHUT : Nat := 9
def C.RFC.TX_CHAIN_REFUSED : Nat := 10
def C.RFC.REG_CAPPED : Nat := 11
def C.RFC.DUTY_REFUSED : Nat := 12
def C.RFC.LOCK_LOSS : Nat := 13
def C.RFC.REG_REFUSED : Nat := 14

/-! Counters of spec/09_carter_router_and_ring.md, block CART. -/
def C.CART.RX_FRAMES : Nat := 0
def C.CART.RX_FCS_ERR : Nat := 1
def C.CART.RX_STOMPED : Nat := 2
def C.CART.OVERSIZE : Nat := 3
def C.CART.VLAN_DROP : Nat := 4
def C.CART.BLOCKED_DROP : Nat := 5
def C.CART.ACL_DROP : Nat := 6
def C.CART.POL_DROP : Nat := 7
def C.CART.ROUTE_MISS : Nat := 8
def C.CART.IP_HDR_ERR : Nat := 9
def C.CART.TTL_STEWARD : Nat := 10
def C.CART.FLOODED : Nat := 11
def C.CART.LEARN_FULL : Nat := 12
def C.CART.ADMIT_DROP : Nat := 13
def C.CART.NOCELL_DROP : Nat := 14
def C.CART.SPILLED : Nat := 15
def C.CART.TX_FRAMES : Nat := 16
def C.CART.CUT_THROUGH : Nat := 17
def C.CART.TX_STOMPED : Nat := 18
def C.CART.MCAST_CONVERTED : Nat := 19
def C.CART.STEWARD_RX : Nat := 20
def C.CART.STEWARD_DROP : Nat := 21
def C.CART.TC_CORRECTED : Nat := 22
def C.CART.FLUSHED : Nat := 23
def C.CART.MAC_CTRL_DROP : Nat := 24
def C.CART.BH_DOWN_DROP : Nat := 25
def C.CART.KEEP_RETRY : Nat := 26

/-! Counters of spec/10_locksmith_cipher.md, block LOCK. -/
def C.LOCK.BLOCKS : Nat := 0
def C.LOCK.RX_DECRYPT : Nat := 1
def C.LOCK.TX_ENCRYPT : Nat := 2
def C.LOCK.MESH_CCM : Nat := 3
def C.LOCK.VERIFY_FAIL_MIC : Nat := 4
def C.LOCK.CACHE_HIT : Nat := 5
def C.LOCK.CACHE_MISS : Nat := 6
def C.LOCK.CACHE_REFUSED : Nat := 7
def C.LOCK.TX_CIPHER_LATE : Nat := 8
def C.LOCK.LIMIT_SOFT : Nat := 9
def C.LOCK.LIMIT_HARD : Nat := 10
def C.LOCK.TX_REFUSED_LIMIT : Nat := 11
def C.LOCK.RX_GRACE_END : Nat := 12
def C.LOCK.MASK_STALL_US : Nat := 13
def C.LOCK.MFC_WAIT : Nat := 14
def C.LOCK.VAULT_WRITE : Nat := 15
def C.LOCK.BACK_WRITE : Nat := 16
def C.LOCK.RNG_HEALTH_FAIL : Nat := 17
def C.LOCK.HASH_JOBS : Nat := 18
def C.LOCK.VERIFY_JOBS : Nat := 19
def C.LOCK.VERIFY_FAIL : Nat := 20

/-! Counters of spec/11_host_port_ledger_steward.md, block HOST. -/
def C.HOST.TX_DESC : Nat := 0
def C.HOST.RX_DESC : Nat := 1
def C.HOST.TX_NOT_ADMITTED : Nat := 2
def C.HOST.DMA_ERR : Nat := 3
def C.HOST.CREOSH_RX : Nat := 4
def C.HOST.CREOSH_TX : Nat := 5
def C.HOST.CREOSH_BAD : Nat := 6
def C.HOST.AUTH_FAIL : Nat := 7
def C.HOST.REPLAY : Nat := 8
def C.HOST.RETURN_NONE : Nat := 9
def C.HOST.HITCH_XFER : Nat := 10
def C.HOST.HITCH_NACK : Nat := 11

/-! Counters of spec/12_clocks_and_reins.md, block CLK. -/
def C.CLK.XFER : Nat := 0
def C.CLK.SUPERSEDED : Nat := 1
def C.CLK.CMD_STALL : Nat := 2
def C.CLK.EVT_SENT : Nat := 3
def C.CLK.EVT_RECEIVED : Nat := 4
def C.CLK.EVT_HELD_SAT : Nat := 5
def C.CLK.STREAM_FAULT : Nat := 6
def C.CLK.TIMEOUT : Nat := 7
def C.CLK.FAST_FALLBACK : Nat := 8

/-! Counters of spec/14_gaits_and_power.md, block WATCH. -/
def C.WATCH.GAIT_CHANGE : Nat := 0
def C.WATCH.RISES : Nat := 1
def C.WATCH.FALLS_PWR : Nat := 2
def C.WATCH.FALLS_FATAL : Nat := 3
def C.WATCH.FALLS_LOWBAT : Nat := 4
def C.WATCH.ROUNDS : Nat := 5
def C.WATCH.ROUND_DETECT : Nat := 6
def C.WATCH.SADDLE_WAKES : Nat := 7
def C.WATCH.AWAKE_MS : Nat := 8
def C.WATCH.MERGED : Nat := 9
def C.WATCH.WAKE_LATE : Nat := 10
def C.WATCH.HP_REQ : Nat := 11
def C.WATCH.FATAL_LIFT : Nat := 12

/-! Counters of spec/16_flash_and_tallies.md, block FLASH. -/
def C.FLASH.RECORDS : Nat := 0
def C.FLASH.COPIES : Nat := 1
def C.FLASH.ERASES : Nat := 2
def C.FLASH.SUSPENDS : Nat := 3
def C.FLASH.STARVE : Nat := 4
def C.FLASH.WRITE_WAIT : Nat := 5
def C.FLASH.SCRUB_READ : Nat := 6
def C.FLASH.SCRUB_REWRITE : Nat := 7
def C.FLASH.ECC_CORR : Nat := 8
def C.FLASH.RETIRED : Nat := 9
def C.FLASH.REFUSED_WORN : Nat := 10
def C.FLASH.REFUSED_EXH : Nat := 11

/-! Counters of spec/17_field_update_and_migration.md, block PH. -/
def C.PH.PIECE_STORED : Nat := 0
def C.PH.PIECE_DUP : Nat := 1
def C.PH.PIECE_BUSY : Nat := 2
def C.PH.PIECE_REFUSED : Nat := 3
def C.PH.SHEAF_OK : Nat := 4
def C.PH.SHEAF_BAD : Nat := 5
def C.PH.MANIFEST_BAD : Nat := 6
def C.PH.INSTALLS : Nat := 7
def C.PH.INSTALL_FAIL : Nat := 8
def C.PH.MIGRATIONS : Nat := 9

/-! Counters of spec/18_assay_metrology.md, block HATCH. -/
def C.HATCH.CMD_DONE : Nat := 0
def C.HATCH.CMD_FAILED : Nat := 1
def C.HATCH.TIMESET_OK : Nat := 2
def C.HATCH.TIMESET_REFUSED : Nat := 3
def C.HATCH.RECORDS : Nat := 4

end Sys2Proof.Machine
end

