-- ==== Sys2Proof/Config.lean ====
section
/-! DEFINITION. What the specification leaves open and no run may lean on: free values, the one-way functions whose
inside the model does not need, and what a board fixes. -/

namespace Sys2Proof.Config

/-- The free value number n of the model: nothing constrains it (log entry 11). -/
opaque freeValue : Nat → BitVec 64

/-- The hash that places a MAC address in a VLAN in one of the buckets of Carter's MAC table: the manual gives buckets of
four and no hash (R274; log entry 12). -/
opaque macHash : Nat → Nat → BitVec 14

/-- Density of DRAM channel 0 and 1 as its mode registers tell it: 256 MiB × 2^n (R35; log entry 13). -/
opaque dramChannel : Nat → Fin 5

end Sys2Proof.Config
end

