-- ==== Sys2Proof/Machine/State.lean ====
section
/-! DEFINITION. The state of the GX-3256 as plain data: the register file by fields, tables, counters, and what each
chapter gives beyond its registers; the fuses; the Assay die, which no reset alters (R8, R10); the queue of commands. -/

namespace Sys2Proof.Machine

/-- The register types of R6. -/
inductive RegType where
  | ro | rwL | rwB | rwH | w1c | wo | tal | fus
  deriving DecidableEq, Repr

/-- The narrowest reset kind of a register (R7). POR and BOR share the widest place; never: no reset kind alters it. -/
inductive ResetKind where
  | engine | sect | device | pin | bor | never
  deriving DecidableEq, Repr

/-- A field of a register: the register's BAR0 address, lowest bit, width, reset value and type (R3, R6). -/
structure Fld where
  addr  : Nat
  lo    : Nat
  width : Nat
  reset : Nat
  ty    : RegType
  deriving DecidableEq, Repr

/-- A register: its address, narrowest reset kind, whether it carries IMG (R529), whether the hitching port reads it
(R531), whether it writes it (R532: 0 = no, 1 = all states but FIELD, 2 = also in FIELD), and its fields. -/
structure RegDesc where
  addr   : Nat
  kind   : ResetKind
  img    : Bool
  hRead  : Bool
  hWrite : Nat
  fields : List Fld
  deriving DecidableEq, Repr

/-- Severities of R339. -/
inductive Sev where
  | event | note | corrected | contained | sect | fatal
  deriving DecidableEq, Repr

/-- A ledger record (R339). PHASE is not held: it is given when the record is fed to the host ring (R341, R344). -/
structure LedgerRec where
  sev       : Sev
  escalated : Bool := false
  ovfl      : Bool := false
  served    : Bool := false
  origin    : Nat
  src       : Nat
  kind      : Nat := 0
  count     : Nat := 1
  time      : Nat
  payload   : List Byte
  deriving DecidableEq, Repr

/-- A served source that is not IDLE (R346): ACTIVE, or ACTIVE_PENDING with its refires; arg is the payload of the
latest firing, for the sources whose payload names the firing. -/
structure ServedSrc where
  origin  : Nat
  src     : Nat
  pending : Bool := false
  refires : Nat := 0
  arg     : List Byte := []
  deriving DecidableEq, Repr

/-- Primary and secondary error of an origin (R493). -/
structure ErrBook where
  origin    : Nat
  valid     : Bool := false
  sev       : Sev := .event
  escalated : Bool := false
  kind      : Nat := 0
  lane      : Nat := 0
  worst     : Nat := 0
  count     : Nat := 0
  deriving DecidableEq, Repr

/-- Clerk: the ledger copy (newest record first, at most 4,096), records written, records waiting to be fed, served
sources, MSI-X conditions (R339 to R347), errors and containment history (R493, R496) and muster deferrals (R500). -/
structure Clerk where
  copy       : List LedgerRec := []
  copyHead   : Nat := 0
  waiting    : Nat := 0
  served     : List ServedSrc := []
  msixSince  : Nat := 0
  msixFirst  : Nat := 0
  msixUrgent : Bool := false
  msixMask   : Bool := false
  msixPend   : Bool := false
  errs       : List ErrBook := []
  contHist   : List (Nat × Nat) := []
  sectHist   : List (Nat × Nat) := []
  defers     : List (Nat × Nat) := []
  deriving DecidableEq, Repr

/-- A bank operation of a table (R26): owner 0 to 11 an engine, 12 = PHY, 13 = RFC. -/
structure BankOp where
  owner  : Nat
  table  : Nat
  switch : Bool := false
  copy   : Bool := false
  deriving DecidableEq, Repr

/-- Engine control beyond the header registers: engines of one gating write still waiting to drain and still waiting to
start (R18), the state that the trigger of each DRAIN in progress leads to (R14), the same of engines in an ENGINE reset
applied under R15, sections whose SECTION reset is in progress (R19), bank operations. -/
structure EngCtl where
  gateDown : List Nat := []
  gateUp   : List Nat := []
  drains   : List (Nat × Nat) := []
  r15      : List (Nat × Nat) := []
  sect     : List Nat := []
  ops      : List BankOp := []
  deriving DecidableEq, Repr

/-- Device time and always-on time in ns (R4, R411): always-on time with its fraction in sixty-fourths, device time with
its fraction in units of 1 / (64 × 10^9) ns, fine enough for the trim of R295. -/
structure Times where
  device     : Nat := 0
  deviceFrac : Nat := 0
  stepped    : Int := 0
  ao         : Nat := 0
  aoFrac     : Nat := 0
  deriving DecidableEq, Repr

/-- The NOR map in use (R37). -/
structure NorMap where
  slotA     : Nat
  slotB     : Nat
  slotSize  : Nat
  stage     : Nat
  stageSize : Nat
  deriving DecidableEq, Repr

/-- A record of a Ramlan image (R43), MIGRATE apart. -/
inductive ImgRec where
  | set (addr value mask : Nat)
  | fill (addr : Nat) (data : List Byte)
  | zero (addr count : Nat)
  | wait (flags addr mask value timeout : Nat)
  | gait (gait gate : Nat)
  deriving DecidableEq, Repr

/-- A conversion record of a migration section (R467). -/
inductive MigRec where
  | move (dst src : Nat)
  | scale (dst shift src mul add : Nat)
  | dflt (dst value : Nat)
  | drop (dst : Nat)
  deriving DecidableEq, Repr

/-- A run of the run index (R55): the engine, the NOR offset and length of its FILL and ZERO records, their hash. -/
structure RunIdx where
  engine : Nat
  off    : Nat
  len    : Nat
  hash   : List Byte
  deriving DecidableEq, Repr

/-- What Ostler keeps of the image it runs (R40, R43, R49, R457). -/
structure ImgFacts where
  slot       : Nat
  keySlot    : Nat
  version    : Nat
  rollback   : Nat
  autoSettle : Bool
  layout     : Nat
  gait       : Nat
  gate       : Nat
  records    : List ImgRec
  migration  : List (Nat × List MigRec)
  digest     : List Byte
  length     : Nat
  deriving DecidableEq, Repr

/-- Ostler and the NOR flash (chapters 2 and 17). tried: slots found failed in this start. waitLeft: a WAIT record whose condition
is not yet met is at the front of todo. settleFrom: the always-on time from which the 60 s of R49 count; settleReq: OST_SETTLE was
written before the starting gait was reached. headDone: the staging head has been handled in this start; headOwed: it is erased once
OST_BOOT is persistent (R50). sheafCheck: the sheaf
whose check is running and the piece that awaits it; sheafOk: sheaves that passed R460 since Ostler entered RUN; erased:
sheaves erased for a piece and still empty. -/
structure Ostler where
  nor        : List Host.Cell := []
  norBytes   : Nat := 0
  norErase4k : Bool := false
  map        : Option NorMap := none
  first      : Nat := 0
  trying     : Nat := 0
  tried      : List Nat := []
  runs       : List RunIdx := []
  img        : Option ImgFacts := none
  todo       : List ImgRec := []
  waitLeft   : Bool := false
  pass2Done  : Bool := false
  started    : Bool := false
  startAo    : Nat := 0
  subsys     : Option (Nat × Nat) := none
  settleFrom : Option Nat := none
  burnWait   : Bool := false
  sheafCheck : Option (Nat × CreoshReq) := none
  sheafOk    : List Nat := []
  erased     : List Nat := []
  headDone   : Bool := false
  headOwed   : Bool := false
  settleReq  : Bool := false
  deriving DecidableEq, Repr

/-- A reception or detection of a radio (R74 to R80): valid once L-SIG or the PLCP header is valid; defer: nothing
further is decoded and CCA stays busy (R68, R75); power: the legacy preamble's power in dBm. -/
structure PhyRx where
  power : Int
  valid : Bool := false
  defer : Bool := false
  deriving DecidableEq, Repr

/-- A PPDU on air: width code, subchannels punctured, chains, the banks of the FIR and mask tables at TX start (R71, R88). -/
structure PhyTx where
  width  : Nat
  punct  : Nat
  chains : Nat
  firBank  : Nat
  maskBank : Nat
  eirp   : Int
  deriving DecidableEq, Repr

/-- One radio's PHY beyond its registers (chapter 3). levels: per subchannel the energy and the level of an 802.11 signal as last
measured, in dBm (R82); rxNo: number of the latest reception; busyNs: CCA-busy time not yet counted as a whole microsecond;
crcAt: device times of the Bridle link CRC errors of the last ms (R95). -/
structure PhyRadio where
  rx       : Option PhyRx := none
  search   : Option Int := none
  tx       : Option PhyTx := none
  levels   : List (Int × Int) := []
  obssHalf : Int := -164
  rssi     : List Int := []
  obssTxop : Option Int := none
  rxNo     : Nat := 0
  busyNs   : Nat := 0
  crcAt    : List Nat := []
  deriving DecidableEq, Repr

/-- What a BlockAck says of one station and TID (R97, R107): starting sequence number, bits of its bitmap (0 = an ACK alone), the
sequence numbers acknowledged. -/
structure BaPart where
  sta  : Nat
  tid  : Nat := 0
  ssn  : Nat := 0
  bits : Nat := 0
  sns  : List Nat := []
  deriving DecidableEq, Repr

/-- A user of a trigger frame (R128): its RU in data tones and subchannels, streams, MCS, target RSSI in dBm, for an MU-BAR its
BlockAckReqs (TID, SSN). -/
structure TrigUser where
  sta   : Nat
  tones : Nat
  mask  : Nat
  nss   : Nat
  mcs   : Nat
  rssi  : Int
  bars  : List (Nat × Nat) := []
  deriving DecidableEq, Repr

/-- The contents of a trigger frame (R128): type, GI and LTF, CS_REQUIRED, TB PPDU length and padding in µs, AP TX power in
0.25 dBm. -/
structure TrigFrame where
  type    : Nat
  giLtf   : Nat
  csReq   : Bool
  ulUs    : Nat
  padUs   : Nat
  apPower : Int := 0
  users   : List TrigUser
  deriving DecidableEq, Repr

/-- A user of a data PPDU: streams, MCS, RU (tones, subchannels; 0 = the whole width), coding, packet extension in µs (R67), frames
with their sequence numbers, whether four-address (R133), BlockAckReqs that go with them (TID, SSN; R169, R171). -/
structure AirUser where
  sta      : Nat
  nss      : Nat
  mcs      : Nat
  tones    : Nat
  mask     : Nat
  ldpc     : Bool
  peUs     : Nat
  frames   : List (Nat × Nat)
  fourAddr : Bool := false
  bars     : List (Nat × Nat) := []
  deriving DecidableEq, Repr

/-- What a PPDU of the link MAC carries; plain: an ACK, CTS, RTS or CF-End, or a management frame that goes out beside it. -/
inductive AirBody where
  | plain
  | blockAck (parts : List BaPart)
  | trigger (t : TrigFrame)
  | ndpAnnounce (stas : List Nat)
  | ndp
  | reportPoll
  | data (users : List AirUser)
  deriving DecidableEq, Repr

/-- A PPDU as it leaves (R71, R97, R103, R121, R128): kind 0 ACK, 1 BlockAck, 2 multi-STA BlockAck, 3 CTS, 4 trigger-based PPDU,
5 data, 6 beacon, 7 probe response, 8 RTS, 9 trigger, 10 sounding, 11 CF-End; where it goes; width code, punctured subchannels and
chains; rate in 500 kb/s where it is not the users'. -/
structure AirPpdu where
  kind   : Nat
  sta    : Nat
  width  : Nat
  punct  : Nat
  chains : Nat
  rate   : Nat
  body   : AirBody
  deriving DecidableEq, Repr

/-- What a TX start command carries (R71, R72, R81, R258): width code of the PPDU, whether it is OFDMA, spatial streams, whether it
is beamformed or MU-MIMO, and for OFDMA the RU of each station as a mask of subchannels. -/
structure TxStart where
  width : Nat
  ofdma : Bool := false
  nss   : Nat := 1
  beam  : Bool := false
  rus   : List (Nat × Nat) := []
  deriving DecidableEq, Repr

/-- A provisional MPDU (R111): its number and that of its reception, header facts, station entry, agreement, cells reserved and
held, whether a response left it out (R114), whether it has no key. -/
structure ProvMpdu where
  id      : Nat
  ppdu    : Nat
  hdr     : MpduHdr
  sta     : Option Nat
  agr     : Option Nat
  cells   : Nat
  late    : Bool := false
  noKey   : Bool := false
  deriving DecidableEq, Repr

/-- A final MPDU held in a reorder window (R110). -/
structure HeldMpdu where
  agr     : Nat
  sn      : Nat
  cells   : Nat
  arrival : Nat
  hdr     : MpduHdr
  sta     : Nat
  deriving DecidableEq, Repr

/-- One EDCA function (R99). -/
structure Edca where
  cw      : Nat
  backoff : Nat := 0
  deriving DecidableEq, Repr

/-- The TXOP a radio holds (R99, R100, R144): its access category, the PPDUs started in it, the device time in ns at which its limit
ends it (none: a limit of 0, one PPDU and its response), whether it is joint with the yoked link's. -/
structure Txop where
  ac    : Nat
  ppdus : Nat := 0
  stop  : Option Nat := none
  joint : Bool := false
  deriving DecidableEq, Repr

/-- A probe response waiting (R123): destination (none = broadcast), device time in ns of its request. -/
structure ProbeWait where
  da : Option Nat
  ns : Nat := 0
  deriving DecidableEq, Repr

/-- One part of a response owed (R97, R129): an address and the agreement whose BlockAck it gets, none = an ACK. -/
structure RespPart where
  dst : Nat
  sta : Option Nat := none
  agr : Option Nat := none
  deriving DecidableEq, Repr

/-- A response owed (R97): kind 3 CTS, 4 trigger-based PPDU, else an acknowledgement of its parts (ACK, BlockAck or multi-STA
BlockAck); the width code and rate (as in LAST_RATE) of the PPDU that elicited it, the BSS it was addressed to. -/
structure RespOwed where
  kind  : Nat
  parts : List RespPart
  rate  : Nat := 0
  bss   : Nat := 0
  deriving DecidableEq, Repr

/-- A sounding sequence in progress (R130, R131): the frame that comes next (1 the NDP, 2 the report trigger, 3 the polls), its
stations, those still to be polled. -/
structure SoundSeq where
  next  : Nat
  stas  : List Nat
  polls : List Nat
  deriving DecidableEq, Repr

/-- A beamforming report being reassembled (R131). -/
structure BfReport where
  sta  : Nat
  total : Nat
  segs : List Nat
  deriving DecidableEq, Repr

/-- One link MAC beyond its registers and tables (chapter 4). score: final SNs of the scoreboard by agreement, scoreAt its start
by agreement; slots: reorder slots by agreement; lastPn: last released PN by 16 × station + TID; navBasic, navIntra: device time in ns at which each NAV ends, and
who set it; beacons: BSS and TBTT (TSF) of beacons waiting; tbttAt: TU of the latest TBTT by BSS, plus 1; dtim: DTIM count by
BSS; polls: stations whose PS-Poll is not yet served; groups: BSSs whose DTIM beacon has gone and whose group-addressed frames follow it
(R122); bhEdca: the upstream's EDCA parameters as register values. -/
structure LinkMac where
  prov      : List ProvMpdu := []
  nextId    : Nat := 0
  score     : List (Nat × Nat) := []
  scoreAt   : List (Nat × Nat) := []
  held      : List HeldMpdu := []
  slots     : List (Nat × Nat) := []
  lastPn    : List (Nat × Nat) := []
  edca      : List Edca := [⟨15, 0⟩, ⟨15, 0⟩, ⟨7, 0⟩, ⟨3, 0⟩]
  txop      : Option Txop := none
  navBasic  : Nat := 0
  navIntra  : Nat := 0
  basicBy   : Nat := 0
  intraBy   : Nat := 0
  tsf       : Nat := 0
  tsfFrac   : Nat := 0
  tsfHi     : Nat := 0
  beacons   : List (Nat × Nat) := []
  dtim      : List (Nat × Nat) := []
  tbttAt    : List (Nat × Nat) := []
  seqCtl    : Nat := 0
  probes    : List ProbeWait := []
  polls     : List Nat := []
  groups    : List Nat := []
  sound     : Option SoundSeq := none
  resp      : Option RespOwed := none
  reports   : List BfReport := []
  bhEdca    : Option (List Nat) := none
  bhTsf     : Int := 0
  deriving DecidableEq, Repr

/-- A frame in a Drover queue (R149, R167 to R169): number, user priority's TID, octets, cells (pool: shared holding, 0 = own), arrival in always-on ms,
the always-on ms plus 1 since which it is at its queue's head (0: not yet), the plan slot that reserves it (3 × slot + radio), retries,
sequence number, whether its ciphertext is ready, whether it has been on air. -/
structure QFrame where
  id       : Nat
  tid      : Nat
  len      : Nat
  cells    : Nat
  pool     : Nat := 0
  arrival  : Nat
  head     : Nat := 0
  reserved : Option Nat := none
  retry    : Nat := 0
  sn       : Option Nat := none
  enc      : Bool := false
  aired    : Bool := false
  frame    : EthFrame
  deriving DecidableEq, Repr

/-- A queue: key 4 × station + AC, or 8192 + 16 × radio + BSS for group-addressed frames (R149, R150). -/
structure AirQueue where
  key    : Nat
  frames : List QFrame
  deriving DecidableEq, Repr

/-- A user of a plan: station, charge, rung, RU as data tones and subchannels (0 = the whole width), LDPC, whether its RU is sent
empty, frame numbers. -/
structure PlanUser where
  sta    : Nat
  charge : Nat := 0
  nss    : Nat := 1
  mcs    : Nat := 0
  tones  : Nat := 0
  mask   : Nat := 0
  ldpc   : Bool := false
  empty  : Bool := false
  frames : List Nat := []
  deriving DecidableEq, Repr

/-- The form of a plan (R157, R162, R163). -/
inductive PlanForm where
  | su | mu | ofdma | trigger | sounding | group
  deriving DecidableEq, Repr

/-- A plan in a slot (R155 to R169). dur: µs of its PPDU; total: with its response and protection (T of R151); stop: the device
time in ns at which it will be over; width: code of the PPDU's width; trig: type of its trigger frame; protect: a CTS-to-self, RTS or MU-RTS
precedes it; selfCts: the first of these has been sent; guarded: all of them have. -/
structure Plan where
  radio     : Nat
  slot      : Nat
  ac        : Nat
  form      : PlanForm
  users     : List PlanUser
  dur       : Nat
  total     : Nat := 0
  stop      : Nat := 0
  width     : Nat := 0
  trig      : Nat := 0
  first     : Bool
  protect   : Bool := false
  selfCts   : Bool := false
  guarded   : Bool := false
  committed : Bool := false
  deriving DecidableEq, Repr

/-- A precoder (R159, R163): its radio and its stations; su: with the SU vectors of a sounding's responders. -/
structure Precoder where
  radio : Nat
  set   : List Nat
  su    : Bool := true
  deriving DecidableEq, Repr

/-- Drover beyond its registers and tables (chapter 5). solving: computations by solver; ready: precoders in use; barOwed: station, TID
and, plus 1, the starting sequence number of a BlockAckReq owed (0: that of the oldest frame left). -/
structure Drover where
  queues   : List AirQueue := []
  nextId   : Nat := 0
  plans    : List Plan := []
  book     : List (Nat × Int) := []
  good     : List (Nat × Nat) := []
  silent   : List (Nat × Nat) := []
  backlog  : List (Nat × Nat) := []
  ulTxops  : List (Nat × Nat) := []
  allTxops : List (Nat × Nat) := []
  soundDue : List Nat := []
  bsrpDue  : List Nat := []
  solving  : List (Nat × Precoder) := []
  ready    : List Precoder := []
  barOwed  : List (Nat × Nat × Nat) := []
  seen     : List Nat := []
  deriving DecidableEq, Repr

/-- Marshal beyond its registers and table (chapter 5). -/
structure Marshal where
  last    : Nat := 0
  carried : List (Nat × Nat) := []
  counted : List Nat := []
  deriving DecidableEq, Repr

/-- An IEEE 802.15.4 address as carried: none, short (16 bits) or extended (64 bits). -/
inductive MeshAddr where
  | none | short (a : Nat) | ext (a : Nat)
  deriving DecidableEq, Repr

/-- The kinds of mesh frame (R204). -/
inductive MeshKind where
  | data | dataRequest | command | ack | beacon | other
  deriving DecidableEq, Repr

/-- A mesh frame with verdict GOOD (R203 to R208, R221, R222, R227): where and when Sieve heard it, the fields of its MHR, its header
IEs, and the octets of MHR, payload and MIC. panDst: none where it carries no PAN identifier; payload: in plaintext once verified. -/
structure MeshFrame where
  ch       : Nat
  hyp      : Nat
  coded    : Bool
  dw       : Bool
  fcs4     : Bool
  rssi     : Int
  sfd      : Nat
  endNs    : Nat
  kind     : MeshKind
  version  : Nat
  seq      : Option Nat
  ar       : Bool
  panDst   : Option Nat
  dst      : MeshAddr
  src      : MeshAddr
  secLevel : Nat
  keyMode  : Nat
  fc       : Nat
  ies      : List (Nat × List Byte)
  mhr      : List Byte
  payload  : List Byte
  mic      : List Byte := []
  deriving DecidableEq, Repr

/-- A detection as it was declared (R182). -/
structure MeshDet where
  ch    : Nat
  hyp   : Nat
  power : Int
  ns    : Nat
  deriving DecidableEq, Repr

/-- A mesh frame as it leaves the antenna (R176 to R178): centre frequency and deviation in Hz, chips per second, Gaussian shaping,
power in 0.5 dBm, the start of its first chip in device time, its chips. -/
structure MeshAir where
  freq  : Nat
  dev   : Nat
  rate  : Nat
  gauss : Bool
  power : Int
  start : Nat
  chips : List Bool
  deriving DecidableEq, Repr

/-- The states of a stall that is not FREE (R183). -/
inductive StallState where
  | hunt | header | body
  deriving DecidableEq, Repr

/-- A stall that is not FREE (R183 to R188). Powers in 0.5 dBm. ns: instant of the detection, device time in ns; from the SFD on its
time, the coded flag and the carrier offset; from the PHR on the PSDU's length, FCS type, DW and whether RSC decodes the frame. -/
structure Stall where
  idx      : Nat
  st       : StallState
  ch       : Nat
  hyp      : Nat
  power    : Int
  expected : Bool
  cand     : Bool := false
  ns : Nat
  sfd      : Nat := 0
  coded    : Bool := false
  cfo      : Int := 0
  len      : Nat := 0
  fcs4     : Bool := false
  dw       : Bool := false
  rsc      : Bool := false
  deriving DecidableEq, Repr

/-- A reception window declared by Post for node (R185, R226), device time in ns. -/
structure RxWindow where
  node  : Nat
  ch    : Nat
  hyp   : Nat
  start : Nat
  stop  : Nat
  deriving DecidableEq, Repr

/-- A transmission request (R191) as it waits, is committed or is on air; power in 0.5 dBm. -/
structure SieveTx where
  id        : Nat
  req       : MeshTx
  power     : Int
  committed : Bool := false
  air       : Bool := false
  deriving DecidableEq, Repr

/-- The span in effect (R174, R175): spacing code, first centre in Hz. -/
structure Span where
  spacing : Nat
  freq    : Nat
  valid   : Bool
  deriving DecidableEq, Repr

/-- Sieve beyond its registers and tables (chapter 6). recent: detections of the last symbols (R182). tails: number, channel and end,
in device time, of the blanking tails that run. airRem: time on air not yet counted as a whole ms, in 10 µs. crcAt: device times of the
Tack link CRC errors of the last ms (R200). -/
structure Sieve where
  stalls  : List Stall := []
  recent  : List MeshDet := []
  windows : List RxWindow := []
  txs     : List SieveTx := []
  nextTx  : Nat := 0
  tails   : List (Nat × Nat × Nat) := []
  airRem  : Nat := 0
  span    : Option Span := none
  crcAt   : List Nat := []
  deriving DecidableEq, Repr

/-- A frame in a node's downlink queue (R232 to R234). ns: enqueue instant, always-on time in ns; dsn: its sequence number
once it has been sent. -/
structure DlFrame where
  hdr   : SendHdr
  body  : List Byte
  ns : Nat
  retry : Nat := 0
  dsn   : Option Nat := none
  deriving DecidableEq, Repr

/-- A node's downlink queue (R233), first in first out. -/
structure DlQueue where
  node   : Nat
  frames : List DlFrame
  deriving DecidableEq, Repr

/-- A grant pending for a node in GRANTING (R223): profile, map and FIRST as commanded, expiry in always-on ns, counter and
first anchor (device time in ns) as last sent. -/
structure Grant where
  node    : Nat
  profile : Nat
  map     : Nat
  first   : Nat
  expiry  : Nat
  sentC   : Nat := 0
  sentA   : Nat := 0
  deriving DecidableEq, Repr

/-- A tether event in progress (R226): its channel and predicted anchor in ns, the profile's values as at its window start
(R241), the channels its map uses among them, whether a valid anchor frame came, downlink frames sent, a command that waits for its end,
whether it finds its record in error, its arguments (R216). -/
structure TetherEvent where
  node     : Nat
  ch       : Nat
  anchor   : Nat
  interval : Nat
  sup      : Nat
  hyp      : Nat
  maxDl    : Nat
  used     : List Nat := []
  hit      : Bool := false
  dlSent   : Nat := 0
  deferred : Option (Nat × Bool × List Nat) := none
  deriving DecidableEq, Repr

/-- A Saddlebag entry (R237): RXMODE, node index (131,071 = none), the frame, its EVENT flag with the counter. -/
structure BagEntry where
  mode  : Nat
  node  : Nat
  pan   : Nat
  event : Option Nat
  frame : MeshFrame
  deriving DecidableEq, Repr

/-- Provisional parsing of a stream (R205): the stall, delivery cells and Saddlebag bytes reserved. -/
structure PostStream where
  stall : Nat
  cells : Nat
  bag   : Nat
  deriving DecidableEq, Repr

/-- A downlink frame or grant on air that awaits an acknowledgement (R213, R223, R226): its node, channel, hypothesis,
sequence number, Frame Pending bit. -/
structure Await where
  node  : Nat
  grant : Bool
  ch    : Nat
  hyp   : Nat
  seq   : Nat
  fp    : Bool
  deriving DecidableEq, Repr

/-- An exchange with a node after an acknowledgement of ours (R213, R226): inside an event or after a poll, the mode of its
frames, the instant of the next downlink frame (device time in ns), whether the node's frame carried MORE. -/
structure Exch where
  node  : Nat
  event : Bool
  ch    : Nat
  hyp   : Nat
  coded : Bool
  dw    : Bool
  fcs4  : Bool
  next  : Nat
  more  : Bool
  deriving DecidableEq, Repr

/-- A stream that has ended GOOD and that Post has not taken yet (R188, R203 to R205): what Sieve told of it, its octets without FCS, what
is reserved for it. -/
structure GoodFrame where
  stall : Nat
  ch    : Nat
  hyp   : Nat
  coded : Bool
  dw    : Bool
  fcs4  : Bool
  rssi  : Int
  cfo   : Int
  sfd   : Nat
  endNs : Nat
  psdu  : List Byte
  cells : Nat
  bag   : Nat
  deriving DecidableEq, Repr

/-- A frame that waits for the Vault's rebuild (R321), with its PAN slot, node, event counter and the cells reserved for it. -/
structure HeldFrame where
  pan   : Nat
  node  : Nat
  event : Option Nat
  frame : MeshFrame
  cells : Nat := 0
  deriving DecidableEq, Repr

/-- Post beyond its registers and tables (chapter 7). outReach: tethers out of reach until a stray anchor (R230); anchored: per
node the counter whose anchor frame has moved the anchor (R227); rebuild: the hot table is to be rebuilt (R218). -/
structure Post where
  queues   : List DlQueue := []
  grants   : List Grant := []
  events   : List TetherEvent := []
  await    : List Await := []
  exch     : List Exch := []
  streams  : List PostStream := []
  good     : List GoodFrame := []
  bag      : List BagEntry := []
  held     : List HeldFrame := []
  outReach : List Nat := []
  anchored : List (Nat × Nat) := []
  freeQ    : Nat := 65536
  rebuild  : Bool := false
  deriving DecidableEq, Repr

/-- Stored calibration results (R246): temperature in °C, and the channel fields or span they were measured at. -/
structure CalStore where
  temp  : Int
  place : List Nat
  deriving DecidableEq, Repr

/-- The last completed run of one calibration (R247): temperature, always-on time in ns, order number of the run. -/
structure CalRun where
  temp : Int
  ao   : Nat
  ord  : Nat
  deriving DecidableEq, Repr

/-- A Wi-Fi transmission: its TX start command, its kind as in Output.air, the station it goes to (of a beacon the BSS, of a
response or probe response the address), the BSS of a probe response, its rate in 500 kb/s (0: its users'), what it carries. -/
structure TxJob where
  t    : TxStart
  kind : Nat
  sta  : Nat
  bss  : Nat := 0
  rate : Nat := 0
  body : AirBody := .plain
  deriving DecidableEq, Repr

/-- A front end beyond its registers (R244 to R251, R269): stored results, last runs of OSC, RC, DC, IQ, calibrations in
progress with the steps kept, whether CAL runs the start-up form, since when it has been READY after CAL (always-on ns),
the recent lock losses, the mesh requests and the Wi-Fi transmission that wait for it. -/
structure FrontEnd where
  stored   : Option CalStore := none
  runs     : List (Nat × CalRun) := []
  steps    : Nat := 0
  startup  : Bool := false
  readyAo  : Nat := 0
  losses   : List Nat := []
  waiting  : List Nat := []
  wifi     : Option TxJob := none
  deriving DecidableEq, Repr

/-- One chain (R258 to R263): gain index, backoff in 0.5 dB, consecutive violations at MAX, consecutive clean
transmissions, whether the transmission on air has violated the mask, the conducted target of the latest transmission in
0.25 dB. -/
structure Chain where
  idx     : Nat := 0
  backoff : Nat := 0
  strikes : Nat := 0
  clean   : Nat := 0
  viol    : Bool := false
  target  : Option Int := none
  deriving DecidableEq, Repr

/-- The duty window of a sub-band (R264): 3,600 bins as runs (length, units of 10 µs), newest first. -/
structure DutyWin where
  sub  : Nat
  bins : List (Nat × Nat)
  deriving DecidableEq, Repr

/-- RFC beyond its registers (chapter 8): front ends 0 to 3, chains 0 to 16, duty windows, the next order number of a
calibration run, load steps by which the crystal is trimmed (R246), whether the FEM lines are held low until pass 2 (R252). -/
structure Rfc where
  fes    : List FrontEnd := List.replicate 4 {}
  chains : List Chain := List.replicate 17 {}
  duty   : List DutyWin := []
  ord    : Nat := 1
  xtal   : Int := 0
  femLow : Bool := true
  deriving DecidableEq, Repr

/-- A frame held by a trough (R281 to R283): number, cell holding, source index, VLAN, octets with FCS, whether it is on
the steward path, receive timestamp, ONESTEP of the host's descriptor (R336), send header and body for a MESH trough, the octets of a delivery of Post. -/
structure CartFrame where
  pool    : Nat
  src     : Nat
  vlan    : Nat
  len     : Nat
  steward : Bool := false
  ts      : Option Nat := none
  oneStep : Bool := false
  tsReq   : Bool := false
  waited  : Bool := false
  mesh    : Option (SendHdr × List Byte) := none
  raw     : List Byte := []
  frame   : EthFrame
  deriving DecidableEq, Repr

/-- Trough t = 8 × port + class (R281), first in first out, with its deficit of R283 in octets. -/
structure Trough where
  t       : Nat
  frames  : List CartFrame := []
  deficit : Nat := 0
  deriving DecidableEq, Repr

/-- Cells held by one frame and its copies (R281): number, cells, copies left, in the Loft or the Cellar. -/
structure CellUse where
  id    : Nat
  cells : Nat
  refs  : Nat
  loft  : Bool := false
  deriving DecidableEq, Repr

/-- An entry of the MAC table (R274): bucket and way give its place; mac as 48 bits in transmission order. -/
structure MacEntry where
  bucket : Nat
  way    : Nat
  mac    : Nat
  vlan   : Nat
  dest   : Nat
  static : Bool
  age    : Nat := 0
  deriving DecidableEq, Repr

/-- A cut-through transmission in progress (R285): ingress ring, cell holding, frame; ended: the octets at which the
ingress failed. -/
structure CutFlight where
  ingress : Nat
  pool    : Nat
  len     : Nat
  vlan    : Nat
  frame   : EthFrame
  stomp   : Bool := false
  deriving DecidableEq, Repr

/-- A transmit timestamp in the FIFO (R293). -/
structure TxStamp where
  port  : Nat
  seqId : Nat
  time  : Nat
  deriving DecidableEq, Repr

/-- A residence time held for a Follow_Up (R294), with the device time until which it is held. -/
structure Residence where
  seqId  : Nat
  portId : Nat
  time   : Nat
  until' : Nat
  deriving DecidableEq, Repr

/-- The PTP servo (R295): integral, trim in ppb, samples in a row within LOCK_NS, device time of the sample last used
(none: the next is taken at T = 1 s). -/
structure Servo where
  integ : Int := 0
  trim  : Int := 0
  good  : Nat := 0
  last  : Option Nat := none
  seen  : Option Nat := none
  deriving DecidableEq, Repr

/-- The keeper (R299): driven open, the always-on time of the opening while the 500 ms run, the always-on time before
which no opening follows, whether both links have held for 10 ms. -/
structure Keeper where
  isOpen   : Bool := false
  openedAo : Option Nat := none
  holdTo   : Nat := 0
  deriving DecidableEq, Repr

/-- Carter beyond its registers and tables (chapter 9). polAt: per policer the device time to which its LEVEL is drained
and the remainder in octet-fractions; rate: the interval of R290 and the frames LOCAL accepted in it; inbox: steward-path
frames LOCAL has yet to wrap (R353), oldest first. -/
structure Carter where
  cellar   : Nat := 32768
  loft     : Nat := 0
  pool     : List CellUse := []
  nextPool : Nat := 1
  troughs  : List Trough := []
  drr      : List (Nat × Nat) := []
  macs     : List MacEntry := []
  agedAt   : Nat := 0
  polAt    : List (Nat × Nat) := []
  cut      : List CutFlight := []
  stamps   : List TxStamp := []
  stampDue : List (Nat × Nat) := []
  resid    : List Residence := []
  servo    : Servo := {}
  inbox    : List (Nat × StewFrame) := []
  loftBusy : Nat := 0
  runSince : Nat := 0
  rateIdx  : Nat := 0
  rateN    : Nat := 0
  keeper   : Keeper := {}
  ppsHigh  : Bool := false
  deriving DecidableEq, Repr

/-- A key record (R307): space, handle, key octets, MODE, HARD_LOG2 in effect, flags, uses, packet number, epoch, the
verifications left of its grace, whether its backing record is written. -/
structure KeyRec where
  space  : Nat
  handle : Nat
  key    : List Byte
  mode   : Nat
  hard   : Nat
  soft   : Bool := false
  hardHit : Bool := false
  graceEnd : Bool := false
  grace  : Nat := 65536
  uses   : Nat := 0
  pn     : Nat := 0
  epoch  : Nat := 0
  backed : Bool := false
  deriving DecidableEq, Repr

/-- An entry of the limit FIFO (R315). -/
structure LimitEntry where
  kind   : Nat
  space  : Nat
  handle : Nat
  deriving DecidableEq, Repr

/-- A request to the AES pool (R303): class 1 to 4, key, octets, protect or verify, and for class 2 the Drover frame. -/
structure AesReq where
  cls     : Nat
  space   : Nat
  handle  : Nat
  octets  : Nat
  protect : Bool
  frame   : Nat := 0
  deriving DecidableEq, Repr

/-- Locksmith beyond its registers (chapter 10). vault: the records of spaces 0 and 1; cache: cached
records, most recently used first (R308); dirty: backing units to rewrite (R320); steward: internal handle 0, which the Tack
flash keeps wrapped (R354); mfcOwed: R318 is still to run; resvOld: RESV while the write of a new one is not yet persistent;
slotUses, backUses, vaultUses: blocks encrypted under handles 1, 2, 3; seed: 384 bits of health-tested entropy at hand;
drbgSect: always-on time of the last SECTION reset for a stopped DRBG. -/
structure Lock where
  vault    : List KeyRec := []
  cache    : List KeyRec := []
  staging  : List (Nat × Nat) := []
  staged   : Bool := false
  fifo     : List LimitEntry := []
  fifoOvf  : Bool := false
  dirty    : List Nat := []
  steward  : Option KeyRec := none
  queue    : List AesReq := []
  mfcOwed  : Bool := true
  resvOld  : Nat := 0
  mfcSoft  : Bool := false
  vaultOk  : Bool := false
  rebuildOwed : Bool := true
  slotUses : Nat := 0
  backUses : Nat := 0
  vaultUses : Nat := 0
  xtsLog2  : Nat := 35
  masks    : List (Nat × Nat) := []
  gens     : Nat := 0
  seed     : Bool := false
  drbgSect : Option Nat := none
  deriving DecidableEq, Repr

/-- The PCIe link and the descriptor rings beyond their registers (R333 to R338): link in L0 or L1, WAKE_N owed since a rise
(R334), WAKE_N driven low,
and per ring (transmit n at n, receive n at 8 + n) the descriptors fetched and not yet consumed (book 3 of R499). -/
structure HostPort where
  linkUp  : Bool := false
  wakeOwed : Bool := false
  wakeN   : Bool := false
  wakeAo  : Nat := 0
  deriving DecidableEq, Repr

/-- The return path of R353: Carter source index, VLAN and SA of the latest accepted request. -/
structure RetPath where
  src  : Nat
  vlan : Nat
  sa   : Nat
  deriving DecidableEq, Repr

/-- A frame of LOCAL that waits for its outgoing SEQ block (R351): where it goes, OP, STATUS, body. -/
structure CreoshOut where
  back   : RetPath
  op     : Nat
  status : Nat
  body   : List Byte
  tallies : List Nat := []
  deriving DecidableEq, Repr

/-- Creosh (R348 to R354): H and the accepted SEQs of its window, whether this start's floor write has completed, the
outgoing block and its next value, the return path, the end of the ARM_KEY window in always-on time, whether a block has been asked for, and the frames that wait for it. -/
structure Creosh where
  high      : Nat := 0
  seen      : List Nat := []
  floorDone : Bool := false
  txReady   : Bool := false
  txNext    : Nat := 0
  ret       : Option RetPath := none
  armed     : Option Nat := none
  floorAsked : Bool := false
  txAsked   : Bool := false
  waiting   : List CreoshOut := []
  deriving DecidableEq, Repr

/-- A VALUE crossing whose request is outstanding (R367): its group and number, the published and the held value. -/
structure ValueX where
  g    : Nat
  k    : Nat
  pub  : Nat
  held : Option Nat := none
  deriving DecidableEq, Repr

/-- Crossing groups beyond the CLK registers (R367 to R369, R375): per group the EVENT occurrences held while it is parked; VALUE crossings
with a request outstanding; tally writes sent to the flash controller and not yet taken, in the order sent; the always-on time in ns,
plus 1, at which GROOM became stable again (R363). -/
structure Clk where
  held    : List (Nat × Nat) := []
  values  : List ValueX := []
  cmds    : List (Nat × Nat) := []
  groomAo : Nat := 0
  deriving DecidableEq, Repr

/-- The AVS loop beyond its registers (R384 to R394): HOLD, always-on time of the last AVSBus write, stretches of the
period, value kept for WALK, monitors excluded, periods out of range in a row per monitor. -/
structure Avs where
  hold     : Nat := 0
  wroteAo  : Option Nat := none
  stretch  : Nat := 0
  kept     : Nat := 170
  excluded : List Nat := []
  oor      : List (Nat × Nat) := []
  deriving DecidableEq, Repr

/-- Equalisation of one ring port (R391, R392): DFE periods since the last CTLE update, whether this acquisition has been
restarted once. -/
structure EqPort where
  periods   : Nat := 0
  restarted : Bool := false
  deriving DecidableEq, Repr

/-- A transition in progress (R400): the gait it started from, the gait being entered, the cause of its record. -/
structure GaitMove where
  src   : Nat
  dst   : Nat
  cause : Nat
  deriving DecidableEq, Repr

/-- Watchman and the Pony regulator, beyond the WATCH registers (chapter 14). plan: the row of R20 that governs the
engines now: 0 to 4 a gait, 5 the lame state (R61), 6 the start sequence before its gait, 7 only the Watchman. gateAsk: a request
for GALLOP or CANTER has not been met yet (R398). starting: the start sequence raises the device to its starting gait (R515). pwrLow:
PWR_LOSS_N is low. awakeRem: ns awake in WALK short of a whole ms. -/
structure Watch where
  plan       : Nat := 7
  move       : Option GaitMove := none
  starting   : Bool := false
  riseWake   : Bool := false
  gateAsk    : Bool := false
  liftCause  : Bool := false
  fatalAo    : Nat := 0
  lifts      : List Nat := []
  wakesDue   : List Nat := []
  awakeSince : Nat := 0
  timerLo    : Nat := 0
  ppsSample  : Option Nat := none
  ppsHiLatch : Nat := 0
  pwrLow     : Bool := false
  vbatOff    : Bool := false
  awakeRem   : Nat := 0
  deriving DecidableEq, Repr

/-- Security, lifecycle and debug beyond the SEC registers (chapter 15). level: the
debug level; move: the transition requested (target code); chal: always-on time and COUNTER of the valid challenge;
failAo: always-on time of the last failure or start; status: STATUS of R428; ir: TAP instruction; hold: device held by
EXTEST, CLAMP or HIGHZ; lc: the lifecycle as read at step 2 (R417); counter: COUNTER of the latest challenge; tamperLow: TAMPER_N low
now; wipeWait: the SEC_WIPE write of a zeroisation is not persistent yet (R424); openStep: an open-and-wipe waits (R432), 1 for its
zeroisation to commit, 2 for SEC_DBG_OPENED; moveWiped: the zeroisation of the transition has been asked for (R419). -/
structure Sec where
  level   : Nat := 3
  lc      : Nat := 0
  move    : Option Nat := none
  chal    : Option (Nat × Nat) := none
  failAo  : Nat := 0
  status  : Nat := 0
  ir      : Nat := 1
  hold    : Bool := false
  counter : Nat := 0
  tamperLow : Bool := false
  wipeWait : Bool := false
  openStep : Nat := 0
  moveWiped : Bool := false
  deriving DecidableEq, Repr

/-- A unit of a journal block: skipped between the two copies of a class A write (R445), a journal record (R447), or a
unit that cannot be read (R448). -/
inductive JUnit where
  | skip
  | record (id value seq : Nat)
  | bad
  deriving DecidableEq, Repr

/-- A block of the embedded flash: header of R439, flags of FLASH_BLK_INFO, whether it is erased and ready (R447), and
its journal units from unit 16 on. scrubAo is the always-on time in ns of its last rewrite plus 1, 0 = none (R450). -/
structure FlashBlk where
  role    : Nat
  count   : Nat := 1
  hours   : Nat := 0
  hdrOk   : Bool := true
  retired : Bool := false
  frozen  : Bool := false
  marked  : Bool := false
  ready   : Bool := true
  scrubAo : Nat := 0
  units   : List JUnit := []
  deriving DecidableEq, Repr

/-- A state record (R439): kind 1 = INTENT, 2 = RETIRE, 3 = LOST. -/
structure StateRec where
  kind  : Nat
  block : Nat
  count : Nat
  sseq  : Nat
  deriving DecidableEq, Repr

/-- A tally write in the queue (R445); first: SEQ of its first copy where that alone is programmed (R451). -/
structure TallyReq where
  id    : Nat
  value : Nat
  first : Option Nat := none
  deriving DecidableEq, Repr

/-- The embedded flash and its controller (chapter 16). blks: blocks 0 to 95; erase: the block being erased; scrubBuf: the
block whose contents are in the scrub buffer; factory: the gain index of each chain as written at Kigoser test (R260). -/
structure Flash where
  blks      : List FlashBlk :=
    List.replicate 2 { role := 0 } ++ List.replicate 1 { role := 1, ready := false } ++ List.replicate 63 { role := 1 } ++
    List.replicate 8 { role := 2 } ++ List.replicate 4 { role := 3 } ++ [{ role := 4 }] ++ [{ role := 5 }] ++
    List.replicate 16 { role := 6 }
  state     : List StateRec := []
  stateBlk  : Nat := 0
  nextSseq  : Nat := 1
  head      : Nat := 2
  nextSeq   : Nat := 1
  image     : List (Nat × Nat) := []
  shadowIds : List Nat := []
  queue     : List TallyReq := []
  erase     : Option Nat := none
  scrubPos  : Nat := 0
  scrubBuf  : Option Nat := none
  wearFired : Bool := false
  factory   : List (Nat × Nat) := []
  deriving DecidableEq, Repr

/-- Calibration of one metered channel (R475). -/
structure AssayChan where
  vGain : Nat := 0
  vOff  : Int := 0
  iGain : Nat := 0
  iOff  : Int := 0
  deriving DecidableEq, Repr

/-- The parameter block (R475), as delivered from Kigoser test. -/
structure AssayParam where
  meterId    : Nat := 0
  interval   : Nat := 15
  pulseSel   : Nat := 8
  en         : Nat := 0
  startPermil : Nat := 2
  pulseConst : Nat := 10000
  chans      : List AssayChan := List.replicate 8 {}
  deriving DecidableEq, Repr

/-- An energy register in mWh with its residue in units of 2^-72 / 4,000 J (R472). -/
structure Energy where
  mwh : Nat := 0
  res : Nat := 0
  deriving DecidableEq, Repr

/-- An event log entry (R480). -/
structure LogEntry where
  idx  : Nat
  ty   : Nat
  ch   : Nat := 0
  rtc  : Nat
  seals : Nat
  data : List Byte := []
  deriving DecidableEq, Repr

/-- A supply-fail checkpoint (R484). -/
structure Checkpoint where
  eIn    : List Energy
  eOut   : List Energy
  rtc    : Nat
  sets   : List (Nat × Nat)
  run    : Nat
  pulse  : Nat
  seq    : Nat
  deriving DecidableEq, Repr

/-- The Assay die (chapter 18): parameter copy in use and the one not in use, a copy that takes effect at the next sample,
keys, seal counter, RTC with its sample count within the second, running time in seconds, accepted time-sets (running
time, |Δ|), records newest first as octets, log newest first, energies, overrange flags now and since the last record,
what the next record's STATUS will tell, pulse accumulator, present voltage and current codes, the sample count of the last
snapshot, whether an interval boundary has been reached whose record is still to be made. -/
structure Assay where
  up        : Bool := true
  params    : AssayParam := {}
  other     : AssayParam := {}
  next      : Option AssayParam := none
  kRec      : List Byte := List.replicate 16 0
  kTime     : List Byte := List.replicate 16 0
  seals     : Nat := 0
  sealOpen  : Bool := false
  rtc       : Nat := 0
  sub       : Nat := 0
  run       : Nat := 0
  tsSeq     : Nat := 0
  sets      : List (Nat × Nat) := []
  timeLost  : Bool := false
  clockFault : Bool := false
  flashFault : Bool := false
  sawTime   : Bool := false
  sawPower  : Bool := false
  sawClock  : Bool := false
  sawParam  : Bool := false
  overNow   : Nat := 0
  overSeen  : Nat := 0
  seq       : Nat := 0
  records   : List (Nat × List Byte) := []
  logIdx    : Nat := 0
  log       : List LogEntry := []
  eIn       : List Energy := List.replicate 8 {}
  eOut      : List Energy := List.replicate 8 {}
  pulseAcc  : Nat := 0
  pulses    : Nat := 0
  pulseOwed : Nat := 0
  present   : List (Int × Int) := List.replicate 8 (0, 0)
  snapRun   : Option Nat := none
  check     : Option Checkpoint := none
  recDue    : Bool := false
  deriving DecidableEq, Repr

/-- What leaves the device: host memory writes, the MSI-X message, frames on the ring ports, Creosh frames as
LOCAL hands them to Carter, which queues them (log entry 38), corrected PTP messages, PPDUs, the octets of beacons and probe
responses, mesh transmissions, AVSBus
writes in mV, hitching-port data or a missing acknowledgement, data of the debug port, trace, replies of ASSAY_CAL, ASSAY_PULSE. -/
inductive Output where
  | hostWrite (addr : Nat) (data : List Byte)
  | msix
  | ring (port : Nat) (vlan : Nat) (frame : EthFrame) (stomped : Bool)
  | creosh (src vlan sa : Nat) (octets : List Byte)
  | air (radio : Nat) (p : AirPpdu)
  | mgmt (radio : Nat) (octets : List Byte)
  | mesh (t : MeshTx) (air : MeshAir)
  | tc (port : Nat) (corr : Int) (udpZero : Bool)
  | avs (mv : Nat)
  | hitch (data : List Byte)
  | hitchNack
  | tap (data : List Byte)
  | trace (data : List Byte)
  | cal (octets : List Byte)
  | pulse
  deriving DecidableEq, Repr

/-- One bank of the rail table as POR and BOR load it (R403): ON_US 400 and OFF_US 100 for each of five lines. -/
def railLoad (bank : Nat) : List Host.Cell :=
  (List.range 5).flatMap (fun i =>
    [(0x3300000 + bank + 4 * i, 0x90), (0x3300000 + bank + 4 * i + 1, 0x01), (0x3300000 + bank + 4 * i + 2, 0x64)])

/-- Everything on the Saddle, Bridle and Tack dies but the fuses. regs: fields that differ from their reset value, keyed
32 × address + lowest bit, in rising order. shadows: RW-B fields written and not yet transferred (R28). counts: counters
by block, index within it and number. tabs: table windows, keyed by BAR0 address + bank × 2^28. recBuf: the record buffer.
pinExcl: dies all of whose temperature sensors are excluded (R525). hatch: the Hatch command in progress. out: what has left the device, newest first. free: how many free values have been drawn. -/
structure Block where
  regs    : List (Nat × Nat) := []
  shadows : List (Fld × Nat) := []
  counts  : List (Nat × Nat) := []
  tabs    : List Host.Cell := railLoad 0 ++ railLoad (2 ^ 28)
  dram    : List Host.Cell := []
  time    : Times := {}
  eng     : EngCtl := {}
  clerk   : Clerk := {}
  ost     : Ostler := {}
  phy     : List PhyRadio := List.replicate 3 {}
  lm      : List LinkMac := List.replicate 3 {}
  drov    : Drover := {}
  marshal : Marshal := {}
  sieve   : Sieve := {}
  post    : Post := {}
  rfc     : Rfc := {}
  cart    : Carter := {}
  lock    : Lock := {}
  host    : HostPort := {}
  creosh  : Creosh := {}
  clk     : Clk := {}
  avs     : Avs := {}
  eq      : List EqPort := List.replicate 2 {}
  watch   : Watch := {}
  sec     : Sec := {}
  flash   : Flash := {}
  pinExcl : List Nat := []
  hatch   : Option Nat := none
  out     : List Output := []
  free    : Nat := 0
  deriving DecidableEq, Repr

/-- The two fuse blocks, word by word, words that are not 0 in rising order: security (R420) and regulatory (R255). -/
structure Fuses where
  sec : List (Nat × Nat) := []
  reg : List (Nat × Nat) := []
  deriving DecidableEq, Repr

/-- The whole device and the commands waiting for it, first in first out. -/
structure State where
  blk     : Block := {}
  fuse    : Fuses := {}
  assay   : Assay := {}
  pending : List Instr := []
  deriving DecidableEq, Repr

/-- Reasons a step could stop with a fault. The GX-3256 has none: every command has an effect, be it none. -/
inductive Fault where
  /-- No meaning raises it. Safe: a run never stops. -/
  | none
  deriving DecidableEq, Repr

/-- Reasons a command has no meaning. -/
inductive Refusal where
  /-- Raised by an arm of exec whose command has no meaning yet; safe, for the run stops there. No arm raises it now. -/
  | notModelled (mnemonic : String)
  deriving DecidableEq, Repr

/-- The device at power-on reset (R7): every field at its reset value, fuses blank, the Assay die as delivered (R475),
nothing waiting. -/
def State.reset : State := {}

end Sys2Proof.Machine
end

