-- ==== Sys2Proof/Machine/Arch.lean ====
section
/-! DEFINITION. The hierarchy of the GX-3256: sections and engines (00, R12), dependencies (R18), which engine runs in which
gait (R20, R61), and the table windows of BAR0 (R23). -/

namespace Sys2Proof.Machine

/-- The section of engine e ("Sections and engines", chapter 1). -/
def sectionOf (e : Nat) : Nat :=
  match e with
  | 0 => 0 | 1 => 0 | 2 => 4 | 3 => 3 | 9 => 2 | 10 => 2 | 11 => 5 | _ => 1

/-- The engines of a section. -/
def sectionEngines (n : Nat) : List Nat := (List.range 12).filter (fun e => sectionOf e == n)

/-- The engines that engine e depends on (R18). -/
def dependsOn (e : Nat) : List Nat :=
  match e with
  | 4 => [3] | 8 => [3] | 5 => [3, 4] | 6 => [3, 4] | 7 => [3, 4] | 9 => [3] | 10 => [3, 9] | _ => []

/-- How an engine is run. -/
inductive RunMode where
  | off | full | reduced
  deriving DecidableEq, Repr

/-- The row of R20 for gaits 0 to 4; 5: the lame state (R61, R292); 6: the start sequence before its gait; 7: reset.
An engine that runs in a section shown REDUCED is run reduced (DEDUCED, log entry 10). -/
def planMode (plan e : Nat) : RunMode :=
  match plan with
  | 0 => .full
  | 1 => .full
  | 2 => if sectionOf e == 1 then .off else .full
  | 3 => match e with | 1 => .reduced | 2 => .reduced | 9 => .reduced | 10 => .reduced | 11 => .full | _ => .off
  | 4 => if e == 11 then .full else .off
  | 5 => match e with | 0 => .full | 1 => .full | 2 => .reduced | 3 => .reduced | 11 => .full | _ => .off
  | 6 => if e == 0 || e == 1 || e == 11 then .full else .off
  | _ => if e == 11 then .full else .off

/-- Engine states of _ENG_STATUS.STATE (R13). -/
def stOff : Nat := 0
def stReset : Nat := 1
def stStart : Nat := 2
def stRun : Nat := 3
def stDrain : Nat := 4
def stStop : Nat := 5
def stReduced : Nat := 6

/-- The link MAC engine of radio r: 0 = RADIO-6G (E7), 1 = RADIO-5G (E6), 2 = RADIO-2G4 (E5). -/
def lmEngine (r : Nat) : Nat := 7 - r

/-- The engine that owns front end f (R243). -/
def feOwner (f : Nat) : Nat := if f == 3 then 9 else lmEngine f

/-- The owner of a table or register: 0 to 11 an engine, 12 = PHY, 13 = RFC. -/
def windowOwner (a : Nat) : Option Nat :=
  if a < 0x2000000 then none
  else if a < 0x2400000 then some 3
  else if a < 0x2800000 then some 10
  else if a < 0x2A00000 then some 4
  else if a < 0x2B00000 then some 5
  else if a < 0x2C00000 then some 6
  else if a < 0x2D00000 then some 7
  else if a < 0x2E00000 then some 8
  else if a < 0x3000000 then some 9
  else if a < 0x3100000 then some 2
  else if a < 0x3200000 then some 0
  else if a < 0x3300000 then some 1
  else if a < 0x3400000 then some 11
  else if a < 0x3500000 then some 12
  else if a < 0x3600000 then some 13
  else none

/-- The engine whose register block starts at a MiB number, if any (R529). -/
def blockEngine (m : Nat) : Option Nat :=
  match m with
  | 1 => some 0 | 2 => some 1 | 3 => some 2 | 4 => some 3 | 5 => some 4 | 6 => some 8 | 7 => some 5 | 8 => some 6
  | 9 => some 7 | 12 => some 9 | 13 => some 10 | 14 => some 11 | _ => none

/-- The origin of a NOTE record about a write to address a (R535). -/
def writeOrigin (a : Nat) : Nat :=
  match windowOwner a with
  | some 12 => 17
  | some 13 => 18
  | some e => e
  | none =>
    match blockEngine (a / 0x100000) with
    | some e => e
    | none =>
      match a / 0x100000 with
      | 10 => 17 | 11 => 18 | 15 => 19 | 16 => 20 | 17 => 21 | 18 => 22 | 19 => 23 | 20 => 24 | _ => 16

/-- The road byte of R535. -/
def roadCode : Road → Nat
  | .bar0 => 0 | .creosh => 1 | .hitch => 2 | .dap => 3 | .device => 4

/-- How a table is kept (R25, R26): banked with its number, or live. -/
inductive TableKind where
  | banked (n : Nat) | live
  deriving DecidableEq, Repr

/-- A table of a window: first address, bytes, owner, kind, bytes of an entry, and the hardware-owned bytes of an entry as
(offset, length) pairs (R25, R272, R104, R138, R148, R201, R530). -/
structure TableDesc where
  base   : Nat
  size   : Nat
  owner  : Nat
  kind   : TableKind
  stride : Nat
  hw     : List (Nat × Nat) := []
  deriving DecidableEq, Repr

/-- The tables of one link MAC window (R104). -/
def lmTables (r : Nat) : List TableDesc :=
  let w := 0x2C00000 - 0x100000 * r
  let e := lmEngine r
  [{ base := w, size := 16 * 64, owner := e, kind := .banked 0, stride := 64 },
   { base := w + 0x1000, size := 16 * 64, owner := e, kind := .banked 3, stride := 64 },
   { base := w + 0x2000, size := 16 * 2048, owner := e, kind := .banked 1, stride := 2048 },
   { base := w + 0xA000, size := 16 * 2048, owner := e, kind := .banked 2, stride := 2048 },
   { base := w + 0x12000, size := 256 * 32, owner := e, kind := .live, stride := 32, hw := [(0x18, 8)] },
   { base := w + 0x20000, size := 2048 * 64, owner := e, kind := .live, stride := 64, hw := [(0x20, 32)] },
   { base := w + 0x40000, size := 1024 * 16, owner := e, kind := .live, stride := 16,
     hw := [(3, 1), (8, 2), (0xC, 4)] }]

/-- The tables of one radio's part of the PHY window (R85); table number 4 × r + k. -/
def phyTables (r : Nat) : List TableDesc :=
  let w := 0x3400000 + 0x40000 * r
  [{ base := w, size := 640, owner := 12, kind := .banked (4 * r), stride := 128 },
   { base := w + 0x1000, size := 640, owner := 12, kind := .banked (4 * r + 1), stride := 128 }] ++
  (if r = 0 then [{ base := w + 0x2000, size := 128, owner := 12, kind := .banked 2, stride := 128 }] else [])

/-- Every table of every window but the hot table, the record buffer and the key staging buffer, which are no tables the
steward writes in place (R214, R217, R309). -/
def tables : List TableDesc :=
  [{ base := 0x2000000, size := 65536 * 16, owner := 3, kind := .live, stride := 16, hw := [(0, 16)] },
   { base := 0x2100000, size := 32768 * 8, owner := 3, kind := .live, stride := 8 },
   { base := 0x2140000, size := 16384 * 24, owner := 3, kind := .live, stride := 24 },
   { base := 0x21A0000, size := 8192 * 16, owner := 3, kind := .live, stride := 16 },
   { base := 0x21C0000, size := 8192 * 16, owner := 3, kind := .live, stride := 16, hw := [(0xC, 4)] },
   { base := 0x21E0000, size := 2048 * 16, owner := 3, kind := .live, stride := 16 },
   { base := 0x21E8000, size := 16384 * 2, owner := 3, kind := .live, stride := 2 },
   { base := 0x21F0000, size := 4096 * 64, owner := 3, kind := .banked 0, stride := 64 },
   { base := 0x2230000, size := 4096 * 8, owner := 3, kind := .banked 1, stride := 8 },
   { base := 0x2238000, size := 64 * 8, owner := 3, kind := .banked 2, stride := 8 },
   { base := 0x2238200, size := 64, owner := 3, kind := .banked 3, stride := 1 },
   { base := 0x2238400, size := 32 * 8, owner := 3, kind := .banked 4, stride := 8 }] ++
  [{ base := 0x2600000, size := 256 * 16, owner := 10, kind := .banked 0, stride := 16 },
   { base := 0x2601000, size := 256 * 32, owner := 10, kind := .banked 1, stride := 32 },
   { base := 0x2603000, size := 4 * 32, owner := 10, kind := .banked 2, stride := 32 },
   { base := 0x2800000, size := 2048 * 64, owner := 4, kind := .live, stride := 64, hw := [(0x14, 44)] },
   { base := 0x2820000, size := 64 * 8, owner := 4, kind := .banked 0, stride := 8 },
   { base := 0x2D00000, size := 1024 * 32, owner := 8, kind := .live, stride := 32, hw := [(0xC, 20)] },
   { base := 0x2E00000, size := 256 * 4, owner := 9, kind := .banked 0, stride := 4 },
   { base := 0x2E01000, size := 256 * 16, owner := 9, kind := .live, stride := 16, hw := [(0, 16)] },
   { base := 0x3300000, size := 5 * 4, owner := 11, kind := .banked 0, stride := 4 },
   { base := 0x3500000, size := 17 * 8, owner := 13, kind := .banked 0, stride := 8 }] ++
  lmTables 0 ++ lmTables 1 ++ lmTables 2 ++ phyTables 0 ++ phyTables 1 ++ phyTables 2

/-- The table that holds address a, if any. -/
def tableAt (a : Nat) : Option TableDesc := tables.find? (fun t => decide (t.base ≤ a ∧ a < t.base + t.size))

/-- The banked table n of an owner. -/
def bankedTable (owner n : Nat) : Option TableDesc :=
  tables.find? (fun t => t.owner == owner && t.kind == .banked n)

end Sys2Proof.Machine
end

