-- ==== Sys2Proof/Machine/Regs.lean ====
section
/-! DEFINITION. Every register and field of BAR0 under the manual's own names, with its place, type, reset value and
narrowest reset kind (the offset and field tables of each chapter, R529), the image's set (R529) and the hitching
port's subset (R531, R532). -/

namespace Sys2Proof.Machine

/-- Base of the register block of engine e (R13, R529). -/
def engBase (e : Nat) : Nat :=
  match e with
  | 0 => 0x100000 | 1 => 0x200000 | 2 => 0x300000 | 3 => 0x400000 | 4 => 0x500000 | 5 => 0x700000
  | 6 => 0x800000 | 7 => 0x900000 | 8 => 0x600000 | 9 => 0xC00000 | 10 => 0xD00000 | _ => 0xE00000

/-- Base of the link MAC block of radio r: 0 = RADIO-6G, 1 = RADIO-5G, 2 = RADIO-2G4 (R529). -/
def lmBase (r : Nat) : Nat := 0x900000 - r * 0x100000

/-- A field of the register at address a, bits hi to lo. -/
def fld (a hi lo reset : Nat) (ty : RegType) : Fld := ⟨a, lo, hi + 1 - lo, reset, ty⟩

/-! ### Registers of spec/01_architecture.md -/

/-- Address of ENG_ID. -/
def R.ENG_ID (e : Nat) : Nat := engBase e + 0x000
def F.ENG_ID.SECTION (e : Nat) : Fld := fld (engBase e + 0x000) 23 20 (sectionOf e) .ro
def F.ENG_ID.ENGINE (e : Nat) : Fld := fld (engBase e + 0x000) 19 16 e .ro
def F.ENG_ID.VERSION (e : Nat) : Fld := fld (engBase e + 0x000) 15 0 0xB0 .ro

/-- Address of ENG_CTRL. -/
def R.ENG_CTRL (e : Nat) : Nat := engBase e + 0x004
def F.ENG_CTRL.CNT_CLEAR (e : Nat) : Fld := fld (engBase e + 0x004) 3 3 0 .wo
def F.ENG_CTRL.CNT_FREEZE (e : Nat) : Fld := fld (engBase e + 0x004) 2 2 0 .rwL
def F.ENG_CTRL.HOLD (e : Nat) : Fld := fld (engBase e + 0x004) 1 1 0 .rwL
def F.ENG_CTRL.STOP (e : Nat) : Fld := fld (engBase e + 0x004) 0 0 0 .rwL

/-- Address of ENG_STATUS. -/
def R.ENG_STATUS (e : Nat) : Nat := engBase e + 0x008
def F.ENG_STATUS.BOUNDARY_COUNT (e : Nat) : Fld := fld (engBase e + 0x008) 31 16 0 .ro
def F.ENG_STATUS.DRAIN_TIMEOUT (e : Nat) : Fld := fld (engBase e + 0x008) 5 5 0 .ro
def F.ENG_STATUS.BANK_PEND (e : Nat) : Fld := fld (engBase e + 0x008) 4 4 0 .ro
def F.ENG_STATUS.SHADOW_PEND (e : Nat) : Fld := fld (engBase e + 0x008) 3 3 0 .ro
def F.ENG_STATUS.STATE (e : Nat) : Fld := fld (engBase e + 0x008) 2 0 1 .ro

/-- Address of ENG_ERR_PRIMARY. -/
def R.ENG_ERR_PRIMARY (e : Nat) : Nat := engBase e + 0x00C
def F.ENG_ERR_PRIMARY.VALID (e : Nat) : Fld := fld (engBase e + 0x00C) 31 31 0 .ro
def F.ENG_ERR_PRIMARY.SEVERITY (e : Nat) : Fld := fld (engBase e + 0x00C) 30 28 0 .ro
def F.ENG_ERR_PRIMARY.ESCALATED (e : Nat) : Fld := fld (engBase e + 0x00C) 27 27 0 .ro
def F.ENG_ERR_PRIMARY.KIND (e : Nat) : Fld := fld (engBase e + 0x00C) 23 16 0 .ro
def F.ENG_ERR_PRIMARY.LANE (e : Nat) : Fld := fld (engBase e + 0x00C) 15 0 0 .ro

/-- Address of ENG_ERR_SECONDARY_COUNT. -/
def R.ENG_ERR_SECONDARY_COUNT (e : Nat) : Nat := engBase e + 0x010
def F.ENG_ERR_SECONDARY_COUNT.WORST (e : Nat) : Fld := fld (engBase e + 0x010) 30 28 0 .ro
def F.ENG_ERR_SECONDARY_COUNT.COUNT (e : Nat) : Fld := fld (engBase e + 0x010) 27 0 0 .ro

/-- Address of ENG_BANK. -/
def R.ENG_BANK (e : Nat) : Nat := engBase e + 0x014
def F.ENG_BANK.PEND (e : Nat) : Fld := fld (engBase e + 0x014) 31 16 0 .ro
def F.ENG_BANK.ACTIVE (e : Nat) : Fld := fld (engBase e + 0x014) 15 0 0 .ro

/-- Address of ENG_BANK_REQ. -/
def R.ENG_BANK_REQ (e : Nat) : Nat := engBase e + 0x018
def F.ENG_BANK_REQ.COPY (e : Nat) : Fld := fld (engBase e + 0x018) 31 16 0 .wo
def F.ENG_BANK_REQ.SWITCH (e : Nat) : Fld := fld (engBase e + 0x018) 15 0 0 .wo

/-- Address of ENG_LANE_IDX. -/
def R.ENG_LANE_IDX (e : Nat) : Nat := engBase e + 0x01C
def F.ENG_LANE_IDX.COUNTER (e : Nat) : Fld := fld (engBase e + 0x01C) 31 24 0 .rwL
def F.ENG_LANE_IDX.LANE (e : Nat) : Fld := fld (engBase e + 0x01C) 15 0 0 .rwL

/-- Address of ENG_LANE_CNT. -/
def R.ENG_LANE_CNT (e : Nat) : Nat := engBase e + 0x020
def F.ENG_LANE_CNT.VALUE (e : Nat) : Fld := fld (engBase e + 0x020) 31 0 0 .ro

/-- Address of TOP_ID. -/
def R.TOP_ID : Nat := 0x0000000
def F.TOP_ID.PART : Fld := fld 0x0000000 31 16 12886 .ro
def F.TOP_ID.STEP : Fld := fld 0x0000000 15 8 176 .ro
def F.TOP_ID.DRAM : Fld := fld 0x0000000 3 0 0 .ro

/-- Address of TOP_SECT_STATE. -/
def R.TOP_SECT_STATE : Nat := 0x0000010
def F.TOP_SECT_STATE.S5 : Fld := fld 0x0000010 23 20 2 .ro
def F.TOP_SECT_STATE.S4 : Fld := fld 0x0000010 19 16 3 .ro
def F.TOP_SECT_STATE.S3 : Fld := fld 0x0000010 15 12 3 .ro
def F.TOP_SECT_STATE.S2 : Fld := fld 0x0000010 11 8 3 .ro
def F.TOP_SECT_STATE.S1 : Fld := fld 0x0000010 7 4 3 .ro
def F.TOP_SECT_STATE.S0 : Fld := fld 0x0000010 3 0 3 .ro

/-- Address of TOP_ENG_GATE. -/
def R.TOP_ENG_GATE : Nat := 0x0000014
def F.TOP_ENG_GATE.GATE : Fld := fld 0x0000014 10 3 0 .rwL

/-- Address of TOP_ENG_RESET. -/
def R.TOP_ENG_RESET : Nat := 0x0000018
def F.TOP_ENG_RESET.ENG : Fld := fld 0x0000018 11 0 0 .wo

/-- Address of TOP_SECT_RESET. -/
def R.TOP_SECT_RESET : Nat := 0x000001C
def F.TOP_SECT_RESET.SECT : Fld := fld 0x000001C 5 0 0 .wo

/-- Address of TOP_DEV_RESET. -/
def R.TOP_DEV_RESET : Nat := 0x0000020
def F.TOP_DEV_RESET.KEY : Fld := fld 0x0000020 31 16 0 .wo
def F.TOP_DEV_RESET.GO : Fld := fld 0x0000020 0 0 0 .wo

/-- Address of TOP_RESET_CAUSE. -/
def R.TOP_RESET_CAUSE : Nat := 0x0000024
def F.TOP_RESET_CAUSE.SOURCE : Fld := fld 0x0000024 15 8 0 .ro
def F.TOP_RESET_CAUSE.KIND : Fld := fld 0x0000024 3 0 0 .ro

/-! ### Registers of spec/02_ramlan_image_and_start.md -/

/-- Address of OST_START_STATUS. -/
def R.OST_START_STATUS : Nat := 0x0100040
def F.OST_START_STATUS.STEP : Fld := fld 0x0100040 31 28 1 .ro
def F.OST_START_STATUS.FAIL_A : Fld := fld 0x0100040 27 24 0 .ro
def F.OST_START_STATUS.FAIL_B : Fld := fld 0x0100040 23 20 0 .ro
def F.OST_START_STATUS.LAME : Fld := fld 0x0100040 19 19 0 .ro
def F.OST_START_STATUS.SLOT_RUN : Fld := fld 0x0100040 18 18 0 .ro
def F.OST_START_STATUS.INSTALLED : Fld := fld 0x0100040 17 17 0 .ro
def F.OST_START_STATUS.MIGRATED : Fld := fld 0x0100040 16 16 0 .ro
def F.OST_START_STATUS.TALLY_LAYOUT : Fld := fld 0x0100040 15 0 0 .ro

/-- Address of OST_START_TIME. -/
def R.OST_START_TIME : Nat := 0x0100044
def F.OST_START_TIME.GALLOP_MS : Fld := fld 0x0100044 31 16 0 .ro
def F.OST_START_TIME.WALK_MS : Fld := fld 0x0100044 15 0 0 .ro

/-- Address of OST_IMG_VERSION. -/
def R.OST_IMG_VERSION : Nat := 0x0100048
def F.OST_IMG_VERSION.VERSION : Fld := fld 0x0100048 31 0 0 .ro

/-- Address of OST_NOR_INFO. -/
def R.OST_NOR_INFO : Nat := 0x010004C
def F.OST_NOR_INFO.DENSITY_LOG2 : Fld := fld 0x010004C 31 24 0 .ro
def F.OST_NOR_INFO.CS1 : Fld := fld 0x010004C 23 23 0 .ro
def F.OST_NOR_INFO.SFDP : Fld := fld 0x010004C 22 22 0 .ro
def F.OST_NOR_INFO.MODE : Fld := fld 0x010004C 21 20 0 .ro
def F.OST_NOR_INFO.ADDR4 : Fld := fld 0x010004C 19 19 0 .ro

/-- Address of OST_BOOT. -/
def R.OST_BOOT : Nat := 0x0100050
def F.OST_BOOT.TRIES : Fld := fld 0x0100050 3 2 0 .tal
def F.OST_BOOT.TRIAL : Fld := fld 0x0100050 1 1 0 .tal
def F.OST_BOOT.ACTIVE : Fld := fld 0x0100050 0 0 0 .tal

/-- Address of OST_BOOT_COUNT. -/
def R.OST_BOOT_COUNT : Nat := 0x0100054
def F.OST_BOOT_COUNT.COUNT : Fld := fld 0x0100054 31 0 0 .tal

/-- Address of OST_SETTLE. -/
def R.OST_SETTLE : Nat := 0x0100058
def F.OST_SETTLE.KEY : Fld := fld 0x0100058 31 16 0 .wo
def F.OST_SETTLE.GO : Fld := fld 0x0100058 0 0 0 .wo

/-! ### Registers of spec/03_wifi_radios_and_phy.md -/

/-- Address of PHY_ID. -/
def R.PHY_ID : Nat := 0x0A00000
def F.PHY_ID.VERSION : Fld := fld 0x0A00000 15 0 176 .ro

/-- Address of PHY_BANK. -/
def R.PHY_BANK : Nat := 0x0A00004
def F.PHY_BANK.PEND : Fld := fld 0x0A00004 31 16 0 .ro
def F.PHY_BANK.ACTIVE : Fld := fld 0x0A00004 15 0 0 .ro

/-- Address of PHY_BANK_REQ. -/
def R.PHY_BANK_REQ : Nat := 0x0A00008
def F.PHY_BANK_REQ.COPY : Fld := fld 0x0A00008 31 16 0 .wo
def F.PHY_BANK_REQ.SWITCH : Fld := fld 0x0A00008 15 0 0 .wo

/-- Address of PHY_CNT_SEL. -/
def R.PHY_CNT_SEL : Nat := 0x0A0000C
def F.PHY_CNT_SEL.COUNTER : Fld := fld 0x0A0000C 31 24 0 .rwL
def F.PHY_CNT_SEL.CLEAR : Fld := fld 0x0A0000C 9 9 0 .wo
def F.PHY_CNT_SEL.FREEZE : Fld := fld 0x0A0000C 8 8 0 .rwL
def F.PHY_CNT_SEL.RADIO : Fld := fld 0x0A0000C 1 0 0 .rwL

/-- Address of PHY_CNT. -/
def R.PHY_CNT : Nat := 0x0A00010
def F.PHY_CNT.VALUE : Fld := fld 0x0A00010 31 0 0 .ro

/-- Address of PHY_CHAN. -/
def R.PHY_CHAN (r : Nat) : Nat := 0xA00100 + 0x40 * r
def F.PHY_CHAN.SEC_BELOW (r : Nat) : Fld := fld (0xA00100 + 0x40 * r) 30 30 0 .rwH
def F.PHY_CHAN.CH320 (r : Nat) : Fld := fld (0xA00100 + 0x40 * r) 29 29 0 .rwH
def F.PHY_CHAN.WIDTH (r : Nat) : Fld := fld (0xA00100 + 0x40 * r) 28 26 0 .rwH
def F.PHY_CHAN.PRIMARY (r : Nat) : Fld := fld (0xA00100 + 0x40 * r) 23 16 0 .rwH
def F.PHY_CHAN.CHAINS (r : Nat) : Fld := fld (0xA00100 + 0x40 * r) 15 0 0 .rwH

/-- Address of PHY_PUNCT. -/
def R.PHY_PUNCT (r : Nat) : Nat := 0xA00104 + 0x40 * r
def F.PHY_PUNCT.STATIC (r : Nat) : Fld := fld (0xA00104 + 0x40 * r) 15 0 0 .rwB

/-- Address of PHY_CAPTURE. -/
def R.PHY_CAPTURE (r : Nat) : Nat := 0xA00108 + 0x40 * r
def F.PHY_CAPTURE.RESTART_EN (r : Nat) : Fld := fld (0xA00108 + 0x40 * r) 9 9 1 .rwB
def F.PHY_CAPTURE.EN (r : Nat) : Fld := fld (0xA00108 + 0x40 * r) 8 8 1 .rwB
def F.PHY_CAPTURE.MARGIN (r : Nat) : Fld := fld (0xA00108 + 0x40 * r) 3 0 6 .rwB

/-- Address of PHY_CCA. -/
def R.PHY_CCA (r : Nat) : Nat := 0xA0010C + 0x40 * r
def F.PHY_CCA.ED (r : Nat) : Fld := fld (0xA0010C + 0x40 * r) 23 16 194 .rwB
def F.PHY_CCA.PD (r : Nat) : Fld := fld (0xA0010C + 0x40 * r) 15 8 174 .rwB

/-- Address of PHY_OBSS_LOOP. -/
def R.PHY_OBSS_LOOP (r : Nat) : Nat := 0xA00110 + 0x40 * r
def F.PHY_OBSS_LOOP.EN (r : Nat) : Fld := fld (0xA00110 + 0x40 * r) 31 31 0 .rwB
def F.PHY_OBSS_LOOP.FREEZE (r : Nat) : Fld := fld (0xA00110 + 0x40 * r) 30 30 0 .rwB
def F.PHY_OBSS_LOOP.MAX (r : Nat) : Fld := fld (0xA00110 + 0x40 * r) 23 16 194 .rwB
def F.PHY_OBSS_LOOP.MIN (r : Nat) : Fld := fld (0xA00110 + 0x40 * r) 15 8 174 .rwB
def F.PHY_OBSS_LOOP.STEP (r : Nat) : Fld := fld (0xA00110 + 0x40 * r) 5 4 2 .rwB
def F.PHY_OBSS_LOOP.GAIN_SHIFT (r : Nat) : Fld := fld (0xA00110 + 0x40 * r) 2 0 1 .rwB

/-- Address of PHY_OBSS_CFG. -/
def R.PHY_OBSS_CFG (r : Nat) : Nat := 0xA00114 + 0x40 * r
def F.PHY_OBSS_CFG.PERIOD (r : Nat) : Fld := fld (0xA00114 + 0x40 * r) 31 16 100 .rwB
def F.PHY_OBSS_CFG.MARGIN (r : Nat) : Fld := fld (0xA00114 + 0x40 * r) 15 8 10 .rwB

/-- Address of PHY_LDPC. -/
def R.PHY_LDPC (r : Nat) : Nat := 0xA00118 + 0x40 * r
def F.PHY_LDPC.MAX_ITER (r : Nat) : Fld := fld (0xA00118 + 0x40 * r) 3 0 6 .rwB

/-- Address of PHY_STATUS. -/
def R.PHY_STATUS (r : Nat) : Nat := 0xA0011C + 0x40 * r
def F.PHY_STATUS.OBSS_LEVEL (r : Nat) : Fld := fld (0xA0011C + 0x40 * r) 31 24 174 .ro
def F.PHY_STATUS.OBSS_AT_BOUND (r : Nat) : Fld := fld (0xA0011C + 0x40 * r) 23 23 0 .ro
def F.PHY_STATUS.CHAN_DENIED (r : Nat) : Fld := fld (0xA0011C + 0x40 * r) 22 22 0 .ro
def F.PHY_STATUS.STATE (r : Nat) : Fld := fld (0xA0011C + 0x40 * r) 19 16 1 .ro
def F.PHY_STATUS.LAST_RSSI (r : Nat) : Fld := fld (0xA0011C + 0x40 * r) 15 8 128 .ro
def F.PHY_STATUS.NOISE (r : Nat) : Fld := fld (0xA0011C + 0x40 * r) 7 0 128 .ro

/-- Address of PHY_SP_CTRL. -/
def R.PHY_SP_CTRL : Nat := 0x0A00200
def F.PHY_SP_CTRL.FALLBACK : Fld := fld 0x0A00200 2 2 0 .rwL
def F.PHY_SP_CTRL.EN : Fld := fld 0x0A00200 0 0 0 .rwL

/-- Address of PHY_SP_STATUS. -/
def R.PHY_SP_STATUS : Nat := 0x0A00204
def F.PHY_SP_STATUS.LIMIT : Fld := fld 0x0A00204 15 8 0 .ro
def F.PHY_SP_STATUS.EXPIRED : Fld := fld 0x0A00204 1 1 0 .ro
def F.PHY_SP_STATUS.ACTIVE : Fld := fld 0x0A00204 0 0 0 .ro

/-! ### Registers of spec/04_link_mac_engines.md -/

/-- Address of LM_MAC_CFG. -/
def R.LM_MAC_CFG (r : Nat) : Nat := lmBase r + 0x040
def F.LM_MAC_CFG.TSF_PTP (r : Nat) : Fld := fld (lmBase r + 0x040) 3 3 1 .rwH
def F.LM_MAC_CFG.DSSS_SHORT (r : Nat) : Fld := fld (lmBase r + 0x040) 2 2 1 .rwH
def F.LM_MAC_CFG.ERP_PROT (r : Nat) : Fld := fld (lmBase r + 0x040) 1 1 0 .rwH
def F.LM_MAC_CFG.SLOT (r : Nat) : Fld := fld (lmBase r + 0x040) 0 0 0 .rwH

/-- Address of LM_RTS_CFG. -/
def R.LM_RTS_CFG (r : Nat) : Nat := lmBase r + 0x044
def F.LM_RTS_CFG.RTS_THRESH (r : Nat) : Fld := fld (lmBase r + 0x044) 31 16 65535 .rwB
def F.LM_RTS_CFG.RESP_TIMEOUT (r : Nat) : Fld := fld (lmBase r + 0x044) 7 0 45 .rwB

/-- Address of LM_BCN_CTRL. -/
def R.LM_BCN_CTRL (r : Nat) : Nat := lmBase r + 0x048
def F.LM_BCN_CTRL.EN (r : Nat) : Fld := fld (lmBase r + 0x048) 31 16 0 .rwB
def F.LM_BCN_CTRL.LATE_MAX (r : Nat) : Fld := fld (lmBase r + 0x048) 7 0 0 .rwB

/-- Address of LM_EDCA_BE. -/
def R.LM_EDCA_BE (r : Nat) : Nat := lmBase r + 0x050
def F.LM_EDCA_BE.TXOP_LIMIT (r : Nat) : Fld := fld (lmBase r + 0x050) 31 16 0 .rwB
def F.LM_EDCA_BE.ECWMAX (r : Nat) : Fld := fld (lmBase r + 0x050) 11 8 6 .rwB
def F.LM_EDCA_BE.ECWMIN (r : Nat) : Fld := fld (lmBase r + 0x050) 7 4 4 .rwB
def F.LM_EDCA_BE.AIFSN (r : Nat) : Fld := fld (lmBase r + 0x050) 3 0 3 .rwB

/-- Address of LM_EDCA_BK. -/
def R.LM_EDCA_BK (r : Nat) : Nat := lmBase r + 0x054
def F.LM_EDCA_BK.TXOP_LIMIT (r : Nat) : Fld := fld (lmBase r + 0x054) 31 16 0 .rwB
def F.LM_EDCA_BK.ECWMAX (r : Nat) : Fld := fld (lmBase r + 0x054) 11 8 10 .rwB
def F.LM_EDCA_BK.ECWMIN (r : Nat) : Fld := fld (lmBase r + 0x054) 7 4 4 .rwB
def F.LM_EDCA_BK.AIFSN (r : Nat) : Fld := fld (lmBase r + 0x054) 3 0 7 .rwB

/-- Address of LM_EDCA_VI. -/
def R.LM_EDCA_VI (r : Nat) : Nat := lmBase r + 0x058
def F.LM_EDCA_VI.TXOP_LIMIT (r : Nat) : Fld := fld (lmBase r + 0x058) 31 16 94 .rwB
def F.LM_EDCA_VI.ECWMAX (r : Nat) : Fld := fld (lmBase r + 0x058) 11 8 4 .rwB
def F.LM_EDCA_VI.ECWMIN (r : Nat) : Fld := fld (lmBase r + 0x058) 7 4 3 .rwB
def F.LM_EDCA_VI.AIFSN (r : Nat) : Fld := fld (lmBase r + 0x058) 3 0 1 .rwB

/-- Address of LM_EDCA_VO. -/
def R.LM_EDCA_VO (r : Nat) : Nat := lmBase r + 0x05C
def F.LM_EDCA_VO.TXOP_LIMIT (r : Nat) : Fld := fld (lmBase r + 0x05C) 31 16 47 .rwB
def F.LM_EDCA_VO.ECWMAX (r : Nat) : Fld := fld (lmBase r + 0x05C) 11 8 3 .rwB
def F.LM_EDCA_VO.ECWMIN (r : Nat) : Fld := fld (lmBase r + 0x05C) 7 4 2 .rwB
def F.LM_EDCA_VO.AIFSN (r : Nat) : Fld := fld (lmBase r + 0x05C) 3 0 1 .rwB

/-- Address of LM_TSF_LO. -/
def R.LM_TSF_LO (r : Nat) : Nat := lmBase r + 0x060
def F.LM_TSF_LO.TSF (r : Nat) : Fld := fld (lmBase r + 0x060) 31 0 0 .ro

/-- Address of LM_TSF_HI. -/
def R.LM_TSF_HI (r : Nat) : Nat := lmBase r + 0x064
def F.LM_TSF_HI.TSF (r : Nat) : Fld := fld (lmBase r + 0x064) 31 0 0 .ro

/-- Address of LM_STATUS. -/
def R.LM_STATUS (r : Nat) : Nat := lmBase r + 0x068
def F.LM_STATUS.NAV_US (r : Nat) : Fld := fld (lmBase r + 0x068) 31 16 0 .ro
def F.LM_STATUS.RESP_OWED (r : Nat) : Fld := fld (lmBase r + 0x068) 15 15 0 .ro
def F.LM_STATUS.TXOP_HELD (r : Nat) : Fld := fld (lmBase r + 0x068) 14 14 0 .ro
def F.LM_STATUS.INTRA_NAV (r : Nat) : Fld := fld (lmBase r + 0x068) 13 13 0 .ro
def F.LM_STATUS.TXOP_AC (r : Nat) : Fld := fld (lmBase r + 0x068) 9 8 0 .ro
def F.LM_STATUS.SLOTS_FREE (r : Nat) : Fld := fld (lmBase r + 0x068) 7 0 0 .ro

/-- Address of LM_CNT_SEL. -/
def R.LM_CNT_SEL (r : Nat) : Nat := lmBase r + 0x06C
def F.LM_CNT_SEL.COUNTER (r : Nat) : Fld := fld (lmBase r + 0x06C) 31 24 0 .rwL
def F.LM_CNT_SEL.CLEAR (r : Nat) : Fld := fld (lmBase r + 0x06C) 9 9 0 .wo
def F.LM_CNT_SEL.FREEZE (r : Nat) : Fld := fld (lmBase r + 0x06C) 8 8 0 .rwL

/-- Address of LM_CNT. -/
def R.LM_CNT (r : Nat) : Nat := lmBase r + 0x070
def F.LM_CNT.VALUE (r : Nat) : Fld := fld (lmBase r + 0x070) 31 0 0 .ro

/-- Address of LM_BH_CTRL. -/
def R.LM_BH_CTRL (r : Nat) : Nat := lmBase r + 0x074
def F.LM_BH_CTRL.EN (r : Nat) : Fld := fld (lmBase r + 0x074) 31 31 0 .rwH
def F.LM_BH_CTRL.STA (r : Nat) : Fld := fld (lmBase r + 0x074) 26 16 0 .rwH
def F.LM_BH_CTRL.BCN_LOSS (r : Nat) : Fld := fld (lmBase r + 0x074) 15 8 10 .rwH
def F.LM_BH_CTRL.VIF (r : Nat) : Fld := fld (lmBase r + 0x074) 3 0 15 .rwH

/-- Address of LM_BH_STATUS. -/
def R.LM_BH_STATUS (r : Nat) : Nat := lmBase r + 0x078
def F.LM_BH_STATUS.LINKED (r : Nat) : Fld := fld (lmBase r + 0x078) 31 31 0 .ro
def F.LM_BH_STATUS.CONFLICT (r : Nat) : Fld := fld (lmBase r + 0x078) 30 30 0 .ro
def F.LM_BH_STATUS.MISSED (r : Nat) : Fld := fld (lmBase r + 0x078) 15 0 0 .ro

/-! ### Registers of spec/05_marshal_and_drover.md -/

/-- Address of MARS_CFG. -/
def R.MARS_CFG : Nat := 0x0600040
def F.MARS_CFG.SPREAD : Fld := fld 0x0600040 31 31 0 .rwB
def F.MARS_CFG.SPREAD_KB : Fld := fld 0x0600040 15 0 256 .rwB

/-- Address of MARS_YOKE. -/
def R.MARS_YOKE : Nat := 0x0600044
def F.MARS_YOKE.FORCE : Fld := fld 0x0600044 31 31 0 .rwH
def F.MARS_YOKE.GAP_MHZ : Fld := fld 0x0600044 9 0 200 .rwH

/-- Address of MARS_LOOP. -/
def R.MARS_LOOP : Nat := 0x0600048
def F.MARS_LOOP.FREEZE : Fld := fld 0x0600048 31 31 0 .rwB
def F.MARS_LOOP.LQ_SHIFT : Fld := fld 0x0600048 30 28 3 .rwB
def F.MARS_LOOP.PERIOD_MS : Fld := fld 0x0600048 23 16 50 .rwB
def F.MARS_LOOP.HYST : Fld := fld 0x0600048 15 12 4 .rwB
def F.MARS_LOOP.MIN_HOLD : Fld := fld 0x0600048 11 8 4 .rwB
def F.MARS_LOOP.MOVE_MAX : Fld := fld 0x0600048 7 0 32 .rwB

/-- Address of MARS_STATUS. -/
def R.MARS_STATUS : Nat := 0x060004C
def F.MARS_STATUS.YOKED : Fld := fld 0x060004C 31 31 0 .ro
def F.MARS_STATUS.AT_BOUND : Fld := fld 0x060004C 30 30 0 .ro
def F.MARS_STATUS.MOVED : Fld := fld 0x060004C 23 16 0 .ro
def F.MARS_STATUS.PERIODS : Fld := fld 0x060004C 15 0 0 .ro

/-- Address of MARS_UTIL. -/
def R.MARS_UTIL : Nat := 0x0600050
def F.MARS_UTIL.U2 : Fld := fld 0x0600050 23 16 0 .ro
def F.MARS_UTIL.U1 : Fld := fld 0x0600050 15 8 0 .ro
def F.MARS_UTIL.U0 : Fld := fld 0x0600050 7 0 0 .ro

/-- Address of MARS_CNT_SEL. -/
def R.MARS_CNT_SEL : Nat := 0x0600054
def F.MARS_CNT_SEL.COUNTER : Fld := fld 0x0600054 31 24 0 .rwL
def F.MARS_CNT_SEL.CLEAR : Fld := fld 0x0600054 9 9 0 .wo
def F.MARS_CNT_SEL.FREEZE : Fld := fld 0x0600054 8 8 0 .rwL

/-- Address of MARS_CNT. -/
def R.MARS_CNT : Nat := 0x0600058
def F.MARS_CNT.VALUE : Fld := fld 0x0600058 31 0 0 .ro

/-- Address of DROV_RATION. -/
def R.DROV_RATION : Nat := 0x0500040
def F.DROV_RATION.CAP_SHIFT : Fld := fld 0x0500040 31 28 3 .rwB
def F.DROV_RATION.QUANTUM_US : Fld := fld 0x0500040 15 0 500 .rwB

/-- Address of DROV_FMT. -/
def R.DROV_FMT : Nat := 0x0500044
def F.DROV_FMT.MU_EN : Fld := fld 0x0500044 31 31 1 .rwB
def F.DROV_FMT.OFDMA_EN : Fld := fld 0x0500044 30 30 1 .rwB
def F.DROV_FMT.MAX_USERS : Fld := fld 0x0500044 23 16 148 .rwB
def F.DROV_FMT.GROUP_LOSS_DB : Fld := fld 0x0500044 15 12 3 .rwB
def F.DROV_FMT.SU_US : Fld := fld 0x0500044 11 0 1000 .rwB

/-- Address of DROV_QCFG. -/
def R.DROV_QCFG : Nat := 0x0500048
def F.DROV_QCFG.AGE_MS : Fld := fld 0x0500048 31 16 500 .rwB
def F.DROV_QCFG.MAX_PPDU_US : Fld := fld 0x0500048 12 0 2000 .rwB

/-- Address of DROV_SOUND. -/
def R.DROV_SOUND : Nat := 0x050004C
def F.DROV_SOUND.MAX_AGE_MS : Fld := fld 0x050004C 31 16 30 .rwB
def F.DROV_SOUND.SOUND_MS : Fld := fld 0x050004C 7 0 20 .rwB

/-- Address of DROV_UL. -/
def R.DROV_UL : Nat := 0x0500050
def F.DROV_UL.UL_EN : Fld := fld 0x0500050 31 31 1 .rwB
def F.DROV_UL.BSRP_MS : Fld := fld 0x0500050 15 8 50 .rwB
def F.DROV_UL.SHARE : Fld := fld 0x0500050 7 0 64 .rwB

/-- Address of DROV_PLAN. -/
def R.DROV_PLAN : Nat := 0x0500054
def F.DROV_PLAN.RUNAHEAD : Fld := fld 0x0500054 1 0 2 .rwB

/-- Address of DROV_STATUS. -/
def R.DROV_STATUS : Nat := 0x0500058
def F.DROV_STATUS.S2_R2 : Fld := fld 0x0500058 23 20 0 .ro
def F.DROV_STATUS.S1_R2 : Fld := fld 0x0500058 19 16 0 .ro
def F.DROV_STATUS.S2_R1 : Fld := fld 0x0500058 15 12 0 .ro
def F.DROV_STATUS.S1_R1 : Fld := fld 0x0500058 11 8 0 .ro
def F.DROV_STATUS.S2_R0 : Fld := fld 0x0500058 7 4 0 .ro
def F.DROV_STATUS.S1_R0 : Fld := fld 0x0500058 3 0 0 .ro

/-- Address of DROV_CNT_SEL. -/
def R.DROV_CNT_SEL : Nat := 0x050005C
def F.DROV_CNT_SEL.COUNTER : Fld := fld 0x050005C 31 24 0 .rwL
def F.DROV_CNT_SEL.CLEAR : Fld := fld 0x050005C 9 9 0 .wo
def F.DROV_CNT_SEL.FREEZE : Fld := fld 0x050005C 8 8 0 .rwL
def F.DROV_CNT_SEL.RADIO : Fld := fld 0x050005C 1 0 0 .rwL

/-- Address of DROV_CNT. -/
def R.DROV_CNT : Nat := 0x0500060
def F.DROV_CNT.VALUE : Fld := fld 0x0500060 31 0 0 .ro

/-! ### Registers of spec/06_sieve_mesh_receiver.md -/

/-- Address of SIEVE_SPAN. -/
def R.SIEVE_SPAN : Nat := 0x0C00040
def F.SIEVE_SPAN.SPACING : Fld := fld 0x0C00040 2 0 0 .rwH

/-- Address of SIEVE_CH0_FREQ. -/
def R.SIEVE_CH0_FREQ : Nat := 0x0C00044
def F.SIEVE_CH0_FREQ.FREQ : Fld := fld 0x0C00044 31 0 0 .rwH

/-- Address of SIEVE_RXCFG. -/
def R.SIEVE_RXCFG : Nat := 0x0C00048
def F.SIEVE_RXCFG.SFD_SET : Fld := fld 0x0C00048 31 31 0 .rwB
def F.SIEVE_RXCFG.IL : Fld := fld 0x0C00048 30 30 1 .rwB
def F.SIEVE_RXCFG.CAPTURE_EN : Fld := fld 0x0C00048 29 29 1 .rwB
def F.SIEVE_RXCFG.CAPTURE_MARGIN : Fld := fld 0x0C00048 27 24 6 .rwB
def F.SIEVE_RXCFG.POOL_MARGIN : Fld := fld 0x0C00048 23 20 3 .rwB
def F.SIEVE_RXCFG.CORR_MIN : Fld := fld 0x0C00048 19 16 10 .rwB
def F.SIEVE_RXCFG.PRE_TIMEOUT : Fld := fld 0x0C00048 15 8 24 .rwB
def F.SIEVE_RXCFG.RESERVE : Fld := fld 0x0C00048 5 0 8 .rwB

/-- Address of SIEVE_DET_MARGIN. -/
def R.SIEVE_DET_MARGIN : Nat := 0x0C0004C
def F.SIEVE_DET_MARGIN.H3 : Fld := fld 0x0C0004C 31 24 244 .rwB
def F.SIEVE_DET_MARGIN.H2 : Fld := fld 0x0C0004C 23 16 6 .rwB
def F.SIEVE_DET_MARGIN.H1 : Fld := fld 0x0C0004C 15 8 6 .rwB
def F.SIEVE_DET_MARGIN.H0 : Fld := fld 0x0C0004C 7 0 6 .rwB

/-- Address of SIEVE_NF_LOOP. -/
def R.SIEVE_NF_LOOP : Nat := 0x0C00050
def F.SIEVE_NF_LOOP.EN : Fld := fld 0x0C00050 31 31 1 .rwB
def F.SIEVE_NF_LOOP.FREEZE : Fld := fld 0x0C00050 30 30 0 .rwB
def F.SIEVE_NF_LOOP.GAIN_SHIFT : Fld := fld 0x0C00050 29 27 2 .rwB
def F.SIEVE_NF_LOOP.STEP : Fld := fld 0x0C00050 21 20 1 .rwB
def F.SIEVE_NF_LOOP.PERIOD_MS : Fld := fld 0x0C00050 15 0 100 .rwB

/-- Address of SIEVE_NF_BOUND. -/
def R.SIEVE_NF_BOUND : Nat := 0x0C00054
def F.SIEVE_NF_BOUND.MAX : Fld := fld 0x0C00054 31 16 65376 .rwB
def F.SIEVE_NF_BOUND.MIN : Fld := fld 0x0C00054 15 0 65266 .rwB

/-- Address of SIEVE_TXCFG. -/
def R.SIEVE_TXCFG : Nat := 0x0C00058
def F.SIEVE_TXCFG.MAX_TX : Fld := fld 0x0C00058 23 16 16 .rwB
def F.SIEVE_TXCFG.MAX_CUT : Fld := fld 0x0C00058 15 8 6 .rwB
def F.SIEVE_TXCFG.GAUSS : Fld := fld 0x0C00058 0 0 1 .rwB

/-- Address of SIEVE_BLINK. -/
def R.SIEVE_BLINK : Nat := 0x0C0005C
def F.SIEVE_BLINK.OPEN : Fld := fld 0x0C0005C 31 31 0 .rwH
def F.SIEVE_BLINK.TAIL_US : Fld := fld 0x0C0005C 15 8 50 .rwH
def F.SIEVE_BLINK.DIST : Fld := fld 0x0C0005C 7 0 8 .rwH

/-- Address of SIEVE_STATUS. -/
def R.SIEVE_STATUS : Nat := 0x0C00060
def F.SIEVE_STATUS.SPAN_DENIED : Fld := fld 0x0C00060 31 31 0 .ro
def F.SIEVE_STATUS.BLANK_ALL : Fld := fld 0x0C00060 30 30 0 .ro
def F.SIEVE_STATUS.TX_ACTIVE : Fld := fld 0x0C00060 29 25 0 .ro
def F.SIEVE_STATUS.AT_BOUND : Fld := fld 0x0C00060 24 16 0 .ro
def F.SIEVE_STATUS.STALLS_FREE : Fld := fld 0x0C00060 15 8 128 .ro
def F.SIEVE_STATUS.CHANNELS : Fld := fld 0x0C00060 7 0 255 .ro

/-- Address of SIEVE_STALLBUSY0. -/
def R.SIEVE_STALLBUSY0 : Nat := 0x0C00064
def F.SIEVE_STALLBUSY0.BUSY : Fld := fld 0x0C00064 31 0 0 .ro

/-- Address of SIEVE_STALLBUSY1. -/
def R.SIEVE_STALLBUSY1 : Nat := 0x0C00068
def F.SIEVE_STALLBUSY1.BUSY : Fld := fld 0x0C00068 31 0 0 .ro

/-- Address of SIEVE_STALLBUSY2. -/
def R.SIEVE_STALLBUSY2 : Nat := 0x0C0006C
def F.SIEVE_STALLBUSY2.BUSY : Fld := fld 0x0C0006C 31 0 0 .ro

/-- Address of SIEVE_STALLBUSY3. -/
def R.SIEVE_STALLBUSY3 : Nat := 0x0C00070
def F.SIEVE_STALLBUSY3.BUSY : Fld := fld 0x0C00070 31 0 0 .ro

/-- Address of SIEVE_CNT_SEL. -/
def R.SIEVE_CNT_SEL : Nat := 0x0C00074
def F.SIEVE_CNT_SEL.COUNTER : Fld := fld 0x0C00074 31 24 0 .rwL
def F.SIEVE_CNT_SEL.CLEAR : Fld := fld 0x0C00074 9 9 0 .wo
def F.SIEVE_CNT_SEL.FREEZE : Fld := fld 0x0C00074 8 8 0 .rwL

/-- Address of SIEVE_CNT. -/
def R.SIEVE_CNT : Nat := 0x0C00078
def F.SIEVE_CNT.VALUE : Fld := fld 0x0C00078 31 0 0 .ro

/-! ### Registers of spec/07_post_and_tethers.md -/

/-- Address of POST_CFG. -/
def R.POST_CFG : Nat := 0x0D00040
def F.POST_CFG.BCAST_DELIVER : Fld := fld 0x0D00040 2 2 1 .rwH
def F.POST_CFG.DUP_EN : Fld := fld 0x0D00040 1 1 1 .rwH
def F.POST_CFG.ACK_EN : Fld := fld 0x0D00040 0 0 1 .rwH

/-- Address of POST_ACK. -/
def R.POST_ACK : Nat := 0x0D00044
def F.POST_ACK.TURN_US : Fld := fld 0x0D00044 31 16 1000 .rwB
def F.POST_ACK.DL_GAP_US : Fld := fld 0x0D00044 15 0 1000 .rwB

/-- Address of POST_EVT. -/
def R.POST_EVT : Nat := 0x0D00048
def F.POST_EVT.NODE_TURN_MAX_US : Fld := fld 0x0D00048 31 16 2000 .rwB
def F.POST_EVT.PRE_OCT : Fld := fld 0x0D00048 15 8 8 .rwB
def F.POST_EVT.DL_RETRY : Fld := fld 0x0D00048 7 4 3 .rwB

/-- Address of POST_TCFG. -/
def R.POST_TCFG : Nat := 0x0D0004C
def F.POST_TCFG.DRIFT_FREEZE : Fld := fld 0x0D0004C 31 31 0 .rwB
def F.POST_TCFG.DRIFT_SHIFT : Fld := fld 0x0D0004C 30 28 3 .rwB
def F.POST_TCFG.FREE_PPM : Fld := fld 0x0D0004C 15 8 200 .rwB
def F.POST_TCFG.LOCK_PPM : Fld := fld 0x0D0004C 7 0 1 .rwB

/-- Address of POST_DLQ. -/
def R.POST_DLQ : Nat := 0x0D00050
def F.POST_DLQ.MAX_FRAMES : Fld := fld 0x0D00050 31 24 8 .rwB
def F.POST_DLQ.LIFE_S : Fld := fld 0x0D00050 15 0 3600 .rwB

/-- Address of POST_TARG0. -/
def R.POST_TARG0 : Nat := 0x0D00054
def F.POST_TARG0.GRANT_LIFE_S : Fld := fld 0x0D00054 31 16 0 .rwL
def F.POST_TARG0.MAP : Fld := fld 0x0D00054 15 8 0 .rwL
def F.POST_TARG0.PROFILE : Fld := fld 0x0D00054 7 0 0 .rwL

/-- Address of POST_TARG1. -/
def R.POST_TARG1 : Nat := 0x0D00058
def F.POST_TARG1.COUNTER0 : Fld := fld 0x0D00058 31 0 0 .rwL

/-- Address of POST_TARG2. -/
def R.POST_TARG2 : Nat := 0x0D0005C
def F.POST_TARG2.FIRST_LO : Fld := fld 0x0D0005C 31 0 0 .rwL

/-- Address of POST_TARG3. -/
def R.POST_TARG3 : Nat := 0x0D00060
def F.POST_TARG3.FIRST_HI : Fld := fld 0x0D00060 31 0 0 .rwL

/-- Address of POST_TCMD. -/
def R.POST_TCMD : Nat := 0x0D00064
def F.POST_TCMD.OP : Fld := fld 0x0D00064 31 28 0 .wo
def F.POST_TCMD.NODE : Fld := fld 0x0D00064 16 0 0 .wo

/-- Address of POST_TCMD_STATUS. -/
def R.POST_TCMD_STATUS : Nat := 0x0D00068
def F.POST_TCMD_STATUS.STATE : Fld := fld 0x0D00068 31 30 0 .ro
def F.POST_TCMD_STATUS.REASON : Fld := fld 0x0D00068 23 20 0 .ro
def F.POST_TCMD_STATUS.NODE : Fld := fld 0x0D00068 16 0 0 .ro

/-- Address of POST_STATUS. -/
def R.POST_STATUS : Nat := 0x0D0006C
def F.POST_STATUS.TETHERED : Fld := fld 0x0D0006C 31 14 0 .ro
def F.POST_STATUS.REBUILD : Fld := fld 0x0D0006C 13 13 0 .ro
def F.POST_STATUS.CELLS_FREE16 : Fld := fld 0x0D0006C 12 0 4096 .ro

/-- Address of POST_BAG_STATUS. -/
def R.POST_BAG_STATUS : Nat := 0x0D00070
def F.POST_BAG_STATUS.FULL : Fld := fld 0x0D00070 31 31 0 .ro
def F.POST_BAG_STATUS.FRAMES : Fld := fld 0x0D00070 30 20 0 .ro
def F.POST_BAG_STATUS.BYTES : Fld := fld 0x0D00070 16 0 0 .ro

/-- Address of POST_CNT_SEL. -/
def R.POST_CNT_SEL : Nat := 0x0D00074
def F.POST_CNT_SEL.COUNTER : Fld := fld 0x0D00074 31 24 0 .rwL
def F.POST_CNT_SEL.CLEAR : Fld := fld 0x0D00074 9 9 0 .wo
def F.POST_CNT_SEL.FREEZE : Fld := fld 0x0D00074 8 8 0 .rwL

/-- Address of POST_CNT. -/
def R.POST_CNT : Nat := 0x0D00078
def F.POST_CNT.VALUE : Fld := fld 0x0D00078 31 0 0 .ro

/-! ### Registers of spec/08_radio_front_end_and_regulatory.md -/

/-- Address of RFC_ID. -/
def R.RFC_ID : Nat := 0x0B00000
def F.RFC_ID.VERSION : Fld := fld 0x0B00000 15 0 176 .ro

/-- Address of RFC_BANK. -/
def R.RFC_BANK : Nat := 0x0B00004
def F.RFC_BANK.PEND : Fld := fld 0x0B00004 31 16 0 .ro
def F.RFC_BANK.ACTIVE : Fld := fld 0x0B00004 15 0 0 .ro

/-- Address of RFC_BANK_REQ. -/
def R.RFC_BANK_REQ : Nat := 0x0B00008
def F.RFC_BANK_REQ.COPY : Fld := fld 0x0B00008 31 16 0 .wo
def F.RFC_BANK_REQ.SWITCH : Fld := fld 0x0B00008 15 0 0 .wo

/-- Address of RFC_CNT_SEL. -/
def R.RFC_CNT_SEL : Nat := 0x0B0000C
def F.RFC_CNT_SEL.COUNTER : Fld := fld 0x0B0000C 31 24 0 .rwL
def F.RFC_CNT_SEL.CLEAR : Fld := fld 0x0B0000C 9 9 0 .wo
def F.RFC_CNT_SEL.FREEZE : Fld := fld 0x0B0000C 8 8 0 .rwL
def F.RFC_CNT_SEL.FE : Fld := fld 0x0B0000C 1 0 0 .rwL

/-- Address of RFC_CNT. -/
def R.RFC_CNT : Nat := 0x0B00010
def F.RFC_CNT.VALUE : Fld := fld 0x0B00010 31 0 0 .ro

/-- Address of RFC_REG_IDX. -/
def R.RFC_REG_IDX : Nat := 0x0B00014
def F.RFC_REG_IDX.WORD : Fld := fld 0x0B00014 4 0 0 .rwL

/-- Address of RFC_REG_DATA. -/
def R.RFC_REG_DATA : Nat := 0x0B00018
def F.RFC_REG_DATA.DATA : Fld := fld 0x0B00018 31 0 0 .fus

/-- Address of RFC_IMGCAP. -/
def R.RFC_IMGCAP : Nat := 0x0B0001C
def F.RFC_IMGCAP.CAP3 : Fld := fld 0x0B0001C 31 24 255 .rwL
def F.RFC_IMGCAP.CAP2 : Fld := fld 0x0B0001C 23 16 255 .rwL
def F.RFC_IMGCAP.CAP1 : Fld := fld 0x0B0001C 15 8 255 .rwL
def F.RFC_IMGCAP.CAP0 : Fld := fld 0x0B0001C 7 0 255 .rwL

/-- Address of RFC_STWCAP. -/
def R.RFC_STWCAP : Nat := 0x0B00020
def F.RFC_STWCAP.CAP3 : Fld := fld 0x0B00020 31 24 255 .rwL
def F.RFC_STWCAP.CAP2 : Fld := fld 0x0B00020 23 16 255 .rwL
def F.RFC_STWCAP.CAP1 : Fld := fld 0x0B00020 15 8 255 .rwL
def F.RFC_STWCAP.CAP0 : Fld := fld 0x0B00020 7 0 255 .rwL

/-- Address of RFC_TEMP. -/
def R.RFC_TEMP : Nat := 0x0B00024
def F.RFC_TEMP.T : Fld := fld 0x0B00024 31 0 0 .ro

/-- Address of RFC_CHAIN_STATE. -/
def R.RFC_CHAIN_STATE : Nat := 0x0B00028
def F.RFC_CHAIN_STATE.SHUT : Fld := fld 0x0B00028 16 0 0 .ro

/-- Address of RFC_CHAIN_REVIVE. -/
def R.RFC_CHAIN_REVIVE : Nat := 0x0B0002C
def F.RFC_CHAIN_REVIVE.SHUT : Fld := fld 0x0B0002C 16 0 0 .wo

/-- Address of RFC_DUTY_SEL. -/
def R.RFC_DUTY_SEL : Nat := 0x0B00030
def F.RFC_DUTY_SEL.SUB : Fld := fld 0x0B00030 2 0 0 .rwL

/-- Address of RFC_DUTY_USED. -/
def R.RFC_DUTY_USED : Nat := 0x0B00034
def F.RFC_DUTY_USED.KEPT : Fld := fld 0x0B00034 31 31 0 .ro
def F.RFC_DUTY_USED.USED : Fld := fld 0x0B00034 27 0 0 .ro

/-- Address of RFC_FE_STATUS. -/
def R.RFC_FE_STATUS (f : Nat) : Nat := 0xB00100 + 0x40 * f
def F.RFC_FE_STATUS.CAL_DUE (f : Nat) : Fld := fld (0xB00100 + 0x40 * f) 27 24 0 .ro
def F.RFC_FE_STATUS.CAL_RUN (f : Nat) : Fld := fld (0xB00100 + 0x40 * f) 21 20 0 .ro
def F.RFC_FE_STATUS.DEGRADED (f : Nat) : Fld := fld (0xB00100 + 0x40 * f) 19 19 0 .ro
def F.RFC_FE_STATUS.STORED_VALID (f : Nat) : Fld := fld (0xB00100 + 0x40 * f) 18 18 0 .ro
def F.RFC_FE_STATUS.BACKOFF (f : Nat) : Fld := fld (0xB00100 + 0x40 * f) 15 8 0 .ro
def F.RFC_FE_STATUS.ALC_IDX_MAX (f : Nat) : Fld := fld (0xB00100 + 0x40 * f) 7 4 0 .ro
def F.RFC_FE_STATUS.STATE (f : Nat) : Fld := fld (0xB00100 + 0x40 * f) 3 0 0 .ro

/-- Address of RFC_FEM. -/
def R.RFC_FEM (f : Nat) : Nat := 0xB00104 + 0x40 * f
def F.RFC_FEM.RAMP_US (f : Nat) : Fld := fld (0xB00104 + 0x40 * f) 31 24 16 .rwH
def F.RFC_FEM.TX_LEAD (f : Nat) : Fld := fld (0xB00104 + 0x40 * f) 23 12 (if f = 3 then 20 else 800) .rwH
def F.RFC_FEM.RX_LAG (f : Nat) : Fld := fld (0xB00104 + 0x40 * f) 11 0 (if f = 3 then 10 else 200) .rwH

/-- Address of RFC_TXPWR. -/
def R.RFC_TXPWR (f : Nat) : Nat := 0xB00108 + 0x40 * f
def F.RFC_TXPWR.TARGET (f : Nat) : Fld := fld (0xB00108 + 0x40 * f) 7 0 255 .rwB

/-- Address of RFC_ALC. -/
def R.RFC_ALC (f : Nat) : Nat := 0xB0010C + 0x40 * f
def F.RFC_ALC.FREEZE (f : Nat) : Fld := fld (0xB0010C + 0x40 * f) 31 31 0 .rwB
def F.RFC_ALC.GAIN_SHIFT (f : Nat) : Fld := fld (0xB0010C + 0x40 * f) 30 28 1 .rwB
def F.RFC_ALC.STEP (f : Nat) : Fld := fld (0xB0010C + 0x40 * f) 27 24 4 .rwB
def F.RFC_ALC.OVER (f : Nat) : Fld := fld (0xB0010C + 0x40 * f) 23 16 10 .rwB

/-- Address of RFC_MON. -/
def R.RFC_MON (f : Nat) : Nat := 0xB00110 + 0x40 * f
def F.RFC_MON.EN (f : Nat) : Fld := fld (0xB00110 + 0x40 * f) 31 31 1 .rwB
def F.RFC_MON.ACP_DBC (f : Nat) : Fld := fld (0xB00110 + 0x40 * f) 30 24 40 .rwB
def F.RFC_MON.STEP (f : Nat) : Fld := fld (0xB00110 + 0x40 * f) 23 20 2 .rwB
def F.RFC_MON.MAX (f : Nat) : Fld := fld (0xB00110 + 0x40 * f) 19 16 6 .rwB
def F.RFC_MON.RECOVER (f : Nat) : Fld := fld (0xB00110 + 0x40 * f) 15 8 64 .rwB
def F.RFC_MON.STRIKES (f : Nat) : Fld := fld (0xB00110 + 0x40 * f) 7 4 4 .rwB

/-- Address of RFC_CAL. -/
def R.RFC_CAL (f : Nat) : Nat := 0xB00114 + 0x40 * f
def F.RFC_CAL.EN (f : Nat) : Fld := fld (0xB00114 + 0x40 * f) 31 28 15 .rwL
def F.RFC_CAL.DELTA_T (f : Nat) : Fld := fld (0xB00114 + 0x40 * f) 27 24 8 .rwL
def F.RFC_CAL.PERIOD_S (f : Nat) : Fld := fld (0xB00114 + 0x40 * f) 15 0 (if f = 3 then 1800 else 600) .rwL

/-- Address of RFC_CAL_STATUS. -/
def R.RFC_CAL_STATUS (f : Nat) : Nat := 0xB00118 + 0x40 * f
def F.RFC_CAL_STATUS.LAST_S (f : Nat) : Fld := fld (0xB00118 + 0x40 * f) 31 16 65535 .ro
def F.RFC_CAL_STATUS.T_CAL (f : Nat) : Fld := fld (0xB00118 + 0x40 * f) 15 8 128 .ro
def F.RFC_CAL_STATUS.STEPS (f : Nat) : Fld := fld (0xB00118 + 0x40 * f) 7 0 0 .ro

/-! ### Registers of spec/09_carter_router_and_ring.md -/

/-- Address of CART_CFG. -/
def R.CART_CFG : Nat := 0x0400040
def F.CART_CFG.CT_EN : Fld := fld 0x0400040 31 31 1 .rwH
def F.CART_CFG.MTU : Fld := fld 0x0400040 29 16 1522 .rwH
def F.CART_CFG.CONV_MAX : Fld := fld 0x0400040 15 8 16 .rwH

/-- Address of CART_RING0. -/
def R.CART_RING0 : Nat := 0x0400044
def F.CART_RING0.EN : Fld := fld 0x0400044 31 31 0 .rwH
def F.CART_RING0.SPEED : Fld := fld 0x0400044 29 28 0 .rwH
def F.CART_RING0.FEC : Fld := fld 0x0400044 27 27 0 .rwH

/-- Address of CART_RING1. -/
def R.CART_RING1 : Nat := 0x0400048
def F.CART_RING1.EN : Fld := fld 0x0400048 31 31 0 .rwH
def F.CART_RING1.SPEED : Fld := fld 0x0400048 29 28 0 .rwH
def F.CART_RING1.FEC : Fld := fld 0x0400048 27 27 0 .rwH

/-- Address of CART_MAC_LO. -/
def R.CART_MAC_LO : Nat := 0x040004C
def F.CART_MAC_LO.OCT0_3 : Fld := fld 0x040004C 31 0 0 .rwH

/-- Address of CART_MAC_HI. -/
def R.CART_MAC_HI : Nat := 0x0400050
def F.CART_MAC_HI.OCT4_5 : Fld := fld 0x0400050 15 0 0 .rwH

/-- Address of CART_STEWARD. -/
def R.CART_STEWARD : Nat := 0x0400054
def F.CART_STEWARD.ETYPE : Fld := fld 0x0400054 31 16 34997 .rwB
def F.CART_STEWARD.AIR_OK : Fld := fld 0x0400054 15 15 0 .rwB
def F.CART_STEWARD.PATH : Fld := fld 0x0400054 14 14 0 .rwB
def F.CART_STEWARD.CLASS : Fld := fld 0x0400054 10 8 7 .rwB
def F.CART_STEWARD.RATE : Fld := fld 0x0400054 7 0 64 .rwB

/-- Address of CART_BUF. -/
def R.CART_BUF : Nat := 0x0400058
def F.CART_BUF.ALPHA : Fld := fld 0x0400058 31 28 4 .rwB
def F.CART_BUF.LOFT_EN : Fld := fld 0x0400058 27 27 1 .rwB
def F.CART_BUF.SPILL_AT : Fld := fld 0x0400058 15 0 4096 .rwB

/-- Address of CART_LOFT. -/
def R.CART_LOFT : Nat := 0x040005C
def F.CART_LOFT.SIZE_MIB : Fld := fld 0x040005C 9 0 0 .rwH

/-- Address of CART_SCHED. -/
def R.CART_SCHED : Nat := 0x0400060
def F.CART_SCHED.SP_MESH : Fld := fld 0x0400060 15 12 6 .rwB
def F.CART_SCHED.SP_HOST : Fld := fld 0x0400060 11 8 6 .rwB
def F.CART_SCHED.SP_B : Fld := fld 0x0400060 7 4 6 .rwB
def F.CART_SCHED.SP_A : Fld := fld 0x0400060 3 0 6 .rwB

/-- Address of CART_L2. -/
def R.CART_L2 : Nat := 0x0400064
def F.CART_L2.LEARN_EN : Fld := fld 0x0400064 31 31 1 .rwB
def F.CART_L2.AGE_S : Fld := fld 0x0400064 15 0 300 .rwB

/-- Address of CART_PORTCTL. -/
def R.CART_PORTCTL : Nat := 0x0400068
def F.CART_PORTCTL.KEEP_CLOSE : Fld := fld 0x0400068 31 31 0 .rwL
def F.CART_PORTCTL.BLOCK_B : Fld := fld 0x0400068 1 1 0 .rwL
def F.CART_PORTCTL.BLOCK_A : Fld := fld 0x0400068 0 0 0 .rwL

/-- Address of CART_PTP. -/
def R.CART_PTP : Nat := 0x040006C
def F.CART_PTP.EN : Fld := fld 0x040006C 31 31 0 .rwB
def F.CART_PTP.TC_EN : Fld := fld 0x040006C 30 30 1 .rwB
def F.CART_PTP.SRC : Fld := fld 0x040006C 29 28 0 .rwB
def F.CART_PTP.SLAVE_PORT : Fld := fld 0x040006C 27 27 0 .rwB
def F.CART_PTP.PPS_OUT_EN : Fld := fld 0x040006C 26 26 1 .rwB
def F.CART_PTP.DOMAIN : Fld := fld 0x040006C 15 8 0 .rwB

/-- Address of CART_PTP_SERVO. -/
def R.CART_PTP_SERVO : Nat := 0x0400070
def F.CART_PTP_SERVO.FREEZE : Fld := fld 0x0400070 31 31 0 .rwB
def F.CART_PTP_SERVO.KP_SHIFT : Fld := fld 0x0400070 30 28 1 .rwB
def F.CART_PTP_SERVO.KI_SHIFT : Fld := fld 0x0400070 27 25 3 .rwB
def F.CART_PTP_SERVO.LOCK_NS : Fld := fld 0x0400070 15 8 100 .rwB
def F.CART_PTP_SERVO.STEP_US : Fld := fld 0x0400070 7 0 100 .rwB

/-- Address of CART_PTP_DELAY. -/
def R.CART_PTP_DELAY : Nat := 0x0400074
def F.CART_PTP_DELAY.DELAY_NS : Fld := fld 0x0400074 31 0 0 .rwL

/-- Address of CART_TIME_LO. -/
def R.CART_TIME_LO : Nat := 0x0400078
def F.CART_TIME_LO.TIME : Fld := fld 0x0400078 31 0 0 .ro

/-- Address of CART_TIME_HI. -/
def R.CART_TIME_HI : Nat := 0x040007C
def F.CART_TIME_HI.TIME : Fld := fld 0x040007C 31 0 0 .ro

/-- Address of CART_TIME_ADJ. -/
def R.CART_TIME_ADJ : Nat := 0x0400080
def F.CART_TIME_ADJ.STEP : Fld := fld 0x0400080 31 0 0 .wo

/-- Address of CART_PTP_STATUS. -/
def R.CART_PTP_STATUS : Nat := 0x0400084
def F.CART_PTP_STATUS.LOCKED : Fld := fld 0x0400084 31 31 0 .ro
def F.CART_PTP_STATUS.HOLDOVER : Fld := fld 0x0400084 30 30 0 .ro
def F.CART_PTP_STATUS.OFFSET : Fld := fld 0x0400084 23 0 0 .ro

/-- Address of CART_TS_ID. -/
def R.CART_TS_ID : Nat := 0x0400088
def F.CART_TS_ID.VALID : Fld := fld 0x0400088 31 31 0 .ro
def F.CART_TS_ID.PORT : Fld := fld 0x0400088 16 16 0 .ro
def F.CART_TS_ID.SEQ_ID : Fld := fld 0x0400088 15 0 0 .ro

/-- Address of CART_TS_LO. -/
def R.CART_TS_LO : Nat := 0x040008C
def F.CART_TS_LO.TIME : Fld := fld 0x040008C 31 0 0 .ro

/-- Address of CART_TS_HI. -/
def R.CART_TS_HI : Nat := 0x0400090
def F.CART_TS_HI.TIME : Fld := fld 0x0400090 31 0 0 .ro

/-- Address of CART_L2CMD. -/
def R.CART_L2CMD : Nat := 0x0400094
def F.CART_L2CMD.OP : Fld := fld 0x0400094 31 28 0 .wo

/-- Address of CART_L2ARG0. -/
def R.CART_L2ARG0 : Nat := 0x0400098
def F.CART_L2ARG0.MAC0_3 : Fld := fld 0x0400098 31 0 0 .rwL

/-- Address of CART_L2ARG1. -/
def R.CART_L2ARG1 : Nat := 0x040009C
def F.CART_L2ARG1.VLAN : Fld := fld 0x040009C 27 16 0 .rwL
def F.CART_L2ARG1.MAC4_5 : Fld := fld 0x040009C 15 0 0 .rwL

/-- Address of CART_L2ARG2. -/
def R.CART_L2ARG2 : Nat := 0x04000A0
def F.CART_L2ARG2.ANY_DEST : Fld := fld 0x04000A0 31 31 0 .rwL
def F.CART_L2ARG2.ANY_VLAN : Fld := fld 0x04000A0 30 30 0 .rwL
def F.CART_L2ARG2.DEST : Fld := fld 0x04000A0 15 0 0 .rwL

/-- Address of CART_L2STATUS. -/
def R.CART_L2STATUS : Nat := 0x04000A4
def F.CART_L2STATUS.STATE : Fld := fld 0x04000A4 31 30 0 .ro
def F.CART_L2STATUS.REASON : Fld := fld 0x04000A4 29 28 0 .ro
def F.CART_L2STATUS.STATIC : Fld := fld 0x04000A4 17 17 0 .ro
def F.CART_L2STATUS.FOUND : Fld := fld 0x04000A4 16 16 0 .ro
def F.CART_L2STATUS.DEST : Fld := fld 0x04000A4 15 0 0 .ro

/-- Address of CART_STATUS. -/
def R.CART_STATUS : Nat := 0x04000A8
def F.CART_STATUS.LINK_A : Fld := fld 0x04000A8 31 31 0 .ro
def F.CART_STATUS.LINK_B : Fld := fld 0x04000A8 30 30 0 .ro
def F.CART_STATUS.KEEP_OPEN : Fld := fld 0x04000A8 29 29 0 .ro
def F.CART_STATUS.LOFT_LIMIT : Fld := fld 0x04000A8 28 28 0 .ro
def F.CART_STATUS.MOD_A : Fld := fld 0x04000A8 27 27 0 .ro
def F.CART_STATUS.MOD_B : Fld := fld 0x04000A8 26 26 0 .ro
def F.CART_STATUS.LOS_A : Fld := fld 0x04000A8 25 25 0 .ro
def F.CART_STATUS.LOS_B : Fld := fld 0x04000A8 24 24 0 .ro
def F.CART_STATUS.MAC_USED : Fld := fld 0x04000A8 16 0 0 .ro

/-- Address of CART_CNT_SEL. -/
def R.CART_CNT_SEL : Nat := 0x04000AC
def F.CART_CNT_SEL.COUNTER : Fld := fld 0x04000AC 31 24 0 .rwL
def F.CART_CNT_SEL.CLEAR : Fld := fld 0x04000AC 9 9 0 .wo
def F.CART_CNT_SEL.FREEZE : Fld := fld 0x04000AC 8 8 0 .rwL
def F.CART_CNT_SEL.PORT : Fld := fld 0x04000AC 2 0 0 .rwL

/-- Address of CART_CNT. -/
def R.CART_CNT : Nat := 0x04000B0
def F.CART_CNT.VALUE : Fld := fld 0x04000B0 31 0 0 .ro

/-! ### Registers of spec/10_locksmith_cipher.md -/

/-- Address of LOCK_CFG. -/
def R.LOCK_CFG : Nat := 0x0300040
def F.LOCK_CFG.RX_RESERVE : Fld := fld 0x0300040 7 4 8 .rwH

/-- Address of LOCK_LIMITS. -/
def R.LOCK_LIMITS : Nat := 0x0300044
def F.LOCK_LIMITS.MGMT_LOG2 : Fld := fld 0x0300044 29 24 40 .rwL
def F.LOCK_LIMITS.MESH_LOG2 : Fld := fld 0x0300044 21 16 32 .rwL
def F.LOCK_LIMITS.XTS_LOG2 : Fld := fld 0x0300044 13 8 35 .rwL
def F.LOCK_LIMITS.WIFI_LOG2 : Fld := fld 0x0300044 5 0 40 .rwL

/-- Address of LOCK_KCMD. -/
def R.LOCK_KCMD : Nat := 0x0300048
def F.LOCK_KCMD.OP : Fld := fld 0x0300048 31 28 0 .wo
def F.LOCK_KCMD.SPACE : Fld := fld 0x0300048 18 17 0 .wo
def F.LOCK_KCMD.HANDLE : Fld := fld 0x0300048 16 0 0 .wo

/-- Address of LOCK_KARG. -/
def R.LOCK_KARG : Nat := 0x030004C
def F.LOCK_KARG.HARD_LOG2 : Fld := fld 0x030004C 13 8 0 .rwL
def F.LOCK_KARG.MODE : Fld := fld 0x030004C 3 0 0 .rwL

/-- Address of LOCK_KPN_LO. -/
def R.LOCK_KPN_LO : Nat := 0x0300050
def F.LOCK_KPN_LO.PN_LO : Fld := fld 0x0300050 31 0 0 .rwL

/-- Address of LOCK_KPN_HI. -/
def R.LOCK_KPN_HI : Nat := 0x0300054
def F.LOCK_KPN_HI.PN_HI : Fld := fld 0x0300054 15 0 0 .rwL

/-- Address of LOCK_KSTATUS. -/
def R.LOCK_KSTATUS : Nat := 0x0300058
def F.LOCK_KSTATUS.STATE : Fld := fld 0x0300058 31 30 0 .ro
def F.LOCK_KSTATUS.REASON : Fld := fld 0x0300058 29 26 0 .ro
def F.LOCK_KSTATUS.VALID : Fld := fld 0x0300058 21 21 0 .ro
def F.LOCK_KSTATUS.SOFT_HIT : Fld := fld 0x0300058 20 20 0 .ro
def F.LOCK_KSTATUS.HARD_HIT : Fld := fld 0x0300058 19 19 0 .ro
def F.LOCK_KSTATUS.GRACE_END : Fld := fld 0x0300058 18 18 0 .ro
def F.LOCK_KSTATUS.BACKED : Fld := fld 0x0300058 17 17 0 .ro
def F.LOCK_KSTATUS.MODE : Fld := fld 0x0300058 15 12 0 .ro
def F.LOCK_KSTATUS.HARD_LOG2 : Fld := fld 0x0300058 11 6 0 .ro

/-- Address of LOCK_KUSES_LO. -/
def R.LOCK_KUSES_LO : Nat := 0x030005C
def F.LOCK_KUSES_LO.USES_LO : Fld := fld 0x030005C 31 0 0 .ro

/-- Address of LOCK_KUSES_HI. -/
def R.LOCK_KUSES_HI : Nat := 0x0300060
def F.LOCK_KUSES_HI.USES_HI : Fld := fld 0x0300060 15 0 0 .ro

/-- Address of LOCK_LIMIT_FIFO. -/
def R.LOCK_LIMIT_FIFO : Nat := 0x0300064
def F.LOCK_LIMIT_FIFO.VALID : Fld := fld 0x0300064 31 31 0 .ro
def F.LOCK_LIMIT_FIFO.OVERFLOW : Fld := fld 0x0300064 30 30 0 .ro
def F.LOCK_LIMIT_FIFO.KIND : Fld := fld 0x0300064 29 28 0 .ro
def F.LOCK_LIMIT_FIFO.SPACE : Fld := fld 0x0300064 18 17 0 .ro
def F.LOCK_LIMIT_FIFO.HANDLE : Fld := fld 0x0300064 16 0 0 .ro

/-- Address of LOCK_MFC. -/
def R.LOCK_MFC : Nat := 0x0300068
def F.LOCK_MFC.N : Fld := fld 0x0300068 31 0 0 .ro

/-- Address of LOCK_MFC_RESV. -/
def R.LOCK_MFC_RESV : Nat := 0x030006C
def F.LOCK_MFC_RESV.RESV : Fld := fld 0x030006C 31 0 0 .tal

/-- Address of LOCK_MFC_EPOCH. -/
def R.LOCK_MFC_EPOCH : Nat := 0x0300070
def F.LOCK_MFC_EPOCH.EPOCH : Fld := fld 0x0300070 31 0 0 .tal

/-- Address of LOCK_VAULT_GEN. -/
def R.LOCK_VAULT_GEN : Nat := 0x0300074
def F.LOCK_VAULT_GEN.GEN : Fld := fld 0x0300074 31 0 0 .tal

/-- Address of LOCK_MBACK. -/
def R.LOCK_MBACK : Nat := 0x0300078
def F.LOCK_MBACK.EN : Fld := fld 0x0300078 31 31 0 .rwH
def F.LOCK_MBACK.BASE_64K : Fld := fld 0x0300078 9 0 0 .rwH

/-- Address of LOCK_VSTATUS. -/
def R.LOCK_VSTATUS : Nat := 0x030007C
def F.LOCK_VSTATUS.REBUILD : Fld := fld 0x030007C 31 31 0 .ro
def F.LOCK_VSTATUS.RECRYPT : Fld := fld 0x030007C 30 30 0 .ro
def F.LOCK_VSTATUS.BACK_FAIL : Fld := fld 0x030007C 29 29 0 .ro
def F.LOCK_VSTATUS.BACK_PEND : Fld := fld 0x030007C 24 18 0 .ro
def F.LOCK_VSTATUS.PTR : Fld := fld 0x030007C 17 0 0 .ro

/-- Address of LOCK_RNG. -/
def R.LOCK_RNG : Nat := 0x0300080
def F.LOCK_RNG.RESEED_LOG2 : Fld := fld 0x0300080 7 4 10 .rwH

/-- Address of LOCK_RNG_STATUS. -/
def R.LOCK_RNG_STATUS : Nat := 0x0300084
def F.LOCK_RNG_STATUS.INSTANTIATED : Fld := fld 0x0300084 31 31 0 .ro
def F.LOCK_RNG_STATUS.STARVED : Fld := fld 0x0300084 30 30 0 .ro
def F.LOCK_RNG_STATUS.FAILED : Fld := fld 0x0300084 29 29 0 .ro
def F.LOCK_RNG_STATUS.RESEEDS : Fld := fld 0x0300084 15 0 0 .ro

/-- Address of LOCK_CNT_SEL. -/
def R.LOCK_CNT_SEL : Nat := 0x0300088
def F.LOCK_CNT_SEL.COUNTER : Fld := fld 0x0300088 31 24 0 .rwL
def F.LOCK_CNT_SEL.CLEAR : Fld := fld 0x0300088 9 9 0 .wo
def F.LOCK_CNT_SEL.FREEZE : Fld := fld 0x0300088 8 8 0 .rwL

/-- Address of LOCK_CNT. -/
def R.LOCK_CNT : Nat := 0x030008C
def F.LOCK_CNT.VALUE : Fld := fld 0x030008C 31 0 0 .ro

/-! ### Registers of spec/11_host_port_ledger_steward.md -/

/-- Address of CLERK_LEDGER_BASE_LO. -/
def R.CLERK_LEDGER_BASE_LO : Nat := 0x0200040
def F.CLERK_LEDGER_BASE_LO.BASE_LO : Fld := fld 0x0200040 31 0 0 .rwL

/-- Address of CLERK_LEDGER_BASE_HI. -/
def R.CLERK_LEDGER_BASE_HI : Nat := 0x0200044
def F.CLERK_LEDGER_BASE_HI.BASE_HI : Fld := fld 0x0200044 31 0 0 .rwL

/-- Address of CLERK_LEDGER_CFG. -/
def R.CLERK_LEDGER_CFG : Nat := 0x0200048
def F.CLERK_LEDGER_CFG.EN : Fld := fld 0x0200048 31 31 0 .rwL
def F.CLERK_LEDGER_CFG.SIZE_LOG2 : Fld := fld 0x0200048 4 0 6 .rwL

/-- Address of CLERK_LEDGER_HEAD. -/
def R.CLERK_LEDGER_HEAD : Nat := 0x020004C
def F.CLERK_LEDGER_HEAD.HEAD : Fld := fld 0x020004C 16 0 0 .ro

/-- Address of CLERK_LEDGER_TAIL. -/
def R.CLERK_LEDGER_TAIL : Nat := 0x0200050
def F.CLERK_LEDGER_TAIL.TAIL : Fld := fld 0x0200050 16 0 0 .rwL

/-- Address of CLERK_COALESCE. -/
def R.CLERK_COALESCE : Nat := 0x0200054
def F.CLERK_COALESCE.COUNT : Fld := fld 0x0200054 26 16 1 .rwL
def F.CLERK_COALESCE.TIME_US : Fld := fld 0x0200054 15 0 100 .rwL

/-- Address of CLERK_LEDGER_STATUS. -/
def R.CLERK_LEDGER_STATUS : Nat := 0x0200058
def F.CLERK_LEDGER_STATUS.OVERFLOW : Fld := fld 0x0200058 31 31 0 .w1c
def F.CLERK_LEDGER_STATUS.FULL : Fld := fld 0x0200058 30 30 0 .ro
def F.CLERK_LEDGER_STATUS.WAITING : Fld := fld 0x0200058 29 29 0 .ro
def F.CLERK_LEDGER_STATUS.DROPPED : Fld := fld 0x0200058 15 0 0 .ro

/-- Address of CLERK_DONE. -/
def R.CLERK_DONE : Nat := 0x020005C
def F.CLERK_DONE.ORIGIN : Fld := fld 0x020005C 12 8 0 .wo
def F.CLERK_DONE.SRC : Fld := fld 0x020005C 7 0 0 .wo

/-- Address of CLERK_COPY_HEAD. -/
def R.CLERK_COPY_HEAD : Nat := 0x0200060
def F.CLERK_COPY_HEAD.HEAD : Fld := fld 0x0200060 31 0 0 .ro

/-- Address of CLERK_COPY_IDX. -/
def R.CLERK_COPY_IDX : Nat := 0x0200064
def F.CLERK_COPY_IDX.IDX : Fld := fld 0x0200064 31 0 0 .rwL

/-- Address of CLERK_COPY_DATA0. -/
def R.CLERK_COPY_DATA0 : Nat := 0x0200068
def F.CLERK_COPY_DATA0.DATA : Fld := fld 0x0200068 31 0 0 .ro

/-- Address of CLERK_COPY_DATA1. -/
def R.CLERK_COPY_DATA1 : Nat := 0x020006C
def F.CLERK_COPY_DATA1.DATA : Fld := fld 0x020006C 31 0 0 .ro

/-- Address of CLERK_COPY_DATA2. -/
def R.CLERK_COPY_DATA2 : Nat := 0x0200070
def F.CLERK_COPY_DATA2.DATA : Fld := fld 0x0200070 31 0 0 .ro

/-- Address of CLERK_COPY_DATA3. -/
def R.CLERK_COPY_DATA3 : Nat := 0x0200074
def F.CLERK_COPY_DATA3.DATA : Fld := fld 0x0200074 31 0 0 .ro

/-- Address of CLERK_COPY_DATA4. -/
def R.CLERK_COPY_DATA4 : Nat := 0x0200078
def F.CLERK_COPY_DATA4.DATA : Fld := fld 0x0200078 31 0 0 .ro

/-- Address of CLERK_COPY_DATA5. -/
def R.CLERK_COPY_DATA5 : Nat := 0x020007C
def F.CLERK_COPY_DATA5.DATA : Fld := fld 0x020007C 31 0 0 .ro

/-- Address of CLERK_COPY_DATA6. -/
def R.CLERK_COPY_DATA6 : Nat := 0x0200080
def F.CLERK_COPY_DATA6.DATA : Fld := fld 0x0200080 31 0 0 .ro

/-- Address of CLERK_COPY_DATA7. -/
def R.CLERK_COPY_DATA7 : Nat := 0x0200084
def F.CLERK_COPY_DATA7.DATA : Fld := fld 0x0200084 31 0 0 .ro

/-- Address of HOST_ID. -/
def R.HOST_ID : Nat := 0x1300000
def F.HOST_ID.VERSION : Fld := fld 0x1300000 15 0 176 .ro

/-- Address of HOST_CFG. -/
def R.HOST_CFG : Nat := 0x1300004
def F.HOST_CFG.WAKE_EN : Fld := fld 0x1300004 0 0 1 .rwL

/-- Address of HOST_STATUS. -/
def R.HOST_STATUS : Nat := 0x1300008
def F.HOST_STATUS.UP : Fld := fld 0x1300008 31 31 0 .ro
def F.HOST_STATUS.GEN : Fld := fld 0x1300008 30 28 0 .ro
def F.HOST_STATUS.WIDTH : Fld := fld 0x1300008 27 24 0 .ro
def F.HOST_STATUS.BME : Fld := fld 0x1300008 23 23 0 .ro
def F.HOST_STATUS.D3 : Fld := fld 0x1300008 22 22 0 .ro
def F.HOST_STATUS.TX_STOPPED : Fld := fld 0x1300008 15 8 0 .ro
def F.HOST_STATUS.RX_STOPPED : Fld := fld 0x1300008 7 0 0 .ro

/-- Address of HOST_CNT_SEL. -/
def R.HOST_CNT_SEL : Nat := 0x130000C
def F.HOST_CNT_SEL.COUNTER : Fld := fld 0x130000C 31 24 0 .rwL
def F.HOST_CNT_SEL.CLEAR : Fld := fld 0x130000C 9 9 0 .wo
def F.HOST_CNT_SEL.FREEZE : Fld := fld 0x130000C 8 8 0 .rwL

/-- Address of HOST_CNT. -/
def R.HOST_CNT : Nat := 0x1300010
def F.HOST_CNT.VALUE : Fld := fld 0x1300010 31 0 0 .ro

/-- Address of HOST_CREOSH_STATUS. -/
def R.HOST_CREOSH_STATUS : Nat := 0x1300014
def F.HOST_CREOSH_STATUS.KEY_VALID : Fld := fld 0x1300014 31 31 0 .ro
def F.HOST_CREOSH_STATUS.ARMED : Fld := fld 0x1300014 30 30 0 .ro
def F.HOST_CREOSH_STATUS.RETURN : Fld := fld 0x1300014 29 29 0 .ro
def F.HOST_CREOSH_STATUS.RETURN_SRC : Fld := fld 0x1300014 5 0 0 .ro

/-- Address of HOST_CREOSH_FLOOR. -/
def R.HOST_CREOSH_FLOOR : Nat := 0x1300018
def F.HOST_CREOSH_FLOOR.FLOOR : Fld := fld 0x1300018 31 0 0 .tal

/-- Address of HOST_CREOSH_TXBLK. -/
def R.HOST_CREOSH_TXBLK : Nat := 0x130001C
def F.HOST_CREOSH_TXBLK.BLOCK : Fld := fld 0x130001C 31 0 0 .tal

/-- Address of HOST_RING_BASE_LO. -/
def R.HOST_RING_BASE_LO (q : Nat) : Nat := 0x1300000 + 0x100 + 0x20 * q
def F.HOST_RING_BASE_LO.BASE_LO (q : Nat) : Fld := fld (0x1300000 + 0x100 + 0x20 * q) 31 0 0 .rwL

/-- Address of HOST_RING_BASE_HI. -/
def R.HOST_RING_BASE_HI (q : Nat) : Nat := 0x1300004 + 0x100 + 0x20 * q
def F.HOST_RING_BASE_HI.BASE_HI (q : Nat) : Fld := fld (0x1300004 + 0x100 + 0x20 * q) 31 0 0 .rwL

/-- Address of HOST_RING_CTRL. -/
def R.HOST_RING_CTRL (q : Nat) : Nat := 0x1300008 + 0x100 + 0x20 * q
def F.HOST_RING_CTRL.EN (q : Nat) : Fld := fld (0x1300008 + 0x100 + 0x20 * q) 31 31 0 .rwL
def F.HOST_RING_CTRL.SIZE_LOG2 (q : Nat) : Fld := fld (0x1300008 + 0x100 + 0x20 * q) 3 0 6 .rwL

/-- Address of HOST_RING_PROD. -/
def R.HOST_RING_PROD (q : Nat) : Nat := 0x130000C + 0x100 + 0x20 * q
def F.HOST_RING_PROD.PROD (q : Nat) : Fld := fld (0x130000C + 0x100 + 0x20 * q) 15 0 0 .ro

/-- Address of HOST_RING_CONS. -/
def R.HOST_RING_CONS (q : Nat) : Nat := 0x1300010 + 0x100 + 0x20 * q
def F.HOST_RING_CONS.CONS (q : Nat) : Fld := fld (0x1300010 + 0x100 + 0x20 * q) 15 0 0 .ro

/-! ### Registers of spec/12_clocks_and_reins.md -/

/-- Address of CLK_ID. -/
def R.CLK_ID : Nat := 0x0F00000
def F.CLK_ID.VERSION : Fld := fld 0x0F00000 15 0 176 .ro

/-- Address of CLK_STATUS. -/
def R.CLK_STATUS : Nat := 0x0F00004
def F.CLK_STATUS.PADDOCK_LOST : Fld := fld 0x0F00004 23 23 0 .ro
def F.CLK_STATUS.PADDOCK_OK : Fld := fld 0x0F00004 22 22 0 .ro
def F.CLK_STATUS.CORE_SLOW : Fld := fld 0x0F00004 21 21 0 .ro
def F.CLK_STATUS.LOCK : Fld := fld 0x0F00004 12 8 0 .ro
def F.CLK_STATUS.RUN : Fld := fld 0x0F00004 6 0 0 .ro

/-- Address of CLK_XMODE. -/
def R.CLK_XMODE : Nat := 0x0F00008
def F.CLK_XMODE.FAST : Fld := fld 0x0F00008 10 0 133 .rwB

/-- Address of CLK_XTIMEOUT. -/
def R.CLK_XTIMEOUT : Nat := 0x0F0000C
def F.CLK_XTIMEOUT.LOG2 : Fld := fld 0x0F0000C 4 0 12 .rwL

/-- Address of CLK_XSTATUS. -/
def R.CLK_XSTATUS : Nat := 0x0F00010
def F.CLK_XSTATUS.PARKED : Fld := fld 0x0F00010 26 16 2047 .ro
def F.CLK_XSTATUS.FAST_ON : Fld := fld 0x0F00010 10 0 0 .ro

/-- Address of CLK_XFAULT. -/
def R.CLK_XFAULT : Nat := 0x0F00014
def F.CLK_XFAULT.TIMEOUT : Fld := fld 0x0F00014 10 0 0 .w1c

/-- Address of CLK_CNT_SEL. -/
def R.CLK_CNT_SEL : Nat := 0x0F00018
def F.CLK_CNT_SEL.COUNTER : Fld := fld 0x0F00018 31 24 0 .rwL
def F.CLK_CNT_SEL.CLEAR : Fld := fld 0x0F00018 9 9 0 .wo
def F.CLK_CNT_SEL.FREEZE : Fld := fld 0x0F00018 8 8 0 .rwL
def F.CLK_CNT_SEL.GROUP : Fld := fld 0x0F00018 3 0 0 .rwL

/-- Address of CLK_CNT. -/
def R.CLK_CNT : Nat := 0x0F0001C
def F.CLK_CNT.VALUE : Fld := fld 0x0F0001C 31 0 0 .ro

/-! ### Registers of spec/13_adaptive_loops.md -/

/-- Address of TOP_AVS_CTRL. -/
def R.TOP_AVS_CTRL : Nat := 0x0000100
def F.TOP_AVS_CTRL.FREEZE : Fld := fld 0x0000100 31 31 0 .rwB
def F.TOP_AVS_CTRL.GAIN_SHIFT : Fld := fld 0x0000100 30 28 1 .rwB
def F.TOP_AVS_CTRL.STEP : Fld := fld 0x0000100 27 24 2 .rwB
def F.TOP_AVS_CTRL.URGENT : Fld := fld 0x0000100 23 20 2 .rwB
def F.TOP_AVS_CTRL.TARGET : Fld := fld 0x0000100 19 14 8 .rwB
def F.TOP_AVS_CTRL.SETTLE_US : Fld := fld 0x0000100 13 8 25 .rwB
def F.TOP_AVS_CTRL.PERIOD_MS : Fld := fld 0x0000100 7 0 1 .rwB

/-- Address of TOP_AVS_BOUND. -/
def R.TOP_AVS_BOUND : Nat := 0x0000104
def F.TOP_AVS_BOUND.DROOP_HOLD : Fld := fld 0x0000104 31 24 100 .rwB
def F.TOP_AVS_BOUND.VMAX : Fld := fld 0x0000104 15 8 170 .rwB
def F.TOP_AVS_BOUND.VMIN : Fld := fld 0x0000104 7 0 130 .rwB

/-- Address of TOP_AVS_STATUS. -/
def R.TOP_AVS_STATUS : Nat := 0x0000108
def F.TOP_AVS_STATUS.AVS_FAULT : Fld := fld 0x0000108 31 31 0 .ro
def F.TOP_AVS_STATUS.AT_BOUND : Fld := fld 0x0000108 30 30 0 .ro
def F.TOP_AVS_STATUS.SLACK : Fld := fld 0x0000108 29 24 0 .ro
def F.TOP_AVS_STATUS.V : Fld := fld 0x0000108 23 16 170 .ro
def F.TOP_AVS_STATUS.BUS_ERR : Fld := fld 0x0000108 15 12 0 .ro
def F.TOP_AVS_STATUS.URGENT_CNT : Fld := fld 0x0000108 11 0 0 .ro

/-- Address of TOP_DROOP_CTRL. -/
def R.TOP_DROOP_CTRL : Nat := 0x000010C
def F.TOP_DROOP_CTRL.EN : Fld := fld 0x000010C 31 31 1 .rwB
def F.TOP_DROOP_CTRL.LIMIT : Fld := fld 0x000010C 15 8 4 .rwB
def F.TOP_DROOP_CTRL.THRESH_MV : Fld := fld 0x000010C 5 0 30 .rwB

/-- Address of TOP_DROOP_STATUS. -/
def R.TOP_DROOP_STATUS : Nat := 0x0000110
def F.TOP_DROOP_STATUS.STRETCHES : Fld := fld 0x0000110 31 0 0 .ro

/-- Address of CART_EQ_CTRL. -/
def R.CART_EQ_CTRL : Nat := 0x04000C0
def F.CART_EQ_CTRL.FREEZE_B : Fld := fld 0x04000C0 31 31 0 .rwB
def F.CART_EQ_CTRL.FREEZE_A : Fld := fld 0x04000C0 30 30 0 .rwB
def F.CART_EQ_CTRL.ACQ_SHIFT : Fld := fld 0x04000C0 11 8 2 .rwB
def F.CART_EQ_CTRL.GAIN_SHIFT : Fld := fld 0x04000C0 7 4 6 .rwB
def F.CART_EQ_CTRL.STEP : Fld := fld 0x04000C0 3 0 1 .rwB

/-- Address of CART_EQ_A. -/
def R.CART_EQ_A : Nat := 0x04000C4
def F.CART_EQ_A.AT_BOUND : Fld := fld 0x04000C4 31 31 0 .ro
def F.CART_EQ_A.ACQ : Fld := fld 0x04000C4 30 30 0 .ro
def F.CART_EQ_A.RESTARTS : Fld := fld 0x04000C4 19 4 0 .ro
def F.CART_EQ_A.CTLE : Fld := fld 0x04000C4 3 0 8 .ro

/-- Address of CART_EQ_A_DFE. -/
def R.CART_EQ_A_DFE : Nat := 0x04000C8
def F.CART_EQ_A_DFE.TAP1 : Fld := fld 0x04000C8 31 24 0 .ro
def F.CART_EQ_A_DFE.TAP2 : Fld := fld 0x04000C8 23 18 0 .ro
def F.CART_EQ_A_DFE.TAP3 : Fld := fld 0x04000C8 17 12 0 .ro
def F.CART_EQ_A_DFE.TAP4 : Fld := fld 0x04000C8 11 6 0 .ro
def F.CART_EQ_A_DFE.TAP5 : Fld := fld 0x04000C8 5 0 0 .ro

/-- Address of CART_EQ_B. -/
def R.CART_EQ_B : Nat := 0x04000CC
def F.CART_EQ_B.AT_BOUND : Fld := fld 0x04000CC 31 31 0 .ro
def F.CART_EQ_B.ACQ : Fld := fld 0x04000CC 30 30 0 .ro
def F.CART_EQ_B.RESTARTS : Fld := fld 0x04000CC 19 4 0 .ro
def F.CART_EQ_B.CTLE : Fld := fld 0x04000CC 3 0 8 .ro

/-- Address of CART_EQ_B_DFE. -/
def R.CART_EQ_B_DFE : Nat := 0x04000D0
def F.CART_EQ_B_DFE.TAP1 : Fld := fld 0x04000D0 31 24 0 .ro
def F.CART_EQ_B_DFE.TAP2 : Fld := fld 0x04000D0 23 18 0 .ro
def F.CART_EQ_B_DFE.TAP3 : Fld := fld 0x04000D0 17 12 0 .ro
def F.CART_EQ_B_DFE.TAP4 : Fld := fld 0x04000D0 11 6 0 .ro
def F.CART_EQ_B_DFE.TAP5 : Fld := fld 0x04000D0 5 0 0 .ro

/-! ### Registers of spec/14_gaits_and_power.md -/

/-- Address of WATCH_GAIT_REQ. -/
def R.WATCH_GAIT_REQ : Nat := 0x0E00040
def F.WATCH_GAIT_REQ.KEY : Fld := fld 0x0E00040 31 16 0 .wo
def F.WATCH_GAIT_REQ.CLR_FATAL : Fld := fld 0x0E00040 15 15 0 .wo
def F.WATCH_GAIT_REQ.LMGATE : Fld := fld 0x0E00040 10 8 0 .rwL
def F.WATCH_GAIT_REQ.RESUME : Fld := fld 0x0E00040 6 4 3 .rwL
def F.WATCH_GAIT_REQ.REQ : Fld := fld 0x0E00040 2 0 3 .rwL

/-- Address of WATCH_GAIT_STATUS. -/
def R.WATCH_GAIT_STATUS : Nat := 0x0E00044
def F.WATCH_GAIT_STATUS.BUSY : Fld := fld 0x0E00044 31 31 0 .ro
def F.WATCH_GAIT_STATUS.TARGET : Fld := fld 0x0E00044 26 24 4 .ro
def F.WATCH_GAIT_STATUS.CEIL : Fld := fld 0x0E00044 23 20 0 .ro
def F.WATCH_GAIT_STATUS.RETRIES : Fld := fld 0x0E00044 19 16 0 .ro
def F.WATCH_GAIT_STATUS.CURRENT : Fld := fld 0x0E00044 2 0 4 .ro

/-- Address of WATCH_CFG. -/
def R.WATCH_CFG : Nat := 0x0E00048
def F.WATCH_CFG.PWR_DEBOUNCE : Fld := fld 0x0E00048 31 24 10 .rwL
def F.WATCH_CFG.RETRY_MAX : Fld := fld 0x0E00048 23 20 3 .rwL
def F.WATCH_CFG.FATAL_RETRY_S : Fld := fld 0x0E00048 15 0 300 .rwL

/-- Address of WATCH_WAKE_EN. -/
def R.WATCH_WAKE_EN : Nat := 0x0E0004C
def F.WATCH_WAKE_EN.RISE : Fld := fld 0x0E0004C 23 16 48 .rwL
def F.WATCH_WAKE_EN.WAKE : Fld := fld 0x0E0004C 7 0 253 .rwL

/-- Address of WATCH_WAKE_CAUSE. -/
def R.WATCH_WAKE_CAUSE : Nat := 0x0E00050
def F.WATCH_WAKE_CAUSE.LAST : Fld := fld 0x0E00050 26 24 0 .ro
def F.WATCH_WAKE_CAUSE.SEEN : Fld := fld 0x0E00050 7 0 0 .w1c

/-- Address of WATCH_ROUND. -/
def R.WATCH_ROUND : Nat := 0x0E00054
def F.WATCH_ROUND.EN : Fld := fld 0x0E00054 31 31 1 .rwB
def F.WATCH_ROUND.DWELL_WIN : Fld := fld 0x0E00054 27 24 2 .rwB
def F.WATCH_ROUND.PERIOD_MS : Fld := fld 0x0E00054 15 0 100 .rwB

/-- Address of WATCH_WAKE. -/
def R.WATCH_WAKE : Nat := 0x0E00058
def F.WATCH_WAKE.MERGE_US : Fld := fld 0x0E00058 31 16 2000 .rwB
def F.WATCH_WAKE.LEAD_US : Fld := fld 0x0E00058 15 0 200 .rwB

/-- Address of WATCH_TIMER_LO. -/
def R.WATCH_TIMER_LO : Nat := 0x0E0005C
def F.WATCH_TIMER_LO.TIME : Fld := fld 0x0E0005C 31 0 0 .rwL

/-- Address of WATCH_TIMER_HI. -/
def R.WATCH_TIMER_HI : Nat := 0x0E00060
def F.WATCH_TIMER_HI.TIME : Fld := fld 0x0E00060 31 0 0 .rwL

/-- Address of WATCH_BATT. -/
def R.WATCH_BATT : Nat := 0x0E00064
def F.WATCH_BATT.HALT_MV : Fld := fld 0x0E00064 15 0 3000 .rwL

/-- Address of WATCH_POWER_STATUS. -/
def R.WATCH_POWER_STATUS : Nat := 0x0E00068
def F.WATCH_POWER_STATUS.VBAT_MV : Fld := fld 0x0E00068 31 16 0 .ro
def F.WATCH_POWER_STATUS.PONY_HP : Fld := fld 0x0E00068 15 15 1 .ro
def F.WATCH_POWER_STATUS.PONY_READY : Fld := fld 0x0E00068 14 14 0 .ro
def F.WATCH_POWER_STATUS.AWAKE : Fld := fld 0x0E00068 13 13 0 .ro
def F.WATCH_POWER_STATUS.PMIC_EN : Fld := fld 0x0E00068 12 8 0 .ro

/-- Address of WATCH_PPS_LO. -/
def R.WATCH_PPS_LO : Nat := 0x0E0006C
def F.WATCH_PPS_LO.TIME : Fld := fld 0x0E0006C 31 0 0 .ro

/-- Address of WATCH_PPS_HI. -/
def R.WATCH_PPS_HI : Nat := 0x0E00070
def F.WATCH_PPS_HI.TIME : Fld := fld 0x0E00070 31 0 0 .ro

/-- Address of WATCH_CNT_SEL. -/
def R.WATCH_CNT_SEL : Nat := 0x0E00074
def F.WATCH_CNT_SEL.COUNTER : Fld := fld 0x0E00074 31 24 0 .rwL
def F.WATCH_CNT_SEL.CLEAR : Fld := fld 0x0E00074 9 9 0 .wo
def F.WATCH_CNT_SEL.FREEZE : Fld := fld 0x0E00074 8 8 0 .rwL

/-- Address of WATCH_CNT. -/
def R.WATCH_CNT : Nat := 0x0E00078
def F.WATCH_CNT.VALUE : Fld := fld 0x0E00078 31 0 0 .ro

/-- Address of WATCH_BOR_COUNT. -/
def R.WATCH_BOR_COUNT : Nat := 0x0E0007C
def F.WATCH_BOR_COUNT.COUNT : Fld := fld 0x0E0007C 31 0 0 .tal

/-! ### Registers of spec/15_security_lifecycle_debug.md -/

/-- Address of SEC_ID. -/
def R.SEC_ID : Nat := 0x1100000
def F.SEC_ID.VERSION : Fld := fld 0x1100000 15 0 176 .ro

/-- Address of SEC_STATE. -/
def R.SEC_STATE : Nat := 0x1100004
def F.SEC_STATE.LC : Fld := fld 0x1100004 31 29 0 .ro
def F.SEC_STATE.LEVEL : Fld := fld 0x1100004 28 27 0 .ro
def F.SEC_STATE.TAMPER_LOW : Fld := fld 0x1100004 26 26 0 .ro
def F.SEC_STATE.WIPE_PEND : Fld := fld 0x1100004 25 25 0 .ro
def F.SEC_STATE.LOCKOUT : Fld := fld 0x1100004 24 24 0 .ro
def F.SEC_STATE.CHAL_VALID : Fld := fld 0x1100004 23 23 0 .ro

/-- Address of SEC_LC_CMD. -/
def R.SEC_LC_CMD : Nat := 0x1100008
def F.SEC_LC_CMD.KEY : Fld := fld 0x1100008 31 16 0 .wo
def F.SEC_LC_CMD.OP : Fld := fld 0x1100008 3 0 0 .wo

/-- Address of SEC_LC_STATUS. -/
def R.SEC_LC_STATUS : Nat := 0x110000C
def F.SEC_LC_STATUS.STATE : Fld := fld 0x110000C 31 30 0 .ro
def F.SEC_LC_STATUS.REASON : Fld := fld 0x110000C 29 26 0 .ro

/-- Address of SEC_FUSE_IDX. -/
def R.SEC_FUSE_IDX : Nat := 0x1100010
def F.SEC_FUSE_IDX.WORD : Fld := fld 0x1100010 5 0 0 .rwL

/-- Address of SEC_FUSE_DATA. -/
def R.SEC_FUSE_DATA : Nat := 0x1100014
def F.SEC_FUSE_DATA.DATA : Fld := fld 0x1100014 31 0 0 .fus

/-- Address of SEC_DBG_CTRL. -/
def R.SEC_DBG_CTRL : Nat := 0x1100018
def F.SEC_DBG_CTRL.KEY : Fld := fld 0x1100018 31 16 0 .wo
def F.SEC_DBG_CTRL.END : Fld := fld 0x1100018 0 0 0 .wo

/-- Address of SEC_DBG_CFG. -/
def R.SEC_DBG_CFG : Nat := 0x110001C
def F.SEC_DBG_CFG.IDLE_S : Fld := fld 0x110001C 15 0 600 .rwL

/-- Address of SEC_TAMPER_CFG. -/
def R.SEC_TAMPER_CFG : Nat := 0x1100020
def F.SEC_TAMPER_CFG.WIPE : Fld := fld 0x1100020 0 0 0 .rwL

/-- Address of SEC_ZEROISE. -/
def R.SEC_ZEROISE : Nat := 0x1100024
def F.SEC_ZEROISE.KEY : Fld := fld 0x1100024 31 16 0 .wo
def F.SEC_ZEROISE.GO : Fld := fld 0x1100024 0 0 0 .wo

/-- Address of SEC_WIPE. -/
def R.SEC_WIPE : Nat := 0x1100028
def F.SEC_WIPE.PEND_STEWARD : Fld := fld 0x1100028 30 30 0 .tal
def F.SEC_WIPE.PEND_BACKING : Fld := fld 0x1100028 29 29 0 .tal
def F.SEC_WIPE.PEND_VAULT : Fld := fld 0x1100028 28 28 0 .tal
def F.SEC_WIPE.EPOCH : Fld := fld 0x1100028 23 0 0 .tal

/-- Address of SEC_DBG_OPENED. -/
def R.SEC_DBG_OPENED : Nat := 0x110002C
def F.SEC_DBG_OPENED.COUNT : Fld := fld 0x110002C 31 0 0 .tal

/-- Address of SEC_DBG_CTR. -/
def R.SEC_DBG_CTR : Nat := 0x1100030
def F.SEC_DBG_CTR.COUNT : Fld := fld 0x1100030 31 0 0 .tal

/-- Address of SEC_DBG_FAIL. -/
def R.SEC_DBG_FAIL : Nat := 0x1100034
def F.SEC_DBG_FAIL.FAIL : Fld := fld 0x1100034 7 0 0 .tal

/-- Address of SEC_TAMPER_COUNT. -/
def R.SEC_TAMPER_COUNT : Nat := 0x1100038
def F.SEC_TAMPER_COUNT.COUNT : Fld := fld 0x1100038 31 0 0 .tal

/-! ### Registers of spec/16_flash_and_tallies.md -/

/-- Address of FLASH_ID. -/
def R.FLASH_ID : Nat := 0x1000000
def F.FLASH_ID.VERSION : Fld := fld 0x1000000 15 0 176 .ro

/-- Address of FLASH_CFG. -/
def R.FLASH_CFG : Nat := 0x1000004
def F.FLASH_CFG.STARVE_MS : Fld := fld 0x1000004 31 16 1000 .rwL
def F.FLASH_CFG.STARVE_N : Fld := fld 0x1000004 15 0 4096 .rwL

/-- Address of FLASH_SCRUB. -/
def R.FLASH_SCRUB : Nat := 0x1000008
def F.FLASH_SCRUB.EN : Fld := fld 0x1000008 31 31 1 .rwL
def F.FLASH_SCRUB.AGE_Y : Fld := fld 0x1000008 19 16 5 .rwL
def F.FLASH_SCRUB.PERIOD_S : Fld := fld 0x1000008 15 0 900 .rwL

/-- Address of FLASH_STATUS. -/
def R.FLASH_STATUS : Nat := 0x100000C
def F.FLASH_STATUS.STAGE : Fld := fld 0x100000C 31 30 0 .ro
def F.FLASH_STATUS.WARN : Fld := fld 0x100000C 29 29 0 .ro
def F.FLASH_STATUS.STARVED : Fld := fld 0x100000C 28 28 0 .ro
def F.FLASH_STATUS.LOST : Fld := fld 0x100000C 27 27 0 .ro
def F.FLASH_STATUS.ERASING : Fld := fld 0x100000C 26 26 0 .ro
def F.FLASH_STATUS.SUSPENDED : Fld := fld 0x100000C 25 25 0 .ro
def F.FLASH_STATUS.SPARES_LEFT : Fld := fld 0x100000C 19 16 8 .ro
def F.FLASH_STATUS.RESERVE_LEFT : Fld := fld 0x100000C 15 12 4 .ro
def F.FLASH_STATUS.ERASE_BLK : Fld := fld 0x100000C 8 0 0 .ro

/-- Address of FLASH_WEAR. -/
def R.FLASH_WEAR : Nat := 0x1000010
def F.FLASH_WEAR.RESERVE_WEAR : Fld := fld 0x1000010 15 8 0 .ro
def F.FLASH_WEAR.TALLY_WEAR : Fld := fld 0x1000010 7 0 0 .ro

/-- Address of FLASH_SUSPENDS. -/
def R.FLASH_SUSPENDS : Nat := 0x1000014
def F.FLASH_SUSPENDS.MAX : Fld := fld 0x1000014 31 16 0 .ro
def F.FLASH_SUSPENDS.CUR : Fld := fld 0x1000014 15 0 0 .ro

/-- Address of FLASH_BLK_IDX. -/
def R.FLASH_BLK_IDX : Nat := 0x1000018
def F.FLASH_BLK_IDX.BLOCK : Fld := fld 0x1000018 8 0 0 .rwL

/-- Address of FLASH_BLK_INFO. -/
def R.FLASH_BLK_INFO : Nat := 0x100001C
def F.FLASH_BLK_INFO.RETIRED : Fld := fld 0x100001C 31 31 0 .ro
def F.FLASH_BLK_INFO.FROZEN : Fld := fld 0x100001C 30 30 0 .ro
def F.FLASH_BLK_INFO.MARKED : Fld := fld 0x100001C 29 29 0 .ro
def F.FLASH_BLK_INFO.ROLE : Fld := fld 0x100001C 28 24 0 .ro
def F.FLASH_BLK_INFO.COUNT : Fld := fld 0x100001C 23 0 0 .ro

/-- Address of FLASH_TALLY_IDX. -/
def R.FLASH_TALLY_IDX : Nat := 0x1000020
def F.FLASH_TALLY_IDX.SHADOW : Fld := fld 0x1000020 31 31 0 .ro
def F.FLASH_TALLY_IDX.CLASS_A : Fld := fld 0x1000020 30 30 0 .ro
def F.FLASH_TALLY_IDX.ID : Fld := fld 0x1000020 10 0 0 .rwL

/-- Address of FLASH_TALLY_DATA. -/
def R.FLASH_TALLY_DATA : Nat := 0x1000024
def F.FLASH_TALLY_DATA.VALUE : Fld := fld 0x1000024 31 0 0 .tal

/-- Address of FLASH_TALLY_STATUS. -/
def R.FLASH_TALLY_STATUS : Nat := 0x1000028
def F.FLASH_TALLY_STATUS.LAST : Fld := fld 0x1000028 31 30 0 .ro
def F.FLASH_TALLY_STATUS.PEND : Fld := fld 0x1000028 15 11 0 .ro
def F.FLASH_TALLY_STATUS.LAST_ID : Fld := fld 0x1000028 10 0 0 .ro

/-- Address of FLASH_CNT_SEL. -/
def R.FLASH_CNT_SEL : Nat := 0x100002C
def F.FLASH_CNT_SEL.COUNTER : Fld := fld 0x100002C 31 24 0 .rwL
def F.FLASH_CNT_SEL.CLEAR : Fld := fld 0x100002C 9 9 0 .wo
def F.FLASH_CNT_SEL.FREEZE : Fld := fld 0x100002C 8 8 0 .rwL

/-- Address of FLASH_CNT. -/
def R.FLASH_CNT : Nat := 0x1000030
def F.FLASH_CNT.VALUE : Fld := fld 0x1000030 31 0 0 .ro

/-- Address of FLASH_LIFE_HOURS. -/
def R.FLASH_LIFE_HOURS : Nat := 0x1000034
def F.FLASH_LIFE_HOURS.HOURS : Fld := fld 0x1000034 31 0 0 .tal

/-! ### Registers of spec/17_field_update_and_migration.md -/

/-- Address of OST_PH_CTRL. -/
def R.OST_PH_CTRL : Nat := 0x0100060
def F.OST_PH_CTRL.KEY : Fld := fld 0x0100060 31 16 0 .wo
def F.OST_PH_CTRL.ABORT : Fld := fld 0x0100060 0 0 0 .wo

/-- Address of OST_PH_STATUS. -/
def R.OST_PH_STATUS : Nat := 0x0100064
def F.OST_PH_STATUS.INSTALL : Fld := fld 0x0100064 27 24 0 .ro
def F.OST_PH_STATUS.VERIFYING : Fld := fld 0x0100064 23 23 0 .ro
def F.OST_PH_STATUS.ERASING : Fld := fld 0x0100064 22 22 0 .ro
def F.OST_PH_STATUS.LAST_SHEAF_BAD : Fld := fld 0x0100064 7 0 0 .ro

/-- Address of OST_PH_PROGRESS. -/
def R.OST_PH_PROGRESS : Nat := 0x0100068
def F.OST_PH_PROGRESS.PRESENT : Fld := fld 0x0100068 29 16 0 .ro
def F.OST_PH_PROGRESS.PIECES : Fld := fld 0x0100068 13 0 0 .ro

/-- Address of OST_PH_STATE. -/
def R.OST_PH_STATE : Nat := 0x010006C
def F.OST_PH_STATE.STATE : Fld := fld 0x010006C 31 28 0 .tal
def F.OST_PH_STATE.MAN_MAP : Fld := fld 0x010006C 7 0 0 .tal

/-- Address of OST_PH_ID. -/
def R.OST_PH_ID : Nat := 0x0100070
def F.OST_PH_ID.UPDATE_ID : Fld := fld 0x0100070 31 0 0 .tal

/-- Address of OST_MIG. -/
def R.OST_MIG : Nat := 0x0100074
def F.OST_MIG.OPEN : Fld := fld 0x0100074 31 31 0 .tal
def F.OST_MIG.TARGET : Fld := fld 0x0100074 15 0 0 .tal

/-- Address of OST_PH_CNT_SEL. -/
def R.OST_PH_CNT_SEL : Nat := 0x0100078
def F.OST_PH_CNT_SEL.COUNTER : Fld := fld 0x0100078 31 24 0 .rwL
def F.OST_PH_CNT_SEL.CLEAR : Fld := fld 0x0100078 9 9 0 .wo
def F.OST_PH_CNT_SEL.FREEZE : Fld := fld 0x0100078 8 8 0 .rwL

/-- Address of OST_PH_CNT. -/
def R.OST_PH_CNT : Nat := 0x010007C
def F.OST_PH_CNT.VALUE : Fld := fld 0x010007C 31 0 0 .ro

/-! ### Registers of spec/18_assay_metrology.md -/

/-- Address of HATCH_ID. -/
def R.HATCH_ID : Nat := 0x1200000
def F.HATCH_ID.ASSAY_REV : Fld := fld 0x1200000 31 16 8292 .ro
def F.HATCH_ID.VERSION : Fld := fld 0x1200000 15 0 176 .ro

/-- Address of HATCH_CMD. -/
def R.HATCH_CMD : Nat := 0x1200004
def F.HATCH_CMD.CMD : Fld := fld 0x1200004 7 0 0 .wo

/-- Address of HATCH_ARG0. -/
def R.HATCH_ARG0 : Nat := 0x1200008
def F.HATCH_ARG0.ARG0 : Fld := fld 0x1200008 31 0 0 .rwL

/-- Address of HATCH_STATUS. -/
def R.HATCH_STATUS : Nat := 0x120000C
def F.HATCH_STATUS.STATE : Fld := fld 0x120000C 31 30 0 .ro
def F.HATCH_STATUS.RESULT : Fld := fld 0x120000C 29 24 0 .ro
def F.HATCH_STATUS.LEN : Fld := fld 0x120000C 7 0 0 .ro

/-- Address of HATCH_ASSAY. -/
def R.HATCH_ASSAY : Nat := 0x1200010
def F.HATCH_ASSAY.ASSAY_UP : Fld := fld 0x1200010 31 31 0 .ro
def F.HATCH_ASSAY.SEAL_OPEN : Fld := fld 0x1200010 30 30 0 .ro
def F.HATCH_ASSAY.CLOCK_FAULT : Fld := fld 0x1200010 29 29 0 .ro
def F.HATCH_ASSAY.FLASH_FAULT : Fld := fld 0x1200010 28 28 0 .ro
def F.HATCH_ASSAY.TIME_LOST : Fld := fld 0x1200010 27 27 0 .ro
def F.HATCH_ASSAY.OVERRANGE : Fld := fld 0x1200010 23 16 0 .ro
def F.HATCH_ASSAY.EN : Fld := fld 0x1200010 15 8 0 .ro

/-- Address of HATCH_RTC. -/
def R.HATCH_RTC : Nat := 0x1200014
def F.HATCH_RTC.RTC : Fld := fld 0x1200014 31 0 0 .ro

/-- Address of HATCH_LAST_SEQ. -/
def R.HATCH_LAST_SEQ : Nat := 0x1200018
def F.HATCH_LAST_SEQ.SEQ : Fld := fld 0x1200018 31 0 0 .ro

/-- Address of HATCH_SEAL. -/
def R.HATCH_SEAL : Nat := 0x120001C
def F.HATCH_SEAL.COUNT : Fld := fld 0x120001C 12 0 0 .ro

/-- Address of HATCH_LOG_HEAD. -/
def R.HATCH_LOG_HEAD : Nat := 0x1200020
def F.HATCH_LOG_HEAD.IDX : Fld := fld 0x1200020 31 0 0 .ro

/-- Address of HATCH_CNT_SEL. -/
def R.HATCH_CNT_SEL : Nat := 0x1200024
def F.HATCH_CNT_SEL.COUNTER : Fld := fld 0x1200024 31 24 0 .rwL
def F.HATCH_CNT_SEL.CLEAR : Fld := fld 0x1200024 9 9 0 .wo
def F.HATCH_CNT_SEL.FREEZE : Fld := fld 0x1200024 8 8 0 .rwL

/-- Address of HATCH_CNT. -/
def R.HATCH_CNT : Nat := 0x1200028
def F.HATCH_CNT.VALUE : Fld := fld 0x1200028 31 0 0 .ro

/-- Address of HATCH_DATA. -/
def R.HATCH_DATA (k : Nat) : Nat := 0x1200100 + 4 * k
def F.HATCH_DATA.DATA (k : Nat) : Fld := fld (0x1200100 + 4 * k) 31 0 0 .rwL

/-! ### Registers of spec/19_errors_and_conservation.md -/

/-- Address of CLERK_ERR_SEL. -/
def R.CLERK_ERR_SEL : Nat := 0x0200090
def F.CLERK_ERR_SEL.ORIGIN : Fld := fld 0x0200090 4 0 0 .rwL

/-- Address of CLERK_ERR_PRIM. -/
def R.CLERK_ERR_PRIM : Nat := 0x0200094
def F.CLERK_ERR_PRIM.VALUE : Fld := fld 0x0200094 31 0 0 .ro

/-- Address of CLERK_ERR_SEC. -/
def R.CLERK_ERR_SEC : Nat := 0x0200098
def F.CLERK_ERR_SEC.VALUE : Fld := fld 0x0200098 31 0 0 .ro

/-- Address of CLERK_ERR_ACK. -/
def R.CLERK_ERR_ACK : Nat := 0x020009C
def F.CLERK_ERR_ACK.ORIGIN : Fld := fld 0x020009C 12 8 0 .wo

/-- Address of CLERK_ESC. -/
def R.CLERK_ESC : Nat := 0x02000A0
def F.CLERK_ESC.SECT_N : Fld := fld 0x02000A0 31 28 3 .rwL
def F.CLERK_ESC.SECT_WIN_S : Fld := fld 0x02000A0 27 16 60 .rwL
def F.CLERK_ESC.CONT_N : Fld := fld 0x02000A0 15 12 4 .rwL
def F.CLERK_ESC.CONT_WIN_MS : Fld := fld 0x02000A0 11 0 1000 .rwL

/-- Address of CLERK_MUSTER_CFG. -/
def R.CLERK_MUSTER_CFG : Nat := 0x02000A4
def F.CLERK_MUSTER_CFG.EN : Fld := fld 0x02000A4 31 31 1 .rwL
def F.CLERK_MUSTER_CFG.DEFER_MS : Fld := fld 0x02000A4 23 16 100 .rwL
def F.CLERK_MUSTER_CFG.PERIOD_MS : Fld := fld 0x02000A4 15 0 1000 .rwL

/-- Address of CLERK_MUSTER_STATUS. -/
def R.CLERK_MUSTER_STATUS : Nat := 0x02000A8
def F.CLERK_MUSTER_STATUS.MISMATCHED : Fld := fld 0x02000A8 31 24 0 .ro
def F.CLERK_MUSTER_STATUS.DEFERRED : Fld := fld 0x02000A8 23 16 0 .ro
def F.CLERK_MUSTER_STATUS.AUDITS : Fld := fld 0x02000A8 15 0 0 .ro

/-- Address of CLERK_LAST_FAULT. -/
def R.CLERK_LAST_FAULT : Nat := 0x02000AC
def F.CLERK_LAST_FAULT.SEVERITY : Fld := fld 0x02000AC 30 28 0 .tal
def F.CLERK_LAST_FAULT.ORIGIN : Fld := fld 0x02000AC 27 23 0 .tal
def F.CLERK_LAST_FAULT.KIND : Fld := fld 0x02000AC 15 8 0 .tal
def F.CLERK_LAST_FAULT.COUNT : Fld := fld 0x02000AC 7 0 0 .tal

/-! ### Registers of spec/20_pins_electrical_package.md -/

/-- Address of PIN_ID. -/
def R.PIN_ID : Nat := 0x1400000
def F.PIN_ID.VERSION : Fld := fld 0x1400000 15 0 176 .ro

/-- Address of PIN_STRAP. -/
def R.PIN_STRAP : Nat := 0x1400004
def F.PIN_STRAP.HITCH_ADDR : Fld := fld 0x1400004 1 0 0 .ro

/-- Address of PIN_GPIO_OE. -/
def R.PIN_GPIO_OE : Nat := 0x1400008
def F.PIN_GPIO_OE.OE : Fld := fld 0x1400008 23 0 0 .rwL

/-- Address of PIN_GPIO_OUT. -/
def R.PIN_GPIO_OUT : Nat := 0x140000C
def F.PIN_GPIO_OUT.OUT : Fld := fld 0x140000C 23 0 0 .rwL

/-- Address of PIN_GPIO_IN. -/
def R.PIN_GPIO_IN : Nat := 0x1400010
def F.PIN_GPIO_IN.IN : Fld := fld 0x1400010 23 0 0 .ro

/-- Address of PIN_GPIO_RISE. -/
def R.PIN_GPIO_RISE : Nat := 0x1400014
def F.PIN_GPIO_RISE.RISE : Fld := fld 0x1400014 23 0 0 .rwL

/-- Address of PIN_GPIO_FALL. -/
def R.PIN_GPIO_FALL : Nat := 0x1400018
def F.PIN_GPIO_FALL.FALL : Fld := fld 0x1400018 23 0 0 .rwL

/-- Address of PIN_GPIO_EVT. -/
def R.PIN_GPIO_EVT : Nat := 0x140001C
def F.PIN_GPIO_EVT.EVT : Fld := fld 0x140001C 23 0 0 .w1c

/-- Address of PIN_TEMP. -/
def R.PIN_TEMP : Nat := 0x1400020
def F.PIN_TEMP.TACK : Fld := fld 0x1400020 23 16 0 .ro
def F.PIN_TEMP.BRIDLE : Fld := fld 0x1400020 15 8 0 .ro
def F.PIN_TEMP.SADDLE : Fld := fld 0x1400020 7 0 0 .ro

/-- Address of PIN_THERM. -/
def R.PIN_THERM : Nat := 0x1400024
def F.PIN_THERM.WARN_C : Fld := fld 0x1400024 7 0 100 .rwL

/-! ### The register descriptors, block by block -/

/-- Descriptors of the common engine header registers. -/
def Regs.engHeader (e : Nat) : List RegDesc := [
  ⟨R.ENG_ID e, .never, false, true, 0,
    [F.ENG_ID.SECTION e, F.ENG_ID.ENGINE e, F.ENG_ID.VERSION e]⟩,
  ⟨R.ENG_CTRL e, .sect, false, false, 0,
    [F.ENG_CTRL.CNT_CLEAR e, F.ENG_CTRL.CNT_FREEZE e, F.ENG_CTRL.HOLD e, F.ENG_CTRL.STOP e]⟩,
  ⟨R.ENG_STATUS e, .engine, false, true, 0,
    [F.ENG_STATUS.BOUNDARY_COUNT e, F.ENG_STATUS.DRAIN_TIMEOUT e, F.ENG_STATUS.BANK_PEND e, F.ENG_STATUS.SHADOW_PEND e, F.ENG_STATUS.STATE e]⟩,
  ⟨R.ENG_ERR_PRIMARY e, .device, false, true, 0,
    [F.ENG_ERR_PRIMARY.VALID e, F.ENG_ERR_PRIMARY.SEVERITY e, F.ENG_ERR_PRIMARY.ESCALATED e, F.ENG_ERR_PRIMARY.KIND e, F.ENG_ERR_PRIMARY.LANE e]⟩,
  ⟨R.ENG_ERR_SECONDARY_COUNT e, .device, false, true, 0,
    [F.ENG_ERR_SECONDARY_COUNT.WORST e, F.ENG_ERR_SECONDARY_COUNT.COUNT e]⟩,
  ⟨R.ENG_BANK e, .engine, false, false, 0,
    [F.ENG_BANK.PEND e, F.ENG_BANK.ACTIVE e]⟩,
  ⟨R.ENG_BANK_REQ e, .never, false, false, 0,
    [F.ENG_BANK_REQ.COPY e, F.ENG_BANK_REQ.SWITCH e]⟩,
  ⟨R.ENG_LANE_IDX e, .engine, false, false, 0,
    [F.ENG_LANE_IDX.COUNTER e, F.ENG_LANE_IDX.LANE e]⟩,
  ⟨R.ENG_LANE_CNT e, .engine, false, false, 0,
    [F.ENG_LANE_CNT.VALUE e]⟩]

/-- Descriptors of the TOP registers. -/
def Regs.topBlock : List RegDesc := [
  ⟨R.TOP_ID, .never, false, true, 0,
    [F.TOP_ID.PART, F.TOP_ID.STEP, F.TOP_ID.DRAM]⟩,
  ⟨R.TOP_SECT_STATE, .engine, false, true, 0,
    [F.TOP_SECT_STATE.S5, F.TOP_SECT_STATE.S4, F.TOP_SECT_STATE.S3, F.TOP_SECT_STATE.S2, F.TOP_SECT_STATE.S1, F.TOP_SECT_STATE.S0]⟩,
  ⟨R.TOP_ENG_GATE, .device, false, false, 0,
    [F.TOP_ENG_GATE.GATE]⟩,
  ⟨R.TOP_ENG_RESET, .never, false, false, 0,
    [F.TOP_ENG_RESET.ENG]⟩,
  ⟨R.TOP_SECT_RESET, .never, false, false, 0,
    [F.TOP_SECT_RESET.SECT]⟩,
  ⟨R.TOP_DEV_RESET, .never, false, false, 1,
    [F.TOP_DEV_RESET.KEY, F.TOP_DEV_RESET.GO]⟩,
  ⟨R.TOP_RESET_CAUSE, .never, false, true, 0,
    [F.TOP_RESET_CAUSE.SOURCE, F.TOP_RESET_CAUSE.KIND]⟩,
  ⟨R.TOP_AVS_CTRL, .device, true, false, 0,
    [F.TOP_AVS_CTRL.FREEZE, F.TOP_AVS_CTRL.GAIN_SHIFT, F.TOP_AVS_CTRL.STEP, F.TOP_AVS_CTRL.URGENT, F.TOP_AVS_CTRL.TARGET, F.TOP_AVS_CTRL.SETTLE_US, F.TOP_AVS_CTRL.PERIOD_MS]⟩,
  ⟨R.TOP_AVS_BOUND, .device, true, false, 0,
    [F.TOP_AVS_BOUND.DROOP_HOLD, F.TOP_AVS_BOUND.VMAX, F.TOP_AVS_BOUND.VMIN]⟩,
  ⟨R.TOP_AVS_STATUS, .device, false, true, 0,
    [F.TOP_AVS_STATUS.AVS_FAULT, F.TOP_AVS_STATUS.AT_BOUND, F.TOP_AVS_STATUS.SLACK, F.TOP_AVS_STATUS.V, F.TOP_AVS_STATUS.BUS_ERR, F.TOP_AVS_STATUS.URGENT_CNT]⟩,
  ⟨R.TOP_DROOP_CTRL, .device, true, false, 0,
    [F.TOP_DROOP_CTRL.EN, F.TOP_DROOP_CTRL.LIMIT, F.TOP_DROOP_CTRL.THRESH_MV]⟩,
  ⟨R.TOP_DROOP_STATUS, .device, false, false, 0,
    [F.TOP_DROOP_STATUS.STRETCHES]⟩]

/-- Descriptors of the OST registers. -/
def Regs.ostBlock : List RegDesc := [
  ⟨R.OST_START_STATUS, .device, false, true, 0,
    [F.OST_START_STATUS.STEP, F.OST_START_STATUS.FAIL_A, F.OST_START_STATUS.FAIL_B, F.OST_START_STATUS.LAME, F.OST_START_STATUS.SLOT_RUN, F.OST_START_STATUS.INSTALLED, F.OST_START_STATUS.MIGRATED, F.OST_START_STATUS.TALLY_LAYOUT]⟩,
  ⟨R.OST_START_TIME, .device, false, true, 0,
    [F.OST_START_TIME.GALLOP_MS, F.OST_START_TIME.WALK_MS]⟩,
  ⟨R.OST_IMG_VERSION, .device, false, true, 0,
    [F.OST_IMG_VERSION.VERSION]⟩,
  ⟨R.OST_NOR_INFO, .device, false, false, 0,
    [F.OST_NOR_INFO.DENSITY_LOG2, F.OST_NOR_INFO.CS1, F.OST_NOR_INFO.SFDP, F.OST_NOR_INFO.MODE, F.OST_NOR_INFO.ADDR4]⟩,
  ⟨R.OST_BOOT, .never, false, true, 0,
    [F.OST_BOOT.TRIES, F.OST_BOOT.TRIAL, F.OST_BOOT.ACTIVE]⟩,
  ⟨R.OST_BOOT_COUNT, .never, false, true, 0,
    [F.OST_BOOT_COUNT.COUNT]⟩,
  ⟨R.OST_SETTLE, .never, false, false, 0,
    [F.OST_SETTLE.KEY, F.OST_SETTLE.GO]⟩,
  ⟨R.OST_PH_CTRL, .never, false, false, 0,
    [F.OST_PH_CTRL.KEY, F.OST_PH_CTRL.ABORT]⟩,
  ⟨R.OST_PH_STATUS, .device, false, true, 0,
    [F.OST_PH_STATUS.INSTALL, F.OST_PH_STATUS.VERIFYING, F.OST_PH_STATUS.ERASING, F.OST_PH_STATUS.LAST_SHEAF_BAD]⟩,
  ⟨R.OST_PH_PROGRESS, .engine, false, true, 0,
    [F.OST_PH_PROGRESS.PRESENT, F.OST_PH_PROGRESS.PIECES]⟩,
  ⟨R.OST_PH_STATE, .never, false, true, 0,
    [F.OST_PH_STATE.STATE, F.OST_PH_STATE.MAN_MAP]⟩,
  ⟨R.OST_PH_ID, .never, false, true, 0,
    [F.OST_PH_ID.UPDATE_ID]⟩,
  ⟨R.OST_MIG, .never, false, false, 0,
    [F.OST_MIG.OPEN, F.OST_MIG.TARGET]⟩,
  ⟨R.OST_PH_CNT_SEL, .device, false, false, 0,
    [F.OST_PH_CNT_SEL.COUNTER, F.OST_PH_CNT_SEL.CLEAR, F.OST_PH_CNT_SEL.FREEZE]⟩,
  ⟨R.OST_PH_CNT, .engine, false, false, 0,
    [F.OST_PH_CNT.VALUE]⟩]

/-- Descriptors of the PHY registers. -/
def Regs.phyBlock : List RegDesc := [
  ⟨R.PHY_ID, .never, false, false, 0,
    [F.PHY_ID.VERSION]⟩,
  ⟨R.PHY_BANK, .device, false, false, 0,
    [F.PHY_BANK.PEND, F.PHY_BANK.ACTIVE]⟩,
  ⟨R.PHY_BANK_REQ, .never, false, false, 0,
    [F.PHY_BANK_REQ.COPY, F.PHY_BANK_REQ.SWITCH]⟩,
  ⟨R.PHY_CNT_SEL, .device, false, false, 0,
    [F.PHY_CNT_SEL.COUNTER, F.PHY_CNT_SEL.CLEAR, F.PHY_CNT_SEL.FREEZE, F.PHY_CNT_SEL.RADIO]⟩,
  ⟨R.PHY_CNT, .engine, false, false, 0,
    [F.PHY_CNT.VALUE]⟩,
  ⟨R.PHY_SP_CTRL, .device, true, false, 0,
    [F.PHY_SP_CTRL.FALLBACK, F.PHY_SP_CTRL.EN]⟩,
  ⟨R.PHY_SP_STATUS, .engine, false, false, 0,
    [F.PHY_SP_STATUS.LIMIT, F.PHY_SP_STATUS.EXPIRED, F.PHY_SP_STATUS.ACTIVE]⟩]

/-- Descriptors of the PHY per-radio registers. -/
def Regs.phyRadio (r : Nat) : List RegDesc := [
  ⟨R.PHY_CHAN r, .device, true, false, 0,
    [F.PHY_CHAN.SEC_BELOW r, F.PHY_CHAN.CH320 r, F.PHY_CHAN.WIDTH r, F.PHY_CHAN.PRIMARY r, F.PHY_CHAN.CHAINS r]⟩,
  ⟨R.PHY_PUNCT r, .device, true, false, 0,
    [F.PHY_PUNCT.STATIC r]⟩,
  ⟨R.PHY_CAPTURE r, .device, true, false, 0,
    [F.PHY_CAPTURE.RESTART_EN r, F.PHY_CAPTURE.EN r, F.PHY_CAPTURE.MARGIN r]⟩,
  ⟨R.PHY_CCA r, .device, true, false, 0,
    [F.PHY_CCA.ED r, F.PHY_CCA.PD r]⟩,
  ⟨R.PHY_OBSS_LOOP r, .device, true, false, 0,
    [F.PHY_OBSS_LOOP.EN r, F.PHY_OBSS_LOOP.FREEZE r, F.PHY_OBSS_LOOP.MAX r, F.PHY_OBSS_LOOP.MIN r, F.PHY_OBSS_LOOP.STEP r, F.PHY_OBSS_LOOP.GAIN_SHIFT r]⟩,
  ⟨R.PHY_OBSS_CFG r, .device, true, false, 0,
    [F.PHY_OBSS_CFG.PERIOD r, F.PHY_OBSS_CFG.MARGIN r]⟩,
  ⟨R.PHY_LDPC r, .device, true, false, 0,
    [F.PHY_LDPC.MAX_ITER r]⟩,
  ⟨R.PHY_STATUS r, .engine, false, false, 0,
    [F.PHY_STATUS.OBSS_LEVEL r, F.PHY_STATUS.OBSS_AT_BOUND r, F.PHY_STATUS.CHAN_DENIED r, F.PHY_STATUS.STATE r, F.PHY_STATUS.LAST_RSSI r, F.PHY_STATUS.NOISE r]⟩]

/-- Descriptors of the link MAC registers. -/
def Regs.lmBlock (r : Nat) : List RegDesc := [
  ⟨R.LM_MAC_CFG r, .device, true, false, 0,
    if r = 2 then [F.LM_MAC_CFG.TSF_PTP r, F.LM_MAC_CFG.DSSS_SHORT r, F.LM_MAC_CFG.ERP_PROT r, F.LM_MAC_CFG.SLOT r]
    else [F.LM_MAC_CFG.TSF_PTP r]⟩,
  ⟨R.LM_RTS_CFG r, .device, true, false, 0,
    [F.LM_RTS_CFG.RTS_THRESH r, F.LM_RTS_CFG.RESP_TIMEOUT r]⟩,
  ⟨R.LM_BCN_CTRL r, .device, true, false, 0,
    [F.LM_BCN_CTRL.EN r, F.LM_BCN_CTRL.LATE_MAX r]⟩,
  ⟨R.LM_EDCA_BE r, .device, true, false, 0,
    [F.LM_EDCA_BE.TXOP_LIMIT r, F.LM_EDCA_BE.ECWMAX r, F.LM_EDCA_BE.ECWMIN r, F.LM_EDCA_BE.AIFSN r]⟩,
  ⟨R.LM_EDCA_BK r, .device, true, false, 0,
    [F.LM_EDCA_BK.TXOP_LIMIT r, F.LM_EDCA_BK.ECWMAX r, F.LM_EDCA_BK.ECWMIN r, F.LM_EDCA_BK.AIFSN r]⟩,
  ⟨R.LM_EDCA_VI r, .device, true, false, 0,
    [F.LM_EDCA_VI.TXOP_LIMIT r, F.LM_EDCA_VI.ECWMAX r, F.LM_EDCA_VI.ECWMIN r, F.LM_EDCA_VI.AIFSN r]⟩,
  ⟨R.LM_EDCA_VO r, .device, true, false, 0,
    [F.LM_EDCA_VO.TXOP_LIMIT r, F.LM_EDCA_VO.ECWMAX r, F.LM_EDCA_VO.ECWMIN r, F.LM_EDCA_VO.AIFSN r]⟩,
  ⟨R.LM_TSF_LO r, .device, false, false, 0,
    [F.LM_TSF_LO.TSF r]⟩,
  ⟨R.LM_TSF_HI r, .device, false, false, 0,
    [F.LM_TSF_HI.TSF r]⟩,
  ⟨R.LM_STATUS r, .engine, false, false, 0,
    [F.LM_STATUS.NAV_US r, F.LM_STATUS.RESP_OWED r, F.LM_STATUS.TXOP_HELD r, F.LM_STATUS.INTRA_NAV r, F.LM_STATUS.TXOP_AC r, F.LM_STATUS.SLOTS_FREE r]⟩,
  ⟨R.LM_CNT_SEL r, .device, false, false, 0,
    [F.LM_CNT_SEL.COUNTER r, F.LM_CNT_SEL.CLEAR r, F.LM_CNT_SEL.FREEZE r]⟩,
  ⟨R.LM_CNT r, .engine, false, false, 0,
    [F.LM_CNT.VALUE r]⟩,
  ⟨R.LM_BH_CTRL r, .device, true, false, 0,
    if r = 2 then [] else [F.LM_BH_CTRL.EN r, F.LM_BH_CTRL.STA r, F.LM_BH_CTRL.BCN_LOSS r, F.LM_BH_CTRL.VIF r]⟩,
  ⟨R.LM_BH_STATUS r, .engine, false, false, 0,
    if r = 2 then [] else [F.LM_BH_STATUS.LINKED r, F.LM_BH_STATUS.CONFLICT r, F.LM_BH_STATUS.MISSED r]⟩]

/-- Descriptors of the MARS registers. -/
def Regs.marsBlock : List RegDesc := [
  ⟨R.MARS_CFG, .device, true, false, 0,
    [F.MARS_CFG.SPREAD, F.MARS_CFG.SPREAD_KB]⟩,
  ⟨R.MARS_YOKE, .device, true, false, 0,
    [F.MARS_YOKE.FORCE, F.MARS_YOKE.GAP_MHZ]⟩,
  ⟨R.MARS_LOOP, .device, true, false, 0,
    [F.MARS_LOOP.FREEZE, F.MARS_LOOP.LQ_SHIFT, F.MARS_LOOP.PERIOD_MS, F.MARS_LOOP.HYST, F.MARS_LOOP.MIN_HOLD, F.MARS_LOOP.MOVE_MAX]⟩,
  ⟨R.MARS_STATUS, .engine, false, false, 0,
    [F.MARS_STATUS.YOKED, F.MARS_STATUS.AT_BOUND, F.MARS_STATUS.MOVED, F.MARS_STATUS.PERIODS]⟩,
  ⟨R.MARS_UTIL, .engine, false, false, 0,
    [F.MARS_UTIL.U2, F.MARS_UTIL.U1, F.MARS_UTIL.U0]⟩,
  ⟨R.MARS_CNT_SEL, .device, false, false, 0,
    [F.MARS_CNT_SEL.COUNTER, F.MARS_CNT_SEL.CLEAR, F.MARS_CNT_SEL.FREEZE]⟩,
  ⟨R.MARS_CNT, .engine, false, false, 0,
    [F.MARS_CNT.VALUE]⟩]

/-- Descriptors of the DROV registers. -/
def Regs.drovBlock : List RegDesc := [
  ⟨R.DROV_RATION, .device, true, false, 0,
    [F.DROV_RATION.CAP_SHIFT, F.DROV_RATION.QUANTUM_US]⟩,
  ⟨R.DROV_FMT, .device, true, false, 0,
    [F.DROV_FMT.MU_EN, F.DROV_FMT.OFDMA_EN, F.DROV_FMT.MAX_USERS, F.DROV_FMT.GROUP_LOSS_DB, F.DROV_FMT.SU_US]⟩,
  ⟨R.DROV_QCFG, .device, true, false, 0,
    [F.DROV_QCFG.AGE_MS, F.DROV_QCFG.MAX_PPDU_US]⟩,
  ⟨R.DROV_SOUND, .device, true, false, 0,
    [F.DROV_SOUND.MAX_AGE_MS, F.DROV_SOUND.SOUND_MS]⟩,
  ⟨R.DROV_UL, .device, true, false, 0,
    [F.DROV_UL.UL_EN, F.DROV_UL.BSRP_MS, F.DROV_UL.SHARE]⟩,
  ⟨R.DROV_PLAN, .device, true, false, 0,
    [F.DROV_PLAN.RUNAHEAD]⟩,
  ⟨R.DROV_STATUS, .engine, false, false, 0,
    [F.DROV_STATUS.S2_R2, F.DROV_STATUS.S1_R2, F.DROV_STATUS.S2_R1, F.DROV_STATUS.S1_R1, F.DROV_STATUS.S2_R0, F.DROV_STATUS.S1_R0]⟩,
  ⟨R.DROV_CNT_SEL, .device, false, false, 0,
    [F.DROV_CNT_SEL.COUNTER, F.DROV_CNT_SEL.CLEAR, F.DROV_CNT_SEL.FREEZE, F.DROV_CNT_SEL.RADIO]⟩,
  ⟨R.DROV_CNT, .engine, false, false, 0,
    [F.DROV_CNT.VALUE]⟩]

/-- Descriptors of the SIEVE registers. -/
def Regs.sieveBlock : List RegDesc := [
  ⟨R.SIEVE_SPAN, .device, true, false, 0,
    [F.SIEVE_SPAN.SPACING]⟩,
  ⟨R.SIEVE_CH0_FREQ, .device, true, false, 0,
    [F.SIEVE_CH0_FREQ.FREQ]⟩,
  ⟨R.SIEVE_RXCFG, .device, true, false, 0,
    [F.SIEVE_RXCFG.SFD_SET, F.SIEVE_RXCFG.IL, F.SIEVE_RXCFG.CAPTURE_EN, F.SIEVE_RXCFG.CAPTURE_MARGIN, F.SIEVE_RXCFG.POOL_MARGIN, F.SIEVE_RXCFG.CORR_MIN, F.SIEVE_RXCFG.PRE_TIMEOUT, F.SIEVE_RXCFG.RESERVE]⟩,
  ⟨R.SIEVE_DET_MARGIN, .device, true, false, 0,
    [F.SIEVE_DET_MARGIN.H3, F.SIEVE_DET_MARGIN.H2, F.SIEVE_DET_MARGIN.H1, F.SIEVE_DET_MARGIN.H0]⟩,
  ⟨R.SIEVE_NF_LOOP, .device, true, false, 0,
    [F.SIEVE_NF_LOOP.EN, F.SIEVE_NF_LOOP.FREEZE, F.SIEVE_NF_LOOP.GAIN_SHIFT, F.SIEVE_NF_LOOP.STEP, F.SIEVE_NF_LOOP.PERIOD_MS]⟩,
  ⟨R.SIEVE_NF_BOUND, .device, true, false, 0,
    [F.SIEVE_NF_BOUND.MAX, F.SIEVE_NF_BOUND.MIN]⟩,
  ⟨R.SIEVE_TXCFG, .device, true, false, 0,
    [F.SIEVE_TXCFG.MAX_TX, F.SIEVE_TXCFG.MAX_CUT, F.SIEVE_TXCFG.GAUSS]⟩,
  ⟨R.SIEVE_BLINK, .device, true, false, 0,
    [F.SIEVE_BLINK.OPEN, F.SIEVE_BLINK.TAIL_US, F.SIEVE_BLINK.DIST]⟩,
  ⟨R.SIEVE_STATUS, .engine, false, false, 0,
    [F.SIEVE_STATUS.SPAN_DENIED, F.SIEVE_STATUS.BLANK_ALL, F.SIEVE_STATUS.TX_ACTIVE, F.SIEVE_STATUS.AT_BOUND, F.SIEVE_STATUS.STALLS_FREE, F.SIEVE_STATUS.CHANNELS]⟩,
  ⟨R.SIEVE_STALLBUSY0, .engine, false, false, 0,
    [F.SIEVE_STALLBUSY0.BUSY]⟩,
  ⟨R.SIEVE_STALLBUSY1, .engine, false, false, 0,
    [F.SIEVE_STALLBUSY1.BUSY]⟩,
  ⟨R.SIEVE_STALLBUSY2, .engine, false, false, 0,
    [F.SIEVE_STALLBUSY2.BUSY]⟩,
  ⟨R.SIEVE_STALLBUSY3, .engine, false, false, 0,
    [F.SIEVE_STALLBUSY3.BUSY]⟩,
  ⟨R.SIEVE_CNT_SEL, .device, false, false, 0,
    [F.SIEVE_CNT_SEL.COUNTER, F.SIEVE_CNT_SEL.CLEAR, F.SIEVE_CNT_SEL.FREEZE]⟩,
  ⟨R.SIEVE_CNT, .engine, false, false, 0,
    [F.SIEVE_CNT.VALUE]⟩]

/-- Descriptors of the POST registers. -/
def Regs.postBlock : List RegDesc := [
  ⟨R.POST_CFG, .device, true, false, 0,
    [F.POST_CFG.BCAST_DELIVER, F.POST_CFG.DUP_EN, F.POST_CFG.ACK_EN]⟩,
  ⟨R.POST_ACK, .device, true, false, 0,
    [F.POST_ACK.TURN_US, F.POST_ACK.DL_GAP_US]⟩,
  ⟨R.POST_EVT, .device, true, false, 0,
    [F.POST_EVT.NODE_TURN_MAX_US, F.POST_EVT.PRE_OCT, F.POST_EVT.DL_RETRY]⟩,
  ⟨R.POST_TCFG, .device, true, false, 0,
    [F.POST_TCFG.DRIFT_FREEZE, F.POST_TCFG.DRIFT_SHIFT, F.POST_TCFG.FREE_PPM, F.POST_TCFG.LOCK_PPM]⟩,
  ⟨R.POST_DLQ, .device, true, false, 0,
    [F.POST_DLQ.MAX_FRAMES, F.POST_DLQ.LIFE_S]⟩,
  ⟨R.POST_TARG0, .device, false, false, 0,
    [F.POST_TARG0.GRANT_LIFE_S, F.POST_TARG0.MAP, F.POST_TARG0.PROFILE]⟩,
  ⟨R.POST_TARG1, .device, false, false, 0,
    [F.POST_TARG1.COUNTER0]⟩,
  ⟨R.POST_TARG2, .device, false, false, 0,
    [F.POST_TARG2.FIRST_LO]⟩,
  ⟨R.POST_TARG3, .device, false, false, 0,
    [F.POST_TARG3.FIRST_HI]⟩,
  ⟨R.POST_TCMD, .never, false, false, 0,
    [F.POST_TCMD.OP, F.POST_TCMD.NODE]⟩,
  ⟨R.POST_TCMD_STATUS, .engine, false, false, 0,
    [F.POST_TCMD_STATUS.STATE, F.POST_TCMD_STATUS.REASON, F.POST_TCMD_STATUS.NODE]⟩,
  ⟨R.POST_STATUS, .engine, false, false, 0,
    [F.POST_STATUS.TETHERED, F.POST_STATUS.REBUILD, F.POST_STATUS.CELLS_FREE16]⟩,
  ⟨R.POST_BAG_STATUS, .bor, false, false, 0,
    [F.POST_BAG_STATUS.FULL, F.POST_BAG_STATUS.FRAMES, F.POST_BAG_STATUS.BYTES]⟩,
  ⟨R.POST_CNT_SEL, .device, false, false, 0,
    [F.POST_CNT_SEL.COUNTER, F.POST_CNT_SEL.CLEAR, F.POST_CNT_SEL.FREEZE]⟩,
  ⟨R.POST_CNT, .engine, false, false, 0,
    [F.POST_CNT.VALUE]⟩]

/-- Descriptors of the RFC registers. -/
def Regs.rfcBlock : List RegDesc := [
  ⟨R.RFC_ID, .never, false, false, 0,
    [F.RFC_ID.VERSION]⟩,
  ⟨R.RFC_BANK, .device, false, false, 0,
    [F.RFC_BANK.PEND, F.RFC_BANK.ACTIVE]⟩,
  ⟨R.RFC_BANK_REQ, .never, false, false, 0,
    [F.RFC_BANK_REQ.COPY, F.RFC_BANK_REQ.SWITCH]⟩,
  ⟨R.RFC_CNT_SEL, .device, false, false, 0,
    [F.RFC_CNT_SEL.COUNTER, F.RFC_CNT_SEL.CLEAR, F.RFC_CNT_SEL.FREEZE, F.RFC_CNT_SEL.FE]⟩,
  ⟨R.RFC_CNT, .device, false, false, 0,
    [F.RFC_CNT.VALUE]⟩,
  ⟨R.RFC_REG_IDX, .device, false, false, 0,
    [F.RFC_REG_IDX.WORD]⟩,
  ⟨R.RFC_REG_DATA, .never, false, false, 0,
    [F.RFC_REG_DATA.DATA]⟩,
  ⟨R.RFC_IMGCAP, .device, true, false, 0,
    [F.RFC_IMGCAP.CAP3, F.RFC_IMGCAP.CAP2, F.RFC_IMGCAP.CAP1, F.RFC_IMGCAP.CAP0]⟩,
  ⟨R.RFC_STWCAP, .device, false, false, 0,
    [F.RFC_STWCAP.CAP3, F.RFC_STWCAP.CAP2, F.RFC_STWCAP.CAP1, F.RFC_STWCAP.CAP0]⟩,
  ⟨R.RFC_TEMP, .never, false, true, 0,
    [F.RFC_TEMP.T]⟩,
  ⟨R.RFC_CHAIN_STATE, .device, false, true, 0,
    [F.RFC_CHAIN_STATE.SHUT]⟩,
  ⟨R.RFC_CHAIN_REVIVE, .never, false, false, 0,
    [F.RFC_CHAIN_REVIVE.SHUT]⟩,
  ⟨R.RFC_DUTY_SEL, .device, false, false, 0,
    [F.RFC_DUTY_SEL.SUB]⟩,
  ⟨R.RFC_DUTY_USED, .bor, false, false, 0,
    [F.RFC_DUTY_USED.KEPT, F.RFC_DUTY_USED.USED]⟩]

/-- Descriptors of the RFC per-front-end registers. -/
def Regs.rfcFrontEnd (f : Nat) : List RegDesc := [
  ⟨R.RFC_FE_STATUS f, .engine, false, false, 0,
    [F.RFC_FE_STATUS.CAL_DUE f, F.RFC_FE_STATUS.CAL_RUN f, F.RFC_FE_STATUS.DEGRADED f, F.RFC_FE_STATUS.STORED_VALID f, F.RFC_FE_STATUS.BACKOFF f, F.RFC_FE_STATUS.ALC_IDX_MAX f, F.RFC_FE_STATUS.STATE f]⟩,
  ⟨R.RFC_FEM f, .device, true, false, 0,
    [F.RFC_FEM.RAMP_US f, F.RFC_FEM.TX_LEAD f, F.RFC_FEM.RX_LAG f]⟩,
  ⟨R.RFC_TXPWR f, .device, true, false, 0,
    [F.RFC_TXPWR.TARGET f]⟩,
  ⟨R.RFC_ALC f, .device, true, false, 0,
    [F.RFC_ALC.FREEZE f, F.RFC_ALC.GAIN_SHIFT f, F.RFC_ALC.STEP f, F.RFC_ALC.OVER f]⟩,
  ⟨R.RFC_MON f, .device, true, false, 0,
    [F.RFC_MON.EN f, F.RFC_MON.ACP_DBC f, F.RFC_MON.STEP f, F.RFC_MON.MAX f, F.RFC_MON.RECOVER f, F.RFC_MON.STRIKES f]⟩,
  ⟨R.RFC_CAL f, .device, true, false, 0,
    [F.RFC_CAL.EN f, F.RFC_CAL.DELTA_T f, F.RFC_CAL.PERIOD_S f]⟩,
  ⟨R.RFC_CAL_STATUS f, .device, false, false, 0,
    [F.RFC_CAL_STATUS.LAST_S f, F.RFC_CAL_STATUS.T_CAL f, F.RFC_CAL_STATUS.STEPS f]⟩]

/-- Descriptors of the CART registers. -/
def Regs.cartBlock : List RegDesc := [
  ⟨R.CART_CFG, .device, true, false, 0,
    [F.CART_CFG.CT_EN, F.CART_CFG.MTU, F.CART_CFG.CONV_MAX]⟩,
  ⟨R.CART_RING0, .device, true, false, 0,
    [F.CART_RING0.EN, F.CART_RING0.SPEED, F.CART_RING0.FEC]⟩,
  ⟨R.CART_RING1, .device, true, false, 0,
    [F.CART_RING1.EN, F.CART_RING1.SPEED, F.CART_RING1.FEC]⟩,
  ⟨R.CART_MAC_LO, .device, true, false, 0,
    [F.CART_MAC_LO.OCT0_3]⟩,
  ⟨R.CART_MAC_HI, .device, true, false, 0,
    [F.CART_MAC_HI.OCT4_5]⟩,
  ⟨R.CART_STEWARD, .device, true, false, 0,
    [F.CART_STEWARD.ETYPE, F.CART_STEWARD.AIR_OK, F.CART_STEWARD.PATH, F.CART_STEWARD.CLASS, F.CART_STEWARD.RATE]⟩,
  ⟨R.CART_BUF, .device, true, false, 0,
    [F.CART_BUF.ALPHA, F.CART_BUF.LOFT_EN, F.CART_BUF.SPILL_AT]⟩,
  ⟨R.CART_LOFT, .device, true, false, 0,
    [F.CART_LOFT.SIZE_MIB]⟩,
  ⟨R.CART_SCHED, .device, true, false, 0,
    [F.CART_SCHED.SP_MESH, F.CART_SCHED.SP_HOST, F.CART_SCHED.SP_B, F.CART_SCHED.SP_A]⟩,
  ⟨R.CART_L2, .device, true, false, 0,
    [F.CART_L2.LEARN_EN, F.CART_L2.AGE_S]⟩,
  ⟨R.CART_PORTCTL, .device, false, false, 0,
    [F.CART_PORTCTL.KEEP_CLOSE, F.CART_PORTCTL.BLOCK_B, F.CART_PORTCTL.BLOCK_A]⟩,
  ⟨R.CART_PTP, .device, true, false, 0,
    [F.CART_PTP.EN, F.CART_PTP.TC_EN, F.CART_PTP.SRC, F.CART_PTP.SLAVE_PORT, F.CART_PTP.PPS_OUT_EN, F.CART_PTP.DOMAIN]⟩,
  ⟨R.CART_PTP_SERVO, .device, true, false, 0,
    [F.CART_PTP_SERVO.FREEZE, F.CART_PTP_SERVO.KP_SHIFT, F.CART_PTP_SERVO.KI_SHIFT, F.CART_PTP_SERVO.LOCK_NS, F.CART_PTP_SERVO.STEP_US]⟩,
  ⟨R.CART_PTP_DELAY, .device, false, false, 0,
    [F.CART_PTP_DELAY.DELAY_NS]⟩,
  ⟨R.CART_TIME_LO, .bor, false, true, 0,
    [F.CART_TIME_LO.TIME]⟩,
  ⟨R.CART_TIME_HI, .bor, false, true, 0,
    [F.CART_TIME_HI.TIME]⟩,
  ⟨R.CART_TIME_ADJ, .never, false, false, 0,
    [F.CART_TIME_ADJ.STEP]⟩,
  ⟨R.CART_PTP_STATUS, .engine, false, true, 0,
    [F.CART_PTP_STATUS.LOCKED, F.CART_PTP_STATUS.HOLDOVER, F.CART_PTP_STATUS.OFFSET]⟩,
  ⟨R.CART_TS_ID, .engine, false, false, 0,
    [F.CART_TS_ID.VALID, F.CART_TS_ID.PORT, F.CART_TS_ID.SEQ_ID]⟩,
  ⟨R.CART_TS_LO, .engine, false, false, 0,
    [F.CART_TS_LO.TIME]⟩,
  ⟨R.CART_TS_HI, .engine, false, false, 0,
    [F.CART_TS_HI.TIME]⟩,
  ⟨R.CART_L2CMD, .never, false, false, 0,
    [F.CART_L2CMD.OP]⟩,
  ⟨R.CART_L2ARG0, .device, false, false, 0,
    [F.CART_L2ARG0.MAC0_3]⟩,
  ⟨R.CART_L2ARG1, .device, false, false, 0,
    [F.CART_L2ARG1.VLAN, F.CART_L2ARG1.MAC4_5]⟩,
  ⟨R.CART_L2ARG2, .device, false, false, 0,
    [F.CART_L2ARG2.ANY_DEST, F.CART_L2ARG2.ANY_VLAN, F.CART_L2ARG2.DEST]⟩,
  ⟨R.CART_L2STATUS, .engine, false, false, 0,
    [F.CART_L2STATUS.STATE, F.CART_L2STATUS.REASON, F.CART_L2STATUS.STATIC, F.CART_L2STATUS.FOUND, F.CART_L2STATUS.DEST]⟩,
  ⟨R.CART_STATUS, .engine, false, true, 0,
    [F.CART_STATUS.LINK_A, F.CART_STATUS.LINK_B, F.CART_STATUS.KEEP_OPEN, F.CART_STATUS.LOFT_LIMIT, F.CART_STATUS.MOD_A, F.CART_STATUS.MOD_B, F.CART_STATUS.LOS_A, F.CART_STATUS.LOS_B, F.CART_STATUS.MAC_USED]⟩,
  ⟨R.CART_CNT_SEL, .device, false, false, 0,
    [F.CART_CNT_SEL.COUNTER, F.CART_CNT_SEL.CLEAR, F.CART_CNT_SEL.FREEZE, F.CART_CNT_SEL.PORT]⟩,
  ⟨R.CART_CNT, .engine, false, false, 0,
    [F.CART_CNT.VALUE]⟩,
  ⟨R.CART_EQ_CTRL, .device, true, false, 0,
    [F.CART_EQ_CTRL.FREEZE_B, F.CART_EQ_CTRL.FREEZE_A, F.CART_EQ_CTRL.ACQ_SHIFT, F.CART_EQ_CTRL.GAIN_SHIFT, F.CART_EQ_CTRL.STEP]⟩,
  ⟨R.CART_EQ_A, .device, false, false, 0,
    [F.CART_EQ_A.AT_BOUND, F.CART_EQ_A.ACQ, F.CART_EQ_A.RESTARTS, F.CART_EQ_A.CTLE]⟩,
  ⟨R.CART_EQ_A_DFE, .device, false, false, 0,
    [F.CART_EQ_A_DFE.TAP1, F.CART_EQ_A_DFE.TAP2, F.CART_EQ_A_DFE.TAP3, F.CART_EQ_A_DFE.TAP4, F.CART_EQ_A_DFE.TAP5]⟩,
  ⟨R.CART_EQ_B, .device, false, false, 0,
    [F.CART_EQ_B.AT_BOUND, F.CART_EQ_B.ACQ, F.CART_EQ_B.RESTARTS, F.CART_EQ_B.CTLE]⟩,
  ⟨R.CART_EQ_B_DFE, .device, false, false, 0,
    [F.CART_EQ_B_DFE.TAP1, F.CART_EQ_B_DFE.TAP2, F.CART_EQ_B_DFE.TAP3, F.CART_EQ_B_DFE.TAP4, F.CART_EQ_B_DFE.TAP5]⟩]

/-- Descriptors of the LOCK registers. -/
def Regs.lockBlock : List RegDesc := [
  ⟨R.LOCK_CFG, .device, true, false, 0,
    [F.LOCK_CFG.RX_RESERVE]⟩,
  ⟨R.LOCK_LIMITS, .device, true, false, 0,
    [F.LOCK_LIMITS.MGMT_LOG2, F.LOCK_LIMITS.MESH_LOG2, F.LOCK_LIMITS.XTS_LOG2, F.LOCK_LIMITS.WIFI_LOG2]⟩,
  ⟨R.LOCK_KCMD, .never, false, false, 0,
    [F.LOCK_KCMD.OP, F.LOCK_KCMD.SPACE, F.LOCK_KCMD.HANDLE]⟩,
  ⟨R.LOCK_KARG, .device, false, false, 0,
    [F.LOCK_KARG.HARD_LOG2, F.LOCK_KARG.MODE]⟩,
  ⟨R.LOCK_KPN_LO, .device, false, false, 0,
    [F.LOCK_KPN_LO.PN_LO]⟩,
  ⟨R.LOCK_KPN_HI, .device, false, false, 0,
    [F.LOCK_KPN_HI.PN_HI]⟩,
  ⟨R.LOCK_KSTATUS, .engine, false, false, 0,
    [F.LOCK_KSTATUS.STATE, F.LOCK_KSTATUS.REASON, F.LOCK_KSTATUS.VALID, F.LOCK_KSTATUS.SOFT_HIT, F.LOCK_KSTATUS.HARD_HIT, F.LOCK_KSTATUS.GRACE_END, F.LOCK_KSTATUS.BACKED, F.LOCK_KSTATUS.MODE, F.LOCK_KSTATUS.HARD_LOG2]⟩,
  ⟨R.LOCK_KUSES_LO, .engine, false, false, 0,
    [F.LOCK_KUSES_LO.USES_LO]⟩,
  ⟨R.LOCK_KUSES_HI, .engine, false, false, 0,
    [F.LOCK_KUSES_HI.USES_HI]⟩,
  ⟨R.LOCK_LIMIT_FIFO, .device, false, false, 0,
    [F.LOCK_LIMIT_FIFO.VALID, F.LOCK_LIMIT_FIFO.OVERFLOW, F.LOCK_LIMIT_FIFO.KIND, F.LOCK_LIMIT_FIFO.SPACE, F.LOCK_LIMIT_FIFO.HANDLE]⟩,
  ⟨R.LOCK_MFC, .device, false, false, 0,
    [F.LOCK_MFC.N]⟩,
  ⟨R.LOCK_MFC_RESV, .never, false, false, 0,
    [F.LOCK_MFC_RESV.RESV]⟩,
  ⟨R.LOCK_MFC_EPOCH, .never, false, false, 0,
    [F.LOCK_MFC_EPOCH.EPOCH]⟩,
  ⟨R.LOCK_VAULT_GEN, .never, false, false, 0,
    [F.LOCK_VAULT_GEN.GEN]⟩,
  ⟨R.LOCK_MBACK, .device, true, false, 0,
    [F.LOCK_MBACK.EN, F.LOCK_MBACK.BASE_64K]⟩,
  ⟨R.LOCK_VSTATUS, .engine, false, false, 0,
    [F.LOCK_VSTATUS.REBUILD, F.LOCK_VSTATUS.RECRYPT, F.LOCK_VSTATUS.BACK_FAIL, F.LOCK_VSTATUS.BACK_PEND, F.LOCK_VSTATUS.PTR]⟩,
  ⟨R.LOCK_RNG, .device, true, false, 0,
    [F.LOCK_RNG.RESEED_LOG2]⟩,
  ⟨R.LOCK_RNG_STATUS, .engine, false, false, 0,
    [F.LOCK_RNG_STATUS.INSTANTIATED, F.LOCK_RNG_STATUS.STARVED, F.LOCK_RNG_STATUS.FAILED, F.LOCK_RNG_STATUS.RESEEDS]⟩,
  ⟨R.LOCK_CNT_SEL, .device, false, false, 0,
    [F.LOCK_CNT_SEL.COUNTER, F.LOCK_CNT_SEL.CLEAR, F.LOCK_CNT_SEL.FREEZE]⟩,
  ⟨R.LOCK_CNT, .engine, false, false, 0,
    [F.LOCK_CNT.VALUE]⟩]

/-- Descriptors of the CLERK registers. -/
def Regs.clerkBlock : List RegDesc := [
  ⟨R.CLERK_LEDGER_BASE_LO, .device, false, false, 0,
    [F.CLERK_LEDGER_BASE_LO.BASE_LO]⟩,
  ⟨R.CLERK_LEDGER_BASE_HI, .device, false, false, 0,
    [F.CLERK_LEDGER_BASE_HI.BASE_HI]⟩,
  ⟨R.CLERK_LEDGER_CFG, .device, false, false, 0,
    [F.CLERK_LEDGER_CFG.EN, F.CLERK_LEDGER_CFG.SIZE_LOG2]⟩,
  ⟨R.CLERK_LEDGER_HEAD, .device, false, false, 0,
    [F.CLERK_LEDGER_HEAD.HEAD]⟩,
  ⟨R.CLERK_LEDGER_TAIL, .device, false, false, 0,
    [F.CLERK_LEDGER_TAIL.TAIL]⟩,
  ⟨R.CLERK_COALESCE, .device, false, false, 0,
    [F.CLERK_COALESCE.COUNT, F.CLERK_COALESCE.TIME_US]⟩,
  ⟨R.CLERK_LEDGER_STATUS, .device, false, true, 0,
    [F.CLERK_LEDGER_STATUS.OVERFLOW, F.CLERK_LEDGER_STATUS.FULL, F.CLERK_LEDGER_STATUS.WAITING, F.CLERK_LEDGER_STATUS.DROPPED]⟩,
  ⟨R.CLERK_DONE, .never, false, false, 2,
    [F.CLERK_DONE.ORIGIN, F.CLERK_DONE.SRC]⟩,
  ⟨R.CLERK_COPY_HEAD, .bor, false, true, 0,
    [F.CLERK_COPY_HEAD.HEAD]⟩,
  ⟨R.CLERK_COPY_IDX, .device, false, true, 2,
    [F.CLERK_COPY_IDX.IDX]⟩,
  ⟨R.CLERK_COPY_DATA0, .never, false, true, 0,
    [F.CLERK_COPY_DATA0.DATA]⟩,
  ⟨R.CLERK_COPY_DATA1, .never, false, true, 0,
    [F.CLERK_COPY_DATA1.DATA]⟩,
  ⟨R.CLERK_COPY_DATA2, .never, false, true, 0,
    [F.CLERK_COPY_DATA2.DATA]⟩,
  ⟨R.CLERK_COPY_DATA3, .never, false, true, 0,
    [F.CLERK_COPY_DATA3.DATA]⟩,
  ⟨R.CLERK_COPY_DATA4, .never, false, true, 0,
    [F.CLERK_COPY_DATA4.DATA]⟩,
  ⟨R.CLERK_COPY_DATA5, .never, false, true, 0,
    [F.CLERK_COPY_DATA5.DATA]⟩,
  ⟨R.CLERK_COPY_DATA6, .never, false, true, 0,
    [F.CLERK_COPY_DATA6.DATA]⟩,
  ⟨R.CLERK_COPY_DATA7, .never, false, true, 0,
    [F.CLERK_COPY_DATA7.DATA]⟩,
  ⟨R.CLERK_ERR_SEL, .device, false, true, 2,
    [F.CLERK_ERR_SEL.ORIGIN]⟩,
  ⟨R.CLERK_ERR_PRIM, .device, false, true, 0,
    [F.CLERK_ERR_PRIM.VALUE]⟩,
  ⟨R.CLERK_ERR_SEC, .device, false, true, 0,
    [F.CLERK_ERR_SEC.VALUE]⟩,
  ⟨R.CLERK_ERR_ACK, .never, false, false, 2,
    [F.CLERK_ERR_ACK.ORIGIN]⟩,
  ⟨R.CLERK_ESC, .device, false, false, 0,
    [F.CLERK_ESC.SECT_N, F.CLERK_ESC.SECT_WIN_S, F.CLERK_ESC.CONT_N, F.CLERK_ESC.CONT_WIN_MS]⟩,
  ⟨R.CLERK_MUSTER_CFG, .device, false, false, 0,
    [F.CLERK_MUSTER_CFG.EN, F.CLERK_MUSTER_CFG.DEFER_MS, F.CLERK_MUSTER_CFG.PERIOD_MS]⟩,
  ⟨R.CLERK_MUSTER_STATUS, .device, false, false, 0,
    [F.CLERK_MUSTER_STATUS.MISMATCHED, F.CLERK_MUSTER_STATUS.DEFERRED, F.CLERK_MUSTER_STATUS.AUDITS]⟩,
  ⟨R.CLERK_LAST_FAULT, .never, false, true, 0,
    [F.CLERK_LAST_FAULT.SEVERITY, F.CLERK_LAST_FAULT.ORIGIN, F.CLERK_LAST_FAULT.KIND, F.CLERK_LAST_FAULT.COUNT]⟩]

/-- Descriptors of the HOST registers. -/
def Regs.hostBlock : List RegDesc := [
  ⟨R.HOST_ID, .never, false, false, 0,
    [F.HOST_ID.VERSION]⟩,
  ⟨R.HOST_CFG, .device, true, false, 0,
    [F.HOST_CFG.WAKE_EN]⟩,
  ⟨R.HOST_STATUS, .device, false, false, 0,
    [F.HOST_STATUS.UP, F.HOST_STATUS.GEN, F.HOST_STATUS.WIDTH, F.HOST_STATUS.BME, F.HOST_STATUS.D3, F.HOST_STATUS.TX_STOPPED, F.HOST_STATUS.RX_STOPPED]⟩,
  ⟨R.HOST_CNT_SEL, .device, false, false, 0,
    [F.HOST_CNT_SEL.COUNTER, F.HOST_CNT_SEL.CLEAR, F.HOST_CNT_SEL.FREEZE]⟩,
  ⟨R.HOST_CNT, .device, false, false, 0,
    [F.HOST_CNT.VALUE]⟩,
  ⟨R.HOST_CREOSH_STATUS, .device, false, false, 0,
    [F.HOST_CREOSH_STATUS.KEY_VALID, F.HOST_CREOSH_STATUS.ARMED, F.HOST_CREOSH_STATUS.RETURN, F.HOST_CREOSH_STATUS.RETURN_SRC]⟩,
  ⟨R.HOST_CREOSH_FLOOR, .never, false, false, 0,
    [F.HOST_CREOSH_FLOOR.FLOOR]⟩,
  ⟨R.HOST_CREOSH_TXBLK, .never, false, false, 0,
    [F.HOST_CREOSH_TXBLK.BLOCK]⟩]

/-- Descriptors of the descriptor ring registers. -/
def Regs.hostRing (q : Nat) : List RegDesc := [
  ⟨R.HOST_RING_BASE_LO q, .device, false, false, 0,
    [F.HOST_RING_BASE_LO.BASE_LO q]⟩,
  ⟨R.HOST_RING_BASE_HI q, .device, false, false, 0,
    [F.HOST_RING_BASE_HI.BASE_HI q]⟩,
  ⟨R.HOST_RING_CTRL q, .device, false, false, 0,
    [F.HOST_RING_CTRL.EN q, F.HOST_RING_CTRL.SIZE_LOG2 q]⟩,
  ⟨R.HOST_RING_PROD q, .device, false, false, 0,
    [F.HOST_RING_PROD.PROD q]⟩,
  ⟨R.HOST_RING_CONS q, .device, false, false, 0,
    [F.HOST_RING_CONS.CONS q]⟩]

/-- Descriptors of the CLK registers. -/
def Regs.clkBlock : List RegDesc := [
  ⟨R.CLK_ID, .never, false, false, 0,
    [F.CLK_ID.VERSION]⟩,
  ⟨R.CLK_STATUS, .device, false, false, 0,
    [F.CLK_STATUS.PADDOCK_LOST, F.CLK_STATUS.PADDOCK_OK, F.CLK_STATUS.CORE_SLOW, F.CLK_STATUS.LOCK, F.CLK_STATUS.RUN]⟩,
  ⟨R.CLK_XMODE, .device, true, false, 0,
    [F.CLK_XMODE.FAST]⟩,
  ⟨R.CLK_XTIMEOUT, .device, true, false, 0,
    [F.CLK_XTIMEOUT.LOG2]⟩,
  ⟨R.CLK_XSTATUS, .device, false, false, 0,
    [F.CLK_XSTATUS.PARKED, F.CLK_XSTATUS.FAST_ON]⟩,
  ⟨R.CLK_XFAULT, .device, false, false, 0,
    [F.CLK_XFAULT.TIMEOUT]⟩,
  ⟨R.CLK_CNT_SEL, .device, false, false, 0,
    [F.CLK_CNT_SEL.COUNTER, F.CLK_CNT_SEL.CLEAR, F.CLK_CNT_SEL.FREEZE, F.CLK_CNT_SEL.GROUP]⟩,
  ⟨R.CLK_CNT, .device, false, false, 0,
    [F.CLK_CNT.VALUE]⟩]

/-- Descriptors of the WATCH registers. -/
def Regs.watchBlock : List RegDesc := [
  ⟨R.WATCH_GAIT_REQ, .device, false, true, 2,
    [F.WATCH_GAIT_REQ.KEY, F.WATCH_GAIT_REQ.CLR_FATAL, F.WATCH_GAIT_REQ.LMGATE, F.WATCH_GAIT_REQ.RESUME, F.WATCH_GAIT_REQ.REQ]⟩,
  ⟨R.WATCH_GAIT_STATUS, .device, false, true, 0,
    [F.WATCH_GAIT_STATUS.BUSY, F.WATCH_GAIT_STATUS.TARGET, F.WATCH_GAIT_STATUS.CEIL, F.WATCH_GAIT_STATUS.RETRIES, F.WATCH_GAIT_STATUS.CURRENT]⟩,
  ⟨R.WATCH_CFG, .bor, true, true, 1,
    [F.WATCH_CFG.PWR_DEBOUNCE, F.WATCH_CFG.RETRY_MAX, F.WATCH_CFG.FATAL_RETRY_S]⟩,
  ⟨R.WATCH_WAKE_EN, .bor, true, true, 1,
    [F.WATCH_WAKE_EN.RISE, F.WATCH_WAKE_EN.WAKE]⟩,
  ⟨R.WATCH_WAKE_CAUSE, .bor, false, true, 2,
    [F.WATCH_WAKE_CAUSE.LAST, F.WATCH_WAKE_CAUSE.SEEN]⟩,
  ⟨R.WATCH_ROUND, .bor, true, true, 1,
    [F.WATCH_ROUND.EN, F.WATCH_ROUND.DWELL_WIN, F.WATCH_ROUND.PERIOD_MS]⟩,
  ⟨R.WATCH_WAKE, .bor, true, true, 1,
    [F.WATCH_WAKE.MERGE_US, F.WATCH_WAKE.LEAD_US]⟩,
  ⟨R.WATCH_TIMER_LO, .bor, false, true, 1,
    [F.WATCH_TIMER_LO.TIME]⟩,
  ⟨R.WATCH_TIMER_HI, .bor, false, true, 1,
    [F.WATCH_TIMER_HI.TIME]⟩,
  ⟨R.WATCH_BATT, .bor, true, true, 1,
    [F.WATCH_BATT.HALT_MV]⟩,
  ⟨R.WATCH_POWER_STATUS, .bor, false, true, 0,
    [F.WATCH_POWER_STATUS.VBAT_MV, F.WATCH_POWER_STATUS.PONY_HP, F.WATCH_POWER_STATUS.PONY_READY, F.WATCH_POWER_STATUS.AWAKE, F.WATCH_POWER_STATUS.PMIC_EN]⟩,
  ⟨R.WATCH_PPS_LO, .bor, false, true, 0,
    [F.WATCH_PPS_LO.TIME]⟩,
  ⟨R.WATCH_PPS_HI, .bor, false, true, 0,
    [F.WATCH_PPS_HI.TIME]⟩,
  ⟨R.WATCH_CNT_SEL, .device, false, true, 0,
    [F.WATCH_CNT_SEL.COUNTER, F.WATCH_CNT_SEL.CLEAR, F.WATCH_CNT_SEL.FREEZE]⟩,
  ⟨R.WATCH_CNT, .device, false, true, 0,
    [F.WATCH_CNT.VALUE]⟩,
  ⟨R.WATCH_BOR_COUNT, .never, false, true, 0,
    [F.WATCH_BOR_COUNT.COUNT]⟩]

/-- Descriptors of the SEC registers. -/
def Regs.secBlock : List RegDesc := [
  ⟨R.SEC_ID, .never, false, true, 0,
    [F.SEC_ID.VERSION]⟩,
  ⟨R.SEC_STATE, .bor, false, true, 0,
    [F.SEC_STATE.LC, F.SEC_STATE.LEVEL, F.SEC_STATE.TAMPER_LOW, F.SEC_STATE.WIPE_PEND, F.SEC_STATE.LOCKOUT, F.SEC_STATE.CHAL_VALID]⟩,
  ⟨R.SEC_LC_CMD, .never, false, false, 0,
    [F.SEC_LC_CMD.KEY, F.SEC_LC_CMD.OP]⟩,
  ⟨R.SEC_LC_STATUS, .device, false, true, 0,
    [F.SEC_LC_STATUS.STATE, F.SEC_LC_STATUS.REASON]⟩,
  ⟨R.SEC_FUSE_IDX, .device, false, false, 0,
    [F.SEC_FUSE_IDX.WORD]⟩,
  ⟨R.SEC_FUSE_DATA, .never, false, false, 0,
    [F.SEC_FUSE_DATA.DATA]⟩,
  ⟨R.SEC_DBG_CTRL, .never, false, false, 0,
    [F.SEC_DBG_CTRL.KEY, F.SEC_DBG_CTRL.END]⟩,
  ⟨R.SEC_DBG_CFG, .bor, false, false, 0,
    [F.SEC_DBG_CFG.IDLE_S]⟩,
  ⟨R.SEC_TAMPER_CFG, .bor, false, false, 0,
    [F.SEC_TAMPER_CFG.WIPE]⟩,
  ⟨R.SEC_ZEROISE, .never, false, false, 0,
    [F.SEC_ZEROISE.KEY, F.SEC_ZEROISE.GO]⟩,
  ⟨R.SEC_WIPE, .never, false, true, 0,
    [F.SEC_WIPE.PEND_STEWARD, F.SEC_WIPE.PEND_BACKING, F.SEC_WIPE.PEND_VAULT, F.SEC_WIPE.EPOCH]⟩,
  ⟨R.SEC_DBG_OPENED, .never, false, true, 0,
    [F.SEC_DBG_OPENED.COUNT]⟩,
  ⟨R.SEC_DBG_CTR, .never, false, true, 0,
    [F.SEC_DBG_CTR.COUNT]⟩,
  ⟨R.SEC_DBG_FAIL, .never, false, true, 0,
    [F.SEC_DBG_FAIL.FAIL]⟩,
  ⟨R.SEC_TAMPER_COUNT, .never, false, true, 0,
    [F.SEC_TAMPER_COUNT.COUNT]⟩]

/-- Descriptors of the FLASH registers. -/
def Regs.flashBlock : List RegDesc := [
  ⟨R.FLASH_ID, .never, false, true, 0,
    [F.FLASH_ID.VERSION]⟩,
  ⟨R.FLASH_CFG, .device, true, true, 0,
    [F.FLASH_CFG.STARVE_MS, F.FLASH_CFG.STARVE_N]⟩,
  ⟨R.FLASH_SCRUB, .device, true, true, 0,
    [F.FLASH_SCRUB.EN, F.FLASH_SCRUB.AGE_Y, F.FLASH_SCRUB.PERIOD_S]⟩,
  ⟨R.FLASH_STATUS, .device, false, true, 0,
    [F.FLASH_STATUS.STAGE, F.FLASH_STATUS.WARN, F.FLASH_STATUS.STARVED, F.FLASH_STATUS.LOST, F.FLASH_STATUS.ERASING, F.FLASH_STATUS.SUSPENDED, F.FLASH_STATUS.SPARES_LEFT, F.FLASH_STATUS.RESERVE_LEFT, F.FLASH_STATUS.ERASE_BLK]⟩,
  ⟨R.FLASH_WEAR, .device, false, true, 0,
    [F.FLASH_WEAR.RESERVE_WEAR, F.FLASH_WEAR.TALLY_WEAR]⟩,
  ⟨R.FLASH_SUSPENDS, .device, false, true, 0,
    [F.FLASH_SUSPENDS.MAX, F.FLASH_SUSPENDS.CUR]⟩,
  ⟨R.FLASH_BLK_IDX, .device, false, true, 1,
    [F.FLASH_BLK_IDX.BLOCK]⟩,
  ⟨R.FLASH_BLK_INFO, .never, false, true, 0,
    [F.FLASH_BLK_INFO.RETIRED, F.FLASH_BLK_INFO.FROZEN, F.FLASH_BLK_INFO.MARKED, F.FLASH_BLK_INFO.ROLE, F.FLASH_BLK_INFO.COUNT]⟩,
  ⟨R.FLASH_TALLY_IDX, .device, false, true, 2,
    [F.FLASH_TALLY_IDX.SHADOW, F.FLASH_TALLY_IDX.CLASS_A, F.FLASH_TALLY_IDX.ID]⟩,
  ⟨R.FLASH_TALLY_DATA, .never, false, true, 2,
    [F.FLASH_TALLY_DATA.VALUE]⟩,
  ⟨R.FLASH_TALLY_STATUS, .bor, false, true, 0,
    [F.FLASH_TALLY_STATUS.LAST, F.FLASH_TALLY_STATUS.PEND, F.FLASH_TALLY_STATUS.LAST_ID]⟩,
  ⟨R.FLASH_CNT_SEL, .device, false, true, 0,
    [F.FLASH_CNT_SEL.COUNTER, F.FLASH_CNT_SEL.CLEAR, F.FLASH_CNT_SEL.FREEZE]⟩,
  ⟨R.FLASH_CNT, .bor, false, true, 0,
    [F.FLASH_CNT.VALUE]⟩,
  ⟨R.FLASH_LIFE_HOURS, .never, false, true, 0,
    [F.FLASH_LIFE_HOURS.HOURS]⟩]

/-- Descriptors of the HATCH registers. -/
def Regs.hatchBlock : List RegDesc := [
  ⟨R.HATCH_ID, .never, false, true, 0,
    [F.HATCH_ID.ASSAY_REV, F.HATCH_ID.VERSION]⟩,
  ⟨R.HATCH_CMD, .never, false, false, 0,
    [F.HATCH_CMD.CMD]⟩,
  ⟨R.HATCH_ARG0, .device, false, false, 0,
    [F.HATCH_ARG0.ARG0]⟩,
  ⟨R.HATCH_STATUS, .device, false, false, 0,
    [F.HATCH_STATUS.STATE, F.HATCH_STATUS.RESULT, F.HATCH_STATUS.LEN]⟩,
  ⟨R.HATCH_ASSAY, .device, false, true, 0,
    [F.HATCH_ASSAY.ASSAY_UP, F.HATCH_ASSAY.SEAL_OPEN, F.HATCH_ASSAY.CLOCK_FAULT, F.HATCH_ASSAY.FLASH_FAULT, F.HATCH_ASSAY.TIME_LOST, F.HATCH_ASSAY.OVERRANGE, F.HATCH_ASSAY.EN]⟩,
  ⟨R.HATCH_RTC, .device, false, true, 0,
    [F.HATCH_RTC.RTC]⟩,
  ⟨R.HATCH_LAST_SEQ, .device, false, true, 0,
    [F.HATCH_LAST_SEQ.SEQ]⟩,
  ⟨R.HATCH_SEAL, .device, false, true, 0,
    [F.HATCH_SEAL.COUNT]⟩,
  ⟨R.HATCH_LOG_HEAD, .device, false, true, 0,
    [F.HATCH_LOG_HEAD.IDX]⟩,
  ⟨R.HATCH_CNT_SEL, .device, false, false, 0,
    [F.HATCH_CNT_SEL.COUNTER, F.HATCH_CNT_SEL.CLEAR, F.HATCH_CNT_SEL.FREEZE]⟩,
  ⟨R.HATCH_CNT, .device, false, false, 0,
    [F.HATCH_CNT.VALUE]⟩]

/-- Descriptors of the HATCH_DATA registers. -/
def Regs.hatchData (k : Nat) : List RegDesc := [
  ⟨R.HATCH_DATA k, .device, false, false, 0,
    [F.HATCH_DATA.DATA k]⟩]

/-- Descriptors of the PIN registers. -/
def Regs.pinBlock : List RegDesc := [
  ⟨R.PIN_ID, .never, false, true, 0,
    [F.PIN_ID.VERSION]⟩,
  ⟨R.PIN_STRAP, .pin, false, true, 0,
    [F.PIN_STRAP.HITCH_ADDR]⟩,
  ⟨R.PIN_GPIO_OE, .device, true, false, 1,
    [F.PIN_GPIO_OE.OE]⟩,
  ⟨R.PIN_GPIO_OUT, .device, true, false, 1,
    [F.PIN_GPIO_OUT.OUT]⟩,
  ⟨R.PIN_GPIO_IN, .never, false, true, 0,
    [F.PIN_GPIO_IN.IN]⟩,
  ⟨R.PIN_GPIO_RISE, .device, true, false, 0,
    [F.PIN_GPIO_RISE.RISE]⟩,
  ⟨R.PIN_GPIO_FALL, .device, true, false, 0,
    [F.PIN_GPIO_FALL.FALL]⟩,
  ⟨R.PIN_GPIO_EVT, .device, false, false, 0,
    [F.PIN_GPIO_EVT.EVT]⟩,
  ⟨R.PIN_TEMP, .never, false, true, 0,
    [F.PIN_TEMP.TACK, F.PIN_TEMP.BRIDLE, F.PIN_TEMP.SADDLE]⟩,
  ⟨R.PIN_THERM, .device, true, false, 0,
    [F.PIN_THERM.WARN_C]⟩]

/-- The descriptors of the 1 MiB block that holds address a, common header first where the block is an engine's. -/
def Regs.ofBlock (a : Nat) : List RegDesc :=
  let off := a % 0x100000
  match a / 0x100000 with
  | 0 => Regs.topBlock
  | 1 => Regs.engHeader 0 ++ Regs.ostBlock
  | 2 => Regs.engHeader 1 ++ Regs.clerkBlock
  | 3 => Regs.engHeader 2 ++ Regs.lockBlock
  | 4 => Regs.engHeader 3 ++ Regs.cartBlock
  | 5 => Regs.engHeader 4 ++ Regs.drovBlock
  | 6 => Regs.engHeader 8 ++ Regs.marsBlock
  | 7 => Regs.engHeader 5 ++ Regs.lmBlock 2
  | 8 => Regs.engHeader 6 ++ Regs.lmBlock 1
  | 9 => Regs.engHeader 7 ++ Regs.lmBlock 0
  | 10 => if 0x100 ≤ off ∧ off < 0x1C0 then Regs.phyRadio ((off - 0x100) / 0x40) else Regs.phyBlock
  | 11 => if 0x100 ≤ off ∧ off < 0x200 then Regs.rfcFrontEnd ((off - 0x100) / 0x40) else Regs.rfcBlock
  | 12 => Regs.engHeader 9 ++ Regs.sieveBlock
  | 13 => Regs.engHeader 10 ++ Regs.postBlock
  | 14 => Regs.engHeader 11 ++ Regs.watchBlock
  | 15 => Regs.clkBlock
  | 16 => Regs.flashBlock
  | 17 => Regs.secBlock
  | 18 => if 0x100 ≤ off ∧ off < 0x200 then Regs.hatchData ((off - 0x100) / 4) else Regs.hatchBlock
  | 19 => if 0x100 ≤ off ∧ off < 0x300 then Regs.hostRing ((off - 0x100) / 0x20) else Regs.hostBlock
  | 20 => Regs.pinBlock
  | _ => []

/-- The register at BAR0 address a, if one is assigned there (R24, R529). -/
def Regs.find (a : Nat) : Option RegDesc := (Regs.ofBlock a).find? (fun d => d.addr == a)

end Sys2Proof.Machine
end

