-- ==== Sys2Proof/Machine/Ops.lean ====
section
/-! DEFINITION. The named operations over the block: sparse maps in canonical form, register fields (R5, R6), counters
(R13 and the *_CNT_SEL registers), tables by bytes (R23, R26), DRAM and NOR bytes, the two times (R4, R411), engine states. -/

namespace Sys2Proof.Machine

/-! ### Sparse maps: keys strictly rising, no entry equal to the default -/

/-- The value at key k, d where no entry names it. -/
def look {α : Type} (m : List (Nat × α)) (k : Nat) (d : α) : α :=
  match m with
  | [] => d
  | (k', v) :: t => if k' = k then v else look t k d

/-- The entry at key k, if there is one. -/
def look? {α : Type} (m : List (Nat × α)) (k : Nat) : Option α :=
  match m with
  | [] => none
  | (k', v) :: t => if k' = k then some v else look? t k

/-- m without the entry at key k. -/
def del {α : Type} (m : List (Nat × α)) (k : Nat) : List (Nat × α) :=
  match m with
  | [] => []
  | (k', v) :: t => if k' = k then del t k else (k', v) :: del t k

/-- m with (k, v) put in its place by key. -/
def ins {α : Type} (m : List (Nat × α)) (k : Nat) (v : α) : List (Nat × α) :=
  match m with
  | [] => [(k, v)]
  | (k', v') :: t => if k < k' then (k, v) :: (k', v') :: t else (k', v') :: ins t k v

/-- m with v at key k, where d is what an unlisted key reads as. -/
def put {α : Type} [DecidableEq α] (m : List (Nat × α)) (k : Nat) (v d : α) : List (Nat × α) :=
  if v = d then del m k else ins (del m k) k v

/-- The entry at key k replaced by (k, v), which is listed whatever v is. -/
def put' {α : Type} (m : List (Nat × α)) (k : Nat) (v : α) : List (Nat × α) := ins (del m k) k v

/-- The canonical form of a sparse map with default d. -/
def mapWf {α : Type} [DecidableEq α] (m : List (Nat × α)) (d : α) : Bool :=
  match m with
  | [] => true
  | (k, v) :: t => decide (v ≠ d) && (match t with | [] => true | (k', _) :: _ => decide (k < k')) && mapWf t d

/-- Element i of a list, or the default. -/
def nth {α : Type} (l : List α) (i : Nat) (d : α) : α := (l[i]?).getD d

/-- l with element i changed by f. -/
def upd {α : Type} (l : List α) (i : Nat) (f : α → α) : List α :=
  match l, i with
  | [], _ => []
  | x :: t, 0 => f x :: t
  | x :: t, i + 1 => x :: upd t i f

/-! ### Register fields -/

/-- The key of a field in Block.regs. -/
def Fld.key (f : Fld) : Nat := f.addr * 32 + f.lo

/-- The value in effect of a field. -/
def Block.get (b : Block) (f : Fld) : Nat := look b.regs f.key f.reset

/-- The field as a flag. -/
def Block.on (b : Block) (f : Fld) : Bool := b.get f != 0

/-- b with the field set to v, cut to its width. -/
def Block.set (b : Block) (f : Fld) (v : Nat) : Block :=
  { b with regs := put b.regs f.key (v % 2 ^ f.width) f.reset }

/-- b with the one-bit field set to a flag. -/
def Block.setB (b : Block) (f : Fld) (v : Bool) : Block := b.set f (b2n v)

/-- The field read as a two's complement number. -/
def Block.getS (b : Block) (f : Fld) : Int := signedOf f.width (b.get f)

/-- b with the field set to a signed number in two's complement. -/
def Block.setS (b : Block) (f : Fld) (v : Int) : Block := b.set f (unsignedOf f.width v)

/-- b with n added to the field, which saturates at its largest value. -/
def Block.sat (b : Block) (f : Fld) (n : Nat) : Block := b.set f (min (b.get f + n) (2 ^ f.width - 1))

/-- b with n added to the field, which wraps. -/
def Block.wrap (b : Block) (f : Fld) (n : Nat) : Block := b.set f (b.get f + n)

/-- b with the field back at its reset value. -/
def Block.clr (b : Block) (f : Fld) : Block := b.set f f.reset

/-- The shadow of an RW-B field, if one waits (R28). -/
def Block.shadow? (b : Block) (f : Fld) : Option Nat :=
  (b.shadows.find? (fun p => p.1.key == f.key)).map (fun p => p.2)

/-- What a register read shows for a stored field: the shadow of an RW-B field (R6), else the value in effect. -/
def Block.shown (b : Block) (f : Fld) : Nat := (b.shadow? f).getD (b.get f)

/-! ### Counters -/

/-- Number of a counter block in Block.counts. -/
def cntBlk : CntSet → Nat
  | .lanes e => 100 + e.val
  | .phy _ => 20 | .rfc _ => 21 | .lm _ => 22 | .mars => 23 | .drov _ => 24 | .sieve => 25 | .post => 26 | .cart _ => 27
  | .lock => 28 | .host => 29 | .clk _ => 30 | .watch => 31 | .flash => 32 | .packhorse => 33 | .hatch => 34

/-- Index within the counter block. -/
def cntInst : CntSet → Nat
  | .phy r => r.val | .rfc f => f.val | .lm r => r.val | .drov r => r.val | .cart p => p.val | .clk g => g.val
  | _ => 0

/-- The field that stops the counters of a set. -/
def cntFreeze : CntSet → Fld
  | .lanes e => F.ENG_CTRL.CNT_FREEZE e.val
  | .phy _ => F.PHY_CNT_SEL.FREEZE
  | .rfc _ => F.RFC_CNT_SEL.FREEZE
  | .lm r => F.LM_CNT_SEL.FREEZE r.val
  | .mars => F.MARS_CNT_SEL.FREEZE
  | .drov _ => F.DROV_CNT_SEL.FREEZE
  | .sieve => F.SIEVE_CNT_SEL.FREEZE
  | .post => F.POST_CNT_SEL.FREEZE
  | .cart _ => F.CART_CNT_SEL.FREEZE
  | .lock => F.LOCK_CNT_SEL.FREEZE
  | .host => F.HOST_CNT_SEL.FREEZE
  | .clk _ => F.CLK_CNT_SEL.FREEZE
  | .watch => F.WATCH_CNT_SEL.FREEZE
  | .flash => F.FLASH_CNT_SEL.FREEZE
  | .packhorse => F.OST_PH_CNT_SEL.FREEZE
  | .hatch => F.HATCH_CNT_SEL.FREEZE

/-- The first key of a set in Block.counts; its counters are the 65,536 keys from there. -/
def cntBase (c : CntSet) : Nat := (cntBlk c * 256 + cntInst c) * 65536

/-- Counter n of a set. -/
def Block.cnt (b : Block) (c : CntSet) (n : Nat) : Nat := look b.counts (cntBase c + n) 0

/-- k added to counter n of a set, which wraps at 32 bits and stands still while the set is frozen. -/
def Block.count (b : Block) (c : CntSet) (n : Nat) (k : Nat := 1) : Block :=
  if b.on (cntFreeze c) then b
  else { b with counts := put b.counts (cntBase c + n) ((b.cnt c n + k) % 2 ^ 32) 0 }

/-- Every counter of a set cleared. -/
def Block.clearSet (b : Block) (c : CntSet) : Block :=
  { b with counts := b.counts.filter (fun p => !(decide (cntBase c ≤ p.1 ∧ p.1 < cntBase c + 65536))) }

/-- Counters of a whole counter block cleared, whatever the index. -/
def Block.clearBlk (b : Block) (blk : Nat) : Block :=
  { b with counts := b.counts.filter (fun p => !(decide (blk * 16777216 ≤ p.1 ∧ p.1 < (blk + 1) * 16777216))) }

/-- k added to counter n of lane l of engine e. -/
def Block.lane (b : Block) (e : Fin 12) (l n : Nat) (k : Nat := 1) : Block := b.count (.lanes e) (l * 256 + n) k

/-! ### Bytes of tables, DRAM and NOR -/

/-- n bytes from address a of a byte map, as a little-endian number; an unlisted byte reads d. -/
def readLE (m : List Host.Cell) (d : Byte) : Nat → Nat → Nat
  | _, 0 => 0
  | a, n + 1 => (look m a d).toNat + 256 * readLE m d (a + 1) n

/-- n bytes from address a of a byte map. -/
def readBytes (m : List Host.Cell) (d : Byte) : Nat → Nat → List Byte
  | _, 0 => []
  | a, n + 1 => look m a d :: readBytes m d (a + 1) n

/-- The bytes bs written from address a on. -/
def writeBytes (m : List Host.Cell) (d : Byte) : Nat → List Byte → List Host.Cell
  | _, [] => m
  | a, v :: t => writeBytes (put m a v d) d (a + 1) t

/-- m without the cells from a to a + n − 1: they read the default again. -/
def clearRange (m : List Host.Cell) (a n : Nat) : List Host.Cell :=
  m.filter (fun p => !(decide (a ≤ p.1 ∧ p.1 < a + n)))

/-- The canonical form of a byte memory: addresses strictly rising, no entry equal to what an unlisted byte reads as. -/
def Memory.wf (m : List Host.Cell) (d : Byte) : Bool := mapWf m d

/-- The offset of a bank in Block.tabs. -/
def bankOff (bank : Nat) : Nat := bank * 2 ^ 28

/-- The bank of table n that its owner is using: _BANK.ACTIVE, PHY_BANK.ACTIVE or RFC_BANK.ACTIVE (R13, R85, R252). -/
def Block.active (b : Block) (owner n : Nat) : Nat :=
  let f := if owner = 12 then F.PHY_BANK.ACTIVE else if owner = 13 then F.RFC_BANK.ACTIVE else F.ENG_BANK.ACTIVE owner
  (b.get f >>> n) % 2

/-- n bytes at BAR0 address a of a live table. -/
def Block.tab (b : Block) (a n : Nat) : Nat := readLE b.tabs 0 a n

/-- n bytes at BAR0 address a of banked table k of an owner, in the active bank. -/
def Block.btab (b : Block) (owner k a n : Nat) : Nat := readLE b.tabs 0 (a + bankOff (b.active owner k)) n

/-- n bytes at address a of the active bank of a banked table as a list. -/
def Block.btabBytes (b : Block) (owner k a n : Nat) : List Byte := readBytes b.tabs 0 (a + bankOff (b.active owner k)) n

/-- b with the n-byte little-endian number v at address a of a table. -/
def Block.setTab (b : Block) (a n v : Nat) : Block := { b with tabs := writeBytes b.tabs 0 a (bytesLE n v) }

/-- b with the bytes bs at address a of a table. -/
def Block.setTabBytes (b : Block) (a : Nat) (bs : List Byte) : Block := { b with tabs := writeBytes b.tabs 0 a bs }

/-- n bytes of DRAM. -/
def Block.ram (b : Block) (a n : Nat) : Nat := readLE b.dram 0 a n

/-- b with the n-byte number v at DRAM address a. -/
def Block.setRam (b : Block) (a n v : Nat) : Block := { b with dram := writeBytes b.dram 0 a (bytesLE n v) }

/-- n bytes of the NOR flash; an erased byte reads 0xFF. -/
def Block.nor (b : Block) (a n : Nat) : Nat := readLE b.ost.nor 0xFF a n

/-- n bytes of the NOR flash as a list. -/
def Block.norBytes (b : Block) (a n : Nat) : List Byte := readBytes b.ost.nor 0xFF a n

/-- The bytes bs programmed at NOR offset a: programming can only clear bits of an erased byte. -/
def Block.norProgram (b : Block) (a : Nat) (bs : List Byte) : Block :=
  { b with ost := { b.ost with nor := writeBytes b.ost.nor 0xFF a bs } }

/-- NOR offsets a to a + n − 1 erased. -/
def Block.norErase (b : Block) (a n : Nat) : Block :=
  { b with ost := { b.ost with nor := clearRange b.ost.nor a n } }

/-! ### Time, outputs, free values -/

/-- Device time in ns (R4). -/
def Block.now (b : Block) : Nat := b.time.device

/-- Device time without the steps it has taken (R296): what durations are measured in. -/
def Block.mono (b : Block) : Nat := ((b.time.device : Int) - b.time.stepped).toNat

/-- A tick of the always-on clock in ns, rounded up: device time moves by it. -/
def tickNs : Nat := 30518

/-- Loft traffic is at 128 Gb/s (R34): more is under way than the time to the next tick carries (log entry 56). -/
def Block.loftLimit (b : Block) : Bool := decide (b.mono + tickNs < b.cart.loftBusy)

/-- Always-on time in ns (R411). -/
def Block.ao (b : Block) : Nat := b.time.ao

/-- An output added, newest first. -/
def Block.emit (b : Block) (o : Output) : Block := { b with out := o :: b.out }

/-- The next free value, and the block that has drawn it (log entry 11). -/
def Block.draw (b : Block) : Nat × Block := ((Config.freeValue b.free).toNat, { b with free := b.free + 1 })

/-! ### Engines -/

/-- STATE of engine e (R13). -/
def Block.est (b : Block) (e : Nat) : Nat := b.get (F.ENG_STATUS.STATE e)

/-- The engine is in RUN or REDUCED. -/
def Block.runs (b : Block) (e : Nat) : Bool := b.est e == stRun || b.est e == stReduced

/-- An RW-H write to the engine's fields is refused: it runs or drains (R31). -/
def Block.busyH (b : Block) (e : Nat) : Bool := b.runs e || b.est e == stDrain

/-- The engine is gated (R17). -/
def Block.gated (b : Block) (e : Nat) : Bool := decide (3 ≤ e ∧ e ≤ 10) && bitOf (b.get F.TOP_ENG_GATE.GATE) (e - 3)

/-- The gait in effect, 0 = GALLOP to 4 = HALT (R395). -/
def Block.gait (b : Block) : Nat := b.get F.WATCH_GAIT_STATUS.CURRENT

/-- The device is in the lame state (R61). -/
def Block.lame (b : Block) : Bool := b.watch.plan == 5

/-- Engine e's RadioIndex-indexed part of the PHY. -/
def Block.phyAt (b : Block) (r : Nat) : PhyRadio := nth b.phy r {}

/-- b with radio r's PHY part changed. -/
def Block.updPhy (b : Block) (r : Nat) (f : PhyRadio → PhyRadio) : Block := { b with phy := upd b.phy r f }

/-- The link MAC of radio r. -/
def Block.lmAt (b : Block) (r : Nat) : LinkMac := nth b.lm r {}

/-- b with the link MAC of radio r changed. -/
def Block.updLm (b : Block) (r : Nat) (f : LinkMac → LinkMac) : Block := { b with lm := upd b.lm r f }

/-- Front end f. -/
def Block.feAt (b : Block) (f : Nat) : FrontEnd := nth b.rfc.fes f {}

/-- b with front end f changed. -/
def Block.updFe (b : Block) (f : Nat) (g : FrontEnd → FrontEnd) : Block :=
  { b with rfc := { b.rfc with fes := upd b.rfc.fes f g } }

/-- Chain c. -/
def Block.chainAt (b : Block) (c : Nat) : Chain := nth b.rfc.chains c {}

/-- b with chain c changed. -/
def Block.updChain (b : Block) (c : Nat) (g : Chain → Chain) : Block :=
  { b with rfc := { b.rfc with chains := upd b.rfc.chains c g } }

/-- The outcome of a command on the block alone. -/
def State.next (s : State) (b : Block) : Host.Outcome State Fault Refusal := .next { s with blk := b }

end Sys2Proof.Machine
end

