-- ==== Sys2Proof/Machine/Ledger.lean ====
section
/-! DEFINITION. Clerk's event ledger: records (R339), the copy and the host ring (R341 to R344), pulse and served sources
(R345, R346), the NOTE record of an ignored write (R535). -/

namespace Sys2Proof.Machine

/-- The SEVERITY code of R339. -/
def Sev.code : Sev → Nat
  | .event => 0 | .note => 1 | .corrected => 2 | .contained => 3 | .sect => 4 | .fatal => 5

/-- Bytes padded with zeros, or cut, to n. -/
def padTo (n : Nat) (bs : List Byte) : List Byte := (bs ++ List.replicate n 0).take n

/-- The dword HEAD of a record (R339). -/
def LedgerRec.head (r : LedgerRec) (phase : Nat) : Nat :=
  phase * 2 ^ 31 + r.sev.code * 2 ^ 28 + b2n r.escalated * 2 ^ 27 + b2n r.ovfl * 2 ^ 26 + b2n r.served * 2 ^ 25 +
    r.origin * 2 ^ 20 + r.src * 2 ^ 12 + r.kind

/-- The 32 bytes of a record (R339). -/
def LedgerRec.bytes (r : LedgerRec) (phase : Nat) : List Byte :=
  bytesLE 4 (r.head phase) ++ bytesLE 4 r.count ++ bytesLE 8 r.time ++ padTo 16 r.payload

/-- The host port is up (R333). -/
def Block.portUp (b : Block) : Bool := b.on F.HOST_STATUS.UP

/-- n of the host ring: 6 to 16 (CLERK_LEDGER_CFG.SIZE_LOG2). -/
def Block.ledgerLog2 (b : Block) : Nat := clampTo 6 16 (b.get F.CLERK_LEDGER_CFG.SIZE_LOG2)

/-- HEAD − TAIL modulo 2^17: records in the host ring (R341). -/
def Block.ledgerUsed (b : Block) : Nat :=
  (b.get F.CLERK_LEDGER_HEAD.HEAD + 2 ^ 17 - b.get F.CLERK_LEDGER_TAIL.TAIL) % 2 ^ 17

/-- The host ring is full (R341). -/
def Block.ledgerFull (b : Block) : Bool := decide (2 ^ b.ledgerLog2 ≤ b.ledgerUsed)

/-- The host ledger is writable (R343). -/
def Block.ledgerWritable (b : Block) : Bool := b.on F.CLERK_LEDGER_CFG.EN && b.portUp

/-- The MSI-X message when its conditions hold (R347): COUNT records, TIME_US since the first of them, or a record of
severity CONTAINED or worse. While the vector is masked the pending bit is set instead. -/
def Block.msix (b : Block) : Block :=
  let count := clampTo 1 1024 (b.get F.CLERK_COALESCE.COUNT)
  let us := max 1 (b.get F.CLERK_COALESCE.TIME_US)
  let due := decide (0 < b.clerk.msixSince) &&
    (b.clerk.msixUrgent || decide (count ≤ b.clerk.msixSince) || decide (b.clerk.msixFirst + 1000 * us ≤ b.mono))
  if b.portUp && (due || b.clerk.msixPend) then
    if b.clerk.msixMask then { b with clerk := { b.clerk with msixPend := true } }
    else { b.emit .msix with clerk := { b.clerk with msixSince := 0, msixFirst := 0, msixUrgent := false, msixPend := false } }
  else b

/-- The oldest waiting record goes to the host ring, bytes 4 to 31 first and bytes 0 to 3 in a second write (R341); the message
follows at once where its conditions hold (R347). -/
def Block.feedOne (b : Block) : Block :=
  match b.clerk.copy[b.clerk.waiting - 1]? with
  | none => { b with clerk := { b.clerk with waiting := 0 } }
  | some r =>
    let n := b.ledgerLog2
    let h := b.get F.CLERK_LEDGER_HEAD.HEAD
    let base := b.get F.CLERK_LEDGER_BASE_LO.BASE_LO + 2 ^ 32 * b.get F.CLERK_LEDGER_BASE_HI.BASE_HI
    let a := base + 32 * (h % 2 ^ n)
    let bs := r.bytes (1 - (h >>> n) % 2)
    let b := (b.emit (.hostWrite (a + 4) (bs.drop 4))).emit (.hostWrite a (bs.take 4))
    ({ b.set F.CLERK_LEDGER_HEAD.HEAD (h + 1) with
      clerk := { b.clerk with
        waiting := b.clerk.waiting - 1
        msixSince := b.clerk.msixSince + 1
        msixFirst := if b.clerk.msixSince = 0 then b.mono else b.clerk.msixFirst
        msixUrgent := b.clerk.msixUrgent || decide (3 ≤ r.sev.code) } } : Block).msix

/-- Waiting records fed, oldest first, at most k of them, while the host ledger is writable and not full (R343). -/
def Block.feed (b : Block) : Nat → Block
  | 0 => b
  | k + 1 =>
    if b.ledgerWritable && decide (0 < b.clerk.waiting) && !b.ledgerFull then (b.feedOne).feed k else b

/-- Every waiting record fed as far as the ring takes them. -/
def Block.feedAll (b : Block) : Block := b.feed b.clerk.waiting

/-- Trace carries every record as Clerk writes it, at debug level 2 or 3 in TROT and higher gaits (R427). -/
def Block.traceRec (b : Block) (r : LedgerRec) : Block :=
  if decide (2 ≤ b.sec.level) && decide (b.gait ≤ 2) && b.runs 1 then b.emit (.trace (r.bytes 0 ++ bytesLE 8 b.now)) else b

/-- A record written into the copy and fed as far as possible; a waiting record pushed out of the copy is lost (R344). -/
def Block.writeRec (b : Block) (r : LedgerRec) : Block :=
  let wait := if b.on F.CLERK_LEDGER_CFG.EN then b.clerk.waiting + 1 else 0
  let lost := decide (4096 < wait)
  let copy := (r :: b.clerk.copy).take 4096
  let copy := if lost then upd copy 4095 (fun q => { q with ovfl := true }) else copy
  let b := { b with clerk := { b.clerk with
               copy := copy, waiting := min wait 4096, copyHead := (b.clerk.copyHead + 1) % 2 ^ 32 } }
  let b := if lost then (b.sat F.CLERK_LEDGER_STATUS.DROPPED 1).set F.CLERK_LEDGER_STATUS.OVERFLOW 1 else b
  (b.traceRec r).feedAll

/-- Where the latest record of a source stands in the copy. -/
def Clerk.latest (c : Clerk) (origin src : Nat) : Option Nat :=
  c.copy.findIdx? (fun r => r.origin == origin && r.src == src)

/-- A pulse occurrence: merged into the source's previous record when that one still waits and their heads agree but for
PHASE and OVFL, else a record of its own (R345). -/
def Block.pulse (b : Block) (r : LedgerRec) : Block :=
  match b.clerk.latest r.origin r.src with
  | some i =>
    match b.clerk.copy[i]? with
    | some q =>
      if decide (i < b.clerk.waiting) && b.on F.CLERK_LEDGER_CFG.EN &&
          ({ q with ovfl := false } : LedgerRec).head 0 == ({ r with ovfl := false } : LedgerRec).head 0 then
        { b with clerk := { b.clerk with
            copy := upd b.clerk.copy i (fun q => { q with count := min (q.count + r.count) (2 ^ 32 - 1) }) } }
      else b.writeRec r
    | none => b.writeRec r
  | none => b.writeRec r

/-- A pulse record of severity EVENT. -/
def Block.event (b : Block) (origin src kind : Nat) (payload : List Byte) : Block :=
  b.pulse { sev := .event, origin := origin, src := src, kind := kind, time := b.now, payload := padTo 16 payload }

/-- A NOTE record on SRC 1 (R340, R491). -/
def Block.note (b : Block) (origin kind : Nat) (payload : List Byte := []) : Block :=
  b.pulse { sev := .note, origin := origin, src := 1, kind := kind, time := b.now, payload := padTo 16 payload }

/-- The NOTE record of an ignored or refused register or window write (R535). -/
def Block.noteWrite (b : Block) (road : Road) (addr value : Nat) : Block :=
  b.note (writeOrigin addr) 0 (bytesLE 4 addr ++ bytesLE 4 value ++ bytesLE 1 (roadCode road))

/-- The PAYLOAD of a served source when its record is written: from the registers where it shows a state, else what the
latest firing gave (R340, R346, and the source tables of chapters 14 to 18 and 20). -/
def Block.servedPayload (b : Block) (origin src : Nat) (arg : List Byte) : List Byte :=
  match origin, src with
  | 2, 16 => []
  | 2, 17 => bytesLE 4 (look b.flash.image 4 0)
  | 3, 16 => bytesLE 1 (bitsOf (b.get F.CART_STATUS.LINK_A * 2 ^ 31 + b.get F.CART_STATUS.LINK_B * 2 ^ 30 +
      b2n b.cart.keeper.isOpen * 2 ^ 29 + b2n b.loftLimit * 2 ^ 28 + b.get F.CART_STATUS.MOD_A * 2 ^ 27 +
      b.get F.CART_STATUS.MOD_B * 2 ^ 26 + b.get F.CART_STATUS.LOS_A * 2 ^ 25 + b.get F.CART_STATUS.LOS_B * 2 ^ 24) 31 24)
  | 6, 18 => bytesLE 4 (bhStatus 1)
  | 7, 18 => bytesLE 4 (bhStatus 0)
  | 18, 16 => bytesLE 4 (b.get F.RFC_CHAIN_STATE.SHUT)
  | 20, 32 => bytesLE 2 (b.get F.FLASH_WEAR.TALLY_WEAR)
  | 20, 33 => bytesLE 2 (b.get F.FLASH_STATUS.ERASE_BLK) ++ [0, 0] ++ bytesLE 4 (b.get F.FLASH_SUSPENDS.CUR)
  | 21, 32 => if b.sec.lc = 4 then [] else bytesLE 4 (look b.flash.image 12 0)
  | 24, 32 => bytesLE 3 (b.get F.PIN_GPIO_EVT.EVT)
  | 24, 33 => bytesLE 1 (b.get F.PIN_TEMP.SADDLE) ++ bytesLE 1 (b.get F.PIN_TEMP.BRIDLE) ++
      bytesLE 1 (b.get F.PIN_TEMP.TACK) ++ [0]
  | _, _ => arg
where
  bhStatus (r : Nat) : Nat := b.get (F.LM_BH_STATUS.LINKED r) * 2 ^ 31 + b.get (F.LM_BH_STATUS.CONFLICT r) * 2 ^ 30 +
    b.get (F.LM_BH_STATUS.MISSED r)

/-- The record of a served source (R346). -/
def Block.servedRec (b : Block) (s : ServedSrc) (count : Nat) : LedgerRec :=
  { sev := .event, served := true, origin := s.origin, src := s.src, count := count, time := b.now,
    payload := padTo 16 (b.servedPayload s.origin s.src s.arg) }

/-- A served source fires (R346): a record when IDLE, a refire counted when ACTIVE or ACTIVE_PENDING. -/
def Block.fire (b : Block) (origin src : Nat) (arg : List Byte := []) : Block :=
  match b.clerk.served.findIdx? (fun s => s.origin == origin && s.src == src) with
  | some i =>
    { b with clerk := { b.clerk with
        served := upd b.clerk.served i (fun s => { s with pending := true, refires := s.refires + 1, arg := arg }) } }
  | none =>
    let s : ServedSrc := { origin := origin, src := src, arg := arg }
    ({ b with clerk := { b.clerk with served := b.clerk.served ++ [s] } }).writeRec (b.servedRec s 1)

/-- DONE for a source (R346): ACTIVE returns to IDLE; ACTIVE_PENDING writes its record and stays ACTIVE; IDLE ignores it. -/
def Block.serveDone (b : Block) (origin src : Nat) : Block :=
  match b.clerk.served.findIdx? (fun s => s.origin == origin && s.src == src) with
  | none => b
  | some i =>
    match b.clerk.served[i]? with
    | none => b
    | some s =>
      if s.pending then
        ({ b with clerk := { b.clerk with
            served := upd b.clerk.served i (fun s => { s with pending := false, refires := 0 }) } }).writeRec
          (b.servedRec s s.refires)
      else { b with clerk := { b.clerk with served := b.clerk.served.eraseIdx i } }

/-- A served source is not IDLE. -/
def Block.servedActive (b : Block) (origin src : Nat) : Bool :=
  b.clerk.served.any (fun s => s.origin == origin && s.src == src)

/-- Record IDX of the copy as a copy reader sees it, PHASE 0: none when older than HEAD − 4,096, or not yet written, or
lost with the copy (R344, CLERK_COPY_DATA). -/
def Block.copyRec (b : Block) (idx : Nat) : Option LedgerRec :=
  let back := (b.clerk.copyHead + 2 ^ 32 - idx % 2 ^ 32) % 2 ^ 32
  if back = 0 ∨ 4096 < back then none else b.clerk.copy[back - 1]?

end Sys2Proof.Machine
end

