-- ==== Sys2Proof/Machine/Roads.lean ====
section
/-! DEFINITION. Which writes a road lets through (R24, R56, R331, R334, R352, R357, R358, R427, R532, R533). -/

namespace Sys2Proof.Machine

/-- The register block of the Hatch, out of the debug port's reach (R427). -/
def hatchBlock (a : Nat) : Bool := a / 0x100000 == 18

/-- PCIe does not reach the device in WALK, HALT or before the Saddle die has power (R334, R358). -/
def Block.pcieDown (b : Block) : Bool := b.watch.plan == 3 || b.watch.plan == 4 || b.watch.plan == 7

/-- LOCAL takes frames (R350, R358): Carter runs and the floor of the start has been written. -/
def Block.creoshUp (b : Block) : Bool := b.runs 3 && b.creosh.floorDone

/-- A write that the hitching port may make (R532). -/
def Block.hitchWrites (b : Block) (a : Nat) : Bool :=
  match Regs.find a with
  | some d => d.hWrite == 2 || (d.hWrite == 1 && b.sec.lc != 2)
  | none => false

/-- A write that the start sequence ignores with a NOTE record: outside CLERK, until step 7 completes (R56); the lame state ends
the start (R61). -/
def Block.startIgnores (b : Block) (road : Road) (a : Nat) : Bool :=
  (road == .bar0 || road == .creosh || road == .dap) && !b.ost.started && b.watch.plan != 5 && a / 0x100000 != 2

/-- The writes that Creosh refuses (R352, R533): the Locksmith window, SEC_LC_CMD. -/
def creoshRefuses (a : Nat) : Bool := windowOwner a == some 2 || a == R.SEC_LC_CMD

/-- A write to address a over a road goes no further: with a NOTE record (some true), or without (some false). SEC_LC_CMD goes on
to its own refusal (R418). -/
def Block.roadStops (b : Block) (road : Road) (a : Nat) : Option Bool :=
  if road = .hitch then (if b.hitchWrites a || a == R.SEC_LC_CMD then none else some (decide (a < 0x3600000)))
  else if road = .bar0 ∧ b.pcieDown then some false
  else if road = .creosh ∧ (!b.creoshUp || windowOwner a == some 2) then some false
  else if road = .dap ∧ (b.sec.level < 3 ∨ hatchBlock a) then some false
  else if b.startIgnores road a then some (decide (a < 0x3600000))
  else none

/-- A write of v to address a over a road, f its effect where the road lets it through. -/
def Block.viaRoad (b : Block) (road : Road) (a v : Nat) (f : Block → Block) : Block :=
  match b.roadStops road a with
  | none => f b
  | some true => b.noteWrite road a v
  | some false => b

/-- The same for a write that reaches the fuses or the Assay die. -/
def State.viaRoad (s : State) (road : Road) (a v : Nat) (f : State → State) : State :=
  match s.blk.roadStops road a with
  | none => f s
  | some true => { s with blk := s.blk.noteWrite road a v }
  | some false => s

end Sys2Proof.Machine
end

