-- ==== Sys2Proof/Machine/Tally.lean ====
section
/-! DEFINITION. Tallies and the journal they are written to (R444 to R448, R451): the image, the write queue, the
programming of journal records. The meanings of chapter 16 and every writer of a tally use these. -/

namespace Sys2Proof.Machine

/-- The value of a tally: every read is served from the image (R444). -/
def Block.tally (b : Block) (id : Nat) : Nat := look b.flash.image id 0

/-- The tally is of class A (R444 and the tallies' own chapters: 16 OST_MIG). -/
def tallyClassA (id : Nat) : Bool := decide (id ≤ 11) || id == 16

/-- Stages of R451. -/
def stageWorn : Nat := 1
def stageExhausted : Nat := 2

/-- STAGE of FLASH_STATUS. -/
def Block.stage (b : Block) : Nat := b.get F.FLASH_STATUS.STAGE

/-- The role of the rotation in use: the reserve is the journal for class A from WORN on (R451). -/
def Block.journalRole (b : Block) : Nat := if b.stage = 0 then 1 else 3

/-- A block of the flash. -/
def Block.blkAt (b : Block) (n : Nat) : FlashBlk := nth b.flash.blks n { role := 31 }

/-- Block n in service as a journal block. -/
def Block.inRotation (b : Block) (n : Nat) : Bool :=
  let k := b.blkAt n
  k.role == b.journalRole && !k.retired && !k.frozen

/-- The ready blocks of the rotation (R447), in the order in which they become the head: ascending, round from the head. -/
def Block.readyBlocks (b : Block) : List Nat :=
  let all := (List.range 96).filter (fun n => b.inRotation n && (b.blkAt n).ready && n != b.flash.head)
  all.filter (fun n => decide (b.flash.head < n)) ++ all.filter (fun n => decide (n < b.flash.head))

/-- Units of contents in a block (R438). -/
def blkUnits : Nat := 496

/-- Units appended to block n. -/
def Block.addUnits (b : Block) (n : Nat) (us : List JUnit) : Block :=
  { b with flash := { b.flash with
      blks := upd b.flash.blks n (fun k => { k with units := k.units ++ us, ready := false }) } }

/-- The block where the next record goes, if any unit is free (R447). -/
def Block.nextBlk (b : Block) : Option Nat :=
  if (b.blkAt b.flash.head).units.length < blkUnits && b.inRotation b.flash.head then some b.flash.head
  else b.readyBlocks.head?

/-- One record programmed into the next free unit; none when no unit is free. -/
def Block.putUnit (b : Block) (u : JUnit) : Option Block :=
  match b.nextBlk with
  | none => none
  | some n => some ({ b.addUnits n [u] with flash := { (b.addUnits n [u]).flash with head := n } })

/-- Units left to the end of the page that holds the last programmed unit of block n (R445). -/
def Block.pageRest (b : Block) (n : Nat) : Nat := (16 - (b.blkAt n).units.length % 16) % 16

/-- A record in one unit (class B), or two identical records in units of different pages (class A, R445). -/
def Block.putRecord (b : Block) (id value : Nat) : Option Block :=
  let u := JUnit.record id value b.flash.nextSeq
  let fin (b : Block) (n : Nat) : Block :=
    ({ b with flash := { b.flash with nextSeq := b.flash.nextSeq + 1 } }).count .flash C.FLASH.RECORDS n
  match b.putUnit u with
  | none => none
  | some b1 =>
    if !tallyClassA id then some (fin b1 1)
    else
      let b2 := b1.addUnits b1.flash.head (List.replicate (b1.pageRest b1.flash.head) .skip)
      match b2.putUnit u with
      | none => none
      | some b3 => some (fin b3 2)

/-- The first copy alone of a class A write, where no unit is free for the second (R445). -/
def Block.putFirst (b : Block) (t : TallyReq) : Option Block :=
  if !tallyClassA t.id || t.first.isSome then none
  else match b.putUnit (.record t.id t.value b.flash.nextSeq) with
    | none => none
    | some b1 =>
      let half : TallyReq := { t with first := some b.flash.nextSeq }
      some (({ b1 with flash := { b1.flash with
        nextSeq := b.flash.nextSeq + 1, queue := b1.flash.queue.map (fun q => if q = t then half else q) } }).count .flash C.FLASH.RECORDS)

/-- The records of a queued write that are not programmed yet (R445): all, or the second copy. -/
def Block.putReq (b : Block) (t : TallyReq) : Option Block :=
  match t.first with
  | none => b.putRecord t.id t.value
  | some s => (b.putUnit (.record t.id t.value s)).map (fun b => b.count .flash C.FLASH.RECORDS)

/-- The next queued write to program: class A before class B, each in the order accepted (R445). -/
def nextReq (q : List TallyReq) : Option TallyReq :=
  match q.find? (fun t => tallyClassA t.id) with
  | some t => some t
  | none => q.head?

/-- Room of a COMMAND crossing of group 7 (R368, R372): four entries in FAST, one in FULL. -/
def Block.cmdRoom (b : Block) : Nat := if bitOf (b.get F.CLK_XSTATUS.FAST_ON) 7 then 4 else 1

/-- A tally write at the flash controller (R445, R451): refused in EXHAUSTED (class A), held as a shadow from WORN on (class B), else
accepted into the queue and shown at once. -/
def Block.tallyIn (b : Block) (id v : Nat) : Block :=
  if tallyClassA id && b.stage == stageExhausted then
    ((b.set F.FLASH_TALLY_STATUS.LAST 2).set F.FLASH_TALLY_STATUS.LAST_ID id).count .flash C.FLASH.REFUSED_EXH
  else if !tallyClassA id && decide (stageWorn ≤ b.stage) then
    let b := { b with flash := { b.flash with
      image := put b.flash.image id v 0, shadowIds := id :: b.flash.shadowIds.filter (· != id) } }
    ((b.set F.FLASH_TALLY_STATUS.LAST 1).set F.FLASH_TALLY_STATUS.LAST_ID id).count .flash C.FLASH.REFUSED_WORN
  else
    let b := { b with flash := { b.flash with
      image := put b.flash.image id v 0, queue := b.flash.queue.filter (fun (t : TallyReq) => t.id != id) ++ [({ id := id, value := v } : TallyReq)] } }
    if b.nextBlk.isNone then b.count .flash C.FLASH.WRITE_WAIT else b

/-- A write to id would not enter the queue: 16 others wait there (R445). -/
def Block.tallyFull (b : Block) (id : Nat) : Bool := decide (16 ≤ (b.flash.queue.filter (fun t => t.id != id)).length)

/-- The writes that wait in the crossing taken in order, as far as the queue has room for them (R368). -/
def Block.tallyTake (b : Block) : List (Nat × Nat) → Block
  | [] => b
  | t :: rest =>
    if b.tallyFull t.1 then b
    else (({ b with clk := { b.clk with cmds := rest } }.count (.clk 7) C.CLK.XFER).tallyIn t.1 t.2).tallyTake rest

/-- Queued writes programmed while units are free, at most k of them, those that wait in the crossing following into the queue; the rest
wait for a reclaim (R446). -/
def Block.flushTallies (b : Block) : Nat → Block
  | 0 => b
  | k + 1 =>
    match nextReq b.flash.queue with
    | none => b
    | some t =>
      match b.putReq t with
      | none => (b.putFirst t).getD b
      | some b' =>
        let q : Flash := { b'.flash with queue := b'.flash.queue.erase t }
        Block.flushTallies (Block.tallyTake { b' with flash := q } b'.clk.cmds) k

/-- A write to a tally by its owner (R368, R445, R451): taken at once, and programmed as soon as units are free, unless 16 writes wait;
then it waits in the crossing, behind those that wait there, which stalls its sender once it has no room, counted in CMD_STALL. -/
def Block.tallyPut (b : Block) (id v : Nat) : Block :=
  let v := v % 2 ^ 32
  if !b.clk.cmds.isEmpty || b.tallyFull id then
    let b := if b.cmdRoom ≤ b.clk.cmds.length then b.count (.clk 7) C.CLK.CMD_STALL else b
    { b with clk := { b.clk with cmds := b.clk.cmds ++ [(id, v)] } }
  else ((b.count (.clk 7) C.CLK.XFER).tallyIn id v).flushTallies 40

/-- A class A write to id would be accepted now: the condition under which its writer may go on (R451). -/
def Block.tallyOk (b : Block) (id : Nat) : Bool := !(tallyClassA id && b.stage == stageExhausted)

/-- No write to id waits: its latest value is persistent. -/
def Block.tallyDone (b : Block) (id : Nat) : Bool := b.flash.queue.all (fun t => t.id != id) && b.clk.cmds.all (fun t => t.1 != id)

end Sys2Proof.Machine
end

