-- ==== Sys2Proof/Machine/Cells.lean ====
section
/-! DEFINITION. Cells of the Cellar and the Loft (R281, R282, book 0 and book 1 of R499), and the stations' place among the
radios, which counters and holders of cells need. -/

namespace Sys2Proof.Machine

/-- Cells of the Cellar (R499). -/
def cellarCells : Nat := 32768

/-- Cells an n-octet frame needs (R111, R281). -/
def cellsFor (octets : Nat) : Nat := ceilDiv octets 256

/-- MiB of DRAM found (TOP_ID.DRAM, R35). -/
def Block.dramMib (b : Block) : Nat := if b.get F.TOP_ID.DRAM = 0 then 0 else 256 * 2 ^ b.get F.TOP_ID.DRAM

/-- Cells of the Loft: SIZE_MIB, limited to the DRAM less 64 MiB, times 4,096 (R35, R282). -/
def Block.loftCells (b : Block) : Nat := min (b.get F.CART_LOFT.SIZE_MIB) (b.dramMib - 64) * 4096

/-- b with Carter changed. -/
def Block.updCart (b : Block) (f : Carter → Carter) : Block := { b with cart := f b.cart }

/-- n cells written to the Loft or read from it, at 16 octets a ns (R34). -/
def Block.loftMove (b : Block) (n : Nat) : Block := b.updCart (fun c => { c with loftBusy := max b.mono c.loftBusy + 16 * n })

/-- n Cellar cells returned. -/
def Block.freeCells (b : Block) (n : Nat) : Block := b.updCart (fun c => { c with cellar := min cellarCells (c.cellar + n) })

/-- n Cellar cells reserved, when the Cellar has them. -/
def Block.takeCells (b : Block) (n : Nat) : Option Block :=
  if n ≤ b.cart.cellar then some (b.updCart (fun c => { c with cellar := c.cellar - n })) else none

/-- A holding of n cells already reserved, with its number (R281): refs copies share it. -/
def Block.poolOpen (b : Block) (n refs : Nat) : Nat × Block :=
  (b.cart.nextPool, b.updCart (fun c => { c with
    pool := c.pool ++ [(⟨c.nextPool, n, refs, false⟩ : CellUse)], nextPool := c.nextPool + 1 }))

/-- k copies more share the holding. -/
def Block.poolShare (b : Block) (id k : Nat) : Block :=
  b.updCart (fun c => { c with pool := c.pool.map (fun u => if u.id = id then { u with refs := u.refs + k } else u) })

/-- The holding with a number, if it exists. -/
def Block.poolAt (b : Block) (id : Nat) : Option CellUse := b.cart.pool.find? (fun u => u.id == id)

/-- A spilled holding passes through Cellar cells on its way out, and waits while none is free (R282). -/
def Block.loftWaits (b : Block) (id : Nat) : Bool :=
  b.cart.cellar == 0 && (match b.poolAt id with | some u => u.loft | none => false)

/-- A spilled holding is read back as it leaves (R34, R282). -/
def Block.loftRead (b : Block) (id : Nat) : Block :=
  match b.poolAt id with
  | some u => if u.loft then b.loftMove u.cells else b
  | none => b

/-- One copy of the holding has left: its cells return with the last copy (R281). -/
def Block.poolDrop (b : Block) (id : Nat) : Block :=
  match b.poolAt id with
  | none => b
  | some u =>
    if 2 ≤ u.refs then
      b.updCart (fun c => { c with pool := c.pool.map (fun u => if u.id = id then { u with refs := u.refs - 1 } else u) })
    else
      let b := b.updCart (fun c => { c with pool := c.pool.filter (fun u => u.id != id) })
      if u.loft then b.updCart (fun c => { c with loft := c.loft + u.cells }) else b.freeCells u.cells

/-! ### Stations -/

/-- First address of link MAC r's window (R104). -/
def lmWin (r : Nat) : Nat := 0x2C00000 - 0x100000 * r

/-- Address of the station entry of a station on radio r (R105). -/
def staAddr (r sta : Nat) : Nat := lmWin r + 0x20000 + 64 * sta

/-- The indices of entries of a table whose byte at offset o is not 0, rising. -/
def Block.liveIdx (b : Block) (base size stride o : Nat) : List Nat :=
  (b.tabs.filter (fun c => decide (base ≤ c.1 ∧ c.1 < base + size) && (c.1 - base) % stride == o)).map
    (fun c => (c.1 - base) / stride)

/-- FLAGS of a station entry (R105). -/
def Block.staFlags (b : Block) (r sta : Nat) : Nat := b.tab (staAddr r sta + 8) 4

/-- The station entry is VALID on radio r. -/
def Block.staValid (b : Block) (r sta : Nat) : Bool := bitOf (b.staFlags r sta) 0

/-- Address of agreement i of radio r (R108). -/
def agrAddr (r i : Nat) : Nat := lmWin r + 0x40000 + 16 * i

/-- Address of Drover's station entry (R148). -/
def drovSta (sta : Nat) : Nat := 0x2800000 + 64 * sta

/-- CTRL of Drover's station entry. -/
def Block.drovCtrl (b : Block) (sta : Nat) : Nat := b.tab (drovSta sta) 2

/-- Drover's station entry is VALID. -/
def Block.drovValid (b : Block) (sta : Nat) : Bool := bitOf (b.drovCtrl sta) 15

/-- Address of a multi-link record (R138). -/
def mlAddr (i : Nat) : Nat := 0x2D00000 + 32 * i

/-- The multi-link record of a station, when ML is set and the record is valid (R138, R148). -/
def Block.mlOf (b : Block) (sta : Nat) : Option Nat :=
  if bitOf (b.drovCtrl sta) 6 then
    let i := b.tab (drovSta sta + 2) 2 % 1024
    let v := b.tab (mlAddr i) 2
    if bitOf v 15 && v % 2048 == sta && bitsOf (b.tab (mlAddr i + 3) 1) 2 1 != 3 then some i else none
  else none

/-- The link entry of a multi-link station that has ANCHOR set (R107). -/
def Block.anchorOf (b : Block) (sta : Nat) : Option Nat :=
  [0, 1, 2].find? (fun r => b.staValid r sta && bitOf (b.staFlags r sta) 3 && bitOf (b.staFlags r sta) 4)

/-- The radio of a station's anchor link, or of its only link (R136, R139, R149): without a record, that of the entry with ANCHOR
for a multi-link station, else the lowest with a valid entry. -/
def Block.staRadio (b : Block) (sta : Nat) : Nat :=
  match b.mlOf sta with
  | some i => bitsOf (b.tab (mlAddr i + 3) 1) 2 1
  | none => (b.anchorOf sta).getD (if b.staValid 0 sta then 0 else if b.staValid 1 sta then 1 else 2)

/-- The radio whose DROV counters a queue's losses belong to (R149, R150). -/
def Block.queueRadio (b : Block) (key : Nat) : Nat := if key < 8192 then b.staRadio (key / 4) else (key - 8192) / 16 % 3

end Sys2Proof.Machine
end

