-- ==== Sys2Proof/Machine/Reg.lean ====
section
/-! DEFINITION. Channels of the radios and the span of the mesh (R62 to R64, R70, R71, R174, R175), the regulatory fuse
block and the allowed-channel sets (R255, R256). -/

namespace Sys2Proof.Machine

/-! ### Fuse bytes -/

/-- Byte a of a fuse block held as words. -/
def fuseByte (m : List (Nat × Nat)) (a : Nat) : Nat := (look m (a / 4) 0 >>> (8 * (a % 4))) % 256

/-- n bytes from byte a of a fuse block, little-endian. -/
def fuseNum (m : List (Nat × Nat)) (a : Nat) : Nat → Nat
  | 0 => 0
  | n + 1 => fuseByte m a + 256 * fuseNum m (a + 1) n

/-- REG_LOCK (R255). -/
def Fuses.regLock (fu : Fuses) : Bool := bitOf (fuseNum fu.reg 2 2) 0

/-! ### Wi-Fi channels -/

/-- The 20 MHz channels from a to z, step 4. -/
def chanSteps (a z : Nat) : List Nat := ((List.range ((z - a) / 4 + 1)).map (fun i => a + 4 * i))

/-- The 20 MHz channels of a radio (R62): 0 = RADIO-6G, 1 = RADIO-5G, 2 = RADIO-2G4. -/
def chans20 (r : Nat) : List Nat :=
  match r with
  | 0 => chanSteps 1 233
  | 1 => chanSteps 36 64 ++ chanSteps 100 144 ++ chanSteps 149 177
  | _ => (List.range 13).map (· + 1)

/-- The blocks of 2^w 20 MHz channels from channel a on, n of them. -/
def chanBlocks (a w n : Nat) : List (List Nat) :=
  (List.range n).map (fun k => chanSteps (a + 4 * 2 ^ w * k) (a + 4 * 2 ^ w * k + 4 * (2 ^ w - 1)))

/-- The channels of width code w of a radio, as lists of 20 MHz channels in rising order (R62). -/
def chanTable (r w : Nat) (ch320 : Bool) : List (List Nat) :=
  match r, w with
  | 2, 0 => (chans20 2).map (fun c => [c])
  | 2, 1 => (List.range 9).map (fun i => [i + 1, i + 5])
  | 2, _ => []
  | _, 0 => (chans20 r).map (fun c => [c])
  | 0, 1 => chanBlocks 1 1 29
  | 0, 2 => chanBlocks 1 2 14
  | 0, 3 => chanBlocks 1 3 7
  | 0, 4 => if ch320 then chanBlocks 33 4 3 else chanBlocks 1 4 3
  | 1, 1 => chanBlocks 36 1 4 ++ chanBlocks 100 1 6 ++ chanBlocks 149 1 4
  | 1, 2 => chanBlocks 36 2 2 ++ chanBlocks 100 2 3 ++ chanBlocks 149 2 2
  | 1, 3 => chanBlocks 36 3 1 ++ chanBlocks 100 3 1 ++ chanBlocks 149 3 1
  | _, _ => []

/-- The 20 MHz subchannels of the channel that PHY_CHAN_r names, none when it is not tunable (R64). -/
def Block.subchannels (b : Block) (r : Nat) : Option (List Nat) :=
  let p := b.get (F.PHY_CHAN.PRIMARY r)
  let w := b.get (F.PHY_CHAN.WIDTH r)
  let t := (chanTable r w (b.on (F.PHY_CHAN.CH320 r))).filter (fun l => l.contains p)
  if r = 2 ∧ w = 1 then
    let below := b.on (F.PHY_CHAN.SEC_BELOW r)
    t.find? (fun l => if below then l[1]? == some p else l[0]? == some p)
  else t.head?

/-- Standard-power limits are in force on RADIO-6G: EN is 1 and device time is before EXPIRY (R90). -/
def Block.spActive (b : Block) : Bool :=
  b.on F.PHY_SP_CTRL.EN && decide (b.now < b.btab 12 2 0x3402000 8)

/-- The bit of a 20 MHz channel in the fuse allowed set, ALLOW bits alone (R255). -/
def allowBit (fu : Fuses) (r c : Nat) : Bool :=
  match r with
  | 0 => bitOf (fuseNum fu.reg 4 8) ((c - 1) / 4)
  | 1 => bitOf (fuseNum fu.reg 0xC 4)
      (if c < 100 then (c - 36) / 4 else if c < 149 then 8 + (c - 100) / 4 else 20 + (c - 149) / 4)
  | _ => bitOf (fuseNum fu.reg 0x10 2) (c - 1)

/-- Byte offset in the fuse block of the EIRP of a channel's group, its PSD after it (R255, R256). -/
def groupAt (sp : Bool) (r c : Nat) : Nat :=
  match r with
  | 0 => 0x14 + 3 * ((c - 1) / 32) + (if sp then 2 else 0)
  | 1 => 0x2C + 2 * (if c < 52 then 0 else if c < 100 then 1 else if c < 149 then 2 else 3)
  | _ => 0x34

/-- EIRP of a channel's group in 0.5 dBm, 0 = not permitted (R255, R256). -/
def groupEirp (fu : Fuses) (sp : Bool) (r c : Nat) : Nat := fuseByte fu.reg (groupAt sp r c)

/-- PSD limit of a channel's group in 0.5 dBm/MHz, none at 0x7F or under standard power, whose limit is its table's. -/
def groupPsd (fu : Fuses) (sp : Bool) (r c : Nat) : Option Int :=
  if r = 0 ∧ sp then none
  else
    let v := fuseByte fu.reg (groupAt false r c + 1)
    if v = 0x7F then none else some (signedOf 8 v)

/-- A 20 MHz subchannel is in the fuse allowed-channel set (R256). -/
def Block.allowed20 (b : Block) (fu : Fuses) (r c : Nat) : Bool :=
  allowBit fu r c && groupEirp fu b.spActive r c != 0

/-- The channel in effect is permitted: tunable, with its primary 20 MHz in the allowed set (R63, R64; DEDUCED, log
entry 14: subchannels the set omits are punctured or left out per PPDU under R71). -/
def Block.chanPermitted (b : Block) (fu : Fuses) (r : Nat) : Bool :=
  (b.subchannels r).isSome && b.allowed20 fu r (b.get (F.PHY_CHAN.PRIMARY r))

/-- Subchannel masks that may be punctured in a non-OFDMA PPDU of width code w (IEEE 802.11be; log entry 15). -/
def punctPatterns (w : Nat) : List Nat :=
  match w with
  | 2 => [0, 1, 2, 4, 8]
  | 3 => [0, 1, 2, 4, 8, 16, 32, 64, 128, 3, 12, 48, 192]
  | 4 => [0] ++ (List.range 8).map (fun i => 3 * 4 ^ i) ++ (List.range 4).map (fun i => 15 * 16 ^ i) ++
      ((List.range 6).map (fun i => 15 + 3 * 4 ^ (i + 2))) ++ ((List.range 6).map (fun i => 15 * 16 ^ 3 + 3 * 4 ^ i))
  | _ => [0]

/-- Every subchannel of need is in m. -/
def maskCovers (m need : Nat) : Bool := need &&& m == need

/-- Number of bits set in the lowest 16. -/
def popcount (m : Nat) : Nat := (bitsSet 64 m).length

/-- The smallest permitted pattern of width w that covers need and spares the primary subchannel (R71). -/
def punctCover (w need prim : Nat) : Option Nat :=
  ((punctPatterns w).filter (fun m => maskCovers m need && !bitOf m prim)).foldl
    (fun best m => match best with
      | none => some m
      | some k => if popcount m < popcount k then some m else some k) none

/-! ### The mesh span -/

/-- Channel spacing in Hz (R174). -/
def spacingHz (c : Nat) : Nat := 12500 * 2 ^ c

/-- Number of channels N (R174). -/
def spanChannels (c : Nat) : Nat := min 256 (25600000 / spacingHz c)

/-- A span is valid (R175); f in Hz. Doubled, so that half a spacing stays whole. -/
def spanValid (c f : Nat) : Bool :=
  decide (c ≤ 4 ∧ 2 * 750000000 + spacingHz c ≤ 2 * f ∧ 2 * f + (2 * spanChannels c - 1) * spacingHz c ≤ 2 * 960000000)

/-- SIEVE_CH0_FREQ as tuned: to the nearest 10 Hz (R175). -/
def tunedHz (f : Nat) : Nat := (f + 5) / 10 * 10

/-- Number of channels of the span in effect, 0 when it is not valid. -/
def Block.meshChannels (b : Block) : Nat :=
  match b.sieve.span with
  | some s => if s.valid then spanChannels s.spacing else 0
  | none => 0

/-- Sub-band s of the regulatory fuses: LO and HI in 5 kHz above 750 MHz, EIRP in 0.5 dBm, DUTY_PERMIL (R255). -/
structure SubBand where
  lo   : Nat
  hi   : Nat
  eirp : Nat
  duty : Nat
  deriving DecidableEq, Repr

/-- Sub-band s. -/
def subBand (fu : Fuses) (s : Nat) : SubBand :=
  let a := 0x38 + 8 * s
  ⟨fuseNum fu.reg a 2, fuseNum fu.reg (a + 2) 2, fuseByte fu.reg (a + 4), fuseNum fu.reg (a + 6) 2⟩

/-- The sub-band a mesh channel belongs to: the lowest one that holds its whole width, EIRP and duty not 0 (R256). -/
def Block.meshSub (b : Block) (fu : Fuses) (ch : Nat) : Option Nat :=
  match b.sieve.span with
  | none => none
  | some s =>
    let c := 2 * s.freq + 2 * ch * spacingHz s.spacing
    (List.range 8).find? (fun n =>
      let q := subBand fu n
      decide (q.eirp ≠ 0 ∧ q.duty ≠ 0 ∧ 2 * (750000000 + 5000 * q.lo) + spacingHz s.spacing ≤ c ∧
        c + spacingHz s.spacing ≤ 2 * (750000000 + 5000 * q.hi)))

/-- The stored value of a register: its fields in place. -/
def Block.word (b : Block) (a : Nat) : Nat :=
  match Regs.find a with
  | some d => sumNat (d.fields.map (fun f => b.get f * 2 ^ f.lo))
  | none => 0

end Sys2Proof.Machine
end

