-- ==== Sys2Proof/Machine/Holds.lean ====
section
/-! DEFINITION. What each engine holds, and how it gives it up in a drain, on losing power and in an ENGINE reset (R16, R22,
R94, R112, R117, R137, R166 to R172, R197, R198, R205, R236, R268, R299 to R301, R327). -/

namespace Sys2Proof.Machine

/-- Packhorse cut off by a gait change or a reset (R470): a sheaf check is abandoned, and every complete sheaf is checked anew
when Ostler is next in RUN (R460). -/
def Block.packhorseCut (b : Block) : Block := { b with ost := { b.ost with sheafCheck := none, sheafOk := [], erased := [] } }

/-- Every hardware-owned byte of an owner's live tables cleared (R16). -/
def Block.clearHw (b : Block) (owner : Nat) : Block :=
  let ts := tables.filter (fun t => t.owner == owner && t.kind == .live && !t.hw.isEmpty)
  { b with tabs := b.tabs.filter (fun c =>
      match ts.find? (fun t => decide (t.base ≤ c.1 ∧ c.1 < t.base + t.size)) with
      | none => true
      | some t => let o := (c.1 - t.base) % t.stride
                  !(t.hw.any (fun h => decide (h.1 ≤ o ∧ o < h.1 + h.2)))) }

/-- Both banks of an owner's tables lost (R22, R93). -/
def Block.loseTables (b : Block) (p : TableDesc → Bool) : Block :=
  let ts := tables.filter p
  { b with tabs := b.tabs.filter (fun c =>
      !(ts.any (fun t => decide (t.base ≤ c.1 % 2 ^ 28 ∧ c.1 % 2 ^ 28 < t.base + t.size)))) }

/-! ### The keeper -/

/-- RING_KEEP_N released (R9, R299): the bypass closes. -/
def Block.keeperClose (b : Block) : Block :=
  b.updCart (fun c => { c with keeper := { c.keeper with isOpen := false, openedAo := none } })

/-! ### Front ends -/

/-- States of RFC_FE_STATUS_f.STATE. -/
def feOff : Nat := 0
def feWarm : Nat := 1
def feSettle : Nat := 2
def feReady : Nat := 3
def feTx : Nat := 4
def feRx : Nat := 5
def feCal : Nat := 6

/-- STATE of front end f. -/
def Block.fe (b : Block) (f : Nat) : Nat := b.get (F.RFC_FE_STATUS.STATE f)

/-- The front end is in WARM, SETTLE or CAL: the medium counts as busy, every mesh channel is blanked (R245). -/
def Block.feUnready (b : Block) (f : Nat) : Bool := b.fe f == feWarm || b.fe f == feSettle || b.fe f == feCal

/-- b with front end f in a state. -/
def Block.setFe (b : Block) (f s : Nat) : Block := b.set (F.RFC_FE_STATUS.STATE f) s

/-- An in-service calibration step aborted: discarded, the steps completed before it kept, the front end back to SETTLE (R249). -/
def Block.calAbort (b : Block) (f : Nat) : Block :=
  if b.fe f = feCal && !(b.feAt f).startup then (b.setFe f feSettle).count (.rfc (Fin.ofNat 4 f)) C.RFC.CAL_ABORT else b

/-- Front end f to OFF, a calibration step in progress aborted, waiting transmissions gone (R244, R249, R268). -/
def Block.feDown (b : Block) (f : Nat) : Block :=
  ((b.calAbort f).setFe f feOff).updFe f (fun e => { e with startup := false, waiting := [], wifi := none })

/-! ### Marshal's records and Drover's rations -/

/-- b with Drover changed. -/
def Block.updDrov (b : Block) (f : Drover → Drover) : Block := { b with drov := f b.drov }

/-- Address of DEFICIT of a station and access category (R148). -/
def deficitAddr (sta ac : Nat) : Nat := drovSta sta + 0x24 + 3 * ac

/-- DEFICIT in µs. -/
def Block.deficit (b : Block) (sta ac : Nat) : Int := signedOf 24 (b.tab (deficitAddr sta ac) 3)

/-- b with DEFICIT set. -/
def Block.setDeficit (b : Block) (sta ac : Nat) (v : Int) : Block := b.setTab (deficitAddr sta ac) 3 (unsignedOf 24 v)

/-- The queue of a key. -/
def Block.queue (b : Block) (key : Nat) : List QFrame :=
  match b.drov.queues.find? (fun q => q.key == key) with
  | some q => q.frames
  | none => []

/-- The frame at the head of a queue marked as there since now, in always-on ms (R149). -/
def stampHead (ms : Nat) : List QFrame → List QFrame
  | [] => []
  | f :: t => (if f.head = 0 then { f with head := ms + 1 } else f) :: t

/-- b with the frames of a queue replaced; an empty queue is not listed, and DEPTH follows (R148). -/
def Block.setQueue (b : Block) (key : Nat) (fs : List QFrame) : Block :=
  let rest := b.drov.queues.filter (fun q => q.key != key)
  let qs := if fs.isEmpty then rest else rest ++ [(⟨key, stampHead (b.ao / 1000000) fs⟩ : AirQueue)]
  let b := { b with drov := { b.drov with queues := qs } }
  if key < 8192 then b.setTab (drovSta (key / 4) + 0x30 + 2 * (key % 4)) 2 (min fs.length 65535) else b

/-- The cells of a queued frame go back to Carter (R169). -/
def Block.dropFrame (b : Block) (f : QFrame) : Block :=
  if f.pool = 0 then b.freeCells f.cells else b.poolDrop f.pool

/-- Every frame of a queue that p picks leaves it, its cells returned. -/
def Block.purgeQueue (b : Block) (key : Nat) (p : QFrame → Bool) : Block :=
  let fs := b.queue key
  (fs.filter p).foldl (fun b f => b.dropFrame f) (b.setQueue key (fs.filter (fun f => !p f)))

/-- The plan in slot k of radio r. -/
def Block.planAt (b : Block) (r k : Nat) : Option Plan := b.drov.plans.find? (fun p => p.radio == r && p.slot == k)

/-- The queue a plan's user draws on: its AC, or the group queue the user names. -/
def userKey (p : Plan) (u : PlanUser) : Nat := if p.form == .group then u.sta else 4 * u.sta + p.ac

/-- One user of a plan undone (R167): its charge added back, its reservations cleared, ciphertext of frames never on air
discarded; a frame keeps the number that a commit gave it (DESIGN CHOICE, log entry 157). aired: the frames went on air and count one
retry more (R168). -/
def Block.undoUser (b : Block) (p : Plan) (aired : Bool) (u : PlanUser) : Block :=
  let b := if p.form == .group then b else b.setDeficit u.sta p.ac (b.deficit u.sta p.ac + u.charge)
  let key := userKey p u
  b.setQueue key ((b.queue key).map (fun f =>
    if u.frames.contains f.id then
      { f with reserved := none, retry := if aired && !u.empty then f.retry + 1 else f.retry, enc := f.enc && f.aired }
    else f))

/-- b without the plan in slot k of radio r. -/
def Block.dropPlan (b : Block) (r k : Nat) : Block :=
  { b with drov := { b.drov with plans := b.drov.plans.filter (fun q => !(q.radio == r && q.slot == k)) } }

/-- The plan in slot k of radio r undone (R166 to R168), counted in PLAN_UNDONE and in its planner's lane. -/
def Block.undoSlot (b : Block) (r k : Nat) (aired : Bool := false) : Block :=
  match b.planAt r k with
  | none => b
  | some p =>
    let b := (p.users.foldl (fun b u => b.undoUser p aired u) b).dropPlan r k
    (b.count (.drov (Fin.ofNat 3 r)) C.DROV.PLAN_UNDONE).lane 4 (2 * r + min k 1) 1

/-- Undoing slot 1 undoes slot 2 first (R166); the slots are numbered 0 and 1 here, and a committed plan whose slot has been
planned anew stands at 2. -/
def Block.undoFrom (b : Block) (r k : Nat) (aired : Bool := false) : Block :=
  if k = 0 then (b.undoSlot r 1).undoSlot r 0 aired else b.undoSlot r k aired

/-- The PLANNED plans of a radio's first slot and of the one behind it undone; a COMMITTED one stays (R166). -/
def Block.undoAhead (b : Block) (r : Nat) : Block :=
  match b.planAt r 0 with
  | some p => if p.committed then b.undoSlot r 1 else b.undoFrom r 0
  | none => b.undoSlot r 1

/-- The plan of a radio that its TX start or its response concerns, COMMITTED or else PLANNED, undone with those behind it (R166). -/
def Block.undoLive (b : Block) (r : Nat) (aired : Bool := false) : Block :=
  match b.drov.plans.find? (fun p => p.radio == r && p.committed) with
  | some p => if p.slot = 0 then b.undoFrom r 0 aired else (b.undoFrom r 0).undoSlot r p.slot aired
  | none => b.undoFrom r 0

/-- Every PLANNED plan undone; the committed ones are forgotten without settling (R170, R171). -/
def Block.undoPlanned (b : Block) : Block :=
  let b := [0, 1, 2].foldl (fun b r => [1, 0].foldl (fun b k =>
    match b.planAt r k with
    | some p => if p.committed then b else b.undoSlot r k
    | none => b) b) b
  { b with drov := { b.drov with plans := [] } }

/-- Every queued frame dropped, counted in FLUSHED, its cells returned (R170, R171, R301). -/
def Block.flushQueues (b : Block) : Block :=
  (b.drov.queues.map (fun q => q.key)).foldl (fun b key =>
    (b.purgeQueue key (fun _ => true)).count (.drov (Fin.ofNat 3 (b.queueRadio key))) C.DROV.FLUSHED (b.queue key).length) b

/-- Drover's lanes reinitialised (R171): PLANNED plans undone, queues flushed, rations back to 0 with an empty book, a
BlockAckReq with starting sequence number 0 owed for every transmit agreement. -/
def Block.droverReset (b : Block) : Block :=
  let b := (b.undoPlanned).flushQueues
  let owed := ((List.range 2048).filter (fun s => b.drovValid s)).flatMap (fun s =>
    ((List.range 8).filter (fun t => b.tab (drovSta s + 4 + 2 * t) 2 % 2048 != 0)).map (fun t => (s, t, 1)))
  let b : Block := { b.clearHw 4 with drov := { nextId := b.drov.nextId, barOwed := owed } }
  ((List.range 2048).filter (fun s => b.drovValid s)).foldl (fun b s => b.setTab (drovSta s + 0x3C) 2 0xFFFF) b

/-- Marshal's lanes reinitialised (R172). -/
def Block.marshalReset (b : Block) : Block :=
  let b := b.clearHw 8
  let b := { b with marshal := {} }
  (List.range 1024).foldl (fun b i =>
    if bitOf (b.tab (mlAddr i) 2) 15 then
      let anchor := bitsOf (b.tab (mlAddr i + 3) 1) 2 1
      ((b.setTab (mlAddr i + 0xC) 1 anchor).setTab (mlAddr i + 0xE) 1 anchor).setTab (mlAddr i + 0x18) 8
        (b.now + 10000000)
    else b) b

/-! ### Link MACs -/

/-- Transmission ended and reception abandoned without a response (R94). -/
def Block.phyDrop (b : Block) (r : Nat) : Block := b.updPhy r (fun p => { rxNo := p.rxNo, obssHalf := p.obssHalf })

/-- The radio whose agreement table governs a station's receive agreements on radio r (R107): that of its anchor entry. none: the
anchor entry is not valid. -/
def Block.agrRadio (b : Block) (r sta : Nat) : Option Nat :=
  if bitOf (b.staFlags r sta) 3 then b.anchorOf sta else some r

/-- Number of a class 1 request of radio r's MPDU. -/
def mpduReq (r id : Nat) : Nat := 4 * id + r

/-- The scoreboard bit of an SN under agreement a of radio q (R111, R112): a final copy has set it, or a provisional MPDU on any link
holds it. -/
def Block.scoreBit (b : Block) (q a sn : Nat) : Bool :=
  (b.lmAt q).score.contains (a, sn) ||
    [0, 1, 2].any (fun r => (b.lmAt r).prov.any (fun m =>
      m.agr == some a && m.hdr.sn == sn && m.sta.bind (b.agrRadio r) == some q))

/-- One provisional MPDU undone (R112): its cells returned, its scoreboard bit cleared with it unless a final copy has set it; a
decryption not yet done is dropped. -/
def Block.undoMpdu (b : Block) (r : Nat) (m : ProvMpdu) : Block :=
  let b := b.freeCells m.cells
  let b := b.updLm r (fun l => { l with prov := l.prov.filter (fun q => q.id != m.id) })
  { b with lock := { b.lock with queue := b.lock.queue.filter (fun q => !(q.cls == 1 && q.frame == mpduReq r m.id)) } }

/-- The provisional MPDUs of the reception in progress undone, counted in RX_UNDONE_OTHER (R76, R78, R112): those of a PPDU already
received to its end stay. -/
def Block.undoRx (b : Block) (r : Nat) : Block :=
  ((b.lmAt r).prov.filter (fun m => m.ppdu == (b.phyAt r).rxNo)).foldl
    (fun b m => (b.undoMpdu r m).count (.lm (Fin.ofNat 3 r)) C.LM.RX_UNDONE_OTHER) b

/-- Every provisional MPDU undone, counted in RX_UNDONE_OTHER (R112, R137). -/
def Block.undoAllMpdus (b : Block) (r : Nat) : Block :=
  (b.lmAt r).prov.foldl (fun b m => (b.undoMpdu r m).count (.lm (Fin.ofNat 3 r)) C.LM.RX_UNDONE_OTHER) b

/-- Cells of held reorder MPDUs returned, the windows emptied. -/
def Block.dropHeld (b : Block) (r : Nat) : Block :=
  (b.freeCells (sumNat ((b.lmAt r).held.map (fun h => h.cells)))).updLm r (fun l => { l with held := [] })

/-- Reorder slots of an agreement: WIN_SIZE rounded up to a power of two (R109). -/
def slotsFor (win : Nat) : Nat :=
  (List.range 11).foldl (fun acc k => if acc = 0 ∧ clampTo 1 1024 win ≤ 2 ^ k then 2 ^ k else acc) 0

/-- The lowest base at which n contiguous slots of 32,768 are free beside the allocations (base, size) in rising order
(R109; DESIGN CHOICE, log entry 16: the manual does not say which of the free slots are taken). -/
def slotFit (n : Nat) : List (Nat × Nat) → Nat → Option Nat
  | [], at' => if at' + n ≤ 32768 then some at' else none
  | (base, size) :: t, at' => if at' + n ≤ base then some at' else slotFit n t (base + size)

/-- Slots allocated to agreement i of radio r with STATE and WIN_START set, or NOSLOT (R109, R117). -/
def Block.takeSlots (b : Block) (r i state : Nat) (start : Nat) : Block × Bool :=
  let a := agrAddr r i
  let n := slotsFor (b.tab (a + 4) 2)
  let used := ((List.range 1024).filter (fun j => (look? (b.lmAt r).slots j).isSome)).map
    (fun j => (b.tab (agrAddr r j + 0xC) 2, look (b.lmAt r).slots j 0))
  let used := sortBy (fun p q => p.1 ≤ q.1) used
  match slotFit n used 0 with
  | some base =>
    (((b.setTab (a + 3) 1 state).setTab (a + 8) 2 start).setTab (a + 0xC) 2 base |>.updLm r
      (fun l => { l with slots := put' l.slots i n }), true)
  | none => (b.setTab (a + 3) 1 2, false)

/-- Agreements after a reset (R117): STATE 3 with slots in index order, STATE 2 where they no longer fit. -/
def Block.restartAgreements (b : Block) (r : Nat) : Block :=
  let b := b.updLm r (fun l => { l with slots := [] })
  (List.range 1024).foldl (fun b i =>
    if bitOf (b.tab (agrAddr r i) 2) 15 then (b.takeSlots r i 3 0).1 else b) b

/-- NEXT_WAKE of every TWT entry of a radio cleared: the hardware's once it is written (R126, R137). -/
def Block.clearWakes (b : Block) (r : Nat) : Block :=
  let a := lmWin r + 0x12000
  { b with tabs := b.tabs.filter (fun c => !(decide (a ≤ c.1 ∧ c.1 < a + 0x2000 ∧ 0x10 ≤ (c.1 - a) % 32 ∧ (c.1 - a) % 32 < 0x18))) }

/-- A link MAC's lanes reinitialised (R94, R117, R137): the TSF count is kept without its adjustment. -/
def Block.lmReset (b : Block) (r : Nat) : Block :=
  let b := ((b.phyDrop r).undoAllMpdus r).dropHeld r
  let b := (b.undoFrom r 0).undoSlot r 2
  let b := ((b.feDown r).clearHw (lmEngine r)).clearWakes r
  let b := b.updLm r (fun l => { tsf := l.tsf, tsfFrac := l.tsfFrac, tsfHi := l.tsfHi, nextId := l.nextId })
  b.restartAgreements r

/-- A link MAC turned off: provisional MPDUs undone, held ones returned with their cells (R135), the radio's PHY tables lost
with the link MAC's own (R93). -/
def Block.lmOff (b : Block) (r : Nat) : Block :=
  let b := ((b.phyDrop r).undoAllMpdus r).dropHeld r
  let b := (b.undoFrom r 0).undoSlot r 2
  let b := b.feDown r
  let b := b.updLm r (fun l => { tsf := l.tsf, tsfFrac := l.tsfFrac, tsfHi := l.tsfHi, nextId := l.nextId })
  b.loseTables (fun t => t.owner == lmEngine r ||
    (t.owner == 12 && decide (0x3400000 + 0x40000 * r ≤ t.base ∧ t.base < 0x3440000 + 0x40000 * r)))

/-! ### Sieve and Post -/

/-- Provisional parsing of a stream undone (R205): its cells and Saddlebag reservation returned, counted in UNDONE. -/
def Block.undoStream (b : Block) (stall : Nat) : Block :=
  match b.post.streams.find? (fun s => s.stall == stall) with
  | none => b
  | some s =>
    let b := b.freeCells s.cells
    { b with post := { b.post with streams := b.post.streams.filter (fun q => q.stall != stall) } }.count .post C.POST.UNDONE

/-- Front end 3 leaves RX when every stall is FREE (R244). -/
def Block.sieveIdle (b : Block) : Block :=
  if b.sieve.stalls.isEmpty && b.fe 3 == feRx then b.setFe 3 feReady else b

/-- A stall released to FREE otherwise than at a frame's end, counted under n and in its lane, its stream to Post ended
ABANDONED (R183, R205). -/
def Block.releaseStall (b : Block) (idx n : Nat) : Block :=
  if b.sieve.stalls.any (fun s => s.idx == idx) then
    let b := { b with sieve := { b.sieve with stalls := b.sieve.stalls.filter (fun s => s.idx != idx) } }
    (((b.undoStream idx).count .sieve n).lane 9 idx 1).sieveIdle
  else b

/-- Every stall that p picks released, counted under n. -/
def Block.releaseStalls (b : Block) (p : Stall → Bool) (n : Nat) : Block :=
  (b.sieve.stalls.filter p).foldl (fun b s => b.releaseStall s.idx n) b

/-- The end of a blanking tail that begins now (R194). -/
def Block.tailEnd (b : Block) : Nat := b.mono + 1000 * b.get F.SIEVE_BLINK.TAIL_US

/-- Every transmission on air cut short with its ramp-down; its blanking tail runs (R197, R198, R254). -/
def Block.cutMeshTx (b : Block) : Block :=
  let on := b.sieve.txs.filter (fun t => t.air)
  let b := { b with sieve := { b.sieve with
    txs := b.sieve.txs.filter (fun t => !t.air), tails := b.sieve.tails ++ on.map (fun t => (t.id, t.req.ch, b.tailEnd)) } }
  let b := if on.isEmpty then b else b.count .sieve C.SIEVE.TX_CUT_SHORT on.length
  if b.fe 3 == feTx then b.setFe 3 (if b.sieve.stalls.isEmpty then feReady else feRx) else b

/-- Post learns that Sieve does not send a request (R191, R192): the exchange with its node ends, for the
node hears nothing (DEDUCED, log entry 25); an acknowledgement is counted in ACK_REFUSED (R212). -/
def Block.meshUnsent (b : Block) (t : MeshTx) : Block :=
  let b := { b with post := { b.post with exch := b.post.exch.filter (fun x => x.node != t.node) } }
  if t.role = 0 then b.count .post C.POST.ACK_REFUSED else b

/-- A request dropped with status LATE (R192). -/
def Block.meshLate (b : Block) (t : SieveTx) : Block :=
  let b := { b with sieve := { b.sieve with txs := b.sieve.txs.filter (fun q => q.id != t.id) } }
  let b := b.updFe 3 (fun e => { e with waiting := e.waiting.filter (· != t.id) })
  (b.count .sieve C.SIEVE.TX_LATE).meshUnsent t.req

/-- Transmissions ended toward STOP, OFF or in a reset (R197, R198): those on air cut short, those not yet on air LATE, for
they can no longer start on time (DEDUCED, log entry 21). -/
def Block.endMeshTx (b : Block) : Block :=
  let b := b.cutMeshTx
  b.sieve.txs.foldl (fun b t => b.meshLate t) b

/-- Stalls powered in WALK: 0 to max(RESERVE, 1) − 1 (R196). -/
def Block.walkStalls (b : Block) : Nat := max (min 32 (b.get F.SIEVE_RXCFG.RESERVE)) 1

/-- Sieve enters DRAIN toward a state (R197). -/
def Block.sieveDrain (b : Block) (want : Nat) : Block :=
  let b := b.releaseStalls (fun s => if want = stRun then false
    else if want = stReduced then decide (b.walkStalls ≤ s.idx) else true) C.SIEVE.ABANDONED
  if want = stStop ∨ want = stOff then b.endMeshTx else b

/-- Sieve's lanes reinitialised (R198): the channel state table is cleared, the span kept. -/
def Block.sieveReset (b : Block) : Block :=
  let b := ((b.releaseStalls (fun _ => true) C.SIEVE.ABANDONED).endMeshTx).feDown 3
  { b.clearHw 9 with sieve := { nextTx := b.sieve.nextTx, span := b.sieve.span } }

/-- Sieve turned off: as a reset, with its tables lost (R22, R197). -/
def Block.sieveOff (b : Block) : Block := b.sieveReset.loseTables (fun t => t.owner == 9)

/-- Address of a node's hot entry (R214). -/
def hotAddr (node : Nat) : Nat := 0x2400000 + 16 * node

/-- Hot entries that are not all zero, with their nodes. -/
def Block.hotNodes (b : Block) : List Nat :=
  (((b.tabs.filter (fun c => decide (0x2400000 ≤ c.1 ∧ c.1 < 0x2600000))).map (fun c => (c.1 - 0x2400000) / 16))).dedup

/-- DRAM address of a node's record (R35, R217). -/
def recAddr (node : Nat) : Nat := 0x1000000 + 256 * node

/-- A node's hot entry copied to TETHER of its record (R218). -/
def Block.saveHot (b : Block) (node : Nat) : Block :=
  { b with dram := writeBytes b.dram 0 (recAddr node + 0x1C) (readBytes b.tabs 0 (hotAddr node) 16) }

/-- Cells that Post holds for frames not yet delivered given back (R205). -/
def Block.postCells (b : Block) : Block :=
  b.freeCells (sumNat (b.post.streams.map (fun s => s.cells)) + sumNat (b.post.good.map (fun g => g.cells)) +
    sumNat (b.post.held.map (fun h => h.cells)))

/-- Post's lanes reinitialised: the hot table is lost until START rebuilds it from the records (R16, R218). Records, queues, grants and
the Saddlebag stay. -/
def Block.postReset (b : Block) : Block :=
  let b := b.postCells
  { b with
    tabs := clearRange b.tabs 0x2400000 0x200000
    post := { b.post with events := [], await := [], exch := [], streams := [], good := [], held := [], rebuild := true }
    sieve := { b.sieve with windows := [] } }

/-- Every tether and admission ends (R215, R239): records and queues are lost. -/
def Block.postLose (b : Block) : Block :=
  let b := b.postCells
  { b with
    tabs := clearRange b.tabs 0x2400000 0x210100
    dram := clearRange b.dram 0x1000000 0x3000000
    post := { bag := b.post.bag }
    sieve := { b.sieve with windows := [] } }

/-! ### Carter -/

/-- The ports of the counters (CART_CNT_SEL): RING-A, RING-B, HOST, MESH, AIR, BACKHAUL, LOCAL, device-wide. -/
def Block.cartCount (b : Block) (port n : Nat) (k : Nat := 1) : Block := b.count (.cart (Fin.ofNat 8 port)) n k

/-- A cut-through frame ended as a stomped frame on the other ring (R287). -/
def Block.stomp (b : Block) (c : CutFlight) : Block :=
  let b := (b.emit (.ring (1 - c.ingress) c.vlan c.frame true)).cartCount (1 - c.ingress) C.CART.TX_STOMPED
  (b.poolDrop c.pool).updCart (fun k => { k with cut := k.cut.filter (fun q => q.ingress != c.ingress) })

/-- Every frame of the troughs that p picks dropped, counted in FLUSHED of the trough's port. -/
def Block.flushTroughs (b : Block) (p : Nat → Bool) : Block :=
  (b.cart.troughs.filter (fun t => p t.t)).foldl (fun b t =>
    let b := t.frames.foldl (fun b f => b.poolDrop f.pool) b
    let b := b.updCart (fun c => { c with troughs := c.troughs.filter (fun q => q.t != t.t) })
    b.cartCount (t.t / 8) C.CART.FLUSHED t.frames.length) b

/-- Carter gives up every frame: cut-through frames stomped, trough frames and LOCAL's dropped (R300). -/
def Block.cartFlush (b : Block) : Block :=
  let b := (b.cart.cut.foldl (fun b c => b.stomp c) b).flushTroughs (fun _ => true)
  (b.cart.inbox.foldl (fun b x => b.poolDrop x.1) b).updCart (fun c => { c with inbox := [] })

/-- Carter's lanes reinitialised (R301): Cellar and Loft empty, with the frames that Drover and the link MACs held. -/
def Block.carterReset (b : Block) : Block :=
  let b := (b.cartFlush.undoPlanned).flushQueues
  let b := [0, 1, 2].foldl (fun b r => (b.undoAllMpdus r).dropHeld r) b
  let b := { b with post := { b.post with
    streams := b.post.streams.map (fun (s : PostStream) => { s with cells := 0 })
    good := b.post.good.map (fun (g : GoodFrame) => { g with cells := 0 })
    held := b.post.held.map (fun (h : HeldFrame) => { h with cells := 0 }) } }
  let b := (b.clearHw 3).keeperClose
  b.updCart (fun c => { c with
    cellar := cellarCells, loft := b.loftCells, pool := [], troughs := [], drr := []
    macs := c.macs.filter (fun m => m.static), polAt := [], cut := [], stamps := [], stampDue := [], resid := []
    servo := { c.servo with good := 0, last := none } })

/-- Carter turned off (R300): frames given up, tables and learned entries lost. -/
def Block.carterOff (b : Block) : Block :=
  let b := ((b.cartFlush.keeperClose).loseTables (fun t => t.owner == 3)).set F.CART_PTP_STATUS.LOCKED 0
  b.updCart (fun c => { c with
    macs := [], polAt := [], stamps := [], stampDue := [], resid := [], drr := [], servo := { c.servo with good := 0, last := none } })

/-! ### Locksmith -/

/-- The provisional MPDU of a class 1 request is left without its key: it cannot verify (R112, R314). -/
def Block.noKey (b : Block) (req : Nat) : Block :=
  b.updLm (req % 4) (fun l => { l with prov := l.prov.map (fun (m : ProvMpdu) => if m.id = req / 4 then { m with noKey := true } else m) })

/-- Locksmith's lanes reinitialised (R327): operations abandoned, receive operations as MIC failures of their MPDUs, key
cache and mask buffers emptied; the DRBG is reinstantiated from the entropy at hand as Locksmith starts. Vault, backing area, tallies, limit FIFO and registers stay. -/
def Block.lockReset (b : Block) : Block :=
  let b := (b.lock.queue.filter (fun q => q.cls == 1)).foldl (fun b q => b.noKey q.frame) b
  { b with lock := { b.lock with cache := [], queue := [], masks := [], gens := 0 } }

/-- Locksmith turned off in HALT: key cache and Vault lost (R22, R326). -/
def Block.lockOff (b : Block) : Block :=
  { b with lock := { b.lock with cache := [], queue := [], vault := [], vaultOk := false, rebuildOwed := true } }

end Sys2Proof.Machine
end

