-- ==== Sys2Proof/Machine/Engines.lean ====
section
/-! DEFINITION. Engine states and boundaries (R13 to R18, R26 to R31, R88), resets of kind ENGINE and SECTION (R15, R16,
R19, R327, R415) and the state every engine is wanted in (R20, R61, R400). -/

namespace Sys2Proof.Machine

/-! ### Shadows and banks -/

/-- Whose boundary transfers the RW-B shadow of a register: engines 0 to 11, front end f at 12 + f, 19 = a crossing group's
idle instant, 20 = a TOP loop's update (the register sections of chapters 3 to 14). -/
def shadowOwner (a : Nat) : Nat :=
  match blockEngine (a / 0x100000) with
  | some e => e
  | none =>
    match a / 0x100000 with
    | 10 => lmEngine ((a % 0x100000 - 0x100) / 0x40)
    | 11 => 12 + (a % 0x100000 - 0x100) / 0x40
    | 15 => 19
    | _ => 20

/-- Index of the primary subchannel in the channel in effect. -/
def Block.primIdx (b : Block) (r : Nat) : Nat :=
  match b.subchannels r with
  | some l => (l.findIdx? (fun c => c == b.get (F.PHY_CHAN.PRIMARY r))).getD 0
  | none => 0

/-- STATIC forms a permitted pattern with the channel in effect (R70). -/
def Block.punctOk (b : Block) (r v : Nat) : Bool :=
  v == 0 || ((b.subchannels r).isSome && (punctPatterns (b.get (F.PHY_CHAN.WIDTH r))).contains v && !bitOf v (b.primIdx r))

/-- The radio whose PHY_PUNCT_r or PHY_OBSS_LOOP_r a field is, if any. -/
def phyFieldRadio (f g : Nat → Fld) (x : Fld) : Option Nat := [0, 1, 2].find? (fun r => f r == x || g r == x)

/-- MAX of the OBSS-PD loop in dBm, at most −62 (R83). -/
def Block.obssMax (b : Block) (r : Nat) : Int := clampInt (-82) (-62) (b.getS (F.PHY_OBSS_LOOP.MAX r))

/-- MIN of the OBSS-PD loop in dBm, at least −82; above MAX it acts as MAX (R83, R381). -/
def Block.obssMin (b : Block) (r : Nat) : Int := min (b.obssMax r) (clampInt (-82) (-62) (b.getS (F.PHY_OBSS_LOOP.MIN r)))

/-- One shadow takes effect. STATIC that forms no permitted pattern is not applied and leaves a NOTE record (R70); EN of the
OBSS-PD loop going from 0 to 1 puts the level at MIN (R84). -/
def Block.takeShadow (b : Block) (s : Fld × Nat) : Block :=
  match phyFieldRadio F.PHY_PUNCT.STATIC F.PHY_PUNCT.STATIC s.1 with
  | some r => if b.punctOk r s.2 then b.set s.1 s.2 else b.noteWrite .device s.1.addr s.2
  | none =>
    match phyFieldRadio F.PHY_OBSS_LOOP.EN F.PHY_OBSS_LOOP.EN s.1 with
    | some r =>
      let b' := b.set s.1 s.2
      if !b.on s.1 && b'.on s.1 then b'.updPhy r (fun p => { p with obssHalf := 2 * b'.obssMin r }) else b'
    | none => b.set s.1 s.2

/-- Every shadow of an owner takes effect, in the order of their registers (R28). -/
def Block.takeShadows (b : Block) (owner : Nat) : Block :=
  let mine := b.shadows.filter (fun s => shadowOwner s.1.addr == owner)
  let b := { b with shadows := b.shadows.filter (fun s => shadowOwner s.1.addr != owner) }
  mine.foldl (fun b s => b.takeShadow s) b

/-- ACTIVE of an owner's bank register. -/
def activeFld (owner : Nat) : Fld :=
  if owner = 12 then F.PHY_BANK.ACTIVE else if owner = 13 then F.RFC_BANK.ACTIVE else F.ENG_BANK.ACTIVE owner

/-- The active bank of a table copied into its inactive bank (R26). -/
def Block.copyBank (b : Block) (owner n : Nat) : Block :=
  match bankedTable owner n with
  | none => b
  | some t =>
    let k := b.active owner n
    let src := (b.tabs.filter (fun c => decide (t.base + bankOff k ≤ c.1 ∧ c.1 < t.base + bankOff k + t.size))).map
      (fun c => (c.1 - t.base - bankOff k, c.2))
    let tabs := clearRange b.tabs (t.base + bankOff (1 - k)) t.size
    { b with tabs := src.foldl (fun m c => put m (t.base + bankOff (1 - k) + c.1) c.2 0) tabs }

/-- The bank operation of a table that is pending or in progress. -/
def Block.bankOp (b : Block) (owner n : Nat) : Option BankOp := b.eng.ops.find? (fun o => o.owner == owner && o.table == n)

/-- b with the bank operation of a table replaced. -/
def Block.setBankOp (b : Block) (owner n : Nat) (o : Option BankOp) : Block :=
  { b with eng := { b.eng with ops := b.eng.ops.filter (fun q => !(q.owner == owner && q.table == n)) ++ o.toList } }

/-- Profiles of a radio's FIR or mask table: one per width it supports (R62, R85). -/
def profiles (r : Nat) : List Nat := List.range (if r = 0 then 5 else if r = 1 then 4 else 2)

/-- NTAPS of a FIR profile is neither 0 nor an even number from 16 to 64 (R86). -/
def Block.firBad (b : Block) (r w : Nat) : Bool :=
  let n := b.btab 12 (4 * r) (0x3400000 + 0x40000 * r + 128 * w) 2
  n != 0 && !(decide (16 ≤ n ∧ n ≤ 64) && n % 2 == 0)

/-- Offsets of a mask profile that do not strictly increase (R87). -/
def Block.maskBad (b : Block) (r w : Nat) : Bool :=
  let a := 0x3401000 + 0x40000 * r + 128 * w
  let off (i : Nat) : Nat := b.btab 12 (4 * r + 1) (a + 4 + 4 * i) 2
  let n := min 30 (b.btab 12 (4 * r + 1) a 1)
  (List.range (n - 1)).any (fun i => decide (off (i + 1) ≤ off i))

/-- What the switch of a PHY table brings: NOTE records for profiles that act as built-in (R86, R87), EXPIRED cleared by a
later EXPIRY (R91). -/
def Block.phySwitched (b : Block) (n : Nat) : Block :=
  let r := n / 4
  match n % 4 with
  | 0 => if (profiles r).any (fun w => b.firBad r w) then b.note 17 0 [BitVec.ofNat 8 n] else b
  | 1 => if (profiles r).any (fun w => b.maskBad r w) then b.note 17 0 [BitVec.ofNat 8 n] else b
  | _ => if b.now < b.btab 12 2 0x3402000 8 then b.set F.PHY_SP_STATUS.EXPIRED 0 else b

/-- A pending switch takes effect; a copy that waited for it starts (R26). -/
def Block.switchBank (b : Block) (owner n : Nat) : Block :=
  match b.bankOp owner n with
  | some o =>
    if o.switch then
      let b := b.set (activeFld owner) (setBit (b.get (activeFld owner)) n (!bitOf (b.get (activeFld owner)) n))
      let b := if owner = 12 then b.phySwitched n else b
      if o.copy then (b.copyBank owner n).setBankOp owner n (some { o with switch := false }) else b.setBankOp owner n none
    else b
  | none => b

/-- Every pending switch of an owner that p picks takes effect. -/
def Block.switchBanks (b : Block) (owner : Nat) (p : Nat → Bool) : Block :=
  (b.eng.ops.filter (fun o => o.owner == owner && p o.table)).foldl (fun b o => b.switchBank owner o.table) b

/-- HOLD of an engine. -/
def Block.hold (b : Block) (e : Nat) : Bool := b.on (F.ENG_CTRL.HOLD e)

/-- Shadows and switches of an engine take effect unless HOLD is set (R28, R30). -/
def Block.transfer (b : Block) (e : Nat) : Block :=
  if b.hold e then b else (b.takeShadows e).switchBanks e (fun _ => true)

/-- An engine reaches its boundary (R28, R30). -/
def Block.boundary (b : Block) (e : Nat) : Block := (b.wrap (F.ENG_STATUS.BOUNDARY_COUNT e) 1).transfer e

/-- The radio of a link MAC engine. -/
def lmRadio (e : Nat) : Nat := 7 - e

/-- PHY table switches of a radio whose link MAC is not in RUN or REDUCED take effect at once, unless its HOLD is 1 (R88). -/
def Block.phyAtOnce (b : Block) (e : Nat) : Block :=
  if decide (5 ≤ e ∧ e ≤ 7) && !b.runs e && !b.hold e then b.switchBanks 12 (fun t => t / 4 == lmRadio e) else b

/-- No front end is in TX (R252). -/
def Block.noTx (b : Block) : Bool := [0, 1, 2, 3].all (fun f => b.fe f != feTx)

/-- A front end has left TX: what its register shadows hold takes effect (R258, R260), and the RFC table's pending switch once no
front end is in TX (R252). -/
def Block.feBoundary (b : Block) (f : Nat) : Block :=
  let b := if b.fe f == feTx then b else b.takeShadows (12 + f)
  if b.noTx then b.switchBanks 13 (fun _ => true) else b

/-- Nothing stands between a write and its effect: the owner is in OFF, RESET, START or STOP without HOLD, the front end is
OFF; a watch round is one step, so none runs between steps (R29, chapters 8 and 14). -/
def Block.atOnce (b : Block) (owner : Nat) : Bool :=
  if owner = 11 then !b.hold 11
  else if owner < 12 then !b.busyH owner && !b.hold owner
  else if owner < 16 then b.fe (owner - 12) == feOff
  else false

/-- No operation of engine e is in progress (R29), by its boundary's definition: no PPDU, plan, frame, transmission, tether
event, cut-through, cipher request or record. Marshal and Clerk do everything within one command. -/
def Block.idle (b : Block) (e : Nat) : Bool :=
  match e with
  | 0 => b.ost.todo.isEmpty && b.ost.sheafCheck.isNone
  | 2 => b.lock.queue.isEmpty
  | 3 => b.cart.cut.isEmpty
  | 4 => b.drov.plans.isEmpty
  | 5 => (b.phyAt 2).rx.isNone && (b.phyAt 2).tx.isNone
  | 6 => (b.phyAt 1).rx.isNone && (b.phyAt 1).tx.isNone
  | 7 => (b.phyAt 0).rx.isNone && (b.phyAt 0).tx.isNone
  | 9 => b.sieve.stalls.isEmpty && b.sieve.txs.all (fun t => !t.air)
  | 10 => b.post.events.isEmpty && b.post.streams.isEmpty && b.post.good.isEmpty
  | _ => true

/-- The engine runs with no operation in progress and without HOLD: it reaches its boundary at once (R29). -/
def Block.reaches (b : Block) (e : Nat) : Bool := decide (e < 11) && b.runs e && b.idle e && !b.hold e

/-- Something of an engine waits for its boundary: a shadow or a bank switch. -/
def Block.pends (b : Block) (e : Nat) : Bool :=
  b.shadows.any (fun s => shadowOwner s.1.addr == e) || b.eng.ops.any (fun o => o.owner == e && o.switch)

/-- Shadows and switches that nothing holds up take effect at once; an idle engine reaches its boundary for them (R29). -/
def Block.settleShadows (b : Block) (owner : Nat) : Block :=
  if b.atOnce owner then
    let b := b.takeShadows owner
    if owner < 12 then (b.switchBanks owner (fun _ => true)).phyAtOnce owner else b
  else if b.reaches owner && b.pends owner then b.boundary owner
  else b

/-! ### The state an engine is wanted in -/

/-- The engine is told to stop: STOP is ignored for E1 and E11 (R13). -/
def Block.stopSet (b : Block) (e : Nat) : Bool := e != 1 && e != 11 && b.on (F.ENG_CTRL.STOP e)

/-- Some engine waits in START for its run: Ostler runs during any rise (R400). -/
def Block.rising (b : Block) : Bool := (List.range 11).any (fun e => e != 0 && b.est e == stStart)

/-- The state in which engine e belongs now: OFF, STOP, REDUCED or RUN (R14, R17, R20, R61, R400). -/
def Block.want (b : Block) (e : Nat) : Nat :=
  let m := if e = 0 && b.watch.plan == 3 && b.rising then .full else planMode b.watch.plan e
  match m with
  | .off => stOff
  | m => if b.gated e then stOff else if b.stopSet e then stStop else if m = .reduced then stReduced else stRun

/-- Engines of one gating write drain after their dependents are OFF, and start after what they depend on runs (R18). -/
def Block.gateWait (b : Block) (e : Nat) : Bool :=
  if b.eng.gateDown.contains e then b.eng.gateDown.any (fun d => (dependsOn d).contains e && b.est d != stOff)
  else if b.eng.gateUp.contains e then
    (dependsOn e).any (fun d => b.eng.gateUp.contains d && !b.runs d && planMode b.watch.plan d != .off)
  else false

/-- RADIO-5G and RADIO-6G meet the condition of R143: FORCE, or the gap between their channels in MHz is below GAP_MHZ. -/
def Block.yokeCond (b : Block) : Bool :=
  b.est 6 == stRun && b.est 7 == stRun &&
    (b.on F.MARS_YOKE.FORCE ||
      (match b.subchannels 1, b.subchannels 0 with
       | some l5, some l6 =>
         decide (5940 + 5 * l6.headD 0 < 5010 + 5 * l5.getLastD 0 + min 500 (b.get F.MARS_YOKE.GAP_MHZ))
       | _, _ => false))

/-- At level 2 or higher, in gait TROT or above, the debug port traces an engine's state change (R427). -/
def Block.traceState (b : Block) (e st : Nat) : Block :=
  if decide (2 ≤ b.sec.level) && decide (b.gait ≤ 2) && b.est e != st then
    b.emit (.trace (bytesLE 1 e ++ bytesLE 1 st ++ bytesLE 8 b.now)) else b

/-- b with engine e in state st, the pending order of R18 updated, the yoke judged anew (R143). -/
def Block.setEst (b : Block) (e st : Nat) : Block :=
  let b := (b.traceState e st).set (F.ENG_STATUS.STATE e) st
  let b := if e = 6 ∨ e = 7 ∨ (e = 8 ∧ st = stRun) then b.setB F.MARS_STATUS.YOKED b.yokeCond else b
  let q := b.eng
  { b with eng := { q with
      drains := if st = stDrain then q.drains else q.drains.filter (fun x => x.1 != e)
      gateDown := if st = stOff then q.gateDown.filter (· != e) else q.gateDown
      gateUp := if st = stRun ∨ st = stReduced then q.gateUp.filter (· != e) else q.gateUp } }

/-- The front end of a radio with a tunable channel leaves OFF (R244). -/
def Block.feWake (b : Block) (r : Nat) : Block := if (b.subchannels r).isSome && b.fe r == feOff then b.setFe r feWarm else b

/-- A backhaul EN in effect at a link MAC (R132). -/
def Block.bhOn (b : Block) (r : Nat) : Bool := b.on (F.LM_BH_CTRL.EN r) && !b.on (F.LM_BH_STATUS.CONFLICT r)

/-- The backhaul EN of a link MAC that starts takes effect, or is ignored beside the other's; of two that start together LM-6G's
wins (R132). -/
def Block.bhJudge (b : Block) (r : Nat) : Block :=
  if 2 ≤ r then b
  else
    let b := b.set (F.LM_BH_STATUS.CONFLICT r) 0
    let q := 1 - r
    if !(b.on (F.LM_BH_CTRL.EN r) && b.bhOn q) then b
    else
      let loser := if r = 0 ∧ b.est (lmEngine q) = stStart then q else r
      (b.set (F.LM_BH_STATUS.CONFLICT loser) 1).noteWrite .device (R.LM_BH_CTRL loser) (b.word (R.LM_BH_CTRL loser))

/-- A radio about to leave OFF: its channel judged (R64), its front end started when tunable (R244), the OBSS-PD level at
MIN (R84); a STATIC that forms no pattern with the channel now in effect goes to 0 with a NOTE record (R70; DESIGN CHOICE, log entry
158: there is no earlier value that the new channel could keep). -/
def Block.radioStart (fu : Fuses) (b : Block) (r : Nat) : Block :=
  let ok := b.chanPermitted fu r
  let b := b.setB (F.PHY_STATUS.CHAN_DENIED r) (!ok)
  let b := if !ok && b.get (F.PHY_CHAN.PRIMARY r) != 0 then b.note 17 0 [BitVec.ofNat 8 r] else b
  let b := b.updPhy r (fun p => { p with obssHalf := 2 * b.obssMin r })
  let v := b.get (F.PHY_PUNCT.STATIC r)
  let b := if b.punctOk r v then b else (b.set (F.PHY_PUNCT.STATIC r) 0).noteWrite .device (R.PHY_PUNCT r) v
  b.feWake r

/-- Address of channel k's entry in the channel state table (R201). -/
def chState (k : Nat) : Nat := 0x2E01000 + 16 * k

/-- Sieve leaves OFF or STOP: the span applied (R175, R199), noise floors restarted (R190), the front end started. -/
def Block.sieveStart (b : Block) : Block :=
  let c := b.get F.SIEVE_SPAN.SPACING
  let f := b.get F.SIEVE_CH0_FREQ.FREQ
  let ok := spanValid c f
  let b := { b with sieve := { b.sieve with span := some ⟨c, tunedHz f, ok⟩ } }
  let b := b.setB F.SIEVE_STATUS.SPAN_DENIED (!ok)
  let b := if ok then b else b.note 9 0
  let nf := b.get F.SIEVE_NF_BOUND.MAX
  let b := (List.range 256).foldl (fun b k =>
    let fl := b.tab (chState k + 2) 1
    (b.setTab (chState k) 2 nf).setTab (chState k + 2) 1 (setBit (setBit fl 2 true) 0 false)) b
  if ok && b.fe 3 == feOff && b.watch.plan != 3 then b.setFe 3 feWarm else b

/-- What leaving OFF or STOP brings with it. -/
def Block.engineUp (fu : Fuses) (b : Block) (e : Nat) : Block :=
  if e = 9 then b.sieveStart else if 5 ≤ e ∧ e ≤ 7 then (b.radioStart fu (lmRadio e)).bhJudge (lmRadio e) else b

/-- Engine e enters START (R14); R29 applies what waits. -/
def Block.enterStart (fu : Fuses) (b : Block) (e : Nat) : Block :=
  ((b.setEst e stStart).engineUp fu e).settleShadows e

/-- Engine e enters OFF: what it holds is given up and its tables are lost (R22). -/
def Block.enterOff (b : Block) (e : Nat) : Block :=
  let b :=
    match e with
    | 0 => b.packhorseCut
    | 2 => b.lockOff
    | 3 => b.carterOff
    | 4 => { (b.undoPlanned).flushQueues with drov := { nextId := b.drov.nextId } }.loseTables (fun t => t.owner == 4)
    | 5 => b.lmOff 2
    | 6 => b.lmOff 1
    | 7 => b.lmOff 0
    | 8 => { b with marshal := {} }.loseTables (fun t => t.owner == 8)
    | 9 => b.sieveOff
    | 10 => b.postLose.loseTables (fun t => t.owner == 10)
    | _ => b
  let b := if e = 9 then b.feBoundary 3 else if 5 ≤ e ∧ e ≤ 7 then b.feBoundary (lmRadio e) else b
  (b.setEst e stOff).settleShadows e

/-- Engine e enters STOP: its front end goes to OFF (R244). -/
def Block.enterStop (b : Block) (e : Nat) : Block :=
  let b := if e = 9 then (b.feDown 3).feBoundary 3
    else if 5 ≤ e ∧ e ≤ 7 then ((b.phyDrop (lmRadio e)).feDown (lmRadio e)).feBoundary (lmRadio e) else b
  (b.setEst e stStop).settleShadows e

/-- An in-service calibration step of the front end is aborted (R249); Carter's DRAIN releases the keeper (R299); Sieve's follows R197; Drover's undoes PLANNED plans on the way to OFF (R170). -/
def Block.enterDrain (b : Block) (e want : Nat) : Block :=
  let b := b.setEst e stDrain
  let b := { b with eng := { b.eng with drains := put' b.eng.drains e want } }
  let b := if e = 9 then b.calAbort 3 else if 5 ≤ e ∧ e ≤ 7 then (b.calAbort (lmRadio e)).phyAtOnce e else b
  match e with
  | 3 => b.keeperClose
  | 4 => if want = stOff then [0, 1, 2].foldl (fun b r => [1, 0].foldl (fun b k =>
      match b.planAt r k with
      | some p => if p.committed then b else b.undoSlot r k
      | none => b) b) b else b
  | 9 => b.sieveDrain want
  | _ => b

/-- Engine e moves on from OFF, RUN, REDUCED or STOP when it belongs elsewhere (R14). -/
def Block.settle (fu : Fuses) (b : Block) (e : Nat) : Block :=
  let s := b.est e
  let w := b.want e
  if s = stOff then (if w ≠ stOff ∧ !b.gateWait e then b.enterStart fu e else b)
  else if s = stRun ∨ s = stReduced then
    (if w ≠ s ∧ !(w = stOff ∧ b.gateWait e) then b.enterDrain e w else b)
  else if s = stStop then
    (if w = stOff then (if b.gateWait e then b else b.enterOff e)
     else if w = stStop then b else ((b.setEst e w).engineUp fu e))
  else b

/-- A link MAC is ungated or still runs: VDD_BRIDLE stays up (R402). -/
def Block.lmPowered (b : Block) : Bool := [5, 6, 7].any (fun e => !b.gated e || (b.est e != stOff && b.est e != stReset))

/-- CURRENT reads CANTER while S1 runs with a link MAC gated, and GALLOP while none is (R398); PMIC_EN3 follows (R402). -/
def Block.fixCanter (b : Block) : Block :=
  if b.watch.plan ≤ 1 ∧ b.gait ≤ 1 then
    let g := if bitsOf (b.get F.TOP_ENG_GATE.GATE) 4 2 = 0 then 0 else 1
    let b : Block := { b.set F.WATCH_GAIT_STATUS.CURRENT g with watch := { b.watch with plan := g } }
    b.set F.WATCH_POWER_STATUS.PMIC_EN (setBit (b.get F.WATCH_POWER_STATUS.PMIC_EN) 3 b.lmPowered)
  else b

/-- Every engine settled, Ostler last (R400). -/
def Block.settleAll (fu : Fuses) (b : Block) : Block :=
  ([1, 2, 3, 4, 5, 6, 7, 8, 9, 10, 0].foldl (fun b e => b.settle fu e) b).fixCanter

/-- Where the DRAIN of engine e leads: STOP or OFF by its trigger, whatever has been withdrawn since; after a gait change that
keeps the engine running, where it belongs now (R14). -/
def Block.drainTo (b : Block) (e : Nat) : Nat :=
  let t := look b.eng.drains e (b.want e)
  if t = stStop ∨ t = stOff then t else b.want e

/-- DRAIN reaches its boundary and ends in the state its trigger leads to (R14). Post back in RUN writes its hot entries to their
records (R218). -/
def Block.drainDone (fu : Fuses) (b : Block) (e : Nat) : Block :=
  if b.est e = stDrain then
    let w := b.drainTo e
    let b := (b.boundary e).setB (F.ENG_STATUS.DRAIN_TIMEOUT e) false
    let b := if e = 10 ∧ w = stRun then b.hotNodes.foldl (fun b n => b.saveHot n) b else b
    let b := if w = stOff then b.enterOff e else if w = stStop then b.enterStop e else b.setEst e w
    b.settleAll fu
  else b

/-- Locksmith leaves START: the hard limit of the derived keys is taken (LOCK_LIMITS), a DRBG that is not instantiated takes the seed
material at hand (R327). -/
def Block.lockStart (b : Block) : Block :=
  let b : Block := { b with lock := { b.lock with xtsLog2 := b.get F.LOCK_LIMITS.XTS_LOG2 } }
  if !b.on F.LOCK_RNG_STATUS.INSTANTIATED && b.lock.seed then
    ({ b with lock := { b.lock with seed := false } } : Block).set F.LOCK_RNG_STATUS.INSTANTIATED 1
  else b

/-- START ends with the run reapplied: RUN or REDUCED, a boundary of its own (R14, R29); a front end still in OFF whose channel has become
tunable in START leaves it (R244). A Loft larger than the DRAM leaves
a NOTE record of Carter (R35); LOCAL's intervals count from here (R290). -/
def Block.startDone (fu : Fuses) (b : Block) (e : Nat) : Block :=
  if b.est e = stStart then
    let b := b.setEst e (if b.want e = stReduced then stReduced else stRun)
    let b := if 5 ≤ e ∧ e ≤ 7 then b.feWake (lmRadio e) else b
    let b := if e = 2 then b.lockStart else b
    let b := if e = 3 then
        let big := decide (b.dramMib - 64 < b.get F.CART_LOFT.SIZE_MIB) && b.get F.TOP_ID.DRAM != 0
        let b := b.updCart (fun c => { c with loft := b.loftCells, runSince := b.mono, rateIdx := 0, rateN := 0 })
        if big then b.note 3 0 (bytesLE 4 (b.get F.CART_LOFT.SIZE_MIB)) else b
      else b
    (b.boundary e).settleAll fu
  else b

/-! ### Resets of kind ENGINE and SECTION -/

/-- Registers of the addresses that p picks, of the kinds that k picks, back to their reset values (R7, R16). -/
def Block.resetRegs (b : Block) (p : Nat → Bool) (k : ResetKind → Bool) : Block :=
  let hit (a : Nat) : Bool := p a && (match Regs.find a with | some d => k d.kind | none => false)
  { b with regs := b.regs.filter (fun x => !hit (x.1 / 32)), shadows := b.shadows.filter (fun s => !hit s.1.addr) }

/-- Registers that follow engine e's ENGINE reset: its block, and for a front end's owner the PHY and RFC status. -/
def engineRegs (e a : Nat) : Bool :=
  decide (blockEngine (a / 0x100000) = some e) ||
    (decide (5 ≤ e ∧ e ≤ 7) && (a == R.PHY_STATUS (lmRadio e) || a == R.RFC_FE_STATUS (lmRadio e))) ||
    (e == 7 && a == R.PHY_SP_STATUS) || (e == 9 && a == R.RFC_FE_STATUS 3)

/-- The counters that an ENGINE reset of e clears. -/
def engineCounts (e : Nat) : List CntSet :=
  match e with
  | 0 => [.lanes 0, .packhorse] | 1 => [.lanes 1] | 2 => [.lanes 2, .lock] | 3 => [.lanes 3]
  | 4 => [.lanes 4] | 5 => [.lanes 5, .lm 2, .phy 2] | 6 => [.lanes 6, .lm 1, .phy 1] | 7 => [.lanes 7, .lm 0, .phy 0]
  | 8 => [.lanes 8, .mars] | 9 => [.lanes 9, .sieve] | 10 => [.lanes 10, .post] | _ => [.lanes 11]

/-- Lanes of engine e reinitialised (R16 and the rule of its chapter). -/
def Block.lanesReset (b : Block) (e : Nat) : Block :=
  match e with
  | 0 => b.packhorseCut
  | 2 => b.lockReset
  | 3 => b.carterReset
  | 4 => b.droverReset
  | 5 => b.lmReset 2
  | 6 => b.lmReset 1
  | 7 => b.lmReset 0
  | 8 => b.marshalReset
  | 9 => b.sieveReset
  | 10 => b.postReset
  | 11 => { b with watch := { b.watch with wakesDue := [] } }
  | _ => b

/-- A PPDU cut short by the reset of its link MAC (R94): counted in TX_PPDU and in the lanes of its chains. -/
def Block.countCut (b : Block) (e : Nat) (t : PhyTx) : Block :=
  let r := lmRadio e
  let base := if r = 0 then 0 else if r = 1 then 8 else 12
  ((List.range 8).filter (fun k => bitOf t.chains (base + k))).foldl
    (fun b k => b.lane (Fin.ofNat 12 e) (2 * k + 1) 1) (b.count (.phy (Fin.ofNat 3 r)) C.PHY.TX_PPDU)

/-- The effect of an ENGINE reset on engine e (R16): lanes, registers of kind ENGINE, counters, bank operations; STATE is
RESET. -/
def Block.engReset (b : Block) (e : Nat) : Block :=
  let b := if b.hold e then b else b.takeShadows e
  let cut := if 5 ≤ e ∧ e ≤ 7 then (b.phyAt (lmRadio e)).tx else none
  let b := b.lanesReset e
  let b := if e = 9 then b.feBoundary 3 else if 5 ≤ e ∧ e ≤ 7 then b.feBoundary (lmRadio e) else b
  let b := b.resetRegs (engineRegs e) (fun k => k == .engine)
  let b := (engineCounts e).foldl (fun b c => b.clearSet c) b
  let b := if e = 3 then b.clearBlk 27 else if e = 4 then b.clearBlk 24 else b
  let b := match cut with
    | some t => b.countCut e t
    | none => b
  { b with eng := { b.eng with
      ops := b.eng.ops.filter (fun o => o.owner != e), r15 := b.eng.r15.filter (fun x => x.1 != e) } }

/-- Engine e is in RESET now. -/
def Block.inReset (b : Block) (e : Nat) : Bool := b.est e == stReset

/-- A SECTION reset of section n (R16): the ENGINE reset of each of its engines, and their registers of kind SECTION; what HOLD
held up takes effect with its fall (R29). -/
def Block.sectReset (b : Block) (n : Nat) : Block :=
  let b := (sectionEngines n).reverse.foldl (fun b e =>
    ((b.engReset e).resetRegs (fun a => decide (blockEngine (a / 0x100000) = some e)) (fun k => k == .engine || k == .sect)).settleShadows
      e) b
  { b with eng := { b.eng with sect := n :: b.eng.sect.filter (· != n) } }

/-- The reset of a wide kind still holds engine e: it has not been reached by the start sequence (R51, R54). -/
def Block.wideHolds (b : Block) (e : Nat) : Bool :=
  e != 11 && (b.watch.plan == 7 || (b.watch.plan == 6 && e != 0 && e != 1))

/-- A reset at least as wide as SECTION covers section n now: a further SECTION reset is absorbed (R19). -/
def Block.sectBusy (b : Block) (n : Nat) : Bool :=
  (sectionEngines n).all (fun e => b.inReset e) && (b.eng.sect.contains n || (sectionEngines n).all (fun e => b.wideHolds e))

/-- The NOTE record of a commanded or drain-timeout reset (R19): mask, then the cause byte. -/
def Block.resetNote (b : Block) (mask cause : Nat) : Block := b.note 16 0 (bytesLE 4 mask ++ bytesLE 1 cause)

/-- Reset of an engine released (R14, R15): E11 to RUN, after a drain timeout where the drain's trigger leads, else START or OFF.
Engines not yet reached by the start sequence stay in RESET (R51, R54). -/
def Block.release (fu : Fuses) (b : Block) (e : Nat) : Block :=
  if !b.inReset e || b.wideHolds e then b
  else
    let late := look? b.eng.r15 e
    let b := { b with eng := { b.eng with
      r15 := b.eng.r15.filter (fun x => x.1 != e), sect := b.eng.sect.filter (· != sectionOf e) } }
    if e = 11 then b.setEst 11 stRun
    else
      let b := if late = some stOff ∨ b.want e = stOff then b.enterOff e
        else if late = some stStop then b.enterStop e
        else b.enterStart fu e
      b.settleAll fu

end Sys2Proof.Machine
end

