-- ==== Sys2Proof/Machine/GaitOps.lean ====
section
/-! DEFINITION. Ceilings and the gait in effect (R395, R396, R399), the keeper's first instant (R299), and the host-port
reset (R332): the shared effects that errors and resets have on them. -/

namespace Sys2Proof.Machine

/-! ### Ceilings -/

/-- CEIL bits of WATCH_GAIT_STATUS: 0 PWR, 1 FATAL, 2 LOWBAT, 3 CLOCK. -/
def Block.ceil (b : Block) (i : Nat) : Bool := bitOf (b.get F.WATCH_GAIT_STATUS.CEIL) i

/-- The lowest gait the ceilings allow (R396): WALK under PWR or FATAL, HALT under LOWBAT or CLOCK, else GALLOP. -/
def Block.ceilGait (b : Block) : Nat :=
  if b.ceil 2 || b.ceil 3 then 4 else if b.ceil 0 || b.ceil 1 then 3 else 0

/-- The gait that REQ and the ceilings call for (R395). -/
def Block.target (b : Block) : Nat := max (min 4 (b.get F.WATCH_GAIT_REQ.REQ)) b.ceilGait

/-- A fall to WALK or HALT releases the keeper at the first instant of its trigger (R299). -/
def Block.keeperFall (b : Block) : Block := if decide (b.gait ≤ 2) && decide (3 ≤ b.target) then b.keeperClose else b

/-- A ceiling set (R396): LOWBAT fires its source; FATAL starts the time of R399 and the 60 s of R49 afresh. -/
def Block.setCeil (b : Block) (i : Nat) : Block :=
  let b := if i = 1 ∧ b.ost.settleFrom.isSome then { b with ost := { b.ost with settleFrom := some b.ao } } else b
  if b.ceil i then b
  else
    let b := b.set F.WATCH_GAIT_STATUS.CEIL (setBit (b.get F.WATCH_GAIT_STATUS.CEIL) i true)
    let b := if i = 1 then { b with watch := { b.watch with fatalAo := b.ao } } else b
    let b := if i = 2 then b.fire 11 33 (bytesLE 2 (b.get F.WATCH_POWER_STATUS.VBAT_MV)) else b
    b.keeperFall

/-! ### The host port -/

/-- The HOST_STATUS facts of the link; UP follows R333, the message conditions start afresh with
the next record fed (R347), and a change of UP writes the pulse record LINK (R340; DEDUCED, log
entry 17). -/
def Block.hostLink (b : Block) (f : LinkFacts) : Block :=
  let up := f.l0 && f.bme && !f.d3 && b.runs 3
  let was := b.on F.HOST_STATUS.UP
  let b := { b with host := { b.host with linkUp := f.l0 } }
  let b := ((((b.setB F.HOST_STATUS.UP up).set F.HOST_STATUS.GEN f.gen).set F.HOST_STATUS.WIDTH f.width).setB
    F.HOST_STATUS.BME f.bme).setB F.HOST_STATUS.D3 f.d3
  let b := if f.l0 then { b with host := { b.host with wakeN := false } } else b
  let b := if up then b else { b with clerk := { b.clerk with msixSince := 0, msixFirst := 0, msixUrgent := false } }
  if was == up then b else b.event 23 16 0 (bytesLE 4 (b.word R.HOST_STATUS))

/-- A host-port reset (R332): configuration space at reset, every ring and the ledger ring stopped with indices 0, the HOST
troughs dropped. Nothing waits to be fed any more, for EN is 0 (R344). -/
def Block.hostReset (b : Block) : Block :=
  let b := b.hostLink ⟨false, 0, 0, false, false, false⟩
  let b := (List.range 16).foldl (fun b q =>
    ((b.set (F.HOST_RING_CTRL.EN q) 0).set (F.HOST_RING_PROD.PROD q) 0).set (F.HOST_RING_CONS.CONS q) 0) b
  let b := ((b.set F.CLERK_LEDGER_CFG.EN 0).set F.CLERK_LEDGER_HEAD.HEAD 0).set F.CLERK_LEDGER_TAIL.TAIL 0
  let b := { b with
    clerk := { b.clerk with waiting := 0, msixSince := 0, msixFirst := 0, msixUrgent := false, msixMask := false, msixPend := false } }
  let b := { b with clk := { b.clk with values := b.clk.values.filter (fun x => x.g != 6) } }
  b.flushTroughs (fun t => t / 8 == 2)

end Sys2Proof.Machine
end

