-- ==== Sys2Proof/Machine/Errors.lean ====
section
/-! DEFINITION. Errors (R491 to R498, R536): severities of the fault tables, primary and secondary errors, containment and
its escalation, LAST_FAULT. -/

namespace Sys2Proof.Machine

/-- Severity of fault code k of an origin: row k of its chapter's fault table (R491: R95, R173, R200, R242, R302, R328, R360,
R416, R454, R525; CLK by R491). none: no such fault, or no record (row 3 of R454). -/
def faultSev (origin code : Nat) : Option Sev :=
  match origin, code with
  | 2, 1 => some .corrected | 2, 2 => some .note | 2, 3 => some .note | 2, 4 => some .contained | 2, 5 => some .sect
  | 2, 6 => some .fatal | 2, 7 => some .note
  | 3, 1 => some .corrected | 3, 2 => some .note | 3, 3 => some .contained | 3, 4 => some .sect | 3, 5 => some .note
  | 4, 1 => some .contained | 4, 2 => some .corrected | 4, 3 => some .note
  | 5, 1 => some .corrected | 5, 2 => some .contained | 5, 3 => some .note | 5, 4 => some .contained
  | 6, 1 => some .corrected | 6, 2 => some .contained | 6, 3 => some .note | 6, 4 => some .contained
  | 7, 1 => some .corrected | 7, 2 => some .contained | 7, 3 => some .note | 7, 4 => some .contained
  | 8, 1 => some .contained | 8, 2 => some .corrected
  | 9, 1 => some .corrected | 9, 2 => some .note | 9, 3 => some .contained | 9, 4 => some .note | 9, 5 => some .contained
  | 10, 1 => some .corrected | 10, 2 => some .note | 10, 3 => some .note | 10, 4 => some .note | 10, 5 => some .contained
  | 11, 1 => some .corrected | 11, 2 => some .note | 11, 3 => some .fatal | 11, 4 => some .note
  | 19, 1 => some .fatal
  | 20, 1 => some .corrected | 20, 2 => some .note | 20, 4 => some .note | 20, 5 => some .fatal | 20, 6 => some .note
  | 20, 7 => some .note | 20, 8 => some .note | 20, 9 => some .fatal
  | 23, 1 => some .note | 23, 2 => some .corrected | 23, 3 => some .note | 23, 4 => some .contained
  | 24, 1 => some .note | 24, 2 => some .fatal | 24, 3 => some .fatal | 24, 4 => some .note
  | _, _ => none

/-- The error book of an origin. -/
def Block.errBook (b : Block) (o : Nat) : ErrBook :=
  (b.clerk.errs.find? (fun e => e.origin == o)).getD { origin := o }

/-- b with the error book of its origin replaced. -/
def Block.setErr (b : Block) (e : ErrBook) : Block :=
  { b with clerk := { b.clerk with errs := b.clerk.errs.filter (fun q => q.origin != e.origin) ++ [e] } }

/-- Secondary count of an error book with one error of severity v more; COUNT saturates at 28 bits. -/
def ErrBook.second (e : ErrBook) (v : Nat) : ErrBook :=
  { e with worst := max e.worst v, count := min (e.count + 1) (2 ^ 28 - 1) }

/-- LAST_FAULT written with the error, COUNT raised (R498). -/
def Block.lastFault (b : Block) (o : Nat) (v : Sev) (kind : Nat) : Block :=
  b.tallyPut 19 (v.code * 2 ^ 28 + o % 32 * 2 ^ 23 + kind % 256 * 2 ^ 8 + (b.tally 19 + 1) % 256)

/-- An error of severity CORRECTED or higher latched and recorded (R493), LAST_FAULT written for SECTION and FATAL (R498). -/
def Block.latch (b : Block) (o : Nat) (v : Sev) (esc : Bool) (kind lane : Nat) (payload : List Byte) : Block :=
  let e := b.errBook o
  let send (b : Block) (esc : Bool) : Block :=
    b.pulse { sev := v, escalated := esc, origin := o, src := 0, kind := kind, time := b.now, payload := padTo 16 payload }
  let b :=
    if !e.valid then
      send (b.setErr { e with valid := true, sev := v, escalated := esc, kind := kind, lane := lane }) esc
    else if v.code ≤ e.sev.code then b.setErr (e.second v.code)
    else
      let e' := e.second e.sev.code
      send (b.setErr { e' with sev := v, escalated := true, kind := kind, lane := lane }) true
  if 4 ≤ v.code then b.lastFault o v kind else b

/-- The primary error of an origin as _ERR_PRIMARY shows it. -/
def ErrBook.primary (e : ErrBook) : Nat :=
  if e.valid then 2 ^ 31 + e.sev.code * 2 ^ 28 + b2n e.escalated * 2 ^ 27 + e.kind % 256 * 2 ^ 16 + e.lane % 2 ^ 16 else 0

/-- The secondary count as _ERR_SECONDARY_COUNT shows it. -/
def ErrBook.secondary (e : ErrBook) : Nat := e.worst * 2 ^ 28 + e.count

/-- An acknowledgement clears the primary and the secondary count (R494). -/
def Block.ackErr (b : Block) (o : Nat) : Block :=
  { b with clerk := { b.clerk with errs := b.clerk.errs.filter (fun e => e.origin != o) } }

/-- Resets within the last win ns of a history. -/
def recentOf (h : List (Nat × Nat)) (k now win : Nat) : Nat :=
  (h.filter (fun x => x.1 == k && decide (now ≤ x.2 + win))).length

/-- The reset about to happen is the n-th within the window (R496); n = 0 disables the rule. -/
def escalates (h : List (Nat × Nat)) (k now win n : Nat) : Bool := n != 0 && decide (n ≤ recentOf h k now win + 1)

/-- The containment history with one entry more; entries older than the window are dropped. -/
def addHist (h : List (Nat × Nat)) (k now win : Nat) : List (Nat × Nat) :=
  (k, now) :: h.filter (fun x => decide (now ≤ x.2 + win))

/-- Window of R496 for ENGINE resets, in ns. -/
def Block.contWin (b : Block) : Nat := max 1 (b.get F.CLERK_ESC.CONT_WIN_MS) * 1000000

/-- Window of R496 for SECTION resets, in ns. -/
def Block.sectWin (b : Block) : Nat := max 1 (b.get F.CLERK_ESC.SECT_WIN_S) * 1000000000

/-- A FATAL error recorded and the FATAL ceiling set (R491). -/
def Block.fatalErr (b : Block) (o : Nat) (esc : Bool) (kind lane : Nat) (payload : List Byte) : Block :=
  (b.latch o .fatal esc kind lane payload).setCeil 1

/-- A SECTION error of an engine origin or a device-level origin that names a section: record and SECTION reset, or FATAL at
the SECT_N-th (R491, R496). A section still in a containment reset takes no new one (R492). -/
def Block.sectErr (b : Block) (o n : Nat) (esc : Bool) (kind lane : Nat) (payload : List Byte) : Block :=
  if b.sectBusy n then b.latch o .sect esc kind lane payload
  else if escalates b.clerk.sectHist n b.ao b.sectWin (b.get F.CLERK_ESC.SECT_N) then
    b.fatalErr o true 0x81 lane payload
  else
    let b := b.latch o .sect esc kind lane payload
    let b := { b with clerk := { b.clerk with sectHist := addHist b.clerk.sectHist n b.ao b.sectWin } }
    let b := if n = 3 then b.keeperClose else b
    b.sectReset n

/-- A CONTAINED error of engine e: record and ENGINE reset, or handled as SECTION at the CONT_N-th (R491, R496). -/
def Block.contErr (b : Block) (e kind lane : Nat) (payload : List Byte) : Block :=
  if b.inReset e then b.latch e .contained false kind lane payload
  else if escalates b.clerk.contHist e b.ao b.contWin (b.get F.CLERK_ESC.CONT_N) then
    b.sectErr e (sectionOf e) true 0x81 lane payload
  else
    let b := b.latch e .contained false kind lane payload
    let b := { b with clerk := { b.clerk with contHist := addHist b.clerk.contHist e b.ao b.contWin } }
    b.engReset e

/-- A fault of an origin with its severity's record and action (R491); device-level origins take the action their own
meanings name, a host-port reset for HOST (R360). -/
def Block.fault (b : Block) (o : Nat) (v : Sev) (kind lane : Nat) (payload : List Byte) : Block :=
  match v with
  | .event => b.event o 0 kind payload
  | .note => b.note o kind payload
  | .corrected => b.latch o .corrected false kind lane payload
  | .contained =>
    if o < 12 then b.contErr o kind lane payload
    else
      let b := b.latch o .contained false kind lane payload
      if o = 23 then b.hostReset else b
  | .sect => if o < 12 then b.sectErr o (sectionOf o) false kind lane payload else b.latch o .sect false kind lane payload
  | .fatal => b.fatalErr o false kind lane payload

/-- A record of R536: latched like an error, with no action and no count for R496. -/
def Block.errRecord (b : Block) (o : Nat) (v : Sev) (kind : Nat) (payload : List Byte) : Block :=
  b.latch o v false kind 0xFFFF payload

/-- The FATAL ceiling lifted (R396): the 60 s of R49 start afresh; in EXHAUSTED the FATAL error of R451 is recorded again. -/
def Block.liftFatal (b : Block) : Block :=
  if b.ceil 1 then
    let b := b.set F.WATCH_GAIT_STATUS.CEIL (setBit (b.get F.WATCH_GAIT_STATUS.CEIL) 1 false)
    let b := { b with watch := { b.watch with liftCause := true } }
    let b := { b with ost := { b.ost with settleFrom := b.ost.settleFrom.map (fun _ => b.ao) } }
    if b.stage = stageExhausted then b.fatalErr 20 false 9 0xFFFF [] else b
  else b

/-- The LOWBAT ceiling lifted (R396). -/
def Block.liftLowbat (b : Block) : Block :=
  if b.ceil 2 then
    { b.set F.WATCH_GAIT_STATUS.CEIL (setBit (b.get F.WATCH_GAIT_STATUS.CEIL) 2 false) with
      watch := { b.watch with liftCause := true } }
  else b

end Sys2Proof.Machine
end

