-- ==== Sys2Proof/Machine/Templates.lean ====
section
/-! DEFINITION. Beacons and probe responses: BSS table (R119), templates and what the link MAC fills in before each
transmission (R118, R121), the TIM (R122, R124). -/

namespace Sys2Proof.Machine

/-- n bytes at offset o of the BSS entry i of radio r (R119). -/
def Block.bss (b : Block) (r i o n : Nat) : Nat := b.btab (lmEngine r) 0 (lmWin r + 64 * i + o) n

/-- FLAGS of a BSS entry: VALID, TX_BSSID, NONTX, HIDDEN, BH_VIF from bit 0 on. -/
def Block.bssFlags (b : Block) (r i : Nat) : Nat := b.bss r i 9 1

/-- An address of 6 octets held in the order of transmission, as a number. -/
def Block.macTab (b : Block) (a : Nat) : Nat := natBE (readBytes b.tabs 0 a 6)

/-- BSSID of BSS i. -/
def Block.bssid (b : Block) (r i : Nat) : Nat := b.macTab (lmWin r + 64 * i + bankOff (b.active (lmEngine r) 0))

/-- BSS i sends beacons (R120). -/
def Block.beaconing (b : Block) (r i : Nat) : Bool :=
  let f := b.bssFlags r i
  bitOf f 0 && !bitOf f 2 && !bitOf f 4 && b.bss r i 6 2 != 0 && bitOf (b.get (F.LM_BCN_CTRL.EN r)) i

/-- Offset of the beacon (n = 1) or probe-response (n = 2) template of BSS i. -/
def templateAddr (r n i : Nat) : Nat := lmWin r + (if n = 1 then 0x2000 else 0xA000) + 2048 * i

/-- LENGTH of a template; 0 = empty. -/
def Block.templateLen (b : Block) (r n i : Nat) : Nat :=
  let v := b.btab (lmEngine r) n (templateAddr r n i) 2
  if v < 24 ∨ 2032 < v then 0 else v

/-- The BSSs for which BSS i's beacon carries the TIM: itself, and the nontransmitted ones of its set (R124). -/
def Block.timSet (b : Block) (r i : Nat) : List Nat :=
  if bitOf (b.bssFlags r i) 1 then
    i :: (List.range 16).filter (fun k => k != i && bitOf (b.bssFlags r k) 0 && bitOf (b.bssFlags r k) 2)
  else [i]

/-- Drover holds a frame that sets the station's TIM bit (R122). -/
def Block.timFrames (b : Block) (r sta : Nat) : Bool :=
  let u := bitsOf (b.staFlags r sta) 21 18
  [0, 1, 2, 3].any (fun ac => (!bitOf u ac || u == 15) && !(b.queue (4 * sta + ac)).isEmpty)

/-- The AIDs whose TIM bits are set, and the BSSID indices with group-addressed frames in a DTIM beacon (R122). -/
def Block.timBits (b : Block) (r i : Nat) (dtim : Bool) : List Nat × List Nat :=
  let set := b.timSet r i
  let stas := b.liveIdx (lmWin r + 0x20000) (2048 * 64) 64 0x34
  let aids := (stas.filter (fun s => b.staValid r s && bitOf (b.tab (staAddr r s + 0x34) 1) 0 &&
    set.contains (bitsOf (b.tab (staAddr r s + 6) 2) 15 12) && b.timFrames r s)).map (fun s => b.tab (staAddr r s + 6) 2 % 4096)
  let groups := if dtim then (set.filter (fun k => !(b.queue (8192 + 16 * r + k)).isEmpty)).map (fun k =>
    if k = i then 0 else b.bss r k 0xE 2 % 16) else []
  (aids, groups)

/-- The TIM element (IEEE 802.11): count, period, bitmap control, partial virtual bitmap from an even octet on. -/
def timElement (count period : Nat) (aids groups : List Nat) : List Byte :=
  let bits := aids ++ groups.filter (· != 0)
  let octets := bits.map (fun a => a / 8)
  let hi := octets.foldl max 0
  let lo := (octets.foldl min hi) / 2 * 2
  let map := (List.range (hi + 1 - lo)).map (fun k =>
    bytesLE 1 (sumNat ((List.range 8).map (fun j => if bits.contains (8 * (lo + k) + j) then 2 ^ j else 0))))
  bytesLE 1 5 ++ bytesLE 1 (3 + map.length) ++ bytesLE 1 count ++ bytesLE 1 period ++
    bytesLE 1 (lo + b2n (groups.contains 0)) ++ map.flatten

/-- l with the bytes bs in place of those from position i on, as far as l reaches. -/
def patch (l : List Byte) (i : Nat) (bs : List Byte) : List Byte := (l.take i ++ bs ++ l.drop (i + bs.length)).take l.length

/-- The octets of a beacon (n = 1) or probe response (n = 2) as sent: Sequence Control, Timestamp, DA of a probe response, TIM
(R121). The channel-switch count is the template's. -/
def Block.templateFrame (b : Block) (r n i da : Nat) : List Byte :=
  let e := lmEngine r
  let a := templateAddr r n i
  let f := b.btabBytes e n (a + 0x10) (b.templateLen r n i)
  let l := b.lmAt r
  let f := patch f 22 (bytesLE 2 (l.seqCtl * 16))
  let f := patch f 24 (bytesLE 8 l.tsf)
  let f := if n = 2 then patch f 4 (bytesBE 6 da) else f
  let tim := b.btab e n (a + 4) 2
  if tim = 0 ∨ f.length < tim + 2 then f
  else
    let count := look l.dtim i 1
    let bits := b.timBits r i (count == 0)
    let old := 2 + (nth f (tim + 1) 0).toNat
    f.take tim ++ timElement count (max 1 (b.bss r i 8 1)) bits.1 bits.2 ++ f.drop (tim + old)

/-- A beacon (n = 1) or probe response of BSS i has left: counted; a beacon's channel-switch count falls (R121), which the
template of the active bank keeps (DEDUCED, log entry 32). After a DTIM beacon the group-addressed frames of its BSSs come next
(R122). -/
def Block.templateSent (b : Block) (r n i da : Nat) : Block :=
  let b := b.emit (.mgmt r (b.templateFrame r n i da))
  let dtim := n == 1 && look (b.lmAt r).dtim i 1 == 0
  let groups := if dtim then (b.timSet r i).filter (fun k => !(b.queue (8192 + 16 * r + k)).isEmpty) else (b.lmAt r).groups
  let b := b.updLm r (fun l => { l with seqCtl := (l.seqCtl + 1) % 4096, groups := groups })
  let b := b.count (.lm (Fin.ofNat 3 r)) (if n = 1 then C.LM.BCN_SENT else C.LM.PROBE_RESP_SENT)
  let a := templateAddr r n i + bankOff (b.active (lmEngine r) n)
  let csa := b.tab (a + 6) 2
  let at' := a + 0x10 + csa
  if n = 1 ∧ csa ≠ 0 ∧ csa < 2032 then b.setTab at' 1 (b.tab at' 1 - 1) else b

end Sys2Proof.Machine
end

