-- ==== Sys2Proof/Machine/TxPath.lean ====
section
/-! DEFINITION. The way of a Wi-Fi transmission from the TX start command to the antenna: puncturing and narrowing (R71, R72),
standard-power and effective limits (R83, R89 to R91, R258), shut chains (R263), a TXOP lost (R101, R166), the front end
(R244, R249, R251). -/

namespace Sys2Proof.Machine

/-! ### Logarithms -/

/-- The largest q below n with 10^q ≤ x^k: floor(k × log10 x) for x ≥ 1. -/
def logFloor (n k x : Nat) : Nat := ((List.range n).filter (fun q => decide (q != 0 ∧ 10 ^ q ≤ x ^ k))).length

/-- 10 × log10 x in 0.25 dB, rounded down. -/
def dbFloor4 (x : Nat) : Int := logFloor 256 40 x

/-- 10 × log10 x in 0.5 dB, rounded down. -/
def dbFloor2 (x : Nat) : Int := logFloor 128 20 x

/-- 10 × log10 (x / y) in 0.25 dB, rounded up, for x ≥ y ≥ 1. -/
def dbCeil4 (x y : Nat) : Int := ((List.range 256).filter (fun q => decide (10 ^ q * y ^ 40 < x ^ 40))).length

/-! ### Subchannels of a PPDU -/

/-- The mask of the 2^w aligned subchannels that contain subchannel i. -/
def blockMask (w i : Nat) : Nat := (2 ^ (2 ^ w) - 1) * 2 ^ (i / 2 ^ w * 2 ^ w)

/-! ### Carrier sense (R82) -/

/-- The energy-detect level of a radio in dBm, clamped. -/
def Block.ccaEd (b : Block) (r : Nat) : Int := clampInt (-82) (-62) (b.getS (F.PHY_CCA.ED r))

/-- The preamble-detect level of the primary 20 MHz in dBm, clamped. -/
def Block.ccaPd (b : Block) (r : Nat) : Int := clampInt (-95) (-62) (b.getS (F.PHY_CCA.PD r))

/-- Energy and signal level on subchannel i as last measured. -/
def Block.levelAt (b : Block) (r i : Nat) : Int × Int := nth (b.phyAt r).levels i (-200, -200)

/-- The levels measured at a command of the radio. -/
def Block.measure (b : Block) (r : Nat) (cca : List (Int × Int)) : Block := b.updPhy r (fun p => { p with levels := cca })

/-- CCA on secondary subchannel i: ED as on the primary, a signal at PD + 10 dB (PRESUMED: the steps of IEEE 802.11be, log entry
150). -/
def Block.secBusy (b : Block) (r i : Nat) : Bool := decide (b.ccaEd r < (b.levelAt r i).1 ∨ b.ccaPd r + 10 ≤ (b.levelAt r i).2)

/-- Mask of the busy secondary subchannels among n. -/
def Block.busySecs (b : Block) (r n : Nat) : Nat :=
  sumNat ((List.range n).map (fun i => if i ≠ b.primIdx r ∧ b.secBusy r i then 2 ^ i else 0))

/-- CCA on the primary 20 MHz is busy: a detection, reception or deferral, or energy above ED. -/
def Block.ccaPrimary (b : Block) (r : Nat) : Bool :=
  (b.phyAt r).rx.isSome || decide (b.ccaEd r < (b.levelAt r (b.primIdx r)).1)

/-- Mask of the radio's subchannels that the fuse set omits (R63). -/
def Block.omitted (b : Block) (fu : Fuses) (r : Nat) (l : List Nat) : Nat :=
  sumNat ((List.range l.length).map (fun i => if b.allowed20 fu r (nth l i 0) then 0 else 2 ^ i))

/-- Width and punctured mask of a PPDU (R71, R72): at the channel width the smallest permitted pattern, or for OFDMA the set
itself; else narrowed to the widest width whose subchannels are all idle and not punctured. -/
def Block.shape (b : Block) (fu : Fuses) (r : Nat) (l : List Nat) (t : TxStart) : Option (Nat × Nat) :=
  let full := b.get (F.PHY_CHAN.WIDTH r)
  let p := b.primIdx r
  let need := b.get (F.PHY_PUNCT.STATIC r) ||| b.omitted fu r l ||| b.busySecs r l.length
  let w := min t.width full
  let narrow (ws : List Nat) : Option (Nat × Nat) :=
    (ws.find? (fun k => need &&& blockMask k p == 0)).map (fun k => (k, 0))
  if bitOf need p then none
  else if w = full then
    if t.ofdma then some (full, need)
    else match punctCover full need p with
      | some m => some (full, m)
      | none => narrow ((List.range full).reverse)
  else narrow ((List.range (w + 1)).reverse)

/-! ### Limits -/

/-- IMGCAP and STWCAP of front end f in 0.5 dBm; 0xFF = none (R257). -/
def Block.caps (b : Block) (f : Nat) : List Nat :=
  let g (x : Nat → Fld) : Nat := b.get (x f)
  let img := fun i => match i with
    | 0 => F.RFC_IMGCAP.CAP0 | 1 => F.RFC_IMGCAP.CAP1 | 2 => F.RFC_IMGCAP.CAP2 | _ => F.RFC_IMGCAP.CAP3
  let stw := fun i => match i with
    | 0 => F.RFC_STWCAP.CAP0 | 1 => F.RFC_STWCAP.CAP1 | 2 => F.RFC_STWCAP.CAP2 | _ => F.RFC_STWCAP.CAP3
  [g img, g stw].filter (· != 0xFF)

/-- The least of a list, d when it is empty. -/
def minInt (d : Int) (l : List Int) : Int := l.foldl min d

/-- PSD of a 6 GHz channel in the standard-power table, 0.5 dBm/MHz; none = not permitted (R89). -/
def Block.spPsd (b : Block) (c : Nat) : Option Int :=
  let v := b.btab 12 2 (0x3402010 + (c - 1) / 4) 1
  if v = 0x80 then none else some (signedOf 8 v)

/-- The steward limit of R90 in 0.5 dBm for width w over the channels cs; none when it forbids the PPDU. -/
def Block.spLimit (b : Block) (w : Nat) (cs : List Nat) : Option Int :=
  let m := b.btab 12 2 (0x3402008 + w) 1
  if m = 0 ∨ cs.any (fun c => (b.spPsd c).isNone) then none
  else some (minInt m (cs.map (fun c => (b.spPsd c).getD 0 + dbFloor2 (20 * cs.length))))

/-- The fuse limit of R258 in 0.25 dBm. -/
def Block.fuseLimit (b : Block) (fu : Fuses) (r : Nat) (cs : List Nat) : Int :=
  let sp := b.spActive
  minInt 1000 (cs.map (fun c => 2 * (groupEirp fu sp r c : Int)) ++
    cs.filterMap (fun c => (groupPsd fu sp r c).map (fun p => 2 * p + dbFloor4 (20 * cs.length))))

/-- The OBSS limit of R83 in 0.25 dBm: 21 − (level + 82) dBm per 20 MHz of the PPDU's bandwidth. -/
def obssLimit (half : Int) (w : Nat) : Int := 4 * 21 - 2 * (half + 2 * 82) + dbFloor4 (2 ^ w)

/-- ANT_GAIN of chain c in 0.5 dB (R252). -/
def Block.antGain (b : Block) (c : Nat) : Int := signedOf 8 (b.btab 13 0 (0x3500000 + 8 * c) 1)

/-- MAX_COND of chain c in 0.5 dBm. -/
def Block.maxCond (b : Block) (c : Nat) : Nat := b.btab 13 0 (0x3500000 + 8 * c + 1) 1

/-- The chains that belong to front end f (R243). -/
def feChains (f : Nat) : List Nat :=
  match f with
  | 0 => List.range 8
  | 1 => [8, 9, 10, 11]
  | 2 => [12, 13, 14, 15]
  | _ => [16]

/-- The radio's chains in use (R65) that are not shut (R263). -/
def Block.txChains (b : Block) (r : Nat) : List Nat :=
  (feChains r).filter (fun c => bitOf (b.get (F.PHY_CHAN.CHAINS r)) c && !bitOf (b.get F.RFC_CHAIN_STATE.SHUT) c)

/-- Conducted target of chain c (R258, R262) in 0.25 dBm: held at MAX_COND, less the chain's backoff. -/
def Block.conducted (b : Block) (c : Nat) (p : Int) : Int :=
  min p (2 * (b.maxCond c : Int)) - 2 * (b.chainAt c).backoff

/-! ### Losing a TXOP -/

/-- The committed plan of a radio. -/
def Block.committedPlan (b : Block) (r : Nat) : Option Plan :=
  b.drov.plans.find? (fun p => p.radio == r && p.committed)

/-- The radio holds no TXOP any more. -/
def Block.endTxop (b : Block) (r : Nat) : Block :=
  (b.updLm r (fun l => { l with txop := none })).updPhy r (fun p => { p with obssTxop := none })

/-- A TXOP reported lost while its plan is PLANNED: the plan is undone (R101, R166). -/
def Block.loseTxop (b : Block) (r : Nat) : Block := (b.undoAhead r).endTxop r

/-- A PPDU of a TXOP is refused or cannot start: its plan, COMMITTED or PLANNED, is undone as a lost TXOP (R166, R305). -/
def Block.dropTxop (b : Block) (r : Nat) : Block := (b.undoLive r).endTxop r

/-- A refusal of a PPDU: counted in RFC or PHY (R64, R90, R255, R258, R263); where it is one of a TXOP, the TXOP is lost. -/
def Block.refuseTx (b : Block) (r kind : Nat) (set : CntSet) (n : Nat) : Block :=
  let b := b.count set n
  if kind = 5 ∨ (8 ≤ kind ∧ kind ≤ 10) then b.dropTxop r else b

/-! ### The antenna -/

/-- A reception abandoned for the radio's own transmission (R76). -/
def Block.abortRx (b : Block) (r : Nat) : Block :=
  if (b.phyAt r).rx.isSome then
    let b := (b.count (.phy (Fin.ofNat 3 r)) C.PHY.RX_TX_ABORT).undoRx r
    (b.updPhy r (fun p => { p with rx := none, search := none })).updLm r (fun l => { l with resp := none })
  else b

/-- The contents as they go on air: a trigger frame tells the AP TX power of its PPDU (R128), per 20 MHz as IEEE 802.11ax has it; users
whose RUs are not sent are left out (R72). -/
def AirBody.at' (x : AirBody) (out w : Nat) (eirp : Int) : AirBody :=
  match x with
  | .trigger t => .trigger { t with apPower := eirp - dbFloor4 (2 ^ w) }
  | .data us => .data (us.filter (fun u => u.mask &&& out == 0))
  | x => x

/-- An OFDMA user whose RU overlaps a punctured subchannel is sent empty and undone singly (R72). -/
def Block.emptyRu (b : Block) (r sta : Nat) : Block :=
  match b.drov.plans.find? (fun p => p.radio == r && (p.slot == 0 || p.committed)) with
  | none => b
  | some p =>
    match p.users.find? (fun u => u.sta == sta && !u.empty) with
    | none => b
    | some u =>
      let b := b.undoUser p false u
      let b := b.count (.drov (Fin.ofNat 3 r)) C.DROV.USER_REMOVED
      { b with drov := { b.drov with plans := b.drov.plans.map (fun q =>
          if q.radio = p.radio ∧ q.slot = p.slot then
            { q with users := q.users.map (fun v => if v.sta = sta then { v with empty := true, charge := 0, frames := [] } else v) }
          else q) } }

/-- The frames of the plan whose data PPDU goes on air have been there (R167); the BlockAckReqs that go with them are owed no more
(R169). -/
def Block.markAired (b : Block) (r : Nat) : Block :=
  match b.drov.plans.find? (fun p => p.radio == r && p.committed) with
  | none => b
  | some p =>
    (p.users.filter (fun u => !u.empty)).foldl (fun b u =>
      let tids := ((b.queue (userKey p u)).filter (fun f => u.frames.contains f.id)).map (fun f => f.tid)
      let b : Block := if p.form == .group then b else
        { b with drov := { b.drov with barOwed := b.drov.barOwed.filter (fun x => !(x.1 == u.sta && tids.contains x.2.1)) } }
      b.setQueue (userKey p u) ((b.queue (userKey p u)).map (fun (f : QFrame) =>
        if u.frames.contains f.id then { f with aired := true } else f))) b

/-- The PPDU goes on air with its width, puncturing and targets (R71, R253, R258), a reception in progress abandoned (R76):
counted per radio and per chain. -/
def Block.onAir (b : Block) (r : Nat) (j : TxJob) (w punct out : Nat) (eirp : Int) (cs : List Nat) : Block :=
  let b := b.abortRx r
  let gain := cs.foldl (fun m c => max m (b.antGain c)) (-128)
  let dir := if j.t.beam then dbCeil4 cs.length (max 1 j.t.nss) else 0
  let p := eirp - 2 * gain - dir - dbCeil4 cs.length 1
  let b := cs.foldl (fun b c => b.updChain c (fun x => { x with target := some (b.conducted c p), viol := false })) b
  let b := b.count (.phy (Fin.ofNat 3 r)) C.PHY.TX_PPDU
  let b := if punct != 0 then b.count (.phy (Fin.ofNat 3 r)) C.PHY.TX_PUNCT
    else if w < min j.t.width (b.get (F.PHY_CHAN.WIDTH r)) then b.count (.phy (Fin.ofNat 3 r)) C.PHY.TX_NARROWED else b
  let base := (feChains r).headD 0
  let b := cs.foldl (fun b c => b.lane (Fin.ofNat 12 (lmEngine r)) (2 * (c - base) + 1) 0) b
  let b := b.updPhy r (fun q => { q with
    tx := some ⟨w, punct, sumNat (cs.map (2 ^ ·)), b.active 12 (4 * r), b.active 12 (4 * r + 1), eirp⟩ })
  let b := (b.setFe r feTx).emit (.air r ⟨j.kind, j.sta, w, punct, sumNat (cs.map (2 ^ ·)), j.rate, j.body.at' out w eirp⟩)
  match j.kind with
  | 5 => b.markAired r
  | 6 => b.templateSent r 1 j.sta 0
  | 7 => b.templateSent r 2 j.bss j.sta
  | _ => b

/-- A transmission whose front end is ready goes on air, or is refused (R63, R64, R71, R72, R76, R83, R90, R91, R255, R258, R263).
Where the spec leaves it open (DESIGN CHOICE): a limit below 0 dBm shows as 0 in PHY_SP_STATUS.LIMIT, whose sign is not given
(log entry 153), and a PPDU that both RFC and PHY would refuse counts once, in the first of these tests (log entry 154). -/
def Block.sendPpdu (fu : Fuses) (b : Block) (r : Nat) (j : TxJob) : Block :=
  let rf := CntSet.rfc (Fin.ofNat 4 r)
  let ph := CntSet.phy (Fin.ofNat 3 r)
  match b.subchannels r with
  | none => b.refuseTx r j.kind rf C.RFC.REG_REFUSED
  | some l =>
    let prim := b.get (F.PHY_CHAN.PRIMARY r)
    let ceased := r == 0 && b.on F.PHY_SP_CTRL.EN && !b.spActive
    if !fu.regLock then b.refuseTx r j.kind rf C.RFC.REG_REFUSED
    else if ceased && (!b.on F.PHY_SP_CTRL.FALLBACK || !b.allowed20 fu 0 prim) then b.refuseTx r j.kind ph C.PHY.TX_SP_REFUSED
    else
      match b.shape fu r l j.t with
      | none => b.refuseTx r j.kind rf C.RFC.REG_REFUSED
      | some (w, punct) =>
        let cs := b.txChains r
        if cs.length < max 1 j.t.nss then b.refuseTx r j.kind rf C.RFC.TX_CHAIN_REFUSED
        else
          let sent := blockMask w (b.primIdx r)
          let chans := ((List.range l.length).filter (fun i => bitOf sent i && !bitOf punct i)).map (fun i => nth l i 0)
          let sp := if r = 0 ∧ b.spActive then some (b.spLimit w chans) else none
          match sp with
          | some none => b.refuseTx r j.kind ph C.PHY.TX_SP_REFUSED
          | _ =>
            let spl := (sp.join).map (fun v => 2 * v)
            let b := match sp.join with
              | some v => b.set F.PHY_SP_STATUS.LIMIT v.toNat
              | none => b
            let lim := minInt (b.fuseLimit fu r chans) ((b.caps r).map (fun c => 2 * (c : Int)) ++ spl.toList ++
              (if (b.lmAt r).txop.isSome then ((b.phyAt r).obssTxop.map (fun v => obssLimit v w)).toList else []))
            let tgt := b.get (F.RFC_TXPWR.TARGET r)
            let capped := tgt != 0xFF && decide (lim < 2 * (tgt : Int))
            let eirp := if tgt = 0xFF then lim else min lim (2 * (tgt : Int))
            let b := if capped then b.count rf C.RFC.REG_CAPPED else b
            let out := (List.range l.length).foldl (fun m i => if bitOf sent i && !bitOf punct i then m else setBit m i true) 0
            let b := (j.t.rus.filter (fun u => u.2 &&& out != 0)).foldl (fun b u => b.emptyRu r u.1) b
            b.onAir r j w punct out eirp cs

/-- A TX start command (R81): a front end in WARM, SETTLE or CAL makes it wait (R251), an in-service step being aborted. A link
MAC that does not run, or one already on air, sends nothing. -/
def Block.txStart (fu : Fuses) (b : Block) (r : Nat) (j : TxJob) : Block :=
  if !b.runs (lmEngine r) && b.est (lmEngine r) != stDrain then b
  else
    let b := b.calAbort r
    let s := b.fe r
    if s = feReady ∨ s = feRx then b.sendPpdu fu r j
    else if s = feOff then b.refuseTx r j.kind (.rfc (Fin.ofNat 4 r)) C.RFC.REG_REFUSED
    else if s = feTx then b
    else (b.count (.rfc (Fin.ofNat 4 r)) C.RFC.TX_WAITED).updFe r (fun e => { e with wifi := some j })

/-- The transmission on air ends (R244, R253). -/
def Block.txEnd (b : Block) (r : Nat) : Block :=
  if b.fe r = feTx then ((b.setFe r feReady).updPhy r (fun p => { p with tx := none })).feBoundary r else b

end Sys2Proof.Machine
end

