-- ==== Sys2Proof/Machine/Rfc.lean ====
section
/-! DEFINITION. The commands of chapter 8 on front ends and chains (R243 to R269). -/

namespace Sys2Proof.Machine

/-! ### Calibration -/

/-- DELTA_T of front end f in °C, 2 to 15. -/
def Block.deltaT (b : Block) (f : Nat) : Int := clampTo 2 15 (b.get (F.RFC_CAL.DELTA_T f))

/-- The channel fields or the span that stored results are kept with (R246). -/
def Block.calPlace (b : Block) (f : Nat) : List Nat :=
  if f = 3 then (match b.sieve.span with | some s => [s.spacing, s.freq] | none => [])
  else [b.get (F.PHY_CHAN.PRIMARY f), b.get (F.PHY_CHAN.WIDTH f), b.get (F.PHY_CHAN.CH320 f), b.get (F.PHY_CHAN.SEC_BELOW f)]

/-- Byte f of RFC_TEMP as a temperature. -/
def Block.feTemp (b : Block) (f : Nat) : Int := signedOf 8 (b.get F.RFC_TEMP.T / 2 ^ (8 * f))

/-- b with the measured temperature of front end f. -/
def Block.setFeTemp (b : Block) (f : Nat) (t : Int) : Block :=
  let v := b.get F.RFC_TEMP.T
  let old := v / 2 ^ (8 * f) % 256
  b.set F.RFC_TEMP.T (v - old * 2 ^ (8 * f) + unsignedOf 8 t * 2 ^ (8 * f))

/-- The stored results are valid (R246). -/
def Block.calValid (b : Block) (f : Nat) : Bool :=
  match (b.feAt f).stored with
  | some s => s.place == b.calPlace f && decide (b.feTemp f - s.temp ≤ b.deltaT f ∧ s.temp - b.feTemp f ≤ b.deltaT f)
  | none => false

/-- Steps of an in-service calibration (R246): OSC, RC, DC, IQ. -/
def calSteps (f k : Nat) : Nat :=
  match k with
  | 0 => if f = 3 then 16 else 8
  | 1 => if f = 3 then 8 else 4
  | 2 => if f = 3 then 40 else 32
  | _ => if f = 3 then 60 else 48

/-- The last completed run of calibration k. -/
def FrontEnd.run (e : FrontEnd) (k : Nat) : Option CalRun := look? e.runs k

/-- Calibration k of front end f is due (R247). -/
def Block.calDue (b : Block) (f k : Nat) : Bool :=
  let e := b.feAt f
  match e.run k with
  | none => false
  | some r =>
    let en := bitOf (b.get (F.RFC_CAL.EN f)) k
    let per := b.get (F.RFC_CAL.PERIOD_S f)
    (en && decide (b.deltaT f < b.feTemp f - r.temp ∨ b.deltaT f < r.temp - b.feTemp f)) ||
      (en && per != 0 && decide (r.ao + per * 1000000000 ≤ b.ao)) ||
      (List.range k).any (fun j => match e.run j with | some q => decide (r.ord < q.ord) | none => false)

/-- CAL_DUE of RFC_FE_STATUS_f. -/
def Block.calDueBits (b : Block) (f : Nat) : Nat := sumNat ((List.range 4).map (fun k => if b.calDue f k then 2 ^ k else 0))

/-- A completed OSC calibration trims the crystal by at most one load step, about 0.2 ppm, against the measured frequency error, while
device time is PTP-disciplined (R246). The sign, and that half a step is the least error trimmed, are a DESIGN CHOICE (log entry
159). -/
def Block.trimCrystal (b : Block) : Block :=
  if !b.on F.CART_PTP_STATUS.LOCKED then b
  else
    let e := b.cart.servo.trim
    let d : Int := if 100 ≤ e then 1 else if e ≤ -100 then -1 else 0
    { b with rfc := { b.rfc with xtal := b.rfc.xtal + d } }

/-- Calibrations ks of front end f completed at temperature t: results stored and applied together (R246, R249). -/
def Block.calStore (b : Block) (f : Nat) (ks : List Nat) (t : Int) : Block :=
  let b := if ks.contains 0 then b.trimCrystal else b
  let b := ks.foldl (fun b k =>
    { b.updFe f (fun e => { e with runs := put' e.runs k ⟨t, b.ao, b.rfc.ord⟩ }) with
      rfc := { (b.updFe f (fun e => { e with runs := put' e.runs k ⟨t, b.ao, b.rfc.ord⟩ })).rfc with ord := b.rfc.ord + 1 } }) b
  b.updFe f (fun e => { e with stored := some ⟨t, b.calPlace f⟩, steps := 0 })

/-- A NOTE record of the front end's owner: row k of R269. -/
def Block.feNote (b : Block) (f k : Nat) : Block := b.note (feOwner f) k [BitVec.ofNat 8 f]

/-- Front end 3 in CAL blanks every channel (R195, R245). -/
def Block.feBlank (b : Block) (f : Nat) : Block :=
  if f = 3 then b.releaseStalls (fun _ => true) C.SIEVE.BLINKED else b

/-- WARM is over (R244): CAL in its start-up form unless the stored results are valid. -/
def Block.feWarmed (b : Block) (f : Nat) : Block :=
  if b.fe f ≠ feWarm then b
  else if b.calValid f then b.setFe f feSettle
  else (b.setFe f feCal).updFe f (fun e => { e with startup := true, steps := 0 })

/-- A front end in WARM has settled (R244). -/
def execFeWarmDone (f : Fin 4) (temp : Int) (s : State) : Host.Outcome State Fault Refusal :=
  let b := s.blk
  s.next (if b.fe f.val = feWarm then (b.setFeTemp f.val temp).feWarmed f.val else b)

/-- A wake of the mesh front end is ready in WALK: windows whose start has passed are counted late (R407). -/
def Block.wakeReady (b : Block) (f : Nat) : Block :=
  if f = 3 ∧ b.watch.plan = 3 then
    let b := b.count .watch C.WATCH.WAKE_LATE (b.watch.wakesDue.filter (fun t => decide (t < b.now))).length
    { b with watch := { b.watch with wakesDue := b.watch.wakesDue.filter (fun t => decide (b.now ≤ t)) } }
  else b

/-- A front end in SETTLE is READY (R244); the Wi-Fi transmission that waited for it starts (R251). -/
def Block.feSettled (fu : Fuses) (b : Block) (f : Nat) : Block :=
  if b.fe f = feSettle then
    let j := (b.feAt f).wifi
    let b := (b.setFe f feReady).updFe f (fun e => { e with readyAo := b.ao, waiting := [], wifi := none })
    let b := b.wakeReady f
    match j with
    | some j => b.sendPpdu fu f j
    | none => b
  else b

/-- A front end in SETTLE is READY (R244). -/
def execFeSettleDone (f : Fin 4) (s : State) : Host.Outcome State Fault Refusal := s.next (s.blk.feSettled s.fuse f.val)

/-- The start-up calibration completes (R246, R250), or runs out of range (R269). -/
def execStartupCalibrationDone (f : Fin 4) (ok : Bool) (temp : Int) (s : State) : Host.Outcome State Fault Refusal :=
  let b := s.blk
  s.next (if b.fe f.val = feCal && (b.feAt f.val).startup then
    let b := ((b.setFe f.val feSettle).setFeTemp f.val temp).updFe f.val (fun e => { e with startup := false })
    if ok then
      ((b.calStore f.val [0, 1, 2, 3] temp).setB (F.RFC_FE_STATUS.DEGRADED f.val) false).count (.rfc f) C.RFC.CAL_STARTUP
    else ((b.setB (F.RFC_FE_STATUS.DEGRADED f.val) true).count (.rfc f) C.RFC.CAL_FAIL).feNote f.val 4
  else b)

/-- A measured temperature that may make calibrations due (R247); one no longer due loses its steps (R249). -/
def execCalibrationDue (f : Fin 4) (temp : Int) (s : State) : Host.Outcome State Fault Refusal :=
  let b := s.blk
  s.next (if b.fe f.val = feOff then b
  else
    let b := b.setFeTemp f.val temp
    if (b.feAt f.val).steps != 0 && !b.calDue f.val (b.get (F.RFC_FE_STATUS.CAL_RUN f.val)) then
      b.updFe f.val (fun e => { e with steps := 0 })
    else b)

/-- The response-possible signal of radio r (R98). -/
def Block.respPossible (b : Block) (r : Nat) : Bool :=
  (b.phyAt r).rx.isSome || (b.lmAt r).resp.isSome || (b.lmAt r).txop.isSome || decide (b.mono < (b.lmAt r).navIntra)

/-- A TBTT of a beaconing BSS of radio r falls within 500 µs (R120, R248). -/
def Block.tbttNear (b : Block) (r : Nat) : Bool :=
  let t := (b.lmAt r).tsf
  (List.range 16).any (fun i =>
    let a := lmWin r + 64 * i
    let int := b.btab (lmEngine r) 0 (a + 6) 2
    let fl := b.btab (lmEngine r) 0 (a + 9) 1
    let off := b.btab (lmEngine r) 0 (a + 0xA) 2
    bitOf fl 0 && !bitOf fl 2 && !bitOf fl 4 && int != 0 && bitOf (b.get (F.LM_BCN_CTRL.EN r)) i &&
      (let into := (t + 1024 * int * (off + 1) - 1024 * off) % (1024 * int)
       decide (1024 * int ≤ into + 500)))

/-- Front end f is in a gap but for its time in READY (R248). -/
def Block.calGap (b : Block) (f : Nat) : Bool :=
  if f = 3 then
    b.sieve.txs.isEmpty && b.sieve.windows.all (fun w => decide (b.now + 200000 < w.start ∨ w.stop < b.now)) &&
      b.sieve.stalls.all (fun s => s.st == .hunt)
  else !b.respPossible f && !b.tbttNear f

/-- Calibration k of front end f has completed its last step (R246, R249, R269). -/
def Block.calEnd (b : Block) (f k : Nat) (ok : Bool) (temp : Int) : Block :=
  let rf := CntSet.rfc (Fin.ofNat 4 f)
  if ok then ((b.calStore f [k] temp).setB (F.RFC_FE_STATUS.DEGRADED f) false).count rf C.RFC.CAL_INSERVICE
  else ((b.updFe f (fun e => { e with steps := 0 })).count rf C.RFC.CAL_FAIL).feNote f 3

/-- An in-service step (R246, R248, R249). In a gap, 200 µs or more after it came to READY, front end f begins a step of the first due
calibration and is in CAL; the command given in CAL ends the step, and the front end settles. The results apply with the last step. -/
def execInserviceStep (f : Fin 4) (ok : Bool) (temp : Int) (s : State) : Host.Outcome State Fault Refusal :=
  let b := s.blk.setFeTemp f.val temp
  let e := b.feAt f.val
  s.next (if b.fe f.val = feCal && !e.startup then
    let k := b.get (F.RFC_FE_STATUS.CAL_RUN f.val)
    let b := (b.setFe f.val feSettle).updFe f.val (fun e => { e with steps := e.steps + 1 })
    if !b.calDue f.val k then b.updFe f.val (fun e => { e with steps := 0 })
    else if e.steps + 1 < calSteps f.val k then b else b.calEnd f.val k ok temp
  else if b.fe f.val = feReady && decide (e.readyAo + 200000 ≤ b.ao) && b.calGap f.val then
    match (List.range 4).find? (fun k => b.calDue f.val k) with
    | none => b
    | some k =>
      let kept := if b.get (F.RFC_FE_STATUS.CAL_RUN f.val) = k then e.steps else 0
      (((b.feBlank f.val).setFe f.val feCal).set (F.RFC_FE_STATUS.CAL_RUN f.val) k).updFe f.val (fun e => { e with steps := kept })
  else b)

/-- An in-service step is aborted (R249); a start-up calibration never is (R250). -/
def execCalStepAbort (f : Fin 4) (s : State) : Host.Outcome State Fault Refusal := s.next (s.blk.calAbort f.val)

/-- A transmission that waits on its front end is dropped LATE (R251, R192). -/
def execTxWaitedLate (f : Fin 4) (tx : Option Nat) (s : State) : Host.Outcome State Fault Refusal :=
  let b := s.blk
  let e := b.feAt f.val
  s.next (if f.val = 3 then
    match tx with
    | some id =>
      if e.waiting.contains id then
        match b.sieve.txs.find? (fun t => t.id == id) with
        | some t => (b.count (.rfc f) C.RFC.TX_LATE).meshLate t
        | none => b
      else b
    | none => b
  else if e.wifi.isSome then
    (b.updFe f.val (fun e => { e with wifi := none })).refuseTx f.val ((e.wifi.map (fun j => j.kind)).getD 0) (.rfc f) C.RFC.TX_LATE
  else b)

/-! ### Chains -/

/-- The front end of chain c (R243). -/
def chainFe (c : Nat) : Nat := if c < 8 then 0 else if c < 12 then 1 else if c < 16 then 2 else 3

/-- Arithmetic shift right of an error, within the step limit (R84, R260, R379). -/
def loopStep (err : Int) (shift lim : Nat) : Int := clampInt (-(lim : Int)) lim (err / (2 ^ shift : Nat))

/-- A transmission of chain c has been measured (R260), in 0.25 dBm: its gain index moves, a clean transmission counts
towards recovery (R262). -/
def execAlcUpdate (c : Fin 17) (measured : Int) (s : State) : Host.Outcome State Fault Refusal :=
  let b := s.blk
  let f := chainFe c.val
  s.next (match (b.chainAt c.val).target with
  | none => b
  | some t =>
    let idx : Int := (b.chainAt c.val).idx
    let idx' := if b.on (F.RFC_ALC.FREEZE f) then idx
      else clampInt 0 127 (idx + loopStep (t - measured) (b.get (F.RFC_ALC.GAIN_SHIFT f)) (max 1 (b.get (F.RFC_ALC.STEP f))))
    let b := b.updChain c.val (fun x => { x with idx := idx'.toNat })
    let b := if idx' = 127 ∧ measured < t then b.count (.rfc (Fin.ofNat 4 f)) C.RFC.ALC_AT_BOUND else b
    b.updChain c.val (fun x =>
      let x := { x with target := none }
      if x.viol then { x with viol := false, clean := 0 }
      else if max 1 (b.get (F.RFC_MON.RECOVER f)) ≤ x.clean + 1 then
        { x with clean := 0, strikes := 0, backoff := x.backoff - max 1 (b.get (F.RFC_MON.STEP f)) }
      else { x with clean := x.clean + 1, strikes := 0 }))

/-- Measured power above target by more than OVER (0.1 dB): the gain falls by the excess, rounded up (R261). -/
def execAlcOvershoot (c : Fin 17) (measured : Int) (s : State) : Host.Outcome State Fault Refusal :=
  let b := s.blk
  let f := chainFe c.val
  s.next (match (b.chainAt c.val).target with
  | none => b
  | some t =>
    if 25 * (measured - t) ≤ 10 * (b.get (F.RFC_ALC.OVER f) : Int) then b
    else
      (b.updChain c.val (fun x => { x with idx := x.idx - (measured - t).toNat })).count
        (.rfc (Fin.ofNat 4 f)) C.RFC.ALC_OVERSHOOT)

/-- A level at an offset exceeds a mask of breakpoints, the last one passed first: linear in dB between breakpoints, the last limit
beyond the last (R87). -/
def aboveFrom (o : Nat) (l : Int) : Nat × Int → List (Nat × Int) → Bool
  | p, [] => decide (p.2 < l)
  | p, q :: t =>
    if o < q.1 then decide ((q.2 - p.2) * (o - p.1 : Nat) < (l - p.2) * (q.1 - p.1 : Nat)) else aboveFrom o l q t

/-- The same from the centre: 0 dBr below the first offset. -/
def aboveMask (o : Nat) (l : Int) (pts : List (Nat × Int)) : Bool :=
  match pts with
  | [] => decide (0 < l)
  | p :: t => if o < p.1 then decide (0 < l) else aboveFrom o l p t

/-- The built-in mask of width code w (PRESUMED, log entry 156: the mask of IEEE 802.11be): 0 dBr to 0.5 MHz within the channel edge,
-20 dBr 0.5 MHz outside it, -28 dBr at one and -40 dBr at one and a half channel widths. -/
def builtInMask (w : Nat) : List (Nat × Int) :=
  let h := 100 * 2 ^ w
  [(h - 5, 0), (h + 5, -200), (2 * h, -280), (3 * h, -400)]

/-- The mask profile of radio r for width w in a bank, with PUNCT_LIMIT in 0.1 dBr (R87). -/
def Block.maskOf (b : Block) (r w bank : Nat) : List (Nat × Int) × Int :=
  let a := 0x3401000 + 0x40000 * r + 128 * w + bankOff bank
  let n := min 30 (b.tab a 1)
  let pts := (List.range n).map (fun i => (b.tab (a + 4 + 4 * i) 2, signedOf 16 (b.tab (a + 6 + 4 * i) 2)))
  let rising := (pts.zip pts.tail).all (fun x => decide (x.1.1 < x.2.1))
  if n = 0 ∨ !rising then (builtInMask w, -200) else (pts, 10 * signedOf 8 (b.tab (a + 1) 1))

/-- Offset o in 100 kHz from the centre lies inside a punctured subchannel of a PPDU of width w. -/
def inPunct (w punct : Nat) (o : Int) : Bool :=
  (List.range (2 ^ w)).any (fun i => bitOf punct i && decide (200 * (i : Int) - 100 * 2 ^ w ≤ o ∧ o < 200 * (i + 1 : Int) - 100 * 2 ^ w))

/-- A measured spectrum exceeds the mask of front end f's transmission (R262): that of R87 in effect at its TX start for a Wi-Fi radio,
ACP_DBC below its power at one channel spacing for the mesh transmitter. -/
def Block.maskBroken (b : Block) (f : Nat) (spectrum : List (Int × Int)) : Bool :=
  if f = 3 then
    let s : Nat := (b.sieve.span.map (fun x => spacingHz x.spacing)).getD 0
    spectrum.any (fun p => p.1.natAbs == s && decide (-10 * (b.get (F.RFC_MON.ACP_DBC 3) : Int) < p.2))
  else match (b.phyAt f).tx with
    | some t =>
      let m := b.maskOf f t.width t.maskBank
      spectrum.any (fun p => if inPunct t.width t.punct p.1 then decide (m.2 < p.2) else aboveMask p.1.natAbs p.2 m.1)
    | none => false

/-- A chain shut (R263): the served source fires; its record shows RFC_CHAIN_STATE (R340). -/
def Block.shutChain (b : Block) (c : Nat) : Block :=
  let b := b.set F.RFC_CHAIN_STATE.SHUT (setBit (b.get F.RFC_CHAIN_STATE.SHUT) c true)
  (b.count (.rfc (Fin.ofNat 4 (chainFe c))) C.RFC.CHAIN_SHUT).fire 18 16

/-- MASK_VIOLATION (R262): a transmission whose feedback spectrum, points of offset from its centre in 100 kHz, of chain 16 in Hz, and
level in 0.1 dBr, exceeds its mask anywhere: backoff up by STEP, or at MAX a strike (R263). -/
def execMaskViolation (c : ChainSpectrum) (s : State) : Host.Outcome State Fault Refusal :=
  let b := s.blk
  let spectrum := c.spectrum
  let c := c.chain
  let f := chainFe c.val
  let x := b.chainAt c.val
  s.next (if !b.on (F.RFC_MON.EN f) || x.target.isNone || x.viol || !b.maskBroken f spectrum then b
  else
    let b := b.count (.rfc (Fin.ofNat 4 f)) C.RFC.MON_VIOLATION
    let top := 2 * b.get (F.RFC_MON.MAX f)
    if x.backoff < top then
      b.updChain c.val (fun x => { x with
        viol := true, clean := 0, strikes := 0, backoff := min top (x.backoff + max 1 (b.get (F.RFC_MON.STEP f))) })
    else
      let b := b.updChain c.val (fun x => { x with viol := true, clean := 0, strikes := x.strikes + 1 })
      if max 1 (b.get (F.RFC_MON.STRIKES f)) ≤ x.strikes + 1 && !bitOf (b.get F.RFC_CHAIN_STATE.SHUT) c.val then
        b.shutChain c.val else b)

/-- A write of v to RFC_CHAIN_REVIVE (R263). -/
def Block.revive (b : Block) (v : Nat) : Block :=
  (bitsSet 17 v).foldl (fun b c =>
    if bitOf (b.get F.RFC_CHAIN_STATE.SHUT) c then
      (b.set F.RFC_CHAIN_STATE.SHUT (setBit (b.get F.RFC_CHAIN_STATE.SHUT) c false)).updChain c
        (fun x => { x with backoff := 0, strikes := 0, clean := 0 })
    else b) b

/-- RFC_CHAIN_REVIVE written. -/
def execChainRevive (road : Road) (value : Word) (s : State) : Host.Outcome State Fault Refusal :=
  s.next (s.blk.viaRoad road R.RFC_CHAIN_REVIVE value.toNat (fun b => b.revive value.toNat))

/-! ### Duty windows -/

/-- Sub-band s keeps a window (R264). -/
def keepsDuty (fu : Fuses) (s : Nat) : Bool := let d := (subBand fu s).duty; decide (1 ≤ d ∧ d ≤ 999)

/-- The window of a sub-band; one that POR has not filled holds nothing. -/
def Block.dutyWin (b : Block) (s : Nat) : List (Nat × Nat) :=
  match b.rfc.duty.find? (fun w => w.sub == s) with
  | some w => w.bins
  | none => [(3600, 0)]

/-- The sum of the bins of a window. -/
def binSum (l : List (Nat × Nat)) : Nat := sumNat (l.map (fun p => p.1 * p.2))

/-- b with the window of a sub-band replaced. -/
def Block.setDuty (b : Block) (s : Nat) (l : List (Nat × Nat)) : Block :=
  { b with rfc := { b.rfc with duty := b.rfc.duty.filter (fun w => w.sub != s) ++ [⟨s, l⟩] } }

/-- The first n bins of runs. -/
def takeBins : Nat → List (Nat × Nat) → List (Nat × Nat)
  | _, [] => []
  | n, (k, u) :: t => if n = 0 then [] else if n ≤ k then [(n, u)] else (k, u) :: takeBins (n - k) t

/-- A new bin of u units in front of runs, joined to a run of the same value. -/
def pushBin (u : Nat) (l : List (Nat × Nat)) : List (Nat × Nat) :=
  match l with
  | (k, v) :: t => if v = u then (k + 1, v) :: t else (1, u) :: (k, v) :: t
  | [] => [(1, u)]

/-- u units charged to the current bin. -/
def chargeBin (u : Nat) (l : List (Nat × Nat)) : List (Nat × Nat) :=
  match l with
  | (k, v) :: t => if k ≤ 1 then (1, v + u) :: t else (1, v + u) :: (k - 1, v) :: t
  | [] => [(1, u)]

/-- The window of sub-band s grants u units more (R265); a sub-band without one always does. -/
def Block.dutyGrants (b : Block) (fu : Fuses) (s u : Nat) : Bool :=
  !keepsDuty fu s || decide (binSum (b.dutyWin s) + u ≤ (subBand fu s).duty * 360000)

/-- u units charged to sub-band s. -/
def Block.dutyCharge (b : Block) (fu : Fuses) (s u : Nat) : Block :=
  if keepsDuty fu s then b.setDuty s (chargeBin u (b.dutyWin s)) else b

/-- A second of always-on time (R264). -/
def execDutyTick (s : State) : Host.Outcome State Fault Refusal :=
  s.next (((List.range 8).filter (keepsDuty s.fuse)).foldl
    (fun b n => b.setDuty n (takeBins 3600 (pushBin 0 (b.dutyWin n)))) s.blk)

/-! ### Lock, fuses, caps -/

/-- Synthesiser lock lost (R244, R269): a transmission ramps down and the front end goes to SETTLE; a response owed is dropped
LATE (R251); more than 16 losses in 1 s reset the owner. -/
def execSynthLockLost (f : Fin 4) (s : State) : Host.Outcome State Fault Refusal :=
  let b := s.blk
  let st := b.fe f.val
  s.next (if st < feSettle then b
  else
    let b := (b.count (.rfc f) C.RFC.LOCK_LOSS).feNote f.val 1
    let recent := b.ao :: (b.feAt f.val).losses.filter (fun t => decide (b.ao ≤ t + 1000000000))
    let b := b.updFe f.val (fun e => { e with losses := recent })
    let b := if st = feTx then
        let b := if f.val = 3 then (b.cutMeshTx).feBlank 3 else b.phyDrop f.val
        (b.setFe f.val feSettle).feBoundary f.val
      else b
    let b := if f.val < 3 && (b.lmAt f.val).resp.isSome then
        (b.updLm f.val (fun l => { l with resp := none })).count (.rfc f) C.RFC.TX_LATE else b
    if 16 < recent.length then b.fault (feOwner f.val) .contained 2 0xFFFF [BitVec.ofNat 8 f.val] else b)

/-- Bits of word w of the regulatory fuse block that a field covers (R255); the others are reserved and read 0 (R5). -/
def regFuseMask (w : Nat) : Nat :=
  if w = 0 then 0x1FFFF else if w = 2 then 0x7FFFFFF else if w = 3 then 0xFFFFFFF else if w = 4 then 0x1FFF
  else if w = 13 then 0xFFFF else if 30 ≤ w then 0
  else if 14 ≤ w ∧ w % 2 = 1 then 0xFFFF00FF else 0xFFFFFFFF

/-- A write of v to RFC_REG_DATA (R6, R255): fuse bits written 1 are programmed in BLANK and MAKER until REG_LOCK is 1. -/
def State.regFuse (s : State) (road : Road) (v : Nat) : State :=
  if 2 ≤ s.blk.sec.lc || s.fuse.regLock then { s with blk := s.blk.noteWrite road R.RFC_REG_DATA v }
  else
    let w := s.blk.get F.RFC_REG_IDX.WORD
    { s with fuse := { s.fuse with reg := put s.fuse.reg w (look s.fuse.reg w 0 ||| (v &&& regFuseMask w)) 0 } }

/-- RFC_REG_DATA written (R255). -/
def execRegFuseWrite (road : Road) (value : Word) (s : State) : Host.Outcome State Fault Refusal :=
  .next (s.viaRoad road R.RFC_REG_DATA value.toNat (fun s => s.regFuse road value.toNat))

/-- A write of v to RFC_IMGCAP (R257): any value until pass 2 has ended, then only one that raises no field. -/
def Block.imgcapWrite (b : Block) (road : Road) (v : Nat) : Block :=
  let fs := [F.RFC_IMGCAP.CAP0, F.RFC_IMGCAP.CAP1, F.RFC_IMGCAP.CAP2, F.RFC_IMGCAP.CAP3]
  if b.ost.pass2Done && fs.any (fun f => decide (b.get f < v / 2 ^ f.lo % 256)) then b.noteWrite road R.RFC_IMGCAP v
  else fs.foldl (fun b f => b.set f (v / 2 ^ f.lo)) b

/-- RFC_IMGCAP written (R257). -/
def execRfcImgcapWrite (road : Road) (value : Word) (s : State) : Host.Outcome State Fault Refusal :=
  s.next (s.blk.viaRoad road R.RFC_IMGCAP value.toNat (fun b => b.imgcapWrite road value.toNat))

end Sys2Proof.Machine
end

