-- ==== Sys2Proof/Machine/Avs.lean ====
section
/-! DEFINITION. The adaptive loops of chapter 13: AVS on VDD_CORE (R384 to R388, R394), droop stretching (R389), equalisation of
the ring receivers (R391 to R393). The other loops stand with their subjects (R383). -/

namespace Sys2Proof.Machine

/-! ### AVS -/

/-- b with the AVS loop changed. -/
def Block.updAvs (b : Block) (f : Avs → Avs) : Block := { b with avs := f b.avs }

/-- CORE runs at 400 MHz: TROT or higher, the start sequence and the lame state (R361, R383, R388). -/
def Block.coreFast (b : Block) : Bool := b.watch.plan ≤ 2 || b.watch.plan == 5 || b.watch.plan == 6

/-- VMAX in 5 mV codes (R384). -/
def Block.avsMax (b : Block) : Nat := clampTo 130 170 (b.get F.TOP_AVS_BOUND.VMAX)

/-- VMIN in 5 mV codes; above VMAX it acts as VMAX (R381, R384). -/
def Block.avsMin (b : Block) : Nat := min b.avsMax (clampTo 130 170 (b.get F.TOP_AVS_BOUND.VMIN))

/-- STEP in codes. -/
def Block.avsStep (b : Block) : Nat := max 1 (b.get F.TOP_AVS_CTRL.STEP)

/-- The set point written over AVSBus with a valid response (R387): as the loop, the gaits and the start call for it (R388). -/
def Block.avsPut (b : Block) (v : Nat) : Block :=
  let b := (b.set F.TOP_AVS_STATUS.BUS_ERR 0).setB F.TOP_AVS_STATUS.AVS_FAULT (decide (8 < b.avs.excluded.length))
  ((b.set F.TOP_AVS_STATUS.V v).emit (.avs (5 * v))).updAvs (fun a => { a with wroteAo := some b.ao })

/-- A failure of the bus, or of more than 8 monitors (R387, R394): the loop freezes; with a slack below URGENT it is FATAL. -/
def Block.avsFail (b : Block) (slack : Nat) : Block :=
  let b := b.set F.TOP_AVS_STATUS.AVS_FAULT 1
  if slack < b.get F.TOP_AVS_CTRL.URGENT then b.fault 16 .fatal 0 0xFFFF [] else b

/-- The loop writes v, when it differs from V; ok: the write draws a valid response (R384, R387). -/
def Block.avsWrite (b : Block) (v slack : Nat) (ok : Bool) : Block :=
  if v = b.get F.TOP_AVS_STATUS.V then b
  else if ok then b.avsPut v
  else
    let b := (b.sat F.TOP_AVS_STATUS.BUS_ERR 1).note 16 0
    if 8 ≤ b.get F.TOP_AVS_STATUS.BUS_ERR then b.avsFail slack else b

/-- Monitors that read outside 0 to 63 taps in this period; the fourth such period in a row excludes one (R394). -/
def Block.avsMonitors (b : Block) (readings : List (Nat × Nat)) : Block :=
  (List.range 24).foldl (fun b m =>
    let bad := readings.any (fun x => x.1 == m && decide (63 < x.2))
    let n := if bad then look b.avs.oor m 0 + 1 else 0
    let b := b.updAvs (fun a => { a with oor := put a.oor m n 0 })
    if n = 4 ∧ !b.avs.excluded.contains m then (b.updAvs (fun a => { a with excluded := a.excluded ++ [m] })).note 16 0 (bytesLE 1 m)
    else b) b

/-- AVS_UPDATE (R384, R386, R387): readings are those of the period outside the settle times. -/
def Block.avsUpdate (b : Block) (readings : List (Nat × Nat)) (ok : Bool) : Block :=
  let b := (b.takeShadows 20).avsMonitors readings
  let rs := readings.filter (fun x => !b.avs.excluded.contains x.1 && decide (x.2 ≤ 63))
  let slack := rs.foldl (fun m x => min m x.2) 63
  let b := if rs.isEmpty then b else b.set F.TOP_AVS_STATUS.SLACK slack
  let b := if 8 < b.avs.excluded.length ∧ !b.on F.TOP_AVS_STATUS.AVS_FAULT then b.avsFail slack else b
  let v := b.get F.TOP_AVS_STATUS.V
  let frozen := b.on F.TOP_AVS_CTRL.FREEZE || b.on F.TOP_AVS_STATUS.AVS_FAULT
  let lim := b.get F.TOP_DROOP_CTRL.LIMIT
  let forced := lim != 0 && decide (lim < b.avs.stretch) && !frozen
  let b := b.updAvs (fun a => { a with stretch := 0 })
  let lo := b.avsMin
  let hi := b.avsMax
  let done (b : Block) : Block :=
    let v := b.get F.TOP_AVS_STATUS.V
    b.setB F.TOP_AVS_STATUS.AT_BOUND (v == lo || v == hi)
  if v < lo ∨ hi < v then (done (b.avsWrite (clampTo lo hi v) slack ok)).updAvs (fun a => { a with hold := a.hold - 1 })
  else if forced then
    done ((b.avsWrite (min hi (v + b.avsStep)) slack ok).updAvs (fun a => { a with hold := b.get F.TOP_AVS_BOUND.DROOP_HOLD }))
  else
    let err : Int := (slack : Int) - b.get F.TOP_AVS_CTRL.TARGET
    let d := loopStep err (b.get F.TOP_AVS_CTRL.GAIN_SHIFT) b.avsStep
    let d := if 0 < d ∧ 0 < b.avs.hold then 0 else d
    let b := if !frozen && decide (16 ≤ rs.length) then done (b.avsWrite (clampInt lo hi (v - d)).toNat slack ok) else b
    b.updAvs (fun a => { a with hold := a.hold - 1 })

/-- AVS_UPDATE. -/
def execAvsUpdate (readings : List (Nat × Nat)) (busOk : Bool) (s : State) : Host.Outcome State Fault Refusal :=
  let b := s.blk
  s.next (if b.coreFast then b.avsUpdate readings busOk else b)

/-- AVS_URGENT_RAISE (R385): at most once per settle time, while FREEZE is 1 too. -/
def execAvsUrgentRaise (monitor : Fin 24) (slack : Nat) (busOk : Bool) (s : State) : Host.Outcome State Fault Refusal :=
  let b := s.blk
  let settle := 2000 * max 1 (b.get F.TOP_AVS_CTRL.SETTLE_US)
  let settled := match b.avs.wroteAo with | some t => decide (t + settle ≤ b.ao) | none => true
  s.next (if b.coreFast && settled && !b.avs.excluded.contains monitor.val && decide (slack < b.get F.TOP_AVS_CTRL.URGENT) then
    let b := b.updAvs (fun a => { a with hold := b.get F.TOP_AVS_BOUND.DROOP_HOLD })
    let b := b.sat F.TOP_AVS_STATUS.URGENT_CNT 1
    b.avsWrite (max (b.get F.TOP_AVS_STATUS.V) (min b.avsMax (b.get F.TOP_AVS_STATUS.V + b.avsStep))) slack busOk
  else b)

/-- DROOP_STRETCH (R389): VDD_CORE falls by mv below its average. -/
def execDroopStretch (mv : Nat) (s : State) : Host.Outcome State Fault Refusal :=
  let b := s.blk
  let core := b.coreFast || (b.watch.plan == 3 && b.on F.WATCH_POWER_STATUS.AWAKE)
  s.next (if core && b.on F.TOP_DROOP_CTRL.EN && decide (clampTo 20 60 (b.get F.TOP_DROOP_CTRL.THRESH_MV) < mv) then
    (b.wrap F.TOP_DROOP_STATUS.STRETCHES 1).updAvs (fun a => { a with stretch := a.stretch + 1 })
  else b)

/-! ### Ring receivers -/

/-- The registers of ring port p: CTLE, AT_BOUND, ACQ, RESTARTS. -/
def eqFld (p k : Nat) : Fld :=
  match p, k with
  | 0, 0 => F.CART_EQ_A.CTLE | 0, 1 => F.CART_EQ_A.AT_BOUND | 0, 2 => F.CART_EQ_A.ACQ | 0, _ => F.CART_EQ_A.RESTARTS
  | _, 0 => F.CART_EQ_B.CTLE | _, 1 => F.CART_EQ_B.AT_BOUND | _, 2 => F.CART_EQ_B.ACQ | _, _ => F.CART_EQ_B.RESTARTS

/-- The DFE taps of ring port p. -/
def eqTaps (p : Nat) : List Fld :=
  if p = 0 then [F.CART_EQ_A_DFE.TAP1, F.CART_EQ_A_DFE.TAP2, F.CART_EQ_A_DFE.TAP3, F.CART_EQ_A_DFE.TAP4, F.CART_EQ_A_DFE.TAP5]
  else [F.CART_EQ_B_DFE.TAP1, F.CART_EQ_B_DFE.TAP2, F.CART_EQ_B_DFE.TAP3, F.CART_EQ_B_DFE.TAP4, F.CART_EQ_B_DFE.TAP5]

/-- Bound of a tap (R391). -/
def tapMax (f : Fld) : Nat := if f.width = 8 then 127 else 31

/-- RING runs for port p: Carter runs and EN is set with a known SPEED (R361). -/
def Block.ringRx (b : Block) (p : Nat) : Bool :=
  b.est 3 == stRun && (if p = 0 then b.on F.CART_RING0.EN && decide (b.get F.CART_RING0.SPEED ≤ 1)
    else b.on F.CART_RING1.EN && decide (b.get F.CART_RING1.SPEED ≤ 1))

/-- b with an equaliser changed. -/
def Block.updEq (b : Block) (p : Nat) (f : EqPort → EqPort) : Block := { b with eq := upd b.eq p f }

/-- A coefficient of port p stands at a bound (R391). -/
def Block.eqBound (b : Block) (p : Nat) : Bool :=
  let c := b.get (eqFld p 0)
  c == 0 || c == 15 || (eqTaps p).any (fun f => (b.getS f).natAbs == tapMax f)

/-- DFE_UPDATE (R391): accs are the sums of a period of 65,536 UI; peaking tells every 16th period by its sign which way the CTLE
setting moves. -/
def execDfeUpdate (p : Fin 2) (accs : List Int) (peaking : Int) (s : State) : Host.Outcome State Fault Refusal :=
  let b := s.blk
  let frozen := b.on (if p.val = 0 then F.CART_EQ_CTRL.FREEZE_A else F.CART_EQ_CTRL.FREEZE_B)
  let shift := if b.on (eqFld p.val 2) then b.get F.CART_EQ_CTRL.ACQ_SHIFT else b.get F.CART_EQ_CTRL.GAIN_SHIFT
  let lim := max 1 (b.get F.CART_EQ_CTRL.STEP)
  let n := (nth b.eq p.val {}).periods + 1
  s.next (if !b.ringRx p.val then b
  else
    let b := b.updEq p.val (fun e => { e with periods := n % 16 })
    if frozen then b
    else
      let b := ((eqTaps p.val).zip (accs ++ List.replicate 5 0)).foldl (fun b x =>
        b.setS x.1 (clampInt (-(tapMax x.1 : Int)) (tapMax x.1) (b.getS x.1 + loopStep x.2 shift lim))) b
      let c := b.get (eqFld p.val 0)
      let b := if n = 16 then b.set (eqFld p.val 0) (if 0 < peaking then min 15 (c + 1) else if peaking < 0 then c - 1 else c) else b
      b.setB (eqFld p.val 1) (b.eqBound p.val))

/-- Coefficients of a port at the defaults: CTLE 8, every tap 0 (R392). -/
def Block.eqDefaults (b : Block) (p : Nat) : Block :=
  (((eqTaps p).foldl (fun b f => b.set f 0) b).set (eqFld p 0) 8).set (eqFld p 1) 0

/-- An acquisition starts (R392). -/
def Block.eqStart (b : Block) (p : Nat) (again : Bool) : Block :=
  ((b.setB (eqFld p 2) true).wrap (eqFld p 3) 1).updEq p (fun _ => { restarted := again })

/-- EQ_ACQUISITION (R392): from the kept coefficients; once more from the defaults without block lock; anew after a loss of lock
or a change of SPEED. -/
def execEqAcquisition (p : Fin 2) (ev : EqEvent) (s : State) : Host.Outcome State Fault Refusal :=
  let b := s.blk
  let e := nth b.eq p.val {}
  s.next (if !b.ringRx p.val then b
  else match ev with
    | .signal => b.eqStart p.val false
    | .tracking => b.setB (eqFld p.val 2) false
    | .lockFail => if e.restarted then b else (b.eqDefaults p.val).eqStart p.val true
    | .relock => b.eqStart p.val false
    | .speedChange => (b.eqDefaults p.val).eqStart p.val false)

end Sys2Proof.Machine
end

