-- ==== Sys2Proof/Machine/Crypto.lean ====
section
/-! DEFINITION. The cryptographic functions that the standards cited by the manual define (AES, CCM*, GCM, CMAC, XTS, SHA-256,
ECDSA on P-256, the SP 800-108 KDF, CRC-32 and CRC-16), as functions on octets. -/

namespace Sys2Proof.Machine

/-! ### CRCs -/

/-- One bit of a reflected CRC. -/
def crcBit (poly c : Nat) : Nat := if c % 2 = 1 then (c / 2) ^^^ poly else c / 2

/-- One octet of a reflected CRC. -/
def crcByte (poly c : Nat) (x : Byte) : Nat := (List.range 8).foldl (fun c _ => crcBit poly c) (c ^^^ x.toNat)

/-- CRC-32 with the IEEE 802.3 polynomial. -/
def crc32 (bs : List Byte) : Nat := (bs.foldl (crcByte 0xEDB88320) 0xFFFFFFFF) ^^^ 0xFFFFFFFF

/-- CRC-16 of IEEE 802.15.4 (x^16 + x^12 + x^5 + 1, initial value 0). -/
def crc16 (bs : List Byte) : Nat := bs.foldl (crcByte 0x8408) 0

/-! ### AES (FIPS 197) -/

/-- Multiplication by x in GF(2^8). -/
def xtime (a : Nat) : Nat := if a < 128 then 2 * a else (2 * a - 256) ^^^ 0x1B

/-- Multiplication in GF(2^8). -/
def gmul (a b : Nat) : Nat :=
  ((List.range 8).foldl (fun (s : Nat × Nat) i => (if bitOf b i then s.1 ^^^ s.2 else s.1, xtime s.2)) (0, a)).1

/-- The inverse in GF(2^8), 0 for 0: the 254th power. -/
def ginv (a : Nat) : Nat :=
  let a2 := gmul a a
  let a4 := gmul a2 a2
  let a8 := gmul a4 a4
  let a16 := gmul a8 a8
  let a32 := gmul a16 a16
  let a64 := gmul a32 a32
  gmul (gmul (gmul a2 a4) (gmul a8 a16)) (gmul (gmul a32 a64) (gmul a64 a64))

/-- An octet rotated left by n. -/
def rotl8 (a n : Nat) : Nat := (a * 2 ^ n) % 256 + a / 2 ^ (8 - n)

/-- SubBytes of one octet. -/
def sbox (a : Nat) : Nat :=
  let x := ginv a
  x ^^^ rotl8 x 1 ^^^ rotl8 x 2 ^^^ rotl8 x 3 ^^^ rotl8 x 4 ^^^ 0x63

/-- InvSubBytes of one octet. -/
def sboxInv (a : Nat) : Nat := ginv (rotl8 a 1 ^^^ rotl8 a 3 ^^^ rotl8 a 6 ^^^ 5)

/-- Exclusive or of two strings of numbers. -/
def xors (a b : List Nat) : List Nat := List.zipWith (fun x y => x ^^^ y) a b

/-- n further words of the key schedule; nk words of key, i the index of the next word, the words so far newest first. -/
def expandKey (nk : Nat) : Nat → Nat → Nat → List (List Nat) → List (List Nat)
  | 0, _, _, w => w
  | n + 1, i, rc, w =>
    let t := nth w 0 []
    let t' := if i % nk = 0 then xors ((t.drop 1 ++ t.take 1).map sbox) [rc, 0, 0, 0]
      else if 6 < nk ∧ i % nk = 4 then t.map sbox else t
    expandKey nk n (i + 1) (if i % nk = 0 then xtime rc else rc) (xors (nth w (nk - 1) []) t' :: w)

/-- A list cut into pieces of k, at most n of them. -/
def pieces {α : Type} (k : Nat) : Nat → List α → List (List α)
  | 0, _ => []
  | n + 1, l => if l.isEmpty then [] else l.take k :: pieces k n (l.drop k)

/-- A list cut into pieces of 16. -/
def blocks16 {α : Type} (l : List α) : List (List α) := pieces 16 l.length l

/-- The round keys of a key of 16 or 32 octets, as strings of 16. -/
def roundKeys (key : List Nat) : List (List Nat) :=
  let nk := key.length / 4
  blocks16 ((expandKey nk (4 * (nk + 7) - nk) nk 1 (pieces 4 nk key).reverse).reverse).flatten

/-- ShiftRows, its inverse with k = 3. -/
def shiftRows (k : Nat) (s : List Nat) : List Nat := (List.range 16).map (fun i => nth s ((i + 4 * (i % 4) * k) % 16) 0)

/-- One column times the circulant matrix of m. -/
def mixColumn (m c : List Nat) : List Nat :=
  (List.range 4).map (fun r => (List.range 4).foldl (fun a j => a ^^^ gmul (nth m ((j + 4 - r) % 4) 0) (nth c j 0)) 0)

/-- MixColumns with the matrix of m. -/
def mixColumns (m s : List Nat) : List Nat := ((pieces 4 4 s).map (mixColumn m)).flatten

/-- The rounds after the first key: every one but the last mixes columns. -/
def encRounds (s : List Nat) : List (List Nat) → List Nat
  | [] => s
  | [k] => xors (shiftRows 1 (s.map sbox)) k
  | k :: t => encRounds (xors (mixColumns [2, 3, 1, 1] (shiftRows 1 (s.map sbox))) k) t

/-- The inverse rounds, keys from the last. -/
def decRounds (s : List Nat) : List (List Nat) → List Nat
  | [] => s
  | [k] => xors ((shiftRows 3 s).map sboxInv) k
  | k :: t => decRounds (mixColumns [14, 11, 13, 9] (xors ((shiftRows 3 s).map sboxInv) k)) t

/-- Octets as numbers. -/
def nats (bs : List Byte) : List Nat := bs.map (fun x => x.toNat)

/-- Numbers as octets. -/
def octets (l : List Nat) : List Byte := l.map (fun x => BitVec.ofNat 8 x)

/-- AES encryption of one block under a key of 16 or 32 octets. -/
def aesEnc (key blk : List Byte) : List Byte :=
  match roundKeys (nats key) with
  | [] => blk
  | k :: t => octets (encRounds (xors (nats blk) k) t)

/-- AES decryption of one block. -/
def aesDec (key blk : List Byte) : List Byte :=
  match (roundKeys (nats key)).reverse with
  | [] => blk
  | k :: t => octets (decRounds (xors (nats blk) k) t)

/-- Exclusive or of two octet strings, of the length of the shorter. -/
def xorBytes (a b : List Byte) : List Byte := List.zipWith (fun x y => x ^^^ y) a b

/-! ### Modes -/

/-- The data with the key stream of counter blocks mk 0, mk 1, … from i on. -/
def ctrMode (key : List Byte) (mk : Nat → List Byte) : Nat → List (List Byte) → List Byte
  | _, [] => []
  | i, d :: t => xorBytes d (aesEnc key (mk i)) ++ ctrMode key mk (i + 1) t

/-- CBC-MAC of blocks, from an initial value. -/
def cbcMac (key : List Byte) (iv : List Byte) (bs : List (List Byte)) : List Byte :=
  bs.foldl (fun y d => aesEnc key (xorBytes y (padTo' d))) iv
where
  /-- A block filled with zeros. -/
  padTo' (d : List Byte) : List Byte := (d ++ List.replicate 16 0).take 16

/-- MIC octets of an IEEE 802.15.4 security level. -/
def micLen (level : Nat) : Nat :=
  match level % 4 with
  | 1 => 4 | 2 => 8 | 3 => 16 | _ => 0

/-- CCM* (IEEE 802.15.4): a authenticated, m encrypted and authenticated; answers ciphertext and MIC of n octets. -/
def ccmStar (key nonce a m : List Byte) (n : Nat) : List Byte × List Byte :=
  let flags := (if a.isEmpty then 0 else 64) + (if n = 0 then 0 else 8 * ((n - 2) / 2)) + 1
  let b0 := [BitVec.ofNat 8 flags] ++ nonce ++ bytesBE 2 m.length
  let zeros := List.replicate 16 (0 : Byte)
  let y0 := cbcMac key zeros [b0]
  let ya := if a.isEmpty then y0 else cbcMac key y0 (blocks16 (bytesBE 2 a.length ++ a))
  let tag := (cbcMac key ya (blocks16 m)).take n
  let mk (i : Nat) : List Byte := [(1 : Byte)] ++ nonce ++ bytesBE 2 i
  (ctrMode key mk 1 (blocks16 m), xorBytes tag (aesEnc key (mk 0)))

/-- Doubling in GF(2^128) of CMAC: bits most significant first. -/
def cmacDouble (x : Nat) : Nat := if x < 2 ^ 127 then 2 * x else (2 * x - 2 ^ 128) ^^^ 0x87

/-- AES-CMAC (NIST SP 800-38B). -/
def aesCmac (key msg : List Byte) : List Byte :=
  let zeros := List.replicate 16 (0 : Byte)
  let k1 := cmacDouble (natBE (aesEnc key zeros))
  let bs := blocks16 msg
  let last := bs.getLastD []
  let fin := if last.length = 16 then xorBytes last (bytesBE 16 k1)
    else xorBytes ((last ++ [(0x80 : Byte)] ++ zeros).take 16) (bytesBE 16 (cmacDouble k1))
  cbcMac key zeros (bs.dropLast ++ [fin])

/-- Multiplication in the field of GCM: numbers whose most significant bit is the coefficient of 1. -/
def ghashMul (x y : Nat) : Nat :=
  ((List.range 128).foldl (fun (s : Nat × Nat) i =>
    (if bitOf x (127 - i) then s.1 ^^^ s.2 else s.1, if s.2 % 2 = 1 then (s.2 / 2) ^^^ (0xE1 * 2 ^ 120) else s.2 / 2)) (0, y)).1

/-- GMAC (NIST SP 800-38D): the tag of data under a 96-bit IV. -/
def gmac (key iv aad : List Byte) : List Byte :=
  let h := natBE (aesEnc key (List.replicate 16 0))
  let bs := (blocks16 aad).map (fun d => natBE ((d ++ List.replicate 16 0).take 16)) ++ [aad.length * 8 * 2 ^ 64]
  let s := bs.foldl (fun y d => ghashMul (y ^^^ d) h) 0
  xorBytes (bytesBE 16 s) (aesEnc key (iv ++ bytesBE 4 1))

/-- The tweak of XTS times x: little-endian. -/
def xtsDouble (x : Nat) : Nat := if x < 2 ^ 127 then 2 * x else (2 * x - 2 ^ 128) ^^^ 0x87

/-- Whole blocks of a data unit under XTS, f the cipher of the data key. -/
def xtsBlocks (f : List Byte → List Byte) : Nat → List (List Byte) → List Byte
  | _, [] => []
  | t, d :: ds => xorBytes (f (xorBytes d (bytesLE 16 t))) (bytesLE 16 t) ++ xtsBlocks f (xtsDouble t) ds

/-- One data unit decrypted with XTS-AES-256 (IEEE 1619); key of 64 octets, tweak the unit's number. -/
def xtsDec (key : List Byte) (unit : Nat) (data : List Byte) : List Byte :=
  xtsBlocks (aesDec (key.take 32)) (natLE (aesEnc (key.drop 32) (bytesLE 16 unit))) (blocks16 data)

/-- One data unit encrypted with XTS-AES-256. -/
def xtsEnc (key : List Byte) (unit : Nat) (data : List Byte) : List Byte :=
  xtsBlocks (aesEnc (key.take 32)) (natLE (aesEnc (key.drop 32) (bytesLE 16 unit))) (blocks16 data)

/-- Data units of 4 KiB numbered from unit on, each through f. -/
def xtsUnits (f : Nat → List Byte → List Byte) : Nat → List (List Byte) → List Byte
  | _, [] => []
  | n, d :: t => f n d ++ xtsUnits f (n + 1) t

/-! ### SHA-256 (FIPS 180-4) -/

/-- The greatest number below x + 2^n whose k-th power does not exceed v, by its bits from bit n − 1 down. -/
def rootUp (k v : Nat) : Nat → Nat → Nat
  | 0, x => x
  | n + 1, x => rootUp k v n (if (x + 2 ^ n) ^ k ≤ v then x + 2 ^ n else x)

/-- The first 32 bits of the fractional part of the k-th root of p. -/
def rootFrac (k p : Nat) : Nat := rootUp k (p * 2 ^ (32 * k)) 37 0 % 2 ^ 32

/-- The first 64 primes. -/
def shaPrimes : List Nat :=
  (List.range 312).filter (fun n => decide (2 ≤ n) && [2, 3, 5, 7, 11, 13, 17].all (fun d => n == d || n % d != 0))

/-- The constant of round t: from the cube root of a prime. -/
def shaConst (t : Nat) : Nat := rootFrac 3 (nth shaPrimes t 0)

/-- A word turned right by n bits. -/
def turn (n x : Nat) : Nat := x / 2 ^ n ||| x * 2 ^ (32 - n) % 2 ^ 32

/-- The exclusive or of a word turned by each of three amounts. -/
def sigma (l m n x : Nat) : Nat := turn l x ^^^ turn m x ^^^ turn n x

/-- The word that the last sixteen of a message schedule, newest first, call for. -/
def nextWord (w : List Nat) : Nat :=
  let x := nth w 14 0
  let y := nth w 1 0
  (nth w 15 0 + nth w 6 0 + (turn 7 x ^^^ turn 18 x ^^^ x / 2 ^ 3) + (turn 17 y ^^^ turn 19 y ^^^ y / 2 ^ 10)) % 2 ^ 32

/-- The last four values of A and of E, newest first: what FIPS 180-4 calls a, b, c, d and e, f, g, h. -/
structure ShaLast where
  a : List Nat
  e : List Nat

/-- Round t on a schedule word. -/
def ShaLast.step (s : ShaLast) (t w : Nat) : ShaLast :=
  let x := nth s.e 0 0
  let y := nth s.a 0 0
  let pick := nth s.e 2 0 ^^^ (x &&& (nth s.e 1 0 ^^^ nth s.e 2 0))
  let most := (y &&& (nth s.a 1 0 ||| nth s.a 2 0)) ||| (nth s.a 1 0 &&& nth s.a 2 0)
  let sum := nth s.e 3 0 + sigma 6 11 25 x + pick + shaConst t + w
  { a := (sum + sigma 2 13 22 y + most) % 2 ^ 32 :: s.a.take 3, e := (nth s.a 3 0 + sum) % 2 ^ 32 :: s.e.take 3 }

/-- n rounds from round t on; w holds the schedule words still to be used, oldest first, past ones newest first. -/
def shaRounds : Nat → Nat → List Nat → List Nat → ShaLast → ShaLast
  | 0, _, _, _, s => s
  | n + 1, t, past, m :: ms, s => shaRounds n (t + 1) (m :: past) ms (s.step t m)
  | n + 1, t, past, [], s => let m := nextWord past; shaRounds n (t + 1) (m :: past.take 15) [] (s.step t m)

/-- A block of 64 octets taken into the hash value. -/
def shaTake (h : ShaLast) (block : List Byte) : ShaLast :=
  let r := shaRounds 64 0 [] ((pieces 4 16 block).map natBE) h
  let add (x y : List Nat) : List Nat := List.zipWith (fun p q => (p + q) % 2 ^ 32) x y
  ⟨add h.a r.a, add h.e r.e⟩

/-- SHA-256. -/
def sha256 (msg : List Byte) : List Byte :=
  let first := (shaPrimes.take 8).map (rootFrac 2)
  let fill := (64 - (msg.length + 9) % 64) % 64
  let whole := msg ++ ((0x80 : Byte) :: List.replicate fill 0) ++ bytesBE 8 (8 * msg.length)
  let h := (pieces 64 (whole.length / 64) whole).foldl shaTake ⟨first.take 4, first.drop 4⟩
  (h.a ++ h.e).flatMap (bytesBE 4)

/-! ### ECDSA on P-256 (FIPS 186-5) -/

/-- The prime of P-256. -/
def p256p : Nat := 0xffffffff00000001000000000000000000000000ffffffffffffffffffffffff
/-- The order of P-256. -/
def p256n : Nat := 0xffffffff00000000ffffffffffffffffbce6faada7179e84f3b9cac2fc632551
/-- The coefficient b of P-256. -/
def p256b : Nat := 0x5ac635d8aa3a93e7b3ebbd55769886bc651d06b0cc53b0f63bce3c3e27d2604b
/-- The base point of P-256. -/
def p256g : Option (Nat × Nat) :=
  some (0x6b17d1f2e12c4247f8bce6e563a440f277037d812deb33a0f4a13945d898c296,
    0x4fe342e2fe1a7f9b8ee7eb4a7c0f9e162bce33576b315ececbb6406837bf51f5)

/-- b^e modulo m, over the lowest k bits of e. -/
def powMod (m b e : Nat) : Nat → Nat
  | 0 => 1 % m
  | k + 1 => let r := powMod m (b * b % m) (e / 2) k; if e % 2 = 1 then b * r % m else r

/-- The inverse modulo a prime. -/
def invMod (m a : Nat) : Nat := powMod m (a % m) (m - 2) 256

/-- The sum of two points, none the point at infinity. -/
def ecAdd (a b : Option (Nat × Nat)) : Option (Nat × Nat) :=
  match a, b with
  | none, q => q
  | q, none => q
  | some (x1, y1), some (x2, y2) =>
    let p := p256p
    if x1 = x2 ∧ (y1 + y2) % p = 0 then none
    else
      let l := if x1 = x2 then (3 * x1 * x1 + (p - 3)) * invMod p (2 * y1) % p
        else (y2 + (p - y1)) * invMod p (x2 + (p - x1)) % p
      let x := (l * l + (p - x1) + (p - x2)) % p
      some (x, (l * (x1 + (p - x)) + (p - y1)) % p)

/-- k times a point, over the lowest n bits of k. -/
def ecMul (k : Nat) (q : Option (Nat × Nat)) : Nat → Option (Nat × Nat)
  | 0 => none
  | n + 1 => let r := ecMul (k / 2) (ecAdd q q) n; if k % 2 = 1 then ecAdd q r else r

/-- The signature (r, s) of the digest verifies under the public key X then Y, 64 octets big-endian (R42, R325). -/
def ecdsaVerify (pub digest r s : List Byte) : Bool :=
  let x := natBE (pub.take 32)
  let y := natBE (pub.drop 32)
  let r := natBE r
  let s := natBE s
  let e := natBE digest
  let onCurve := decide (x < p256p ∧ y < p256p) &&
    decide (y * y % p256p = (x * x * x + (p256p - 3) * x + p256b) % p256p)
  let w := invMod p256n s
  let q := ecAdd (ecMul (e * w % p256n) p256g 256) (ecMul (r * w % p256n) (some (x, y)) 256)
  onCurve && decide (1 ≤ r ∧ r < p256n ∧ 1 ≤ s ∧ s < p256n) &&
    (match q with | some (qx, _) => qx % p256n == r | none => false)

end Sys2Proof.Machine
end

