-- ==== Sys2Proof/Machine/AssayOps.lean ====
section
/-! DEFINITION. The Assay die by itself (R471 to R486): measurement, sealed parameters, records, event log, time, supply. It
reads nothing of the rest of the device (R10). -/

namespace Sys2Proof.Machine

/-! ### Parameters, log, records -/

/-- The 144-byte parameter block (R475). -/
def AssayParam.bytes (p : AssayParam) : List Byte :=
  bytesLE 8 p.meterId ++ bytesLE 1 p.interval ++ bytesLE 1 p.pulseSel ++ bytesLE 1 p.en ++ bytesLE 1 p.startPermil ++
    bytesLE 4 p.pulseConst ++
    p.chans.flatMap (fun c => bytesLE 4 c.vGain ++ bytesLE 4 (unsignedOf 32 c.vOff) ++ bytesLE 4 c.iGain ++ bytesLE 4 (unsignedOf 32 c.iOff))

/-- Little-endian number of n bytes of a list from offset o. -/
def numAt (bs : List Byte) (o n : Nat) : Nat := natLE ((bs.drop o).take n)

/-- The block that 144 bytes spell. -/
def paramOf (bs : List Byte) : AssayParam :=
  { meterId := numAt bs 0 8, interval := numAt bs 8 1, pulseSel := numAt bs 9 1, en := numAt bs 10 1,
    startPermil := numAt bs 11 1, pulseConst := numAt bs 12 4,
    chans := (List.range 8).map (fun c =>
      { vGain := numAt bs (16 + 16 * c) 4, vOff := signedOf 32 (numAt bs (20 + 16 * c) 4),
        iGain := numAt bs (24 + 16 * c) 4, iOff := signedOf 32 (numAt bs (28 + 16 * c) 4) }) }

/-- Every field lies in its range (R475, R477). -/
def AssayParam.ok (p : AssayParam) : Bool :=
  [5, 10, 15, 30, 60].contains p.interval && decide (p.pulseSel ≤ 8) && decide (1 ≤ p.startPermil ∧ p.startPermil ≤ 10) &&
    decide (100 ≤ p.pulseConst ∧ p.pulseConst ≤ 100000)

/-- An event log entry made (R480): the oldest of eight sectors of 128 entries is erased when every sector is full. -/
def Assay.logAdd (a : Assay) (ty : Nat) (ch : Nat := 0) (data : List Byte := []) : Assay :=
  let idx := (a.logIdx + 1) % 2 ^ 32
  let old := if 1024 ≤ a.log.length then a.log.take 896 else a.log
  { a with logIdx := idx, log := { idx := idx, ty := ty, ch := ch, rtc := a.rtc, seals := a.seals, data := data } :: old }

/-- The 32 bytes of an entry. -/
def LogEntry.bytes (e : LogEntry) : List Byte :=
  let m := bytesLE 1 e.ty ++ bytesLE 1 e.ch ++ [0, 0] ++ bytesLE 4 e.rtc ++ bytesLE 4 e.seals ++ (e.data ++ List.replicate 16 0).take 16
  m ++ bytesLE 4 (crc32 m)

/-- STATUS of a record made now (R478). -/
def Assay.recStatus (a : Assay) : Nat :=
  b2n a.sealOpen + 2 * b2n a.sawTime + 4 * b2n a.sawPower + 8 * b2n (a.sawClock || a.clockFault) + 16 * b2n a.sawParam +
    32 * b2n a.timeLost + 256 * (a.params.en % 256) + 65536 * (a.overSeen % 256)

/-- The 176 bytes of a record (R478). -/
def Assay.record (a : Assay) (kind seq : Nat) : List Byte :=
  let m := bytesLE 4 0x52595341 ++ bytesLE 2 2 ++ bytesLE 1 kind ++ bytesLE 1 8 ++ bytesLE 8 a.params.meterId ++
    bytesLE 4 seq ++ bytesLE 4 a.rtc ++ bytesLE 4 a.seals ++ bytesLE 4 a.recStatus ++
    (List.range 8).flatMap (fun c => bytesLE 8 (nth a.eIn c {}).mwh ++ bytesLE 8 (nth a.eOut c {}).mwh)
  m ++ aesCmac a.kRec m

/-- An interval record made and stored (R479): 48 sectors of 21 records, the oldest erased when every sector is full. -/
def Assay.interval (a : Assay) : Assay :=
  let seq := (a.seq + 1) % 2 ^ 32
  let r := a.record 1 seq
  let old := if 1008 ≤ a.records.length then a.records.take 987 else a.records
  { a with seq := seq, records := (seq, r) :: old, recDue := false
           sawTime := false, sawPower := false, sawClock := false, sawParam := false, overSeen := a.overNow }

/-- The record of a boundary that the RTC has reached, before anything else that meets it (R490). -/
def Assay.settleDue (a : Assay) : Assay := if a.up && a.recDue then a.interval else a

/-! ### Measurement -/

/-- Units of 2^-72 / 4,000 J in 3.6 J, one mWh (R472). -/
def mwhUnits : Nat := 14400 * 2 ^ 72

/-- An energy register with e units more (R472). -/
def Energy.add (r : Energy) (e : Nat) : Energy :=
  let t := r.res + e
  { mwh := r.mwh + t / mwhUnits, res := t % mwhUnits }

/-- The energy of channel c in a sample, in units of 2^-72 / 4,000 J (R472): 0 when the channel is not metered, or its current is
below the starting threshold. I_max is 50 mV of the converter's ±62.5 mV (R473, R523; DEDUCED, log entry 34). -/
def AssayParam.energy (p : AssayParam) (c : Nat) (code : Int × Int) : Int :=
  let k := nth p.chans c {}
  let di := code.2 - k.iOff
  if !bitOf p.en c || decide (di.natAbs * 10000 < p.startPermil * 67108864) then 0
  else (code.1 - k.vOff) * k.vGain * (di * k.iGain)

/-- A code at either end of its converter's range (R473). -/
def codeClipped (x : Int) : Bool := decide (x ≤ -8388608 ∨ 8388607 ≤ x)

/-- OVERRANGE of channel c now v, with its log entries (R473, R480). -/
def Assay.over (a : Assay) (c : Nat) (v : Bool) : Assay :=
  if bitOf a.overNow c == v then a
  else
    let a := a.logAdd (if v then 9 else 10) c
    { a with overNow := setBit a.overNow c v, overSeen := if v then setBit a.overSeen c true else a.overSeen }

/-- Import energy that counts for ASSAY_PULSE in a sample (R474). -/
def AssayParam.pulseEnergy (p : AssayParam) (es : List Int) : Nat :=
  if p.pulseSel = 8 then sumNat ((es.map Int.toNat)) else (nth es p.pulseSel 0).toNat

/-- Units of a kWh: the pulse accumulator holds energy times PULSE_CONST. -/
def kwhUnits : Nat := mwhUnits * 1000000

/-- A sample instant (R472, R473, R474, R477, R479): the parameter switch first, then the energies, pulses, the second. -/
def Assay.sample (a : Assay) (codes : List (Int × Int)) : Assay :=
  let a := match a.next with
    | some p => { a with params := p, other := a.params, next := none, sawParam := true }
    | none => a
  let cs := (List.range 8).map (fun c => nth codes c (0, 0))
  let es := (List.range 8).map (fun c => a.params.energy c (nth cs c (0, 0)))
  let a := { a with
    present := cs
    eIn := (List.range 8).map (fun c => (nth a.eIn c {}).add (nth es c 0).toNat)
    eOut := (List.range 8).map (fun c => (nth a.eOut c {}).add (-(nth es c 0)).toNat) }
  let a := (List.range 8).foldl (fun (a : Assay) c =>
    a.over c (codeClipped (nth cs c (0, 0)).1 || codeClipped (nth cs c (0, 0)).2)) a
  let acc := a.pulseAcc + a.params.pulseEnergy es * a.params.pulseConst
  let a : Assay := { a with pulseAcc := acc % kwhUnits, pulseOwed := a.pulseOwed + acc / kwhUnits }
  if a.sub + 1 < 4000 then { a with sub := a.sub + 1 }
  else
    let t := (a.rtc + 1) % 2 ^ 32
    { a with sub := 0, rtc := t, run := a.run + 1, recDue := a.recDue || t % (a.params.interval * 60) == 0 }

/-! ### Commands -/

/-- Codes of RESULT (R487). -/
inductive AssayResult where
  | ok | unknown | refused | busy | notFound | auth | seqBad | limit | range | sealFull | down | timeout
  deriving DecidableEq, Repr

/-- The number of a RESULT. -/
def AssayResult.code : AssayResult → Nat
  | .ok => 0 | .unknown => 1 | .refused => 2 | .busy => 3 | .notFound => 4 | .auth => 5 | .seqBad => 6 | .limit => 7
  | .range => 8 | .sealFull => 9 | .down => 10 | .timeout => 11

/-- What a command answers: RESULT, reply bytes, the die after it. -/
structure AssayReply where
  result : AssayResult
  data   : List Byte := []
  die    : Assay

/-- HATCH_ASSAY as the die's status (R487). -/
def Assay.mirror (a : Assay) : Nat :=
  2 ^ 31 * b2n a.up + 2 ^ 30 * b2n a.sealOpen + 2 ^ 29 * b2n a.clockFault + 2 ^ 28 * b2n a.flashFault + 2 ^ 27 * b2n a.timeLost +
    65536 * (a.overNow % 256) + 256 * (a.params.en % 256)

/-- Present V of channel c in mV and I in 10 mA, kept within their 16 bits. -/
def Assay.presentVI (a : Assay) (c : Nat) : List Byte :=
  let k := nth a.params.chans c {}
  let x := nth a.present c (0, 0)
  let v : Int := (x.1 - k.vOff) * k.vGain * 1000 / 2 ^ 40
  let i : Int := (x.2 - k.iOff) * k.iGain * 100 / 2 ^ 32
  bytesLE 2 (clampInt 0 65535 v).toNat ++ bytesLE 2 (unsignedOf 16 (clampInt (-32768) 32767 i))

/-- STATUS (R487): the mirror words, then V and I of each channel. -/
def Assay.cmdStatus (a : Assay) : AssayReply :=
  { result := .ok, die := a,
    data := bytesLE 4 a.mirror ++ bytesLE 4 a.rtc ++ bytesLE 4 a.seq ++ bytesLE 4 a.seals ++ bytesLE 4 a.logIdx ++
      (List.range 8).flatMap (fun c => a.presentVI c) }

/-- Samples taken since the first start. -/
def Assay.ticks (a : Assay) : Nat := 4000 * a.run + a.sub

/-- SNAPSHOT (R487): at most one per second. -/
def Assay.cmdSnapshot (a : Assay) : AssayReply :=
  let soon := match a.snapRun with | some t => decide (a.ticks < t + 4000) | none => false
  if soon then { result := .busy, die := a }
  else { result := .ok, data := a.record 2 a.seq, die := { a with snapRun := some a.ticks } }

/-- READ_RECORD (R487): an entry lost to a flash error is not found (R486). -/
def Assay.cmdReadRecord (a : Assay) (seq : Nat) : AssayReply :=
  match a.records.find? (fun r => r.1 == seq && !r.2.isEmpty) with
  | some r => { result := .ok, data := r.2, die := a }
  | none => { result := .notFound, die := a }

/-- READ_LOG (R487), likewise. -/
def Assay.cmdReadLog (a : Assay) (idx : Nat) : AssayReply :=
  match a.log.find? (fun e => e.idx == idx && e.ty != 0) with
  | some e => { result := .ok, data := e.bytes, die := a }
  | none => { result := .notFound, die := a }

/-- The RTC set to t (R481 to R483): logged, and a forward change over a boundary makes one interval record. -/
def Assay.setRtc (a : Assay) (t : Nat) : Assay :=
  let old := a.rtc
  let a := ({ a with rtc := t }).logAdd 7 0 (bytesLE 4 old ++ bytesLE 4 t)
  let a := { a with sawTime := true, sub := 0 }
  let n := a.params.interval * 60
  if old / n < t / n then a.interval else { a with recDue := false }

/-- Sum of |Δ| over the time-sets of the preceding 86,400 s of running time (R481). -/
def Assay.setSum (a : Assay) : Nat := sumNat ((a.sets.filter (fun x => decide (a.run ≤ x.1 + 86400))).map (fun x => x.2))

/-- A time-set refused (R481). -/
def Assay.refuseSet (a : Assay) (seq : Nat) (r : AssayResult) : AssayReply :=
  { result := r, die := a.logAdd 8 0 (bytesLE 4 seq ++ bytesLE 1 r.code) }

/-- TIME_SET (R481). -/
def Assay.cmdTimeSet (a : Assay) (req : List Byte) : AssayReply :=
  let seq := numAt req 12 4
  let t := numAt req 16 4
  let d := ((t : Int) - a.rtc).natAbs
  if req.length ≠ 36 ∨ numAt req 0 4 ≠ 0x54595341 ∨ numAt req 4 8 ≠ a.params.meterId ∨ aesCmac a.kTime (req.take 20) ≠ req.drop 20 then
    a.refuseSet seq .auth
  else if seq ≤ a.tsSeq then a.refuseSet seq .seqBad
  else if !a.timeLost && decide (60 < d + a.setSum) then a.refuseSet seq .limit
  else
    let a := { a with
      tsSeq := seq, timeLost := false
      sets := if a.timeLost then a.sets else (a.run, d) :: a.sets.filter (fun x => decide (a.run ≤ x.1 + 86400)) }
    { result := .ok, die := a.setRtc t }

/-- READ_PARAM (R487): through the calibration port alone. -/
def Assay.cmdReadParam (a : Assay) (port : AssayIn) : AssayReply :=
  match port with
  | .hatch => { result := .refused, die := a }
  | .cal => { result := .ok, data := a.params.bytes, die := a }

/-- A write command is not permitted (R475, R476, R486, R487): on the Hatch, or sealed, REFUSED; no bit left, SEAL_FULL. -/
def Assay.writeBar (a : Assay) (port : AssayIn) : Option AssayResult :=
  if port = .hatch ∨ !a.sealOpen then some .refused
  else if 4096 ≤ a.seals ∨ a.flashFault then some .sealFull
  else none

/-- WRITE_PARAM (R477): it takes effect at the next sample instant. -/
def Assay.cmdWriteParam (a : Assay) (port : AssayIn) (block : List Byte) : AssayReply :=
  match a.writeBar port with
  | some r => { result := r, die := a }
  | none =>
    let p := paramOf block
    if block.length ≠ 144 ∨ !p.ok then { result := .range, die := a }
    else { result := .ok, die := ({ a with seals := a.seals + 1, next := some p }).logAdd 5 }

/-- INSTALL_KEY (R476): 0 is K_REC, 1 is K_TIME. -/
def Assay.cmdInstallKey (a : Assay) (port : AssayIn) (which : Nat) (key : List Byte) : AssayReply :=
  match a.writeBar port with
  | some r => { result := r, die := a }
  | none =>
    if 1 < which ∨ key.length ≠ 16 then { result := .range, die := a }
    else
      let a := { a with seals := a.seals + 1 }
      { result := .ok, die := (if which = 0 then { a with kRec := key } else { a with kTime := key }).logAdd 6 }

/-- SET_TIME (R482). -/
def Assay.cmdSetTime (a : Assay) (port : AssayIn) (t : Nat) : AssayReply :=
  match a.writeBar port with
  | some r => { result := r, die := a }
  | none => { result := .ok, die := ({ a with seals := a.seals + 1 }).setRtc (t % 2 ^ 32) }

/-! ### Supply, clock, flash, seal -/

/-- The supply fails (R484): with hold-up enough, a checkpoint and a TYPE 2 entry. -/
def Assay.supplyFail (a : Assay) (holdup : Bool) : Assay :=
  if !a.up then a
  else if holdup then
    let a := a.settleDue.logAdd 2
    { a with up := false, check := some ⟨a.eIn, a.eOut, a.rtc, a.sets, a.run, a.pulseAcc, a.seq⟩ }
  else { a with up := false }

/-- Energies and time as the latest readable record holds them. -/
def Assay.fromRecord (a : Assay) : Assay :=
  match a.records.find? (fun r => !r.2.isEmpty) with
  | some r =>
    { a with
      eIn := (List.range 8).map (fun c => { mwh := numAt r.2 (0x20 + 16 * c) 8 })
      eOut := (List.range 8).map (fun c => { mwh := numAt r.2 (0x28 + 16 * c) 8 })
      rtc := numAt r.2 0x14 4, sets := [], pulseAcc := 0 }
  | none => { a with eIn := List.replicate 8 {}, eOut := List.replicate 8 {}, rtc := 0, sets := [], pulseAcc := 0 }

/-- The supply returns (R484, R477): from the newer of checkpoint and record, with POWER_LOSS, TIME_LOST and a TYPE 1 entry. -/
def Assay.supplyReturn (a : Assay) : Assay :=
  if a.up then a
  else
    let a := match a.check with
      | some k =>
        if a.seq ≤ k.seq then
          { a with eIn := k.eIn, eOut := k.eOut, rtc := k.rtc, sets := k.sets, run := k.run, pulseAcc := k.pulse }
        else a.fromRecord
      | none => a.fromRecord
    let a := match a.next with
      | some p => { a with params := p, other := a.params, next := none, sawParam := true }
      | none => a
    ({ a with up := true, sub := 0, recDue := false, pulseOwed := 0, overNow := 0, snapRun := none
              timeLost := true, sawPower := true }).logAdd 1

/-- The crystal fails (R485). -/
def Assay.crystalFault (a : Assay) : Assay :=
  if !a.up || a.clockFault then a else ({ a with clockFault := true, sawClock := true }).logAdd 11

/-- The crystal has held for 10 s (R485). -/
def Assay.crystalBack (a : Assay) : Assay :=
  if a.up && a.clockFault then ({ a with clockFault := false }).logAdd 12 else a

/-- SEAL_N after its debounce (R475). -/
def Assay.sealSet (a : Assay) (openNow : Bool) : Assay :=
  if !a.up || a.sealOpen == openNow then a else ({ a with sealOpen := openNow }).logAdd (if openNow then 3 else 4)

/-- A flash error of R486: 1 the record with SEQ item, 2 the log entry with LOG_IDX item, 3 the seal counter or both parameter
copies. The place of what is lost stays taken until its sector's next turn: a record without octets, an entry of TYPE 0. -/
def Assay.flashError (a : Assay) (code item : Nat) : Assay :=
  match code with
  | 1 => ({ a with records := a.records.map (fun (r : Nat × List Byte) => if r.1 = item then (r.1, []) else r) }).logAdd 13
  | 2 => ({ a with log := a.log.map (fun (e : LogEntry) => if e.idx = item then { e with ty := 0 } else e) }).logAdd 13
  | 3 => { a with flashFault := true }
  | _ => a

end Sys2Proof.Machine
end

