-- ==== Sys2Proof/Machine/Resets.lean ====
section
/-! DEFINITION. Resets of kind DEVICE and wider (R7 to R9, R19): what each subject loses (R22, R102, R239, R246, R260, R263,
R266, R268, R301, R321, R327, R359, R393, R403, R404, R411, R414, R415, R428, R434, R453, R502). -/

namespace Sys2Proof.Machine

/-- Codes of TOP_RESET_CAUSE.KIND. -/
def kindPor : Nat := 0
def kindBor : Nat := 1
def kindPin : Nat := 2
def kindDevice : Nat := 3

/-- A register of this kind is reset by a reset with code k (R7). -/
def kindHit (k : Nat) (r : ResetKind) : Bool :=
  match r with
  | .never => false
  | .bor => decide (k ≤ kindBor)
  | .pin => decide (k ≤ kindPin)
  | _ => true

/-- A kept duty window as POR and BOR leave it (R266): every bin at limit / 3,600. -/
def dutyFresh (fu : Fuses) (s : Nat) : Option DutyWin :=
  let d := (subBand fu s).duty
  if 1 ≤ d ∧ d ≤ 999 then some ⟨s, [(3600, d * 100)]⟩ else none

/-- RFC after a reset of kind DEVICE or wider: backoffs, shut chains and stored results gone (R263, R268). POR and BOR also
go back to the gain indices of Kigoser test and reinitialise the duty windows (R260, R266). -/
def rfcAfter (fu : Fuses) (k : Nat) (fac : List (Nat × Nat)) (r : Rfc) : Rfc :=
  if k ≤ kindBor then
    { duty := (List.range 8).filterMap (dutyFresh fu), chains := (List.range 17).map (fun c => { idx := look fac c 0 }) }
  else
    { r with
      femLow := r.femLow || decide (k ≤ kindPin)
      fes := r.fes.map (fun f => ({ runs := f.runs } : FrontEnd))
      chains := r.chains.map (fun c => ({ idx := c.idx } : Chain)) }

/-- Clerk after a reset of kind DEVICE or wider (R346, R359, R502): the copy stays unless the reset is POR or BOR. -/
def clerkAfter (k : Nat) (c : Clerk) : Clerk :=
  if k ≤ kindBor then {} else { copy := c.copy, copyHead := c.copyHead }

/-- Locksmith after a reset of kind DEVICE or wider (R321, R327): the steward key is in the Tack flash. -/
def lockAfter (l : Lock) : Lock :=
  { steward := l.steward, slotUses := l.slotUses, backUses := l.backUses, vaultUses := l.vaultUses }

/-- Security state after a reset of kind DEVICE or wider (R419, R428, R432, R434): POR and BOR end the session and what was not committed
of a zeroisation or a transition; no open-and-wipe in progress goes on. -/
def secAfter (k : Nat) (s : Sec) : Sec :=
  let s := if k ≤ kindPin then { s with chal := none } else s
  if k ≤ kindBor then { failAo := 0, tamperLow := s.tamperLow, lc := s.lc, level := s.level }
  else { s with openStep := 0 }

/-- The embedded flash after a reset: POR and BOR lose the queue and the image, which the scan rebuilds, and cut an erase short (R441,
R448, R453). -/
def flashAfter (k : Nat) (f : Flash) : Flash :=
  if k ≤ kindBor then
    { f with queue := [], image := [], shadowIds := [], wearFired := false, erase := none }
  else { f with wearFired := false }

/-- The Watchman after a reset of kind DEVICE or wider (R401, R415): no transition, no round; the plan is that of reset. -/
def watchAfter (k : Nat) (w : Watch) : Watch :=
  if k ≤ kindBor then { pwrLow := w.pwrLow }
  else { pwrLow := w.pwrLow, timerLo := w.timerLo, ppsHiLatch := w.ppsHiLatch }

/-- Tables after a reset: only what the Tack always-on domain holds, the RFC chain table and the rail table, stays on PIN and
DEVICE (R22, R252, R403). -/
def tabsAfter (k : Nat) (t : List Host.Cell) : List Host.Cell :=
  if k ≤ kindBor then railLoad 0 ++ railLoad (2 ^ 28)
  else t.filter (fun c => decide ((0x3300000 ≤ c.1 % 2 ^ 28 ∧ c.1 % 2 ^ 28 < 0x3400000) ∨
    (0x3500000 ≤ c.1 % 2 ^ 28 ∧ c.1 % 2 ^ 28 < 0x3600000)))

/-- Fields of registers after a reset of code k: those whose kind it covers are back at their reset values (R7); PADDOCK_LOST stays on
PIN and DEVICE (R362), PMIC_EN0, 1 and 4 stay high there (R404), and the density that TOP_ID shows is read anew after POR and BOR
alone (R35; DEDUCED, log entry 155). -/
def regsAfter (k : Nat) (m : List (Nat × Nat)) : List (Nat × Nat) :=
  m.filter (fun x =>
    let a := x.1 / 32
    if a = R.CLK_STATUS then decide (kindBor < k) && x.1 == F.CLK_STATUS.PADDOCK_LOST.key
    else if a = R.TOP_ID then decide (kindBor < k)
    else match Regs.find a with
      | some d => !kindHit k d.kind
      | none => false)

/-- A reset of a wider kind than code k is in progress: START_SEQUENCE has not released it (R19, R51). -/
def Block.absorbs (b : Block) (k : Nat) : Bool :=
  b.watch.plan == 7 && decide (b.get F.OST_START_STATUS.STEP ≤ 1) && decide (b.get F.TOP_RESET_CAUSE.KIND < k)

/-- SOURCE of a DEVICE reset: with one already in progress, the lower code (R19). -/
def Block.causeOf (b : Block) (k source : Nat) : Nat :=
  if b.watch.plan = 7 ∧ b.get F.OST_START_STATUS.STEP ≤ 1 ∧ k = kindDevice ∧ b.get F.TOP_RESET_CAUSE.KIND = kindDevice then
    min source (b.get F.TOP_RESET_CAUSE.SOURCE) else source

/-- A reset of kind DEVICE or wider (R7, R19): code, source, and the strap sampled on PIN and wider. The start sequence
follows with START_SEQUENCE. -/
def Block.resetWide (fu : Fuses) (b : Block) (k source : Nat) (strap : Option Nat) : Block :=
  let pmic := b.get F.WATCH_POWER_STATUS.PMIC_EN
  let b' : Block :=
    { regs := regsAfter k b.regs
      counts := b.counts.filter (fun c => decide (kindBor < k) && decide (c.1 / 16777216 = 32))
      tabs := tabsAfter k b.tabs
      time := if k ≤ kindBor then {} else b.time
      clerk := clerkAfter k b.clerk
      ost := { nor := b.ost.nor }
      post := { bag := if k ≤ kindBor then [] else b.post.bag }
      rfc := rfcAfter fu k b.flash.factory b.rfc
      lock := lockAfter b.lock
      watch := watchAfter k b.watch
      sec := secAfter k b.sec
      flash := flashAfter k b.flash
      out := b.out
      free := b.free }
  let b' := b'.set F.TOP_RESET_CAUSE.KIND k
  let b' := b'.set F.TOP_RESET_CAUSE.SOURCE (b.causeOf k source)
  let b' := if k ≤ kindBor then b' else (b'.setEst 11 stRun).set F.WATCH_POWER_STATUS.PMIC_EN (pmic &&& 0x13)
  let b' := b'.set F.WATCH_POWER_STATUS.PONY_HP 1
  let b' := match b'.flash.erase with
    | some n => (b'.set F.FLASH_STATUS.ERASING 1).set F.FLASH_STATUS.ERASE_BLK n
    | none => b'
  let b' := match strap with
    | some v => b'.set F.PIN_STRAP.HITCH_ADDR v
    | none => b'
  let b' := if b.watch.pwrLow then b'.set F.WATCH_GAIT_STATUS.CEIL 1 else b'
  b'

/-- A request for a reset of kind DEVICE or wider: one while a wider reset is in progress is absorbed by it (R19), so a BOR that falls
together with a POR leaves KIND at POR (R7). -/
def Block.wideReset (fu : Fuses) (b : Block) (k source : Nat) (strap : Option Nat) : Block :=
  if b.absorbs k then b else b.resetWide fu k source strap

end Sys2Proof.Machine
end

