-- ==== Sys2Proof/Machine/Control.lean ====
section
/-! DEFINITION. The commands of chapter 1 on engines: gating, resets, STOP, HOLD, counters, banks, boundaries, drains. -/

namespace Sys2Proof.Machine

/-- The first pair (dependent, engine it depends on) that a gating leaves in the wrong order, dependents ascending (R18). -/
def gateOffence (v : Nat) : Option (Nat × Nat) :=
  (((List.range 8).map (· + 3)).filter (fun d => !bitOf v d)).findSome?
    (fun d => ((dependsOn d).find? (fun x => bitOf v x)).map (fun x => (d, x)))

/-- A write of v to TOP_ENG_GATE, judged as a whole (R17, R18). -/
def Block.gateWrite (fu : Fuses) (b : Block) (v : Nat) : Block :=
  match gateOffence v with
  | some (d, x) => b.note 16 0 [BitVec.ofNat 8 d, BitVec.ofNat 8 x]
  | none =>
    let old := b.get F.TOP_ENG_GATE.GATE * 8
    let new := bitsOf v 10 3 * 8
    let down := (List.range 12).filter (fun e => bitOf new e && !bitOf old e)
    let up := (List.range 12).filter (fun e => bitOf old e && !bitOf new e)
    let b := b.set F.TOP_ENG_GATE.GATE (new / 8)
    let b := { b with eng := { b.eng with
      gateDown := b.eng.gateDown.filter (fun e => !up.contains e) ++ down.filter (fun e => b.est e != stOff)
      gateUp := b.eng.gateUp.filter (fun e => !down.contains e) ++ up } }
    b.settleAll fu

/-- TOP_ENG_GATE written (R17, R18). -/
def execTopEngGateWrite (road : Road) (value : Word) (s : State) : Host.Outcome State Fault Refusal :=
  s.next (s.blk.viaRoad road R.TOP_ENG_GATE value.toNat (fun b => b.gateWrite s.fuse value.toNat))

/-- ENGINE resets of the engines in a mask, one NOTE record for those not absorbed by a reset in progress (R19). -/
def Block.engResets (b : Block) (mask : Nat) : Block :=
  let es := (bitsSet 12 mask).filter (fun e => !b.inReset e)
  let b := es.foldl (fun b e => b.engReset e) b
  if es.isEmpty then b else b.resetNote (sumNat (es.map (fun e => 2 ^ e))) 0

/-- TOP_ENG_RESET written (R19). -/
def execTopEngReset (road : Road) (value : Word) (s : State) : Host.Outcome State Fault Refusal :=
  s.next (s.blk.viaRoad road R.TOP_ENG_RESET value.toNat (fun b => b.engResets (value.toNat % 2 ^ 12)))

/-- SECTION resets of the sections in a mask, one NOTE record (R19). Its mask names the sections alone, in bits 21:16: the record
"names the engines or sections reset", and whether the sections' engines are named beside them is left open (DESIGN CHOICE, log
entry 145). -/
def Block.sectResets (b : Block) (mask : Nat) : Block :=
  let ss := (bitsSet 6 mask).filter (fun n => !b.sectBusy n)
  let b := ss.foldl (fun b n => (if n = 3 then b.keeperClose else b).sectReset n) b
  if ss.isEmpty then b else b.resetNote (sumNat (ss.map (fun n => 2 ^ (16 + n)))) 1

/-- TOP_SECT_RESET written (R19, R299). -/
def execTopSectReset (road : Road) (value : Word) (s : State) : Host.Outcome State Fault Refusal :=
  s.next (s.blk.viaRoad road R.TOP_SECT_RESET value.toNat (fun b => b.sectResets (value.toNat % 2 ^ 6)))

/-- A write of v to TOP_DEV_RESET: GO with key 0x4B47 resets the device, a wrong key leaves a NOTE record. -/
def Block.devReset (fu : Fuses) (b : Block) (road : Road) (v : Nat) : Block :=
  if v / 2 ^ 16 != 0x4B47 then b.noteWrite road R.TOP_DEV_RESET v
  else if bitOf v 0 then b.wideReset fu kindDevice 0 none
  else b

/-- TOP_DEV_RESET written (R7, R51). -/
def execTopDevReset (road : Road) (value : Word) (s : State) : Host.Outcome State Fault Refusal :=
  s.next (s.blk.viaRoad road R.TOP_DEV_RESET value.toNat (fun b => b.devReset s.fuse road value.toNat))

/-- STOP of engine e set or cleared (R13, R14); Carter's STOP releases the keeper (R299). -/
def Block.stopWrite (fu : Fuses) (b : Block) (e : Nat) (v : Bool) : Block :=
  let b := b.setB (F.ENG_CTRL.STOP e) v
  (if e = 3 && v then b.keeperClose else b).settleAll fu

/-- _ENG_CTRL.STOP written (R14). -/
def execEngCtrlStop (e : Fin 12) (stop : Bool) (s : State) : Host.Outcome State Fault Refusal :=
  s.next (s.blk.stopWrite s.fuse e.val stop)

/-- HOLD of engine e set or cleared (R29, R30). -/
def Block.holdWrite (b : Block) (e : Nat) (v : Bool) : Block := (b.setB (F.ENG_CTRL.HOLD e) v).settleShadows e

/-- _ENG_CTRL.HOLD written (R30). -/
def execEngCtrlHold (e : Fin 12) (hold : Bool) (s : State) : Host.Outcome State Fault Refusal :=
  s.next (s.blk.holdWrite e.val hold)

/-- A CLEAR bit of a counter set (R13 and the *_CNT_SEL registers). -/
def execCntClear (c : CntSet) (s : State) : Host.Outcome State Fault Refusal := s.next (s.blk.clearSet c)

/-- Owner number of banked tables. -/
def bankOwner : BankOwner → Nat
  | .eng e => e.val
  | .phy => 12
  | .rfc => 13

/-- A switch of the owner's table may take effect now: the engine does not run or is idle (R29), the radio's link MAC is not in RUN
or REDUCED (R88), or no front end is in TX (R252). -/
def Block.bankAtOnce (b : Block) (owner n : Nat) : Bool :=
  if owner = 12 then !b.runs (lmEngine (n / 4)) && !b.hold (lmEngine (n / 4))
  else if owner = 13 then b.noTx
  else b.atOnce owner || b.reaches owner

/-- A switch of a table is carried out, an idle engine's at the boundary that it reaches for it (R29). -/
def Block.switchNow (b : Block) (owner n : Nat) : Block :=
  if !b.bankAtOnce owner n then b else if owner < 12 ∧ b.reaches owner then b.boundary owner else b.switchBank owner n

/-- Bank switches requested (R26, R27). -/
def Block.bankSwitchReq (b : Block) (owner mask : Nat) : Block :=
  let ns := (bitsSet 16 mask).filter (fun n => (bankedTable owner n).isSome)
  ns.foldl (fun b n =>
    let o := (b.bankOp owner n).getD { owner := owner, table := n }
    (b.setBankOp owner n (some { o with switch := true })).switchNow owner n) b

/-- _BANK_REQ.SWITCH written (R26). -/
def execBankSwitchRequest (o : BankOwner) (tables : BitVec 16) (s : State) : Host.Outcome State Fault Refusal :=
  s.next (s.blk.bankSwitchReq (bankOwner o) tables.toNat)

/-- Bank copies requested: at once, or after the pending switch of the table (R26). A copy without a switch does not wait for HOLD:
R30 names switches alone, R26 starts a copy at once, and _ENG_CTRL.HOLD speaks of bank operations (DESIGN CHOICE, log entry 144). -/
def Block.bankCopyReq (b : Block) (owner mask : Nat) : Block :=
  let ns := (bitsSet 16 mask).filter (fun n => (bankedTable owner n).isSome)
  ns.foldl (fun b n =>
    match b.bankOp owner n with
    | some o => b.setBankOp owner n (some { o with copy := true })
    | none => (b.copyBank owner n).setBankOp owner n (some { owner := owner, table := n, copy := true })) b

/-- _BANK_REQ.COPY written (R26). -/
def execBankCopyRequest (o : BankOwner) (tables : BitVec 16) (s : State) : Host.Outcome State Fault Refusal :=
  s.next (s.blk.bankCopyReq (bankOwner o) tables.toNat)

/-- A write of v to a bank request register: with both bits of a table the switch happens first (R26). -/
def Block.bankReq (b : Block) (owner v : Nat) : Block :=
  let sw := v % 2 ^ 16
  let cp := v / 2 ^ 16 % 2 ^ 16
  let ns := (bitsSet 16 sw).filter (fun n => (bankedTable owner n).isSome && bitOf cp n)
  let b := ns.foldl (fun b n =>
    let o := (b.bankOp owner n).getD { owner := owner, table := n }
    (b.setBankOp owner n (some { o with switch := true, copy := true })).switchNow owner n) b
  let both := sumNat (ns.map (fun n => 2 ^ n))
  (b.bankSwitchReq owner (sw ^^^ both)).bankCopyReq owner (cp ^^^ both)

/-- A copy finished: PEND clears (R27). -/
def execBankCopyComplete (o : BankOwner) (table : Fin 16) (s : State) : Host.Outcome State Fault Refusal :=
  let b := s.blk
  match b.bankOp (bankOwner o) table.val with
  | some q => s.next (if q.copy && !q.switch then b.setBankOp (bankOwner o) table.val none else b)
  | none => s.next b

/-- An engine that runs or drains reaches its boundary (R28, R30); a link MAC's is the end of a PPDU, so what its radio had
on air has ended (R244; DEDUCED, log entry 20). -/
def execEngineBoundary (e : Fin 12) (s : State) : Host.Outcome State Fault Refusal :=
  let b := if 5 ≤ e.val ∧ e.val ≤ 7 then s.blk.txEnd (lmRadio e.val) else s.blk
  s.next (if s.blk.busyH e.val then b.boundary e.val else s.blk)

/-- 2 ms of DRAIN without a boundary: ENGINE reset, DRAIN_TIMEOUT, NOTE record (R15, R19). -/
def Block.drainLate (b : Block) (e : Nat) : Block :=
  if b.est e = stDrain then
    let w := b.drainTo e
    let b := (b.engReset e).setB (F.ENG_STATUS.DRAIN_TIMEOUT e) true
    let b := if w = stStop ∨ w = stOff then { b with eng := { b.eng with r15 := put' b.eng.r15 e w } } else b
    b.resetNote (2 ^ e) 2
  else b

/-- An engine that has not reached its boundary in time (R15). -/
def execDrainTimeout (e : Fin 12) (s : State) : Host.Outcome State Fault Refusal := s.next (s.blk.drainLate e.val)

/-- An ENGINE reset (R16), absorbed by a reset in progress (R19). -/
def execEngineReset (e : Fin 12) (s : State) : Host.Outcome State Fault Refusal :=
  s.next (if s.blk.inReset e.val then s.blk else s.blk.engReset e.val)

/-- A SECTION reset (R16), absorbed by a reset in progress (R19); that of S3 releases the keeper. -/
def execSectionReset (sct : Fin 6) (s : State) : Host.Outcome State Fault Refusal :=
  s.next (if s.blk.sectBusy sct.val then s.blk
    else (if sct.val = 3 then s.blk.keeperClose else s.blk).sectReset sct.val)

/-- The reset of an engine is released (R14, R15). -/
def execResetRelease (e : Fin 12) (s : State) : Host.Outcome State Fault Refusal := s.next (s.blk.release s.fuse e.val)

/-- Power-on reset (R7), the strap sampled. -/
def execPowerOnReset (strap : BitVec 2) (s : State) : Host.Outcome State Fault Refusal :=
  s.next (s.blk.wideReset s.fuse kindPor 0 (some strap.toNat))

/-- Brown-out (R7, R414); WATCH_BOR_COUNT and the BROWNOUT record follow at the next start (TALLY_SCAN). -/
def execBrownOut (strap : BitVec 2) (s : State) : Host.Outcome State Fault Refusal :=
  s.next (s.blk.wideReset s.fuse kindBor 0 (some strap.toNat))

/-- RESET_N held low (R7). -/
def execPinReset (strap : BitVec 2) (s : State) : Host.Outcome State Fault Refusal :=
  s.next (s.blk.wideReset s.fuse kindPin 0 (some strap.toNat))

end Sys2Proof.Machine
end

