-- ==== Sys2Proof/Machine/Lock.lean ====
section
/-! DEFINITION. Locksmith (R303 to R329, R354, R423): derived keys, the key cache and the Vault, usage limits, the mesh frame
counter, the backing area, randomness, key commands. The Vault is its records; their XTS form in DRAM is seen by no one
(log entry 23). -/

namespace Sys2Proof.Machine

/-! ### Fuses and derived keys -/

/-- n bytes of a fuse block from offset a. -/
def fuseBytes (m : List (Nat × Nat)) (a n : Nat) : List Byte := (List.range n).map (fun i => BitVec.ofNat 8 (fuseByte m (a + i)))

/-- ROOT_SECRET (R420). -/
def Fuses.rootSecret (fu : Fuses) : List Byte := fuseBytes fu.sec 0xE0 32

/-- ROOT_SECRET is programmed: any of its bits is 1. -/
def Fuses.hasSecret (fu : Fuses) : Bool := fu.rootSecret.any (· != 0)

/-- The KDF of R423: four AES-CMAC calls in counter mode, 64 octets. -/
def Fuses.derive (fu : Fuses) (label ctx : List Byte) : List Byte :=
  ((List.range 4).map (fun i =>
    aesCmac fu.rootSecret (bytesLE 1 (i + 1) ++ label ++ [0] ++ ctx ++ bytesBE 2 512))).flatten

/-- DEVICE_ID (R420). -/
def Fuses.deviceId (fu : Fuses) : List Byte := fuseBytes fu.sec 8 8

/-- The slot key of R39: label "RMLN-SLOT". -/
def Fuses.slotKey (fu : Fuses) : List Byte :=
  fu.derive [0x52, 0x4D, 0x4C, 0x4E, 0x2D, 0x53, 0x4C, 0x4F, 0x54] fu.deviceId

/-- EPOCH of SEC_WIPE. -/
def Block.wipeEpoch (b : Block) : Nat := b.tally 8 % 2 ^ 24

/-- The backing key of R320: label "MESH-BACK". -/
def Block.backKey (b : Block) (fu : Fuses) : List Byte :=
  fu.derive [0x4D, 0x45, 0x53, 0x48, 0x2D, 0x42, 0x41, 0x43, 0x4B] (fu.deviceId ++ bytesLE 4 b.wipeEpoch)

/-! ### Limits -/

/-- b with Locksmith changed. -/
def Block.updLock (b : Block) (f : Lock → Lock) : Block := { b with lock := f b.lock }

/-- Hard limit H of a key (R313). -/
def KeyRec.limit (k : KeyRec) : Nat := 2 ^ k.hard

/-- Soft limit S of a key (R313). -/
def KeyRec.softLimit (k : KeyRec) : Nat := k.limit - k.limit / 10

/-- A key at its hard limit under the mesh epoch (R313). -/
def KeyRec.atHard (k : KeyRec) (epoch : Nat) : Bool :=
  decide (k.limit ≤ k.uses) || (decide (1 ≤ k.mode ∧ k.mode ≤ 4) && decide (2 ^ 48 - 1 ≤ k.pn)) || (k.mode == 9 && k.epoch != epoch)

/-- An entry of the limit FIFO (R315): 64 entries; KEY_LIMIT fires when it becomes non-empty. -/
def Block.limitPush (b : Block) (kind sp h : Nat) : Block :=
  if 64 ≤ b.lock.fifo.length then b.updLock (fun l => { l with fifoOvf := true })
  else
    let was := b.lock.fifo.isEmpty
    let b := b.updLock (fun l => { l with fifo := l.fifo ++ [⟨kind, sp, h⟩] })
    if was then b.fire 2 16 else b

/-- LOCK_LIMIT_FIFO read (R315): its value, the head entry removed; a read that finds it empty clears OVERFLOW. -/
def Block.limitRead (b : Block) : Nat × Block :=
  let o := b2n b.lock.fifoOvf * 2 ^ 30
  match b.lock.fifo with
  | [] => (o, b.updLock (fun l => { l with fifoOvf := false }))
  | e :: t => (2 ^ 31 + o + e.kind * 2 ^ 28 + e.space * 2 ^ 17 + e.handle, b.updLock (fun l => { l with fifo := t }))

/-- LOCK_LIMIT_FIFO read. -/
def execLimitFifoRead (s : State) : Host.Outcome State Fault Refusal := s.next s.blk.limitRead.2

/-! ### Derived keys' uses, masks, hash and signature jobs -/

/-- Hard limit of the derived keys (R313): LIMITS.XTS_LOG2 as the latest start took it. -/
def Block.xtsLimit (b : Block) : Nat := 2 ^ clampTo 16 48 b.lock.xtsLog2

/-- Soft limit of the derived keys (R313). -/
def Block.xtsSoft (b : Block) : Nat := b.xtsLimit - b.xtsLimit / 10

/-- Blocks encrypted under internal handle h so far: 1 slot key, 2 backing key, 3 Vault key. -/
def Block.xtsUses (b : Block) (h : Nat) : Nat := if h = 1 then b.lock.slotUses else if h = 2 then b.lock.backUses else b.lock.vaultUses

/-- n blocks encrypted under internal handle h (R313); each limit that they reach is reported (R315). -/
def Block.xtsUse (b : Block) (h n : Nat) : Block :=
  let u := b.xtsUses h
  let hit (lim : Nat) : Bool := decide (u < lim ∧ lim ≤ u + n)
  let soft := hit b.xtsSoft
  let hard := hit b.xtsLimit
  let b := b.updLock (fun l => if h = 1 then { l with slotUses := u + n } else if h = 2 then { l with backUses := u + n }
    else { l with vaultUses := u + n })
  let b := if soft then (b.limitPush 0 2 h).count .lock C.LOCK.LIMIT_SOFT else b
  if hard then (b.limitPush 1 2 h).count .lock C.LOCK.LIMIT_HARD else b

/-- n generate requests to the DRBG, of 256 bits each (R323; DEDUCED, log entry 166). -/
def Block.drbgGet (b : Block) (n : Nat) : Block := (b.updLock (fun l => { l with gens := l.gens + n })).lane 2 20 0 n

/-- n blocks take n masks of 128 bits (R324). While the DRBG is stopped they come from the core's buffer. -/
def Block.maskUse (b : Block) (core n : Nat) : Block :=
  let b := b.drbgGet (ceilDiv n 2)
  if b.on F.LOCK_RNG_STATUS.STARVED then b.updLock (fun l => { l with masks := put l.masks core (look l.masks core 0 + n) 0 }) else b

/-- Core's buffer of 64 masks serves n blocks (R324). -/
def Block.maskRoom (b : Block) (core n : Nat) : Bool :=
  !b.on F.LOCK_RNG_STATUS.STARVED || decide (look b.lock.masks core 0 + n ≤ 64)

/-- The DRBG produces again: the buffers are refilled (R324). -/
def Block.drbgGo (b : Block) : Block := (b.set F.LOCK_RNG_STATUS.STARVED 0).updLock (fun l => { l with masks := [] })

/-- A SHA-256 job over n octets in the hash lane (R325). -/
def Block.hashJob (b : Block) (n : Nat) : Block :=
  ((b.count .lock C.LOCK.HASH_JOBS).lane 2 18 0).lane 2 18 1 (ceilDiv (n + 9) 64)

/-- A signature checked in the verifier lane (R325). -/
def Block.verifyJob (b : Block) (ok : Bool) : Block :=
  let b := (b.count .lock C.LOCK.VERIFY_JOBS).lane 2 19 0
  if ok then b else (b.count .lock C.LOCK.VERIFY_FAIL).lane 2 19 1

/-! ### Zeroisation's overwrites -/

/-- The WIPE record of R436. -/
def Block.wipeRec (b : Block) (what : Nat) : Block :=
  b.event 21 34 0 (bytesLE 1 what ++ [0, 0, 0] ++ bytesLE 4 (b.tally 8))

/-- An overwrite of R425 has finished: its PEND bit clears, and with the last one WIPE fires again. -/
def Block.wipeClear (b : Block) (bit : Nat) : Block :=
  if bitOf (b.tally 8) bit && !b.sec.wipeWait then
    let b := b.tallyPut 8 (setBit (b.tally 8) bit false)
    if bitsOf (b.tally 8) 30 28 = 0 then b.wipeRec 1 else b
  else b

/-! ### Vault and cache -/

/-- The record of a key in a list. -/
def findKey (l : List KeyRec) (sp h : Nat) : Option KeyRec := l.find? (fun k => k.space == sp && k.handle == h)

/-- l without the record of a key. -/
def dropKey (l : List KeyRec) (sp h : Nat) : List KeyRec := l.filter (fun k => !(k.space == sp && k.handle == h))

/-- A record written to the Vault: four blocks under the Vault key. -/
def Block.vaultWrite (b : Block) (k : KeyRec) : Block :=
  let b := ((b.xtsUse 3 4).maskUse 16 4).updLock (fun l => { l with vault := dropKey l.vault k.space k.handle ++ [k] })
  ((b.count .lock C.LOCK.VAULT_WRITE).lane 2 16 0 4).lane 2 16 1

/-- The Vault can be used: Locksmith in RUN, TROT or higher, the rebuild done, not in the lame state (R309). -/
def Block.vaultUp (b : Block) : Bool :=
  b.est 2 == stRun && decide (b.gait ≤ 2) && !b.lame && b.lock.vaultOk && b.get F.TOP_ID.DRAM != 0

/-- The record of a key as it stands: the cached copy, else the Vault's; the steward key for internal handle 0. -/
def Block.keyAt (b : Block) (sp h : Nat) : Option KeyRec :=
  if sp = 2 then (if h = 0 then b.lock.steward else none)
  else match findKey b.lock.cache sp h with
    | some k => some k
    | none => findKey b.lock.vault sp h

/-- A key brought to the front of the cache, fetched from the Vault when it is not there: its record goes back with TX_PN and
USES raised by 1,024 first, and the least recently used entry is evicted with its exact values (R308). In WALK only cached
keys serve (R326). -/
def Block.fetchKey (b : Block) (sp h : Nat) : Option (KeyRec × Block) :=
  if sp = 2 then (b.keyAt sp h).map (fun k => (k, b))
  else match findKey b.lock.cache sp h with
    | some k =>
      some (k, (b.updLock (fun l => { l with cache := k :: dropKey l.cache sp h })).count .lock C.LOCK.CACHE_HIT)
    | none =>
      if !b.vaultUp then none
      else match findKey b.lock.vault sp h with
        | none => none
        | some k =>
          let b := (b.vaultWrite { k with pn := k.pn + 1024, uses := k.uses + 1024 }).count .lock C.LOCK.CACHE_MISS
          let b := (b.lane 2 16 1).updLock (fun l => { l with cache := k :: l.cache })
          if b.lock.cache.length ≤ 4096 then some (k, b)
          else match b.lock.cache.getLast? with
            | some old => some (k, (b.vaultWrite old).updLock (fun l => { l with cache := l.cache.take 4096 }))
            | none => some (k, b)

/-- A cached key with new values: the Vault's are raised by a further 1,024 when they are reached, flags kept in step (R308). -/
def Block.storeKey (b : Block) (k : KeyRec) : Block :=
  if k.space = 2 then b.updLock (fun l => { l with steward := some k })
  else
    let b := b.updLock (fun l => { l with cache := l.cache.map (fun q => if q.space = k.space ∧ q.handle = k.handle then k else q) })
    match findKey b.lock.vault k.space k.handle with
    | none => b
    | some v =>
      if v.uses ≤ k.uses ∨ (v.pn ≤ k.pn ∧ k.mode ≤ 4) then
        b.vaultWrite { k with uses := v.uses + 1024, pn := v.pn + 1024 }
      else b.updLock (fun l => { l with vault := dropKey l.vault k.space k.handle ++ [{ k with uses := v.uses, pn := v.pn }] })

/-- The limits a protect operation has reached are reported once each (R315). -/
def Block.reportLimits (b : Block) (k : KeyRec) : KeyRec × Block :=
  let (k, b) := if k.softLimit ≤ k.uses && !k.soft then
    ({ k with soft := true }, (b.limitPush 0 k.space k.handle).count .lock C.LOCK.LIMIT_SOFT) else (k, b)
  if (decide (k.limit ≤ k.uses) || (decide (k.mode ≤ 4) && decide (2 ^ 48 - 1 ≤ k.pn))) && !k.hardHit then
    ({ k with hardHit := true }, (b.limitPush 1 k.space k.handle).count .lock C.LOCK.LIMIT_HARD)
  else (k, b)

/-- A key used for a protect operation (R313, R314): none when it may not be used or is not at hand. -/
def Block.keyProtect (b : Block) (sp h : Nat) : Option KeyRec × Block :=
  if !b.runs 2 then (none, b)
  else match b.fetchKey sp h with
  | none => (none, if b.est 2 = stReduced && sp != 2 then b.count .lock C.LOCK.CACHE_REFUSED else b)
  | some (k, b) =>
    if k.atHard (b.tally 4) then (none, b.count .lock C.LOCK.TX_REFUSED_LIMIT)
    else
      let (k, b) := b.reportLimits { k with uses := k.uses + 1, pn := if 1 ≤ k.mode ∧ k.mode ≤ 4 then k.pn + 1 else k.pn }
      (some k, b.storeKey k)

/-- A key used to verify (R314): at its hard limit it serves 2^16 verifications more. -/
def Block.keyVerify (b : Block) (sp h : Nat) : Option KeyRec × Block :=
  if !b.runs 2 then (none, b)
  else match b.fetchKey sp h with
  | none => (none, if b.est 2 = stReduced && sp != 2 then b.count .lock C.LOCK.CACHE_REFUSED else b)
  | some (k, b) =>
    if !k.atHard (b.tally 4) then (some k, b)
    else if k.grace = 0 then
      let b := b.count .lock C.LOCK.RX_GRACE_END
      if k.graceEnd then (none, b) else (none, (b.limitPush 2 sp h).storeKey { k with graceEnd := true })
    else let k := { k with grace := k.grace - 1 }; (some k, b.storeKey k)

/-- A request whose key is not cached (R308). -/
def execKeyFetch (sp : Fin 2) (h : Fin 131072) (s : State) : Host.Outcome State Fault Refusal :=
  let b := s.blk
  s.next (if !b.runs 2 then b
  else match b.fetchKey sp.val h.val with
    | some (_, b) => b
    | none => if b.est 2 = stReduced then b.count .lock C.LOCK.CACHE_REFUSED else b)

/-! ### The AES pool -/

/-- Blocks of a packet in a mode: operations per 16 octets and the fixed cost ("The AES pool"). -/
def aesBlocks (mode n : Nat) : Nat :=
  let k := ceilDiv n 16
  match mode with
  | 1 => 2 * k + 2 | 2 => 2 * k + 2 | 9 => 2 * k + 2 | 3 => k + 1 | 4 => k + 1 | 5 => k + 1 | 6 => k + 1 | _ => k + 2

/-- The cores that serve (R326, R61). -/
def Block.coreOk (b : Block) (core : Nat) : Bool :=
  if b.lame then b.est 2 == stReduced && core == 0
  else b.est 2 == stRun || (b.est 2 == stReduced && decide (core < 2))

/-- Blocks counted for a packet of n octets on a core. -/
def Block.countBlocks (b : Block) (core mode n : Nat) : Block :=
  ((b.count .lock C.LOCK.BLOCKS (aesBlocks mode n)).lane 2 core 0 (aesBlocks mode n)).maskUse core (aesBlocks mode n)

/-- A queued frame marked encrypted. -/
def Block.markEnc (b : Block) (fid : Nat) (on : Bool) : Block :=
  { b with drov := { b.drov with queues := b.drov.queues.map (fun (q : AirQueue) =>
      { q with frames := q.frames.map (fun (f : QFrame) => if f.id = fid then { f with enc := on } else f) }) } }

/-- A queued frame left out of its PPDU: neither encrypted nor aired. -/
def Block.markLate (b : Block) (fid : Nat) : Block :=
  { b with drov := { b.drov with queues := b.drov.queues.map (fun (q : AirQueue) =>
      { q with frames := q.frames.map (fun (f : QFrame) => if f.id = fid then { f with enc := false, aired := false } else f) }) } }

/-- A free AES core takes the oldest request of the highest class (R303) and runs it to its end; a core without masks for it stalls
(R324). -/
def execAesRequest (core : Fin 16) (s : State) : Host.Outcome State Fault Refusal :=
  let b := s.blk
  let pick := [1, 2, 3, 4].findSome? (fun c => b.lock.queue.find? (fun q => q.cls == c))
  s.next (match pick with
  | none => b
  | some q =>
    let need := ((b.keyAt q.space q.handle).map (fun k => aesBlocks k.mode q.octets)).getD 0
    if !b.coreOk core.val || !b.maskRoom core.val need then b
    else
      let b := b.updLock (fun l => { l with queue := l.queue.erase q })
      let (k, b) := if q.protect then b.keyProtect q.space q.handle else b.keyVerify q.space q.handle
      match k with
      | none => if q.cls = 1 then b.noKey q.frame else b
      | some k =>
        let b := b.countBlocks core.val k.mode q.octets
        match q.cls with
        | 1 => b.count .lock C.LOCK.RX_DECRYPT
        | 2 => (b.count .lock C.LOCK.TX_ENCRYPT).markEnc q.frame true
        | 3 => b.count .lock C.LOCK.MESH_CCM
        | _ => b)

/-- The plan that a frame is in, the one committed on a radio or the next one, when the frame's ciphertext is not complete. -/
def Block.latePlan (b : Block) (r frame : Nat) : Option Plan :=
  match b.committedPlan r, b.planAt r 0 with
  | none, none => none
  | some p, _ => if p.users.any (fun u => u.frames.contains frame) && open' then some p else none
  | none, some p => if p.users.any (fun u => u.frames.contains frame) && open' then some p else none
where
  open' : Bool := b.drov.queues.any (fun q => q.frames.any (fun f => f.id == frame && !f.enc))

/-- An MPDU reaches its place before its ciphertext is complete (R305): delimiters take its place, its ciphertext is discarded and it
counts as unacknowledged. A PPDU is not started without its first MPDU, or its only one. atStart: it is found at TX start, while
nothing of the radio is on air. -/
def execTxCipherLate (r : Fin 3) (frame : Nat) (atStart : Bool) (s : State) : Host.Outcome State Fault Refusal :=
  let b := s.blk
  s.next (match b.latePlan r.val frame with
  | none => b
  | some p =>
    if (b.phyAt r.val).tx.isNone ≠ atStart then b
    else
    let b := (b.markLate frame).updLock (fun l => { l with queue := l.queue.filter (fun q => !(q.cls == 2 && q.frame == frame)) })
    if atStart && p.users.any (fun u => u.frames.head? == some frame) then b.dropTxop r.val
    else b.count .lock C.LOCK.TX_CIPHER_LATE)

/-! ### The mesh frame counter -/

/-- RESV as far as its write is persistent (R316). -/
def Block.mfcResv (b : Block) : Nat := if b.tallyDone 3 then b.tally 3 else b.lock.resvOld

/-- RESV written. -/
def Block.mfcReserve (b : Block) (v old : Nat) : Block := (b.updLock (fun l => { l with resvOld := old })).tallyPut 3 v

/-- The wrap (R317): EPOCH + 1, RESV = 65,536, n = 0; no value before RESV is persistent. -/
def Block.mfcWrap (b : Block) : Block :=
  let b := b.tallyPut 4 ((b.tally 4 + 1) % 2 ^ 32)
  let b := b.mfcReserve 65536 0
  (b.set F.LOCK_MFC.N 0).updLock (fun l => { l with mfcSoft := false })

/-- The next value of the mesh frame counter, given while it is below RESV (R316, R317). -/
def Block.mfcTake (b : Block) : Option Nat × Block :=
  let n := b.get F.LOCK_MFC.N
  if b.lock.mfcOwed || decide (b.mfcResv ≤ n) || decide (0xFFFFFFFF ≤ n) then (none, b.count .lock C.LOCK.MFC_WAIT)
  else
    let b := b.set F.LOCK_MFC.N (n + 1)
    (some n, if 0xE6666667 ≤ n && !b.lock.mfcSoft then (b.updLock (fun l => { l with mfcSoft := true })).fire 2 17 else b)

/-- RESV − n falls to 16,384 or below (R316). -/
def execMfcReservationWrite (s : State) : Host.Outcome State Fault Refusal :=
  let b := s.blk
  let n := b.get F.LOCK_MFC.N
  let v := min (n + 65536) 0xFFFFFFFF
  s.next (if b.runs 2 && !b.lock.mfcOwed && b.tallyDone 3 && decide (b.tally 3 ≤ n + 16384 ∧ b.tally 3 < v) then
    b.mfcReserve v (b.tally 3) else b)

/-- n reaches 0xFFFF_FFFF (R317). -/
def execMfcWrap (s : State) : Host.Outcome State Fault Refusal :=
  let b := s.blk
  s.next (if b.runs 2 && !b.lock.mfcOwed && b.get F.LOCK_MFC.N == 0xFFFFFFFF && b.tallyOk 4 then b.mfcWrap else b)

/-- Locksmith starts after a reset of kind DEVICE or wider (R318). -/
def execMfcResume (s : State) : Host.Outcome State Fault Refusal :=
  let b := s.blk
  s.next (if b.runs 2 && b.lock.mfcOwed && b.tallyOk 3 then
    let b := (b.set F.LOCK_MFC.N (b.tally 3)).updLock (fun l => { l with mfcOwed := false, mfcSoft := false })
    if b.tally 3 = 0xFFFFFFFF then b.mfcWrap
    else b.mfcReserve (min (b.tally 3 + 65536) 0xFFFFFFFF) (b.tally 3)
  else b)

/-! ### Vault key and backing area -/

/-- The Vault key reaches its soft limit: a new generation, every unit re-encrypted under it (R319). -/
def execVaultRecrypt (s : State) : Host.Outcome State Fault Refusal :=
  let b := s.blk
  s.next (if b.vaultUp && decide (b.xtsSoft ≤ b.lock.vaultUses) && b.tallyOk 5 then
    let b := b.tallyPut 5 ((b.tally 5 + 1) % 2 ^ 32)
    let b := b.updLock (fun l => { l with vaultUses := 2176 * 256 })
    ((b.set F.LOCK_VSTATUS.PTR 2176).lane 2 16 0 (2176 * 128)).lane 2 17 0 (2176 * 128)
  else b)

/-- The backing area overlaps nothing of R37 and lies in the NOR, which declares a 4 KiB erase (R320). -/
def Block.mbackFits (b : Block) (base : Nat) : Bool :=
  let hits (a n : Nat) : Bool := n != 0 && decide (a < base + 0x400000 ∧ base < a + n)
  b.ost.norErase4k && decide (base + 0x400000 ≤ b.ost.norBytes) && !hits 0 0x2000 &&
    (match b.ost.map with
     | some m => !hits m.slotA m.slotSize && !hits m.slotB m.slotSize && !hits m.stage m.stageSize
     | none => true)

/-- NOR offset of the backing area. -/
def Block.backBase (b : Block) : Nat := b.get F.LOCK_MBACK.BASE_64K * 65536

/-- EN is applied and no overwrite of R425 is pending. -/
def Block.backing (b : Block) : Bool := b.on F.LOCK_MBACK.EN && b.mbackFits b.backBase && !bitOf (b.tally 8) 29

/-- An INSTALL or CLEAR of a mesh key marks its unit dirty (R320). -/
def Block.markDirty (b : Block) (h : Nat) : Block :=
  if b.backing && !b.lock.dirty.contains (h / 128) then b.updLock (fun l => { l with dirty := l.dirty ++ [h / 128] }) else b

/-- The 32 bytes of a backing record (R320). -/
def backBytes (k : Option KeyRec) : List Byte :=
  match k with
  | none => let h := List.replicate 24 (0 : Byte); h ++ bytesLE 4 (crc32 h) ++ [0, 0, 0, 0]
  | some k =>
    let h := k.key ++ bytesLE 1 k.mode ++ bytesLE 1 k.hard ++ [1, 0] ++ bytesLE 4 k.epoch
    h ++ bytesLE 4 (crc32 h) ++ [0, 0, 0, 0]

/-- One dirty unit is rewritten (R320), the lowest first; a NOR failure stops backing writes (R329 row 7) and leaves the sector's
contents open (log entry 11). -/
def execBackingRewrite (norOk : Bool) (s : State) : Host.Outcome State Fault Refusal :=
  let b := s.blk
  s.next (match b.lock.dirty.foldl (fun (m : Option Nat) u => some (match m with | some k => min k u | none => u)) none with
  | none => b
  | some u =>
    if !(b.vaultUp && b.backing) || b.on F.LOCK_VSTATUS.BACK_FAIL then b
    else if b.xtsLimit ≤ b.lock.backUses then b.set F.LOCK_VSTATUS.BACK_FAIL 1
    else
      let a := b.backBase + 4096 * u
      if norOk then
        let recs := (List.range 128).map (fun i => backBytes (b.keyAt 1 (128 * u + i)))
        let b := b.norErase a 4096
        let b := b.norProgram a (xtsEnc (b.backKey s.fuse) u recs.flatten)
        let b := b.updLock (fun l => { l with
          dirty := l.dirty.filter (· != u)
          vault := l.vault.map (fun k => if k.space = 1 ∧ k.handle / 128 = u then { k with backed := true } else k)
          cache := l.cache.map (fun k => if k.space = 1 ∧ k.handle / 128 = u then { k with backed := true } else k) })
        ((b.xtsUse 2 256).maskUse 16 256).count .lock C.LOCK.BACK_WRITE
      else
        let bs := (List.range 4096).map (fun i => (Config.freeValue (b.free + i)).truncate 8)
        let b := { b with free := b.free + 4096 }
        ((b.norProgram a bs).set F.LOCK_VSTATUS.BACK_FAIL 1).fault 2 .note 7 0xFFFF [])

/-- The key of a backing record whose CRC is good and VALID is 1 (R321); the outer none: the CRC fails. -/
def readBack (h : Nat) (bs : List Byte) : Option (Option KeyRec) :=
  if natLE ((bs.drop 24).take 4) ≠ crc32 (bs.take 24) then none
  else if !bitOf (natLE ((bs.drop 18).take 1)) 0 then some none
  else some (some { space := 1, handle := h, key := bs.take 16, mode := natLE ((bs.drop 16).take 1),
                    hard := natLE ((bs.drop 17).take 1), epoch := natLE ((bs.drop 20).take 4), backed := true })

/-- One unit of the backing area restored (R321); bad: records whose reading fails beyond that. -/
def Block.restoreUnit (fu : Fuses) (bad : List Nat) (b : Block) (u : Nat) : Block :=
  let data := xtsDec (b.backKey fu) u (b.norBytes (b.backBase + 4096 * u) 4096)
  (List.range 128).foldl (fun b i =>
    let h := 128 * u + i
    match (if bad.contains h then none else readBack h ((data.drop (32 * i)).take 32)) with
    | none => b.limitPush 3 1 h
    | some none => b
    | some (some k) => b.vaultWrite k) b

/-- The Vault rebuilt (R321, R425): zeroed, then restored while EN is applied and neither PEND_VAULT nor PEND_BACKING is set. -/
def Block.rebuildVault (fu : Fuses) (b : Block) (bad : List Nat) : Block :=
  let b := b.updLock (fun l => { l with vault := [], vaultOk := true, rebuildOwed := false })
  if b.on F.LOCK_MBACK.EN && b.mbackFits b.backBase && bitsOf (b.tally 8) 29 28 == 0 then
    (List.range 1024).foldl (fun b u => b.restoreUnit fu bad u) b
  else b

/-- A rebuild of the Vault is owed and possible: REBUILD reads 1 (R321). -/
def Block.rebuilding (b : Block) : Bool :=
  b.lock.rebuildOwed && b.est 2 == stRun && decide (b.gait ≤ 2) && !b.lame && b.get F.TOP_ID.DRAM != 0

/-! ### Randomness -/

/-- A window that passed reaches Locksmith (R322): seed material; it instantiates or revives a DRBG that waits for it. -/
def Block.noisePass (b : Block) : Block :=
  let b := b.set F.LOCK_RNG_STATUS.FAILED 0
  if !b.on F.LOCK_RNG_STATUS.INSTANTIATED && (b.runs 2 || b.est 2 == stStart) then
    (b.set F.LOCK_RNG_STATUS.INSTANTIATED 1).drbgGo
  else b.updLock (fun l => { l with seed := true })

/-- A window of the noise source (R322). A good one crosses group 7 as an EVENT, held while the group is parked (R375). -/
def execNoiseWindow (pass : Bool) (s : State) : Host.Outcome State Fault Refusal :=
  let b := s.blk
  s.next (if pass then
    if bitOf (b.get F.CLK_XSTATUS.PARKED) 7 then
      { b with clk := { b.clk with held := put b.clk.held 7 (look b.clk.held 7 0 + 1) 0 } }
    else ((b.count (.clk 7) C.CLK.EVT_SENT).count (.clk 7) C.CLK.EVT_RECEIVED).noisePass
  else
    ((b.set F.LOCK_RNG_STATUS.FAILED 1).count .lock C.LOCK.RNG_HEALTH_FAIL).note 2 0)

/-- A reseed is due (R323). -/
def Block.reseedDue (b : Block) : Bool := decide (2 ^ (min 14 (b.get F.LOCK_RNG.RESEED_LOG2) + 10) ≤ b.lock.gens)

/-- The reseed that is due (R323); without seed material at hand it does not happen. -/
def execDrbgReseed (s : State) : Host.Outcome State Fault Refusal :=
  let b := s.blk
  s.next (if b.on F.LOCK_RNG_STATUS.INSTANTIATED && b.lock.seed && b.reseedDue then
    let b := b.updLock (fun l => { l with seed := false, gens := 0 })
    ((b.wrap F.LOCK_RNG_STATUS.RESEEDS 1).drbgGo).lane 2 20 1
  else b)

/-- The DRBG has been stopped for us microseconds (R324): a reseed is due without seed material, or FAILED was 1 at instantiation.
Over 100 ms a SECTION reset of S4, again within 1 s of that reset FATAL (R329 rows 5 and 6). -/
def execDrbgStopped (us : Nat) (s : State) : Host.Outcome State Fault Refusal :=
  let b := s.blk
  s.next (if !(b.runs 2 && (b.on F.LOCK_RNG_STATUS.STARVED || (b.reseedDue && !b.lock.seed))) then b
  else
    let b := (b.set F.LOCK_RNG_STATUS.STARVED 1).count .lock C.LOCK.MASK_STALL_US us
    let again := match b.lock.drbgSect with | some t => decide (b.ao ≤ t + 1000000000) | none => false
    if again then b.fault 2 .fatal 6 0xFFFF []
    else if 100000 < us then (b.updLock (fun l => { l with drbgSect := some b.ao })).fault 2 .sect 5 0xFFFF []
    else b)

/-! ### Key commands -/

/-- Space and handle name a key (R307): internal handles 1 to 3 accept no operation (R309). -/
def keyNamed (sp h : Nat) : Bool :=
  match sp with
  | 0 => decide (h < 8192) | 1 => decide (h < 131072) | 2 => h == 0 | _ => false

/-- MODE is allowed for a space and handle (R307). -/
def modeAllowed (sp h mode : Nat) : Bool :=
  match sp with
  | 0 => if h < 8144 then decide (1 ≤ mode ∧ mode ≤ 4) else decide (5 ≤ mode ∧ mode ≤ 8)
  | 1 => mode == 9
  | _ => mode == 10

/-- ARM_KEY was accepted within the preceding 10 s (R354). -/
def Block.armed (b : Block) : Bool := match b.creosh.armed with | some t => decide (b.ao ≤ t) | none => false

/-- The steward-key conditions of R354 on an INSTALL. -/
def Block.stewardOk (b : Block) (road : Road) : Bool := road == .bar0 && (b.lock.steward.isNone || b.armed)

/-- A key operation ends: the staging buffer zeroed, STATE and REASON shown (R309). -/
def Block.keyDone (b : Block) (reason : Nat) : Block :=
  let b := b.updLock (fun l => { l with staging := [], staged := false })
  let b := [F.LOCK_KSTATUS.VALID, F.LOCK_KSTATUS.SOFT_HIT, F.LOCK_KSTATUS.HARD_HIT, F.LOCK_KSTATUS.GRACE_END,
    F.LOCK_KSTATUS.BACKED, F.LOCK_KSTATUS.MODE, F.LOCK_KSTATUS.HARD_LOG2].foldl (fun b f => b.set f 0) b
  (b.set F.LOCK_KSTATUS.STATE (if reason = 0 then 2 else 3)).set F.LOCK_KSTATUS.REASON reason

/-- Key handle of a station on a radio (R105), none when not valid. -/
def Block.ptk (b : Block) (r sta : Nat) : Option Nat :=
  let v := b.tab (staAddr r sta + 0xC) 2
  if bitOf v 15 then some (v % 8192) else none

/-- Key handle of BSS i's group frames on radio r (R119). -/
def Block.gtk (b : Block) (r i : Nat) : Option Nat :=
  let v := b.btab (lmEngine r) 0 (lmWin r + 64 * i + 0x34) 2
  if bitOf v 15 then some (v % 8192) else none

/-- The key a queue's frames are encrypted under on radio r. -/
def Block.queueKey (b : Block) (r key : Nat) : Option Nat :=
  if key < 8192 then b.ptk r (key / 4) else b.gtk ((key - 8192) / 16) ((key - 8192) % 16)

/-- Ciphertext made under a former key for frames not yet on air is discarded (R310). -/
def Block.discardCipher (b : Block) (sp h : Nat) : Block :=
  if sp ≠ 0 then b
  else { b with drov := { b.drov with queues := b.drov.queues.map (fun (q : AirQueue) =>
    if [0, 1, 2].any (fun r => b.queueKey r q.key == some h) then
      { q with frames := q.frames.map (fun (f : QFrame) => { f with enc := false }) } else q) } }

/-- The record an INSTALL writes (R309, R313). -/
def Block.newKey (b : Block) (sp h : Nat) : KeyRec :=
  let mode := b.get F.LOCK_KARG.MODE
  let hl := b.get F.LOCK_KARG.HARD_LOG2
  let d := if mode ≤ 4 then b.get F.LOCK_LIMITS.WIFI_LOG2 else if mode = 9 then b.get F.LOCK_LIMITS.MESH_LOG2
    else b.get F.LOCK_LIMITS.MGMT_LOG2
  let n := if mode % 2 = 0 then 32 else 16
  { space := sp, handle := h, key := (List.range n).map (fun i => BitVec.ofNat 8 (look b.lock.staging i 0)), mode := mode
    hard := clampTo 16 48 (if hl = 0 then d else hl)
    pn := if mode ≤ 4 then b.get F.LOCK_KPN_LO.PN_LO + 2 ^ 32 * b.get F.LOCK_KPN_HI.PN_HI else 0
    epoch := if mode = 9 then b.tally 4 else 0 }

/-- LOCK_KCMD INSTALL (R309, R312, R354, R423). -/
def Block.keyInstall (fu : Fuses) (b : Block) (road : Road) (sp h : Nat) : Block :=
  let mode := b.get F.LOCK_KARG.MODE
  if !keyNamed sp h then b.keyDone 1
  else if !modeAllowed sp h mode then b.keyDone 2
  else if sp == 2 && !b.stewardOk road then b.keyDone 5
  else if !b.lock.staged then b.keyDone 3
  else if !fu.hasSecret || (sp != 2 && !b.vaultUp) then b.keyDone 4
  else
    let k := b.newKey sp h
    let b := if sp = 2 then { b.updLock (fun l => { l with steward := some k }) with creosh := { b.creosh with armed := none } }
      else
        let b := b.updLock (fun l => { l with cache := dropKey l.cache sp h })
        let b := (b.vaultWrite k).discardCipher sp h
        if sp = 1 then b.markDirty h else b
    b.keyDone 0

/-- LOCK_KCMD CLEAR (R309, R354). -/
def Block.keyClear (b : Block) (road : Road) (sp h : Nat) : Block :=
  if !keyNamed sp h then b.keyDone 1
  else if sp = 2 then (if road == .creosh then b.keyDone 5 else (b.updLock (fun l => { l with steward := none })).keyDone 0)
  else if !b.vaultUp then b.keyDone 4
  else
    let b := (b.updLock (fun l => { l with cache := dropKey l.cache sp h, vault := dropKey l.vault sp h })).discardCipher sp h
    (if sp = 1 then b.markDirty h else b).keyDone 0

/-- LOCK_KCMD READ (R309). -/
def Block.keyRead (b : Block) (sp h : Nat) : Block :=
  if !keyNamed sp h then b.keyDone 1
  else match b.keyAt sp h with
  | none => b.keyDone 6
  | some k =>
    let b := b.keyDone 0
    let b := ((((b.set F.LOCK_KSTATUS.VALID 1).setB F.LOCK_KSTATUS.SOFT_HIT k.soft).setB F.LOCK_KSTATUS.HARD_HIT
      (k.atHard (b.tally 4))).setB F.LOCK_KSTATUS.GRACE_END k.graceEnd).setB F.LOCK_KSTATUS.BACKED k.backed
    let b := (b.set F.LOCK_KSTATUS.MODE k.mode).set F.LOCK_KSTATUS.HARD_LOG2 k.hard
    let b := (b.set F.LOCK_KUSES_LO.USES_LO k.uses).set F.LOCK_KUSES_HI.USES_HI (k.uses / 2 ^ 32)
    let v := if k.mode = 9 then k.epoch else k.pn
    (b.set F.LOCK_KPN_LO.PN_LO v).set F.LOCK_KPN_HI.PN_HI (v / 2 ^ 32)

/-- A write of v to LOCK_KCMD (R309): OP, SPACE, HANDLE; other operations are ignored. -/
def Block.keyCommand (fu : Fuses) (b : Block) (road : Road) (v : Nat) : Block :=
  let sp := bitsOf v 18 17
  let h := v % 2 ^ 17
  match v / 2 ^ 28 with
  | 1 => b.keyInstall fu road sp h
  | 2 => b.keyClear road sp h
  | 3 => b.keyRead sp h
  | _ => b

/-- INSTALL written to LOCK_KCMD. -/
def execKeyInstall (road : Road) (sp : Fin 4) (h : Fin 131072) (s : State) : Host.Outcome State Fault Refusal :=
  s.next (s.blk.viaRoad road R.LOCK_KCMD (1 * 2 ^ 28 + sp.val * 2 ^ 17 + h.val) (fun b => b.keyInstall s.fuse road sp.val h.val))

/-- CLEAR written to LOCK_KCMD. -/
def execKeyClear (road : Road) (sp : Fin 4) (h : Fin 131072) (s : State) : Host.Outcome State Fault Refusal :=
  s.next (s.blk.viaRoad road R.LOCK_KCMD (2 * 2 ^ 28 + sp.val * 2 ^ 17 + h.val) (fun b => b.keyClear road sp.val h.val))

/-- READ written to LOCK_KCMD. -/
def execKeyRead (road : Road) (sp : Fin 4) (h : Fin 131072) (s : State) : Host.Outcome State Fault Refusal :=
  s.next (s.blk.viaRoad road R.LOCK_KCMD (3 * 2 ^ 28 + sp.val * 2 ^ 17 + h.val) (fun b => b.keyRead sp.val h.val))

end Sys2Proof.Machine
end

