-- ==== Sys2Proof/Machine/SecOps.lean ====
section
/-! DEFINITION. Debug sessions and zeroisation as the other chapters cause them (R417, R424, R434): session end, the commit. -/

namespace Sys2Proof.Machine

/-- The debug level at reset of a lifecycle state (R417): BLANK D3, MAKER D1, every other D0. -/
def resetLevel (lc : Nat) : Nat := if lc = 0 then 3 else if lc = 1 then 1 else 0

/-- b with the security state changed. -/
def Block.updSec (b : Block) (f : Sec → Sec) : Block := { b with sec := f b.sec }

/-- The lifecycle of the LC fuse bits (R417): 0 BLANK, 1 MAKER, 2 FIELD, 3 RETURN, 4 RETIRED. -/
def Fuses.lifecycle (fu : Fuses) : Nat :=
  match fuseByte fu.sec 0 % 16 with
  | 0 => 0 | 1 => 1 | 3 => 2 | 7 => 3 | _ => 4

/-- The DEBUG record of R436: REQUEST or new level, 0 granted, 1 rejected, 2 ended, COUNTER. -/
def Block.debugRec (b : Block) (what outcome : Nat) : Block :=
  b.event 21 33 0 (bytesLE 1 what ++ bytesLE 1 outcome ++ [0, 0] ++ bytesLE 4 b.sec.counter)

/-- A session ends (R434): the level returns to that of reset, a challenge is invalidated (R428), DEBUG fires. -/
def Block.endSession (b : Block) : Block :=
  let lv := resetLevel b.sec.lc
  if lv < b.sec.level then
    (b.updSec (fun c => { c with level := lv, chal := none })).debugRec lv 2
  else b

/-- A zeroisation is refused: SEC_WIPE cannot be written in EXHAUSTED (R451). -/
def Block.wipeRefused (b : Block) : Bool := !b.tallyOk 8

/-- A zeroisation has committed (R424): every key it held is destroyed, the staging buffer and the key cache are overwritten, a session
not granted D3 by open-and-wipe ends, WIPE fires. -/
def Block.wipeCommit (b : Block) : Block :=
  let b := b.updSec (fun c => { c with wipeWait := false })
  let b := b.updLock (fun l => { l with
    vault := [], cache := [], staging := [], staged := false, dirty := [], steward := none, vaultOk := false,
    rebuildOwed := true, backUses := 0, vaultUses := 0 })
  let b := if b.sec.lc = 2 ∧ b.sec.level = 3 then b else b.endSession
  b.wipeRec 0

/-- Zeroisation (R424): EPOCH + 1 with all three PEND bits in one tally write, committed once it is persistent; a trigger before that is
merged into it (R436). -/
def Block.zeroise (b : Block) : Block :=
  if b.wipeRefused || b.sec.wipeWait then b
  else
    let b := b.tallyPut 8 ((b.tally 8 + 1) % 2 ^ 24 + 7 * 2 ^ 28)
    if b.tallyDone 8 then b.wipeCommit else b.updSec (fun c => { c with wipeWait := true })

/-- An open-and-wipe goes on (R432): SEC_DBG_OPENED once its zeroisation has committed, level D3 and the grant once that is
persistent. -/
def Block.openGo (b : Block) : Block :=
  let b := if b.sec.openStep = 1 ∧ !b.sec.wipeWait then
      (b.tallyPut 9 (b.tally 9 + 1)).updSec (fun c => { c with openStep := 2 })
    else b
  if b.sec.openStep = 2 ∧ b.tallyDone 9 then
    (b.updSec (fun c => { c with openStep := 0, level := 3, status := 4 })).debugRec 3 0
  else b

/-- What waited for a tally write goes on once it is persistent (R424, R432). -/
def Block.secSettle (b : Block) : Block :=
  let b := if b.sec.wipeWait && b.tallyDone 8 then b.wipeCommit else b
  b.openGo

/-- The session ends by a seal, END or a fall to HALT; an open-and-wipe in progress is not granted D3 (R434, R436). -/
def Block.sealSession (b : Block) : Block := (b.updSec (fun c => { c with openStep := 0 })).endSession

end Sys2Proof.Machine
end

