-- ==== Sys2Proof/Machine/Cross.lean ====
section
/-! DEFINITION. Clock domains and crossing groups as the gaits use them (R361, R371 to R376): which domains run, latency modes,
parking. -/

namespace Sys2Proof.Machine

/-- An engine is neither OFF nor in RESET. -/
def Block.engUp (b : Block) (e : Nat) : Bool := b.est e != stOff && b.est e != stReset

/-- Domain d of R361 runs: 0 PADDOCK, 1 GROOM, 2 CORE, 3 WPHY, 4 MESH, 5 RING, 6 HOST. In WALK, CORE and MESH run while the
Saddle die is awake. The PCIe reference clock counts as present while the link is up (DEDUCED, log entry 33). -/
def Block.domRun (b : Block) (d : Nat) : Bool :=
  match d with
  | 0 => true
  | 1 => (b.watch.plan != 4 && b.watch.plan != 7) || b.on F.CLK_STATUS.PADDOCK_LOST
  | 2 => b.watch.plan ≤ 2 || b.watch.plan == 5 || b.watch.plan == 6 || (b.watch.plan == 3 && b.on F.WATCH_POWER_STATUS.AWAKE)
  | 3 => b.engUp 5 || b.engUp 6 || b.engUp 7
  | 4 => (b.engUp 9 || b.engUp 10) && (b.watch.plan != 3 || b.on F.WATCH_POWER_STATUS.AWAKE)
  | 5 => b.engUp 3 && (b.on F.CART_RING0.EN || b.on F.CART_RING1.EN)
  | _ => b.engUp 3 && b.host.linkUp

/-- CORE runs at 50 MHz: in WALK. -/
def Block.coreSlow (b : Block) : Bool := b.watch.plan == 3 && b.domRun 2

/-- The two domains of group g (R371); the Bridle die runs with WPHY, SCL and ASSAY do not stop. -/
def groupDoms (g : Nat) : List Nat :=
  match g with
  | 0 => [2, 3] | 1 => [3] | 2 => [2, 4] | 3 => [4] | 4 => [2, 5] | 5 => [2, 5] | 6 => [2, 6] | 7 => [2, 1] | 8 => [1, 0]
  | _ => [1]

/-- Groups that may run FAST (R371). -/
def fastGroup (g : Nat) : Bool := g == 0 || g == 2 || g == 7

/-- Both clocks of group g run. -/
def Block.groupRuns (b : Block) (g : Nat) : Bool := (groupDoms g).all (fun d => b.domRun d)

/-- Group g is parked (R375). -/
def Block.parked (b : Block) (g : Nat) : Bool := bitOf (b.get F.CLK_XSTATUS.PARKED) g

/-- The group's idle instant (R373, R374): the bit of CLK_XMODE takes effect; FAST_ON follows unless R373 keeps the group in
FULL, and a fall from FAST for that reason is counted. -/
def Block.xmode (b : Block) (g : Nat) : Block :=
  if !fastGroup g then b
  else
    let cur := b.get F.CLK_XMODE.FAST
    let b := match b.shadow? F.CLK_XMODE.FAST with
      | some v =>
        let b := b.set F.CLK_XMODE.FAST (setBit cur g (bitOf v g))
        if b.get F.CLK_XMODE.FAST = v then { b with shadows := b.shadows.filter (fun s => s.1 != F.CLK_XMODE.FAST) } else b
      | none => b
    let want := bitOf (b.get F.CLK_XMODE.FAST) g
    let full := !b.groupRuns g || b.watch.plan == 3
    let was := bitOf (b.get F.CLK_XSTATUS.FAST_ON) g
    let b := if was && want && full then b.count (.clk (Fin.ofNat 11 g)) C.CLK.FAST_FALLBACK else b
    b.set F.CLK_XSTATUS.FAST_ON (setBit (b.get F.CLK_XSTATUS.FAST_ON) g (want && !full))

/-! ### Replies of the Hatch -/

/-- Bytes stored into HATCH_DATA from register k on, four to a register, the last padded with zeros. -/
def Block.putHatch (b : Block) (k : Nat) : List Byte → Block
  | [] => b
  | [x] => b.set (F.HATCH_DATA.DATA k) x.toNat
  | [x, y] => b.set (F.HATCH_DATA.DATA k) (x.toNat + 2 ^ 8 * y.toNat)
  | [x, y, z] => b.set (F.HATCH_DATA.DATA k) (x.toNat + 2 ^ 8 * y.toNat + 2 ^ 16 * z.toNat)
  | x :: y :: z :: w :: t =>
    (b.set (F.HATCH_DATA.DATA k) (x.toNat + 2 ^ 8 * y.toNat + 2 ^ 16 * z.toNat + 2 ^ 24 * w.toNat)).putHatch (k + 1) t

/-- HATCH_STATUS: 1 BUSY, 2 DONE, 3 FAILED. -/
def Block.hatchStatus (b : Block) (st result len : Nat) : Block :=
  ((b.set F.HATCH_STATUS.STATE st).set F.HATCH_STATUS.RESULT result).set F.HATCH_STATUS.LEN len

/-- A Hatch command ends with a RESULT and its reply (R487). -/
def Block.hatchEnd (b : Block) (r : AssayResult) (data : List Byte) : Block :=
  let b := b.putHatch 0 data
  let ok := r == .ok
  let b : Block := { b.hatchStatus (if ok then 2 else 3) r.code data.length with hatch := none }
  b.count .hatch (if ok then C.HATCH.CMD_DONE else C.HATCH.CMD_FAILED)

/-- Group g is parked (R375): what it carries stays with its senders. A command of the Hatch in progress over group 10 fails with TIMEOUT
(R489). -/
def Block.park (b : Block) (g : Nat) : Block :=
  let b := b.set F.CLK_XSTATUS.PARKED (setBit (b.get F.CLK_XSTATUS.PARKED) g true)
  if g = 10 ∧ b.hatch.isSome then b.hatchEnd .timeout [] else b

/-! ### Host rings as their doorbells reach them -/

/-- Descriptors of ring q (HOST_TXn_CTRL.SIZE_LOG2). -/
def Block.ringSize (b : Block) (q : Nat) : Nat := 2 ^ clampTo 6 14 (b.get (F.HOST_RING_CTRL.SIZE_LOG2 q))

/-- Descriptors of ring q that the host has posted and the device has not consumed (R335). -/
def Block.ringPosted (b : Block) (q : Nat) : Nat :=
  (b.get (F.HOST_RING_PROD.PROD q) + 2 ^ 16 - b.get (F.HOST_RING_CONS.CONS q)) % 2 ^ 16

/-- Ring q stopped (R335, R338): EN clears, its bit of HOST_STATUS is set, DMA_FAULT fires. -/
def Block.ringStop (b : Block) (q : Nat) : Block :=
  let b := b.set (F.HOST_RING_CTRL.EN q) 0
  let f := if q < 8 then F.HOST_STATUS.TX_STOPPED else F.HOST_STATUS.RX_STOPPED
  let b := b.set f (setBit (b.get f) (q % 8) true)
  b.fire 23 18 (bytesLE 1 (q % 8) ++ bytesLE 1 (q / 8))

/-- A producer index taken (R335): more than the ring's size ahead of CONS it stops a running ring. -/
def Block.doorbell (b : Block) (q v : Nat) : Block :=
  let b := b.set (F.HOST_RING_PROD.PROD q) v
  if b.on (F.HOST_RING_CTRL.EN q) && decide (b.ringSize q < b.ringPosted q) then b.ringStop q else b

/-! ### VALUE crossings (R367): doorbells of ring k in group 6, PPS_IN edges in group 8 (log entry 80) -/

/-- A value at its receiver. -/
def Block.valueGot (b : Block) (g k v : Nat) : Block :=
  let b := b.count (.clk (Fin.ofNat 11 g)) C.CLK.XFER
  if g = 6 then b.doorbell k v else { b with watch := { b.watch with ppsSample := some v } }

/-- The crossing without its outstanding request. -/
def Block.valueDone (b : Block) (x : ValueX) : Block := { b with clk := { b.clk with values := b.clk.values.erase x } }

/-- The outstanding requests of group g taken: the published value, then the held one, which is published at the acknowledge. -/
def Block.valueTake (b : Block) (g : Nat) : Block :=
  (b.clk.values.filter (fun x => x.g == g)).foldl (fun b x =>
    let b := (b.valueDone x).valueGot g x.k x.pub
    match x.held with
    | some v => b.valueGot g x.k v
    | none => b) b

/-- A value sent: published when no request is outstanding, else held, over a value held already, which counts one in SUPERSEDED. On an
unparked group it is taken within the command that sends it (log entry 80). -/
def Block.valueSend (b : Block) (g k v : Nat) : Block :=
  let b := match b.clk.values.find? (fun x => x.g == g && x.k == k) with
    | none => { b with clk := { b.clk with values := b.clk.values ++ [({ g := g, k := k, pub := v } : ValueX)] } }
    | some x =>
      let b := if x.held.isSome then b.count (.clk (Fin.ofNat 11 g)) C.CLK.SUPERSEDED else b
      { b.valueDone x with clk := { b.clk with values := b.clk.values.erase x ++ [{ x with held := some v }] } }
  if b.parked g then b else b.valueTake g

/-- Group g is unparked (R375): the latest values are delivered; EVENT occurrences held are delivered; noise windows are the group 7 kind the model carries. -/
def Block.unpark (b : Block) (g : Nat) : Block :=
  if b.parked g then
    let n := look b.clk.held g 0
    let b := b.set F.CLK_XSTATUS.PARKED (setBit (b.get F.CLK_XSTATUS.PARKED) g false)
    let b : Block := { b with clk := { b.clk with held := put b.clk.held g 0 0 } }
    let c : CntSet := .clk (Fin.ofNat 11 g)
    let b := (b.count c C.CLK.EVT_SENT n).count c C.CLK.EVT_RECEIVED n
    let b := b.valueTake g
    if g = 7 ∧ 2 ≤ n then b.noisePass.noisePass else if g = 7 ∧ n = 1 then b.noisePass else b
  else b

/-- Every group follows the clocks after a gait change, a demand start or stop, or a step of the start sequence: parked where
a clock has stopped, unparked where both run, modes as R373 has them. -/
def Block.crossSettle (b : Block) : Block :=
  (List.range 11).foldl (fun b g => (if b.groupRuns g then b.unpark g else b.park g).xmode g) b

end Sys2Proof.Machine
end

