-- ==== Sys2Proof/Machine/AirQ.lean ====
section
/-! DEFINITION. Octets of an Ethernet frame, and how Carter hands a frame to Drover's queues (R148 to R150). -/

namespace Sys2Proof.Machine

/-- The octets of a frame from DA on, without FCS (IEEE 802.3, 802.1Q). -/
def frameBytes (f : EthFrame) : List Byte :=
  bytesBE 6 f.da ++ bytesBE 6 f.sa ++
    (match f.tag with | some (p, v) => bytesBE 2 0x8100 ++ bytesBE 2 (p % 8 * 2 ^ 13 + v % 2 ^ 12) | none => []) ++
    bytesBE 2 f.etype ++ f.payload

/-- Octets of a frame with its FCS, at least the 64 of IEEE 802.3. -/
def frameLen (f : EthFrame) : Nat := max 64 (18 + f.payload.length + (if f.tag.isSome then 4 else 0))

/-- The access category of a user priority: 0 = BE, 1 = BK, 2 = VI, 3 = VO (IEEE 802.11). -/
def acOf (up : Nat) : Nat :=
  match up with
  | 1 => 1 | 2 => 1 | 4 => 2 | 5 => 2 | 6 => 3 | 7 => 3 | _ => 0

/-- Address of the class entry of a station (R148). -/
def Block.classAt (b : Block) (sta : Nat) : Nat := 0x2820000 + 8 * (b.drovCtrl sta % 64)

/-- WEIGHT of a station's class for an access category. -/
def Block.weight (b : Block) (sta ac : Nat) : Nat := max 1 (b.btab 4 0 (b.classAt sta + ac) 1)

/-- RETRY_LIMIT of a station's class. -/
def Block.retryLimit (b : Block) (sta : Nat) : Nat := clampTo 1 15 (b.btab 4 0 (b.classAt sta + 6) 1)

/-- Octets a queue may hold: the class's MAX_QUEUE_KIB, or 256 KiB for a group queue (R148, R150). -/
def Block.queueLimit (b : Block) (key : Nat) : Nat :=
  1024 * (if key < 8192 then
    (let v := b.btab 4 0 (b.classAt (key / 4) + 4) 2
     if v = 0 then 64 else v)
  else 256)

/-- A frame in queue key, its cells its own (pool 0) or a share of a holding already counted; dropped beyond the limit or for a
station that is not VALID, its cells returned (R149, R150). -/
def Block.airPut (b : Block) (key tid : Nat) (f : EthFrame) (cells pool : Nat) : Block :=
  let q := b.queue key
  let len := frameLen f
  let x : QFrame := { id := b.drov.nextId, tid := tid, len := len, cells := cells, pool := pool, arrival := b.ao / 1000000, frame := f }
  if (decide (key < 8192) && !b.drovValid (key / 4)) ||
      decide (b.queueLimit key < sumNat (q.map (fun y => y.len)) + len) || !b.runs 4 then
    (b.dropFrame x).count (.drov (Fin.ofNat 3 (b.queueRadio key))) C.DROV.Q_FULL_DROP
  else ({ b with drov := { b.drov with nextId := b.drov.nextId + 1 } }).setQueue key (q ++ [x])

end Sys2Proof.Machine
end

