-- ==== Sys2Proof/Machine/Carter.lean ====
section
/-! DEFINITION. Carter's forwarding pipeline (R270 to R281, R284, R285, R288 to R292, R298) and the steward path. -/

namespace Sys2Proof.Machine

/-! ### Ports and sources -/

/-- Port of a source index (R270): 0 RING-A, 1 RING-B, 2 HOST, 3 MESH, 4 AIR, 5 BACKHAUL, 6 LOCAL. -/
def portOf (s : Nat) : Nat :=
  if s ≤ 1 then s else if s ≤ 9 then 2 else if s = 10 then 6 else if s = 11 then 5 else if s ≤ 15 then 3 else 4

/-- Pipe of a source index (R270). -/
def pipeOf (s : Nat) : Nat := if s = 1 ∨ s = 11 ∨ 16 ≤ s then 1 else 0

/-- The device MAC as 48 bits in transmission order (CART_MAC_LO, CART_MAC_HI). -/
def Block.cartMac (b : Block) : Nat :=
  natBE (bytesLE 4 (b.get F.CART_MAC_LO.OCT0_3) ++ bytesLE 2 (b.get F.CART_MAC_HI.OCT4_5))

/-- CART_CFG.MTU. -/
def Block.mtu (b : Block) : Nat := clampTo 1518 9216 (b.get F.CART_CFG.MTU)

/-- Byte o of a source entry (R273). -/
def Block.srcByte (b : Block) (s o : Nat) : Nat := b.btab 3 2 (0x2238000 + 8 * s + o) 1

/-- FLAGS of a source entry. -/
def Block.srcFlags (b : Block) (s : Nat) : Nat := b.srcByte s 4

/-- PVID of a source entry. -/
def Block.pvid (b : Block) (s : Nat) : Nat := b.btab 3 2 (0x2238000 + 8 * s) 2 % 4096

/-- Byte o of a VLAN entry: MEMBER, UNTAG, FLAGS (R273). -/
def Block.vlanByte (b : Block) (v o : Nat) : Nat := b.btab 3 1 (0x2230000 + 8 * v + o) 1

/-- The MEMBER and UNTAG bit of a port. -/
def memberBit (port : Nat) : Nat := match port with | 0 => 0 | 1 => 1 | 2 => 2 | 4 => 3 | 5 => 4 | _ => 7

/-- EN of a ring port. -/
def ringEnFld (p : Nat) : Fld := if p = 0 then F.CART_RING0.EN else F.CART_RING1.EN

/-- SPEED of a ring port. -/
def ringSpeedFld (p : Nat) : Fld := if p = 0 then F.CART_RING0.SPEED else F.CART_RING1.SPEED

/-- A ring port's EN and SPEED let it work. -/
def Block.ringOn (b : Block) (p : Nat) : Bool := b.on (ringEnFld p) && decide (b.get (ringSpeedFld p) ≤ 1)

/-- LINK_x of a ring port. -/
def ringLinkFld (p : Nat) : Fld := if p = 0 then F.CART_STATUS.LINK_A else F.CART_STATUS.LINK_B

/-- BLOCK_x of a ring port. -/
def ringBlockFld (p : Nat) : Fld := if p = 0 then F.CART_PORTCTL.BLOCK_A else F.CART_PORTCTL.BLOCK_B

/-- The radio whose backhaul station carries the BACKHAUL port: LM-6G's when both are set (R132). -/
def Block.bhRadio (b : Block) : Option Nat :=
  [0, 1].find? (fun r => b.on (F.LM_BH_CTRL.EN r) && !b.on (F.LM_BH_STATUS.CONFLICT r) && b.runs (lmEngine r))

/-- The BACKHAUL port is up (R134). -/
def Block.bhUp (b : Block) : Bool := match b.bhRadio with | some r => b.on (F.LM_BH_STATUS.LINKED r) | none => false

/-- The station index of the upstream. -/
def Block.bhSta (b : Block) : Nat := match b.bhRadio with | some r => b.get (F.LM_BH_CTRL.STA r) | none => 0

/-! ### Troughs -/

/-- Trough t. -/
def Block.trough (b : Block) (t : Nat) : Trough := (b.cart.troughs.find? (fun q => q.t == t)).getD { t := t }

/-- b with trough t replaced; an empty trough without a deficit is not listed. -/
def Block.setTrough (b : Block) (q : Trough) : Block :=
  let rest := b.cart.troughs.filter (fun x => x.t != q.t)
  b.updCart (fun c => { c with troughs := if q.frames.isEmpty ∧ q.deficit = 0 then rest else rest ++ [q] })

/-- Cells a trough holds in the Cellar and the Loft (R281). -/
def Block.troughHeld (b : Block) (t : Nat) : Nat :=
  sumNat ((b.trough t).frames.map (fun f => match b.poolAt f.pool with | some u => u.cells | none => 0))

/-- A frame of n cells is admitted to trough t (R281). -/
def Block.admits (b : Block) (t n : Nat) : Bool :=
  let a := 0x2238400 + 8 * t
  let held := b.troughHeld t
  let minC := b.btab 3 4 (a + 2) 2
  let maxC := b.btab 3 4 (a + 4) 4
  let free := b.cart.cellar + (if b.on F.CART_BUF.LOFT_EN then b.cart.loft else 0)
  decide (held + n ≤ minC) ||
    !((maxC != 0 && decide (maxC < held + n)) || decide (free * 2 ^ min 7 (b.get F.CART_BUF.ALPHA) / 16 < held + n))

/-- A frame with a share of its holding put into trough t, or its share dropped and the refusal counted at the egress port
(R281, R284). size: the octets it is admitted as. -/
def Block.troughPut (b : Block) (t size : Nat) (f : CartFrame) : Block :=
  let p := t / 8
  let down := decide (p ≤ 1) && !(b.on (ringLinkFld p) && b.ringOn p)
  if down || !b.admits t (cellsFor size) then (b.poolDrop f.pool).cartCount p C.CART.ADMIT_DROP
  else let q := b.trough t; b.setTrough { q with frames := q.frames ++ [f] }

/-! ### The steward path -/

/-- Class of steward-path frames and LOCAL replies. -/
def Block.stewCls (b : Block) : Nat := b.get F.CART_STEWARD.CLASS

/-- A steward-path frame (R291), its cells held by pool: to the HOST trough, or to LOCAL, which holds it with its cells until its
delivery (R32) and drops it while it knows no return path (R353). -/
def Block.stewardPath (b : Block) (f : CartFrame) : Block :=
  if !b.on F.CART_STEWARD.PATH && b.portUp then b.troughPut (16 + b.stewCls) f.len { f with steward := true }
  else
    match b.creosh.ret with
    | none => (b.poolDrop f.pool).count .host C.HOST.RETURN_NONE
    | some _ => b.updCart (fun c => { c with inbox := c.inbox ++
        [(f.pool, ⟨f.src, b.stewCls, f.vlan, f.ts.getD 0, if f.raw.isEmpty then frameBytes f.frame else f.raw⟩)] })

/-- A delivery of n octets from Post or a link MAC for the steward (R106, R208): its cells reserved here, dropped without any. -/
def Block.stewDeliver (b : Block) (src vlan : Nat) (octets : List Byte) (ts : Option Nat) : Block :=
  let n := cellsFor octets.length
  match b.takeCells n with
  | none => b.cartCount (portOf src) C.CART.NOCELL_DROP
  | some b =>
    let (id, b) := b.poolOpen n 1
    b.stewardPath { pool := id, src := src, vlan := vlan, len := octets.length, ts := ts, raw := octets,
                    frame := ⟨0, 0, none, 0, []⟩ }

/-! ### The MAC table -/

/-- Bucket of an address (R274; log entry 12). -/
def macBucket (mac vlan : Nat) : Nat := (Config.macHash mac vlan).toNat

/-- The MAC entry of an address in a VLAN. -/
def Block.macAt (b : Block) (mac vlan : Nat) : Option MacEntry := b.cart.macs.find? (fun m => m.mac == mac && m.vlan == vlan)

/-- Order of MAC entries in the table: bucket, then way. -/
def macKey (m : MacEntry) : Nat := 4 * m.bucket + m.way

/-- An entry put in its place. -/
def macIns (l : List MacEntry) (m : MacEntry) : List MacEntry :=
  l.filter (fun x => decide (macKey x < macKey m)) ++ [m] ++ l.filter (fun x => decide (macKey m < macKey x))

/-- The way a new entry of a bucket takes: a free one, else that of the oldest learned entry; none when all are static. -/
def Block.macWay (b : Block) (bucket : Nat) : Option Nat :=
  let es := b.cart.macs.filter (fun m => m.bucket == bucket)
  match (List.range 4).find? (fun w => es.all (fun m => m.way != w)) with
  | some w => some w
  | none => ((es.filter (fun m => !m.static)).foldl (fun (best : Option MacEntry) m =>
      match best with
      | none => some m
      | some k => if k.age < m.age then some m else some k) none).map (fun m => m.way)

/-- An entry created, or none when its bucket is full of static entries (R274, R275). -/
def Block.macPut (b : Block) (mac vlan dest : Nat) (static : Bool) : Option Block :=
  match b.macAt mac vlan with
  | some m => some (b.updCart (fun c => { c with macs := macIns c.macs { m with dest := dest, static := static, age := 0 } }))
  | none =>
    let k := macBucket mac vlan
    (b.macWay k).map (fun w => b.updCart (fun c => { c with macs := macIns c.macs ⟨k, w, mac, vlan, dest, static, 0⟩ }))

/-- A group address: the first bit on the wire is 1. -/
def isGroup (mac : Nat) : Bool := bitOf mac 40

/-- DEST of a source (R275). -/
def Block.srcDest (s : Nat) (sta : Option Nat) : Nat :=
  match portOf s with
  | 0 => 0 | 1 => 0x1000 | 2 => 0x2000 | 4 => 0x3000 + sta.getD 0 % 2048 | 5 => 0x4000 | _ => 0x7000

/-- Learning (R275). -/
def Block.macLearn (b : Block) (g : Ingress) (vlan : Nat) : Block :=
  if !bitOf (b.srcFlags g.src) 1 || !bitOf (b.vlanByte vlan 2) 2 || !b.on F.CART_L2.LEARN_EN || isGroup g.frame.sa then b
  else
    let dest := Block.srcDest g.src g.sta
    match b.macAt g.frame.sa vlan with
    | some m => if m.static then b else (b.macPut g.frame.sa vlan dest false).getD b
    | none => match b.macPut g.frame.sa vlan dest false with
      | some b' => b'
      | none => b.cartCount 7 C.CART.LEARN_FULL

/-! ### Classification, ACL, policers -/

/-- The class of a frame from its source's TRUST (R273). -/
def Block.classOf (b : Block) (g : Ingress) : Nat :=
  let trust := b.srcByte g.src 2
  let dflt := b.srcByte g.src 3 % 8
  let pcp := match g.frame.tag with | some (p, _) => p % 8 | none => dflt
  match trust, g.ip with
  | 0, _ => dflt
  | 2, some h => b.btab 3 3 (0x2238200 + h.dscp % 64) 1 % 8
  | _, _ => pcp

/-- The 28 bytes of an ACL key for a frame (R277); addrSa selects SA for IPv6. -/
def aclKey (g : Ingress) (vlan : Nat) (addrSa : Bool) : List Byte :=
  let h := g.ip
  let ip (f : IpHdr → Nat) : Nat := match h with | some x => f x | none => 0
  bytesLE 1 g.src ++ bytesLE 1 (ip (fun x => x.proto)) ++ bytesLE 2 vlan ++ bytesLE 2 g.frame.etype ++
    bytesLE 1 (ip (fun x => x.dscp % 64)) ++ bytesLE 1 (ip (fun x => b2n x.v6 + 2 * b2n x.frag)) ++
    bytesLE 2 (ip (fun x => x.sport)) ++ bytesLE 2 (ip (fun x => x.dport)) ++
    (match h with
     | none => List.replicate 16 0
     | some x => if x.v6 then bytesBE 16 (if addrSa then x.sa else x.da)
                 else bytesBE 4 x.sa ++ bytesBE 4 x.da ++ List.replicate 8 0)

/-- ACTION of the lowest-indexed valid ACL entry that matches (R277). -/
def Block.aclAction (b : Block) (g : Ingress) (vlan : Nat) : Option Nat :=
  let base := 0x21F0000 + bankOff (b.active 3 0)
  let hit (i : Nat) : Option Nat :=
    let a := base + 64 * i
    let act := readLE b.tabs 0 (a + 0x3C) 4
    let key := readBytes b.tabs 0 a 28
    let mask := readBytes b.tabs 0 (a + 0x20) 28
    let v := aclKey g vlan (bitOf act 16)
    if bitOf act 31 && ((v.zip (key.zip mask)).all (fun p => p.1 &&& p.2.2 == p.2.1 &&& p.2.2)) then some act else none
  (b.liveIdx base (4096 * 64) 64 0x3F).findSome? hit

/-- A frame of L octets at policer i: none when it does not pass, else LEVEL with it (R278). A policer not VALID passes all. -/
def Block.meter (b : Block) (i len : Nat) : Option Block :=
  let a := 0x21C0000 + 16 * i
  if !bitOf (b.tab (a + 8) 1) 0 then some b
  else
    let rate := b.tab a 4
    -- LEVEL drains at RATE_KBPS: rate × 1000 / 8 octets a second, so rate × dt / 8,000,000 octets in dt ns
    let t0 := look b.cart.polAt i b.mono
    let drained := rate * (b.mono - t0) / 8000000
    let level := b.tab (a + 0xC) 4 - drained
    let b := b.setTab (a + 0xC) 4 level
    let used := if rate = 0 then b.mono else t0 + drained * 8000000 / rate
    let b := b.updCart (fun c => { c with polAt := put' c.polAt i (if level = 0 then b.mono else used) })
    if level + len ≤ b.tab (a + 4) 4 then some (b.setTab (a + 0xC) 4 (level + len)) else none

/-! ### Forwarding decisions -/

/-- Where one copy of a frame goes. -/
inductive Copy where
  | trough (port : Nat)
  | sta (i : Nat) (da : Option Nat)
  | group (radio bss : Nat)
  | backhaul
  deriving DecidableEq, Repr

/-- What the pipeline decides for a frame. -/
inductive Fate where
  | drop (n : Nat)
  | quiet
  | stew (n : Option Nat)
  | out (vlan : Nat) (frame : EthFrame) (copies : List Copy)
  deriving DecidableEq, Repr

/-- Copies toward one port; a frame never leaves by the port it came in on, but for AIR within INTRA_AIR (R279). -/
def Block.mayLeave (b : Block) (g : Ingress) (inVlan vlan : Nat) (port : Nat) : Bool :=
  portOf g.src != port || (port == 4 && inVlan == vlan && bitOf (b.vlanByte vlan 2) 4)

/-- The BSSs of a VLAN: those whose valid source entry has that PVID (R273). -/
def Block.vlanBss (b : Block) (vlan : Nat) : List (Nat × Nat) :=
  ((List.range 48).filter (fun i => bitOf (b.srcFlags (16 + i)) 0 && b.pvid (16 + i) == vlan)).map (fun i => (i / 16, i % 16))

/-- Copies of a frame flooded in a VLAN (R279, R289). -/
def Block.flood (b : Block) (g : Ingress) (vlan : Nat) : List Copy :=
  let on (p : Nat) : Bool := bitOf (b.vlanByte vlan 0) (memberBit p) && b.mayLeave g vlan vlan p
  (([0, 1, 2].filter on).map Copy.trough) ++
    (if on 4 then (b.vlanBss vlan).map (fun x => Copy.group x.1 x.2) else []) ++
    (if on 5 then [Copy.backhaul] else [])

/-- Copies of a frame that uses multicast group i (R289), and whether it was converted. -/
def Block.groupCopies (b : Block) (g : Ingress) (vlan i : Nat) : List Copy × Nat :=
  let a := 0x21E0000 + 16 * i
  let ports := b.tab a 1
  let on (p : Nat) : Bool := bitOf (b.vlanByte vlan 0) (memberBit p) && b.mayLeave g vlan vlan p
  let base := b.tab (a + 2) 2
  let n := min 16384 (b.tab (a + 4) 2)
  let ms := ((List.range n).map (fun k => b.tab (0x21E8000 + 2 * ((base + k) % 16384)) 2)).filter (fun v => bitOf v 15)
  let bss := natLE (readBytes b.tabs 0 (a + 6) 6)
  let wired := ([(0, 0), (1, 1), (2, 2)].filter (fun x => bitOf ports x.1 && on x.2)).map (fun x => Copy.trough x.2)
  let bh := if bitOf ports 3 && on 5 then [Copy.backhaul] else []
  if portOf g.src = 4 && !b.mayLeave g vlan vlan 4 then (wired ++ bh, 0)
  else if bitOf (b.tab (a + 1) 1) 1 && decide (ms.length ≤ b.get F.CART_CFG.CONV_MAX) then
    let sts := (ms.map (fun v => v % 2048)).filter (fun x => g.sta != some x)
    (wired ++ bh ++ sts.map (fun x => Copy.sta x (some (natBE (readBytes b.tabs 0 (staAddr (b.staRadio x) x) 6)))), sts.length)
  else
    (wired ++ bh ++ ((List.range 48).filter (fun k => bitOf bss k)).map (fun k => Copy.group (k / 16) (k % 16)), 0)

/-- The fate of a frame with a DEST (R274). -/
def Block.destFate (b : Block) (g : Ingress) (inVlan vlan : Nat) (f : EthFrame) (dest : Nat) : Fate × Nat :=
  let one (p : Nat) (c : Copy) : Fate × Nat := if b.mayLeave g inVlan vlan p then (.out vlan f [c], 0) else (.quiet, 0)
  match dest / 4096 with
  | 0 => one 0 (.trough 0)
  | 1 => one 1 (.trough 1)
  | 2 => one 2 (.trough 2)
  | 3 => one 4 (.sta (dest % 2048) none)
  | 4 => one 5 .backhaul
  | 5 =>
    let i := dest % 2048
    if bitOf (b.tab (0x21E0000 + 16 * i + 1) 1) 0 then
      let r := b.groupCopies g vlan i
      (.out vlan f r.1, r.2)
    else (.quiet, 0)
  | 6 => (.stew none, 0)
  | _ => (.quiet, 0)

/-- The next hop of the longest matching VALID prefix, the lower index among equals (R276). -/
def Block.routeFor (b : Block) (h : IpHdr) : Option Nat :=
  let better (best : Option (Nat × Nat)) (x : Nat × Nat) : Option (Nat × Nat) :=
    match best with
    | none => some x
    | some y => if y.1 < x.1 then some x else some y
  if h.v6 then
    let hit := (b.liveIdx 0x2140000 (16384 * 24) 24 0x11).filterMap (fun i =>
      let a := 0x2140000 + 24 * i
      let len := b.tab (a + 0x10) 1
      if bitOf (b.tab (a + 0x11) 1) 0 && decide (len ≤ 128) &&
          natBE (readBytes b.tabs 0 a 16) / 2 ^ (128 - len) == h.da / 2 ^ (128 - len) then
        some (len, b.tab (a + 0x12) 2 % 8192) else none)
    (hit.foldl better none).map (fun x => x.2)
  else
    let hit := (b.liveIdx 0x2100000 (32768 * 8) 8 4).filterMap (fun i =>
      let a := 0x2100000 + 8 * i
      let v := b.tab (a + 4) 1
      let len := v % 64
      if bitOf v 7 && decide (len ≤ 32) && natBE (readBytes b.tabs 0 a 4) / 2 ^ (32 - len) == h.da / 2 ^ (32 - len) then
        some (len, b.tab (a + 6) 2 % 8192) else none)
    (hit.foldl better none).map (fun x => x.2)

/-- An IP header's payload with TTL or hop limit reduced by 1 and the IPv4 checksum updated incrementally (R280). -/
def hopDown (v6 : Bool) (p : List Byte) : List Byte :=
  if v6 then upd p 7 (fun x => x - 1)
  else
    let c := natBE ((p.drop 10).take 2)
    -- TTL is the high octet of its 16-bit word, so the sum falls by 0x0100 and the checksum rises by it, end-around
    let c' := (if 0xFFFF ≤ c + 0x100 then c + 0x100 - 0xFFFF else c + 0x100)
    let p := upd p 8 (fun x => x - 1)
    upd (upd p 10 (fun _ => BitVec.ofNat 8 (c' / 256))) 11 (fun _ => BitVec.ofNat 8 c')

/-- The fate of a routed frame (R280). -/
def Block.routeFate (b : Block) (g : Ingress) (inVlan : Nat) (h : IpHdr) : Fate × Nat :=
  if !h.v6 && !h.csumOk then (.drop C.CART.IP_HDR_ERR, 0)
  else if h.ttl ≤ 1 then (.stew (some C.CART.TTL_STEWARD), 0)
  else match b.routeFor h with
    | none => (.drop C.CART.ROUTE_MISS, 0)
    | some n =>
      let a := 0x21A0000 + 16 * n
      let fl := b.tab (a + 0xA) 1
      if !bitOf fl 0 then (.drop C.CART.ROUTE_MISS, 0)
      else if bitOf fl 1 then (.quiet, 0)
      else if bitOf fl 2 then (.stew none, 0)
      else
        let dest := b.tab (a + 8) 2
        if dest / 4096 = 5 then (.quiet, 0)
        else
          let f := { g.frame with da := natBE (readBytes b.tabs 0 a 6), sa := b.cartMac, payload := hopDown h.v6 g.frame.payload }
          b.destFate g inVlan (b.tab (a + 6) 2 % 4096) f dest

/-- The lookup of a frame that is not routed (R274, R279, R289). -/
def Block.lookFate (b : Block) (g : Ingress) (vlan : Nat) : Fate × Nat :=
  let da := g.frame.da
  match (if da = 2 ^ 48 - 1 then none else b.macAt da vlan) with
  | some m => b.destFate g vlan vlan g.frame m.dest
  | none =>
    if da = 2 ^ 48 - 1 ∨ bitOf (b.vlanByte vlan 2) 3 then (.out vlan g.frame (b.flood g vlan), 65536)
    else (.quiet, 0)

/-! ### Enqueueing -/

/-- The frame as it is enqueued toward AIR or BACKHAUL: untagged where UNTAG says so (R279). -/
def Block.airFrame (b : Block) (port vlan cls : Nat) (f : EthFrame) (da : Option Nat) : EthFrame :=
  { f with da := da.getD f.da, tag := if bitOf (b.vlanByte vlan 1) (memberBit port) then none else some (cls, vlan) }

/-- One copy of a frame of holding id handed on; the copy's share of the holding is dropped when it goes nowhere. -/
def Block.sendCopy (b : Block) (g : Ingress) (id vlan cls size : Nat) (f : EthFrame) (c : Copy) : Block :=
  let air (b : Block) (port key : Nat) (da : Option Nat) : Block :=
    if 2304 < f.payload.length then (b.poolDrop id).cartCount (portOf g.src) C.CART.OVERSIZE
    else b.airPut key cls (b.airFrame port vlan cls f da) (cellsFor g.len) id
  match c with
  | .trough p => b.troughPut (8 * p + cls) size
      { pool := id, src := g.src, vlan := vlan, len := g.len, oneStep := g.oneStep, tsReq := g.tsReq, ts := g.ts, frame := f }
  | .sta i da => air b 4 (4 * i + acOf cls) da
  | .group r bss => air b 4 (8192 + 16 * r + bss) none
  | .backhaul =>
    if b.bhUp then air b 5 (4 * b.bhSta + acOf cls) none else (b.poolDrop id).cartCount 5 C.CART.BH_DOWN_DROP

/-- The conditions of R285 for a frame that leaves as f, its only copy toward ring port p in class cls: a routed one does not. -/
def Block.cutsThrough (b : Block) (g : Ingress) (vlan cls : Nat) (f : EthFrame) (copies : List Copy) : Bool :=
  match copies with
  | [.trough p] =>
    decide (g.src ≤ 1 ∧ p ≤ 1 ∧ p ≠ g.src) && f == g.frame && b.on F.CART_CFG.CT_EN &&
      b.get (ringSpeedFld 0) == b.get (ringSpeedFld 1) && b.cart.keeper.isOpen &&
      (b.trough (8 * p + cls)).frames.isEmpty && b.cart.cut.all (fun c => c.ingress != g.src) &&
      g.frame.tag.isSome == !bitOf (b.vlanByte vlan 1) (memberBit p)
  | _ => false

/-- A frame dropped in its pipe, counted at its port and in the pipe's lane. -/
def Block.pipeDrop (b : Block) (src n : Nat) : Block := (b.cartCount (portOf src) n).lane 3 (pipeOf src) 1

/-- LOCAL takes one steward frame more in the present 100 µs (R290). -/
def Block.localTake (b : Block) (src : Nat) : Block × Bool :=
  let idx := (b.mono - b.cart.runSince) / 100000
  let n := if b.cart.rateIdx = idx then b.cart.rateN else 0
  let rate := b.get F.CART_STEWARD.RATE
  if rate != 0 && decide (rate ≤ n) then (b.pipeDrop src C.CART.STEWARD_DROP, false)
  else ((b.updCart (fun c => { c with rateIdx := idx, rateN := n + 1 })).cartCount (portOf src) C.CART.STEWARD_RX, true)

/-- A frame dropped before its cells are shared out: cells the caller held for it go back. -/
def Block.giveBack (b : Block) (held : Option Nat) : Block := match held with | some n => b.freeCells n | none => b

/-- A steward frame at LOCAL (R290, R292): like every frame it lands in the Cellar first, without cells it is dropped (R281). -/
def Block.localFrame (b : Block) (g : Ingress) (held : Option Nat) : Block :=
  if held.isNone && decide (b.cart.cellar < cellsFor g.len) then b.pipeDrop g.src C.CART.NOCELL_DROP
  else ((b.localTake g.src).1).giveBack held

/-- The cells of an arriving frame: those it holds already, or new ones (R111, R281). -/
def Block.ingressCells (b : Block) (len : Nat) (held : Option Nat) : Option Block :=
  match held with
  | some _ => some b
  | none => b.takeCells (cellsFor len)

/-- The copies of a decided frame sent out over one holding of its cells (R281, R285). -/
def Block.sendOut (b : Block) (g : Ingress) (held : Option Nat) (vlan cls : Nat) (f : EthFrame) (copies : List Copy) : Block :=
  if copies.isEmpty then (b.giveBack held).lane 3 (pipeOf g.src) 1
  else match b.ingressCells g.len held with
    | none => b.pipeDrop g.src C.CART.NOCELL_DROP
    | some b =>
      let n := held.getD (cellsFor g.len)
      let (id, b) := b.poolOpen n copies.length
      if b.cutsThrough g vlan cls f copies then
        let p := 1 - g.src
        if b.admits (8 * p + cls) (cellsFor b.mtu) && b.on (ringLinkFld p) && b.ringOn p then
          (b.updCart (fun c => { c with cut := c.cut ++
            [(⟨g.src, id, g.len, vlan, b.airFrame p vlan cls f none, false⟩ : CutFlight)] })).cartCount p C.CART.CUT_THROUGH
        else (b.poolDrop id).cartCount p C.CART.ADMIT_DROP
      else copies.foldl (fun b c => b.sendCopy g id vlan cls g.len f c) b

/-- A frame for the steward path over a holding of its own (R291). -/
def Block.sendStew (b : Block) (g : Ingress) (held : Option Nat) (vlan : Nat) : Block :=
  match b.ingressCells g.len held with
  | none => b.pipeDrop g.src C.CART.NOCELL_DROP
  | some b =>
    let (id, b) := b.poolOpen (held.getD (cellsFor g.len)) 1
    b.stewardPath { pool := id, src := g.src, vlan := vlan, len := g.len, ts := g.ts, frame := g.frame }

/-- Policers of a frame in order (R278): the station's, then that of its ACL entry. -/
def policersOf (b : Block) (g : Ingress) (cls : Nat) (act : Nat) : List Nat :=
  (match portOf g.src with
   | 4 => [4 * g.sta.getD 0 + acOf cls]
   | 5 => [4 * b.bhSta + acOf cls]
   | _ => []) ++ (if bitOf act 13 then [act % 8192] else [])

/-- The first frames through the policers, as far as they pass. -/
def Block.police (b : Block) (len : Nat) : List Nat → Block × Bool
  | [] => (b, true)
  | i :: t => match b.meter i len with
    | some b => b.police len t
    | none => (b, false)

/-- The pipeline after the source and VLAN checks (R279). -/
def Block.pipeline (b : Block) (g : Ingress) (held : Option Nat) (vlan : Nat) : Block :=
  let cls := b.classOf g
  let act := if bitOf (b.srcFlags g.src) 2 then (b.aclAction g vlan).getD 0 else 0
  match bitsOf act 15 14 with
  | 2 => b.sendStew g held vlan
  | 0 =>
    let cls := if bitOf act 20 then bitsOf act 19 17 else cls
    match b.police g.len (policersOf b g cls act) with
    | (b, false) => (b.giveBack held).pipeDrop g.src C.CART.POL_DROP
    | (b, true) =>
      let b := b.macLearn g vlan
      let routed := g.frame.da == b.cartMac && bitOf (b.vlanByte vlan 2) 1
      let fate := match g.ip with
        | some h => if routed then b.routeFate g vlan h else b.lookFate g vlan
        | none => b.lookFate g vlan
      match fate with
      | (.drop n, _) => (b.giveBack held).pipeDrop g.src n
      | (.quiet, _) => (b.giveBack held).lane 3 (pipeOf g.src) 1
      | (.stew none, _) => b.sendStew g held vlan
      | (.stew (some n), _) => (b.cartCount (portOf g.src) n).sendStew g held vlan
      | (.out v f copies, k) =>
        let b := if k = 65536 then b.cartCount (portOf g.src) C.CART.FLOODED
          else if k != 0 then b.cartCount 4 C.CART.MCAST_CONVERTED k else b
        b.sendOut g held v cls f copies
  | _ => (b.giveBack held).pipeDrop g.src C.CART.ACL_DROP

/-- A frame at the pipes in the lame state (R292): the host's steward frames go to LOCAL, every other one is dropped. -/
def Block.lameFrame (b : Block) (g : Ingress) (held : Option Nat) : Block :=
  if portOf g.src = 2 ∧ g.frame.etype = b.get F.CART_STEWARD.ETYPE then b.localFrame g held
  else (b.giveBack held).pipeDrop g.src C.CART.VLAN_DROP

/-- The ring port that a frame comes in by can receive: enabled, its link up (R271). Every other port can. -/
def Block.portHears (b : Block) (src : Nat) : Bool := decide (2 ≤ src) || (b.on (ringLinkFld src) && b.ringOn src)

/-- The ring port that a frame comes in by uses RS-FEC: CART_RINGn.FEC at 25GBASE-R. -/
def Block.rsFec (b : Block) (src : Nat) : Bool :=
  match src with
  | 0 => b.on F.CART_RING0.FEC && b.get F.CART_RING0.SPEED == 0
  | 1 => b.on F.CART_RING1.FEC && b.get F.CART_RING1.SPEED == 0
  | _ => false

/-- A frame enters its pipe (R279, R288, R290, R292, R298). held: the cells a link MAC hands over with it. -/
def Block.ingress (b : Block) (g : Ingress) (held : Option Nat := none) : Block :=
  let p := portOf g.src
  if !b.runs 3 || !b.portHears g.src then b.giveBack held
  else
    let b := (b.cartCount p C.CART.RX_FRAMES).lane 3 (pipeOf g.src) 0
    let b := if b.rsFec g.src && g.rsLost != 0 then b.lane 3 (2 + g.src) 1 g.rsLost else b
    let ring := decide (g.src ≤ 1)
    let etype := b.get F.CART_STEWARD.ETYPE
    if b.lame then b.lameFrame g held
    else if ring && !b.cart.keeper.isOpen then b.pipeDrop g.src C.CART.BLOCKED_DROP
    else if g.fcs = .stomped && ring then b.pipeDrop g.src C.CART.RX_STOMPED
    else if g.fcs != .good then (b.giveBack held).pipeDrop g.src C.CART.RX_FCS_ERR
    else if g.len < 64 ∨ b.mtu < g.len then (b.giveBack held).pipeDrop g.src C.CART.OVERSIZE
    else if ring && g.frame.etype == 0x8808 then b.pipeDrop g.src C.CART.MAC_CTRL_DROP
    else if g.frame.etype == etype && g.frame.da == b.cartMac then
      if p = 4 && !b.on F.CART_STEWARD.AIR_OK then (b.giveBack held).pipeDrop g.src C.CART.STEWARD_DROP
      else b.localFrame g held
    else
      let fl := b.srcFlags g.src
      let vid := match g.frame.tag with | some (_, v) => v % 4096 | none => 0
      let vlan := if vid != 0 then vid else b.pvid g.src
      if !bitOf fl 0 || (vid != 0 && !bitOf fl 3) then (b.giveBack held).pipeDrop g.src C.CART.VLAN_DROP
      else if !bitOf (b.vlanByte vlan 2) 0 ||
          (!decide (10 ≤ g.src ∧ g.src ≤ 15) && !bitOf (b.vlanByte vlan 0) (memberBit p)) then
        (b.giveBack held).pipeDrop g.src C.CART.VLAN_DROP
      else if ring && b.on (ringBlockFld g.src) then b.pipeDrop g.src C.CART.BLOCKED_DROP
      else b.pipeline g held vlan

/-- A DIRECT frame (R336, R352): it skips the lookup of R279, the ACL and the policers and enters the trough or queue that
DEST and class name; KIND 8 is the MESH port, mesh its send header and body. -/
def Block.direct (b : Block) (g : Ingress) (dest cls : Nat) (mesh : Option (SendHdr × List Byte)) : Block :=
  if !b.runs 3 then b
  else
    let b := (b.cartCount (portOf g.src) C.CART.RX_FRAMES).lane 3 (pipeOf g.src) 0
    let vid := match g.frame.tag with | some (_, v) => v % 4096 | none => 0
    let vlan := if vid != 0 then vid else b.pvid g.src
    if b.lame then b.lameFrame g none
    else match dest / 4096, mesh with
    | 8, some _ =>
      (match b.ingressCells g.len none with
      | none => b.pipeDrop g.src C.CART.NOCELL_DROP
      | some b =>
        let (id, b) := b.poolOpen (cellsFor g.len) 1
        b.troughPut (24 + cls % 8) g.len { pool := id, src := g.src, vlan := vlan, len := g.len, mesh := mesh, frame := g.frame })
    | _, _ =>
      (match b.destFate g vlan vlan g.frame dest with
      | (.out v f copies, _) => b.sendOut g none v (cls % 8) f copies
      | (.stew _, _) => b.sendStew g none vlan
      | _ => b.lane 3 (pipeOf g.src) 1)

end Sys2Proof.Machine
end

