-- ==== Sys2Proof/Machine/Sun.lean ====
section
/-! DEFINITION. The SUN FSK frame on air (R176 to R178): its bits, its FCS, its chips. What the manual takes from IEEE 802.15.4
without stating it (SFD values, order of bits, PN9, the NRNSC code, the interleaver) is PRESUMED, log entries 22 and 163. -/

namespace Sys2Proof.Machine

/-- FCS octets of a PSDU; a 4-octet FCS covers at least 4 octets (R3). -/
def meshFcs (fcs4 : Bool) (bs : List Byte) : List Byte :=
  if fcs4 then bytesLE 4 (crc32 (bs ++ List.replicate (4 - bs.length) 0)) else bytesLE 2 (crc16 bs)

/-- The PSDU without its FCS, when the FCS matches (R188). -/
def meshChecked (fcs4 : Bool) (psdu : List Byte) : Option (List Byte) :=
  let n := psdu.length - (if fcs4 then 4 else 2)
  if psdu.drop n == meshFcs fcs4 (psdu.take n) then some (psdu.take n) else none

/-- The SFD of uncoded and of coded frames under phyFskSfd 0 and 1 (R176), and that of Plough mode (R178). -/
def sfdValue (set : Bool) (hyp : Nat) (coded : Bool) : Nat :=
  if hyp = 3 then 0x3C5A
  else match set, coded with
    | false, false => 0x904E | false, true => 0x6F4E | true, false => 0x7A0E | true, true => 0x632D

/-- The coded flag that an SFD tells on a hypothesis; none where it is not an SFD of it (R176, R178, R188). -/
def sfdCoded (set : Bool) (hyp v : Nat) : Option Bool :=
  if v = sfdValue set hyp true then some true else if v = sfdValue set hyp false then some false else none

/-- The n bits of a number, most significant first. -/
def bitsMsb (n v : Nat) : List Bool := (List.range n).map (fun i => bitOf v (n - 1 - i))

/-- The bits of octets, least significant first. -/
def bitsLsb (bs : List Byte) : List Bool := bs.flatMap (fun x => (List.range 8).map (fun i => bitOf x.toNat i))

/-- n bits of the PN9 sequence, after its last nine bits, newest first. -/
def pn9 : Nat → List Bool → List Bool
  | 0, _ => []
  | n + 1, r =>
    let x := (nth r 3 false) ^^ (nth r 8 false)
    x :: pn9 n (x :: r.take 8)

/-- Bits whitened. -/
def whiten (bits : List Bool) : List Bool := List.zipWith (fun x y => x ^^ y) bits (pn9 bits.length (List.replicate 9 true))

/-- The NRNSC encoder of rate 1/2 and K = 4, its last three bits newest first. -/
def nrnsc : Bool × Bool × Bool → List Bool → List Bool
  | _, [] => []
  | (p, q, r), x :: t => (!(x ^^ p ^^ q ^^ r)) :: (!(x ^^ q ^^ r)) :: nrnsc (x, p, q) t

/-- One block of 16 code bits interleaved. -/
def interleave16 (bits : List Bool) : List Bool := (List.range 16).map (fun k => nth bits (15 - 4 * (k % 4) - k / 4) false)

/-- Code bits interleaved, n blocks of 16, the last one filled with zeros. -/
def interleave : Nat → List Bool → List Bool
  | 0, _ => []
  | n + 1, bits => interleave16 bits ++ interleave n (bits.drop 16)

/-- The PHR: MS 0, two reserved bits, FCS type (1 = 2 octets), DW, the frame length. -/
def phrBits (t : MeshTx) : List Bool :=
  [false, false, false, !t.fcs4, t.dw] ++ bitsMsb 11 t.psdu.length

/-- The bits or code bits of PHR and PSDU. -/
def bodyOf (t : MeshTx) : List Bool :=
  let psdu := bitsLsb t.psdu
  let info := phrBits t ++ (if t.dw then whiten psdu else psdu)
  if t.coded || t.hyp == 3 then
    let code := nrnsc (false, false, false) (info ++ [false, false, false])
    if t.il || t.hyp == 3 then interleave (ceilDiv code.length 16) code else code
  else info

/-- The chips of a frame (R176, R178). -/
def chipsOf (set : Bool) (t : MeshTx) : List Bool :=
  let shr := (List.replicate t.pre (bitsMsb 8 0x55)).flatten ++ bitsMsb 16 (sfdValue set t.hyp t.coded)
  (shr ++ bodyOf t).flatMap (fun x => List.replicate (if t.hyp = 3 then 4 else 1) x)

end Sys2Proof.Machine
end

