-- ==== Sys2Proof/Machine/Mhr.lean ====
section
/-! DEFINITION. The MAC header of a mesh frame (R203, R204, R206, R221): IEEE 802.15.4-2015, on which the manual rests, PRESUMED, log
entry 163. -/

namespace Sys2Proof.Machine

/-- n octets taken from a string, as a number with the least significant octet first. -/
def takeLE (n : Nat) (bs : List Byte) : Option (Nat × List Byte) :=
  if n ≤ bs.length then some (natLE (bs.take n), bs.drop n) else none

/-- A field of n octets that is there only when p holds. -/
def takeIf (p : Bool) (n : Nat) (bs : List Byte) : Option (Option Nat × List Byte) :=
  if p then (takeLE n bs).map (fun x => (some x.1, x.2)) else some (none, bs)

/-- An address of an addressing mode: 0 none, 2 short, 3 extended; 1 is reserved. -/
def takeAddr (mode : Nat) (bs : List Byte) : Option (MeshAddr × List Byte) :=
  match mode with
  | 0 => some (.none, bs)
  | 2 => (takeLE 2 bs).map (fun x => (.short x.1, x.2))
  | 3 => (takeLE 8 bs).map (fun x => (.ext x.1, x.2))
  | _ => none

/-- Which PAN identifiers a frame carries, destination and source: by version, addressing modes and PAN ID compression. -/
def panFields (ver dm sm : Nat) (comp : Bool) : Bool × Bool :=
  if ver < 2 then (dm != 0, sm != 0 && !comp)
  else if dm = 0 ∧ sm = 0 then (comp, false)
  else if sm = 0 then (!comp, false)
  else if dm = 0 then (false, !comp)
  else if dm = 3 ∧ sm = 3 then (!comp, false)
  else (true, !comp)

/-- Header IEs (identifier, content) up to a termination IE or the end of the octets; with what follows them, and whether payload IEs do
(termination 0x7E). n bounds their number. -/
def takeIes : Nat → List Byte → Option (List (Nat × List Byte) × List Byte × Bool)
  | 0, bs => some ([], bs, false)
  | _, [] => some ([], [], false)
  | n + 1, bs => do
    let (d, rest) ← takeLE 2 bs
    let len := d % 128
    let id := bitsOf d 14 7
    if bitOf d 15 ∨ rest.length < len then none
    else if id = 0x7E then some ([], rest.drop len, true)
    else if id = 0x7F then some ([], rest.drop len, false)
    else
      let (ies, tail, more) ← takeIes n (rest.drop len)
      some ((id, rest.take len) :: ies, tail, more)

/-- Octets of the key identifier of a key identifier mode. -/
def keyIdLen (mode : Nat) : Nat := match mode with | 1 => 1 | 2 => 5 | 3 => 9 | _ => 0

/-- The kind of a frame of type ty with payload bs; the command identifier is never encrypted. -/
def meshKind (ty : Nat) (pies : Bool) (bs : List Byte) : MeshKind :=
  match ty with
  | 0 => .beacon
  | 1 => .data
  | 2 => .ack
  | 3 => if !pies && bs.head? == some 4 then .dataRequest else .command
  | _ => .other

/-- A frame as Sieve handed it over, its MHR read; none where it has none. Frames of the types above 3 have a header of another form and
are of no use to Post (R204). A suppressed frame counter reads as 0xFFFF_FFFF. -/
def parseMhr (g : GoodFrame) : Option MeshFrame := do
  let (fc, r0) ← takeLE 2 g.psdu
  let ver := bitsOf fc 13 12
  let dm := bitsOf fc 11 10
  let sm := bitsOf fc 15 14
  if 3 < fc % 8 ∨ ver = 3 then none
  else
    let v2 := ver == 2
    let (seq, r1) ← takeIf (!(v2 && bitOf fc 8)) 1 r0
    let pans := panFields ver dm sm (bitOf fc 6)
    let (panD, r2) ← takeIf pans.1 2 r1
    let (dst, r3) ← takeAddr dm r2
    let (_, r4) ← takeIf pans.2 2 r3
    let (src, r5) ← takeAddr sm r4
    let (sc, r6) ← takeIf (bitOf fc 3) 1 r5
    let sc := sc.getD 0
    let (ctr, r7) ← takeIf (bitOf fc 3 && !bitOf sc 5) 4 r6
    let (_, r8) ← takeIf (bitOf fc 3) (keyIdLen (bitsOf sc 4 3)) r7
    let mic := micLen (sc % 8)
    if r8.length < mic then none
    else
      let body := r8.take (r8.length - mic)
      let (ies, payload, pies) ← if v2 && bitOf fc 9 then takeIes body.length body else some ([], body, false)
      some
        { ch := g.ch, hyp := g.hyp, coded := g.coded, dw := g.dw, fcs4 := g.fcs4, rssi := g.rssi, sfd := g.sfd, endNs := g.endNs
          kind := meshKind (fc % 8) pies payload, version := ver, seq := seq, ar := bitOf fc 5, panDst := panD, dst := dst, src := src
          secLevel := sc % 8, keyMode := bitsOf sc 4 3, fc := ctr.getD 0xFFFFFFFF, ies := ies
          mhr := g.psdu.take (g.psdu.length - mic - payload.length), payload := payload, mic := r8.drop (r8.length - mic) }

/-- The octets of a frame that its MIC covers as they are, and those that are encrypted: below level 4 nothing is, and a command's
identifier never. -/
def secParts (f : MeshFrame) : List Byte × List Byte :=
  let n := if f.secLevel < 4 then f.payload.length
    else if f.kind == .command || f.kind == .dataRequest then 1 else 0
  (f.mhr ++ f.payload.take n, f.payload.drop n)

/-- A frame deciphered and its MIC checked under a key and nonce (R206). -/
def meshOpen (key nonce : List Byte) (f : MeshFrame) : Option MeshFrame :=
  let (a, c) := secParts f
  let n := micLen f.secLevel
  let m := (ccmStar key nonce a c n).1
  if (ccmStar key nonce a m n).2 == f.mic then
    some { f with payload := f.payload.take (f.payload.length - c.length) ++ m }
  else none

end Sys2Proof.Machine
end

