-- ==== Sys2Proof/Machine/Phy.lean ====
section
/-! DEFINITION. The commands of chapter 3: detections and receptions, capture, the TX start command, OBSS-PD, standard power,
bank switches of the PHY tables (R62 to R95). -/

namespace Sys2Proof.Machine

/-- RADIO-5G and RADIO-6G are yoked: the two link MACs run, Marshal shows it (R143). -/
def Block.yoked (b : Block) : Bool := b.on F.MARS_STATUS.YOKED

/-- The other radio of the yoked pair. -/
def yokeMate (r : Nat) : Option Nat := if r = 0 then some 1 else if r = 1 then some 0 else none

/-- The TXOP of a radio is joint with the yoked link's (R144). -/
def Block.joint (b : Block) (r : Nat) : Bool := ((b.lmAt r).txop.map (fun t => t.joint)).getD false

/-- A PPDU of the radio is on air or awaits its response. -/
def Block.inPpdu (b : Block) (r : Nat) : Bool := (b.phyAt r).tx.isSome || (b.committedPlan r).isSome

/-- Radio r is blanked by the other yoked link, which transmits alone, from its TX start to the end of its response window (R144). -/
def Block.yokeBlanked (b : Block) (r : Nat) : Bool :=
  b.yoked && b.runs 8 && (match yokeMate r with | some q => b.inPpdu q && !b.joint q | none => false)

/-- b with the reception of radio r replaced. -/
def Block.setRx (b : Block) (r : Nat) (x : Option PhyRx) : Block :=
  let b := b.updPhy r (fun p => { p with rx := x, search := none, rxNo := p.rxNo + b2n x.isSome })
  if x.isNone && b.fe r == feRx then b.setFe r feReady else b

/-- A detection at PD or above (R74, R82, R244): from READY, or over a detection not yet valid that is no stronger, which it
replaces (R80). cca: the levels measured with it. -/
def execRxDetection (r : Fin 3) (level : RxLevel) (s : State) : Host.Outcome State Fault Refusal :=
  let power := level.power
  let b := s.blk.measure r.val level.cca
  let ph := CntSet.phy r
  s.next (if power < b.ccaPd r.val then b
  else if b.yokeBlanked r.val then b.count .mars C.MARS.YOKE_BLANKED
  else if b.fe r.val = feReady then
    ((b.count ph C.PHY.RX_DETECT).setFe r.val feRx).setRx r.val (some { power := power })
  else match (b.phyAt r.val).rx with
    | some x =>
      if b.fe r.val = feRx && !x.valid && decide (x.power ≤ power) then
        ((b.count ph C.PHY.RX_DETECT).count ph C.PHY.RX_FALSE).setRx r.val (some { power := power })
      else b
    | none => b)

/-- A detection without a valid L-SIG or PLCP header in time is released (R74). -/
def execRxFalseRelease (r : Fin 3) (s : State) : Host.Outcome State Fault Refusal :=
  let b := s.blk
  s.next (match (b.phyAt r.val).rx with
  | some x => if x.valid then b else (b.count (.phy r) C.PHY.RX_FALSE).setRx r.val none
  | none => b)

/-- A valid L-SIG or PLCP header (R74). -/
def execLsigValid (r : Fin 3) (s : State) : Host.Outcome State Fault Refusal :=
  s.next (s.blk.updPhy r.val (fun p => { p with rx := p.rx.map (fun (x : PhyRx) => { x with valid := true }) }))

/-- The radio defers to a PPDU it will not decode (R68, R75), counted under n; its provisional MPDUs cannot exist yet. A restart
search under way then ends uncounted: the spec does not say whether it has failed (DESIGN CHOICE, log entry 152; the same where
the radio's own transmission ends the reception, R76). -/
def Block.deferRx (b : Block) (r n : Nat) : Block :=
  match (b.phyAt r).rx with
  | some x =>
    if x.valid && !x.defer then
      (b.count (.phy (Fin.ofNat 3 r)) n).updPhy r (fun p => { p with rx := some { x with defer := true }, search := none })
    else b
  | none => b

/-- A signal field after L-SIG fails its CRC (R75). -/
def execSignalFieldCrcFail (r : Fin 3) (s : State) : Host.Outcome State Fault Refusal :=
  s.next (s.blk.deferRx r.val C.PHY.RX_HDR_ERR)

/-- The signal fields announce an unsupported option (R68). -/
def execRxUnsupported (r : Fin 3) (s : State) : Host.Outcome State Fault Refusal :=
  s.next (s.blk.deferRx r.val C.PHY.RX_UNSUPP)

/-- A power step during a reception starts a restart search (R77, R79). -/
def execCapturePowerStep (r : Fin 3) (power : Int) (s : State) : Host.Outcome State Fault Refusal :=
  let b := s.blk
  let margin : Int := clampTo 3 12 (b.get (F.PHY_CAPTURE.MARGIN r.val))
  s.next (match (b.phyAt r.val).rx with
  | some x =>
    if x.valid && !x.defer && (b.phyAt r.val).search.isNone && b.on (F.PHY_CAPTURE.EN r.val) &&
        b.on (F.PHY_CAPTURE.RESTART_EN r.val) && decide (x.power + margin ≤ power) then
      b.updPhy r.val (fun p => { p with search := some power })
    else b
  | none => b)

/-- The restart search validates (R78, R79): the reception is displaced and its provisional MPDUs are undone. -/
def execCaptureRestart (r : Fin 3) (s : State) : Host.Outcome State Fault Refusal :=
  let b := s.blk
  s.next (match (b.phyAt r.val).search with
  | some p =>
    let b := (b.count (.phy r) C.PHY.RX_DISPLACED).undoRx r.val
    (b.updLm r.val (fun l => { l with resp := none })).setRx r.val (some { power := p, valid := true })
  | none => b)

/-- The restart search fails (R78). -/
def execCaptureRestartFail (r : Fin 3) (s : State) : Host.Outcome State Fault Refusal :=
  let b := s.blk
  s.next (if (b.phyAt r.val).search.isSome then
    (b.count (.phy r) C.PHY.RX_RESTART_FAIL).updPhy r.val (fun p => { p with search := none })
  else b)

/-- A PPDU has ended (R69, R81): rssi in dBm, ownGood an own-BSS PPDU with a valid FCS (R83), chains that received it. A
restart search still under way goes on as a detection. cca: the levels measured at the end. -/
def execPhyRxend (r : Fin 3) (rssi : Int) (ownGood : Bool) (ldpcFails : Nat) (tail : RxTail) (s : State) :
    Host.Outcome State Fault Refusal :=
  let b := s.blk.measure r.val tail.cca
  s.next (match (b.phyAt r.val).rx with
  | some x =>
    if !x.valid then b
    else
      let next := (b.phyAt r.val).search.map (fun p => ({ power := p } : PhyRx))
      let b := if x.defer then b
        else
          let b := (b.count (.phy r) C.PHY.RX_PPDU).count (.phy r) C.PHY.RX_LDPC_FAIL ldpcFails
          let b := b.set (F.PHY_STATUS.LAST_RSSI r.val) (unsignedOf 8 rssi)
          let b := if ownGood then b.updPhy r.val (fun p => { p with rssi := rssi :: p.rssi }) else b
          let cs := (feChains r.val).filter (fun c => bitOf (b.get (F.PHY_CHAN.CHAINS r.val)) c && bitOf tail.chains c)
          cs.foldl (fun b c => b.lane (Fin.ofNat 12 (lmEngine r.val)) (2 * (c - (feChains r.val).headD 0)) 0) b
      b.setRx r.val next
  | none => b)

/-- A precoder of the radio holds a beamforming vector of the station (R163). -/
def Block.beamOk (b : Block) (r sta : Nat) : Bool := b.drov.ready.any (fun x => x.radio == r && x.su && x.set.contains sta)

/-- NOMINAL_PAD of a station in µs, the packet extension it asks for (R67, R105). -/
def Block.nominalPad (b : Block) (r sta : Nat) : Nat := nth [0, 8, 16, 20] (bitsOf (b.staFlags r sta) 17 16) 0

/-- The station is the upstream of the backhaul (R132). -/
def Block.isUpstream (b : Block) (r sta : Nat) : Bool := b.bhRadio == some r && sta == b.bhSta

/-- The BlockAckReqs that go with a PPDU for a station: TID and SSN, of which 0 stands for the oldest frame left (R169, R171). -/
def Block.barsOf (b : Block) (sta ac : Nat) (tids : List Nat) : List (Nat × Nat) :=
  (b.drov.barOwed.filter (fun x => x.1 == sta && tids.contains x.2.1)).map (fun x =>
    (x.2.1, if x.2.2 = 0 then
      (((b.queue (4 * sta + ac)).filter (fun f => f.tid == x.2.1)).findSome? (fun f => f.sn)).getD
        (b.tab (drovSta sta + 0x14 + 2 * (x.2.1 % 8)) 2 % 4096)
    else x.2.2 - 1))

/-- A user of a plan as its data PPDU carries it. -/
def Block.airUser (b : Block) (p : Plan) (u : PlanUser) : AirUser :=
  let fs := (b.queue (userKey p u)).filter (fun f => u.frames.contains f.id)
  let group := p.form == .group
  { sta := u.sta, nss := u.nss, mcs := u.mcs, tones := u.tones, mask := u.mask, ldpc := u.ldpc
    peUs := if group then 0 else b.nominalPad p.radio u.sta
    frames := fs.map (fun f => (f.id, f.sn.getD 0))
    fourAddr := !group && (b.isUpstream p.radio u.sta || bitOf (b.staFlags p.radio u.sta) 5)
    bars := if group then [] else b.barsOf u.sta p.ac (fs.map (fun f => f.tid)).dedup }

/-- The TX start command of a plan's data PPDU (R71, R72, R81). -/
def Block.planJob (b : Block) (p : Plan) : TxJob :=
  let us := p.users.filter (fun u => !u.empty)
  { t := { width := p.width, ofdma := p.form == .ofdma, nss := us.foldl (fun m u => max m u.nss) 1
           beam := p.form == .mu || us.any (fun u => p.form == .su && b.beamOk p.radio u.sta)
           rus := if p.form == .ofdma then us.map (fun u => (u.sta, u.mask)) else [] }
    kind := 5, sta := (us.head?.map (fun u => u.sta)).getD 0, body := .data (us.map (fun u => b.airUser p u)) }

/-- A TX start command for the data PPDU of the radio's COMMITTED plan (R71, R72, R81, R164). cca: the levels that CCA
finds at TX start. -/
def execTxStartCommand (r : Fin 3) (cca : List (Int × Int)) (s : State) : Host.Outcome State Fault Refusal :=
  let b := s.blk.measure r.val cca
  s.next (match b.committedPlan r.val with
  | some p =>
    if p.form == .trigger || p.form == .sounding then b
    else b.txStart s.fuse r.val (b.planJob p)
  | none => b)

/-- The 10th percentile of RSSI values: the smallest that at least a tenth do not exceed (log entry 19). -/
def percentile (pc : Nat) (l : List Int) : Int :=
  let l := sortBy (fun x y => x ≤ y) l
  nth l (ceilDiv (pc * l.length) 100 - 1) 0

/-- The end of an OBSS-PD period (R84, R380, R381). -/
def execObssPdUpdate (r : Fin 3) (s : State) : Host.Outcome State Fault Refusal :=
  let b := s.blk
  let p := b.phyAt r.val
  let lo := 2 * b.obssMin r.val
  let hi := 2 * b.obssMax r.val
  let lvl := p.obssHalf
  s.next (if !b.on (F.PHY_OBSS_LOOP.EN r.val) then b.updPhy r.val (fun p => { p with rssi := [] })
  else
    let frozen := b.on (F.PHY_OBSS_LOOP.FREEZE r.val)
    let enough := decide (16 ≤ p.rssi.length)
    let err := 2 * percentile 10 p.rssi - 2 * (b.get (F.PHY_OBSS_CFG.MARGIN r.val) : Int) - lvl
    let d := loopStep err (b.get (F.PHY_OBSS_LOOP.GAIN_SHIFT r.val)) (2 ^ b.get (F.PHY_OBSS_LOOP.STEP r.val))
    let out := decide (lvl < lo ∨ hi < lvl)
    let new := if out then clampInt lo hi lvl else if enough && !frozen then clampInt lo hi (lvl + d) else lvl
    let b := b.updPhy r.val (fun p => { p with obssHalf := new, rssi := [] })
    if enough && !frozen then b.setB (F.PHY_STATUS.OBSS_AT_BOUND r.val) (new == lo || new == hi) else b)

/-- An inter-BSS PPDU below the OBSS-PD level is ignored after its signal fields (R83). -/
def execObssPpduIgnored (r : Fin 3) (rssi : Int) (s : State) : Host.Outcome State Fault Refusal :=
  let b := s.blk
  let lvl := (b.phyAt r.val).obssHalf
  s.next (match (b.phyAt r.val).rx with
  | some x =>
    if x.valid && !x.defer && b.on (F.PHY_OBSS_LOOP.EN r.val) && decide (2 * rssi < lvl) then
      ((b.count (.phy r) C.PHY.OBSS_IGNORED).setRx r.val none).updPhy r.val (fun p => { p with obssTxop := some lvl })
    else b
  | none => b)

/-- The standard-power limits cease (R91). -/
def execSpExpired (s : State) : Host.Outcome State Fault Refusal :=
  let b := s.blk
  let ex := b.btab 12 2 0x3402000 8
  s.next (if b.on F.PHY_SP_CTRL.EN && decide (ex ≤ b.now) && !b.on F.PHY_SP_STATUS.EXPIRED then
    (b.set F.PHY_SP_STATUS.EXPIRED 1).fire 7 19 (bytesLE 8 ex)
  else b)

/-- The end of a PPDU of radio r: a pending switch of its table k takes effect unless its link MAC's HOLD is 1 (R30, R88). -/
def execPhyBankSwitch (r : Fin 3) (k : Fin 3) (s : State) : Host.Outcome State Fault Refusal :=
  s.next (if s.blk.hold (lmEngine r.val) then s.blk else s.blk.switchBank 12 (4 * r.val + k.val))

end Sys2Proof.Machine
end

