-- ==== Sys2Proof/Machine/Sieve.lean ====
section
/-! DEFINITION. Sieve (R174 to R201): timing of mesh frames, detections and stalls, the noise-floor loop, transmission
requests, blinkers. -/

namespace Sys2Proof.Machine

/-! ### Rates and time on air -/

/-- The H2 symbol rate of a spacing code in symbols per second (R177); H3 sends chips at this rate. -/
def h2Rate (c : Nat) : Nat :=
  match c with
  | 0 => 4800 | 1 => 9600 | 2 => 19200 | 3 => 50000 | _ => 100000

/-- H2 symbol times of one SHR bit or code bit of a hypothesis (R177, R178). -/
def bitH2 (hyp : Nat) : Nat :=
  match hyp with
  | 0 => 4 | 1 => 2 | 2 => 1 | _ => 4

/-- Spacing code of the span in effect, 0 before any. -/
def Block.spacing (b : Block) : Nat := match b.sieve.span with | some s => min 4 s.spacing | none => 0

/-- n H2 symbol times in ns, rounded up. -/
def Block.h2Ns (b : Block) (n : Nat) : Nat := ceilDiv (n * 1000000000) (h2Rate b.spacing)

/-- Bits of PHR and PSDU of an n-octet frame: coded frames carry two code bits for every bit and 3 tail bits, interleaved ones
in blocks of 16 (R176, R178; the tail and the block are IEEE 802.15.4's, PRESUMED, log entry 22). -/
def bodyBits (coded il : Bool) (n : Nat) : Nat :=
  if coded then
    let c := 2 * (16 + 8 * n + 3)
    if il then ceilDiv c 16 * 16 else c
  else 16 + 8 * n

/-- Duration of preamble and SFD of pre octets in ns. -/
def Block.shrNs (b : Block) (hyp pre : Nat) : Nat := b.h2Ns (bitH2 hyp * (8 * pre + 16))

/-- Duration of PHR and PSDU in ns. -/
def Block.bodyNs (b : Block) (hyp : Nat) (coded il : Bool) (n : Nat) : Nat :=
  b.h2Ns (bitH2 hyp * bodyBits (coded || hyp == 3) (il || hyp == 3) n)

/-- H2 symbol times of a transmission from its first to its last chip. -/
def txH2 (t : MeshTx) : Nat :=
  bitH2 t.hyp * (8 * t.pre + 16 + bodyBits (t.coded || t.hyp == 3) (t.il || t.hyp == 3) t.psdu.length)

/-- The last chip of a transmission, device time in ns. -/
def Block.txEndNs (b : Block) (t : MeshTx) : Nat := t.start + b.h2Ns (txH2 t)

/-- Device time t comes before the next tick: what happens at t may happen now (log entry 164). -/
def Block.reached (b : Block) (t : Nat) : Bool := decide (t < b.now + tickNs)

/-- Modulation of a transmission in the span in effect (R174, R176 to R178), sent with a power in 0.5 dBm. -/
def Block.meshAir (b : Block) (t : MeshTx) (power : Int) : MeshAir :=
  let rate := if t.hyp = 3 then h2Rate b.spacing else h2Rate b.spacing / bitH2 t.hyp
  { freq := (match b.sieve.span with | some s => s.freq | none => 0) + t.ch * spacingHz b.spacing
    dev := if rate = 100000 then rate / 4 else rate / 2
    rate := rate, gauss := b.on F.SIEVE_TXCFG.GAUSS, power := power, start := t.start
    chips := chipsOf (b.on F.SIEVE_RXCFG.SFD_SET) t }

/-- RAMP_US in effect, 4 to 250. -/
def Block.rampUs (b : Block) : Nat := clampTo 4 250 (b.get (F.RFC_FEM.RAMP_US 3))

/-- On-air time from the start of the ramp-up to the end of the ramp-down in 10 µs, rounded up (R265). -/
def Block.airUnits (b : Block) (t : MeshTx) : Nat :=
  ceilDiv (2 * b.rampUs * h2Rate b.spacing + txH2 t * 1000000) (10 * h2Rate b.spacing)

/-! ### Power -/

/-- 10^(i/40) × 10^15, rounded down. -/
def pow40 : List Nat :=
  [1000000000000000, 1059253725177288, 1122018454301963, 1188502227437018, 1258925411794167, 1333521432163324, 1412537544622754, 1496235656094433,
   1584893192461113, 1678804018122560, 1778279410038922, 1883649089489800, 1995262314968879, 2113489039836646, 2238721138568339, 2371373705661655,
   2511886431509580, 2660725059798809, 2818382931264453, 2985382618917959, 3162277660168379, 3349654391578276, 3548133892335754, 3758374042884441,
   3981071705534972, 4216965034285822, 4466835921509631, 4731512589614804, 5011872336272722, 5308844442309883, 5623413251903490, 5956621435290104,
   6309573444801932, 6683439175686146, 7079457843841379, 7498942093324558, 7943282347242815, 8413951416451950, 8912509381337455, 9440608762859233]

/-- The power of q × 0.25 dB above −100 dB, in 10^-15 of the power of −100 dB. -/
def linPow (q : Int) : Nat := let k := (q + 400).toNat; nth pow40 (k % 40) 0 * 10 ^ (k / 40)

/-- The sum of powers given in 0.5 dBm. -/
def powSum (ps : List Int) : Nat := sumNat (ps.map (fun p => linPow (2 * p)))

/-- A sum of powers in 0.25 dB, rounded down. -/
def powDb (x : Nat) : Int := ((List.range 700).filter (fun k => decide (linPow ((k : Int) - 399) ≤ x))).length - 400

/-- The least cut in 0.5 dB that keeps a power p with the sum of the others at +14 dBm (R193), at most 60 steps. -/
def leastCut (others : List Int) (p : Int) : Nat :=
  ((List.range 60).find? (fun (c : Nat) => decide (powSum ((p - (c : Int)) :: others) ≤ linPow 56))).getD 60

/-- Byte k of the mesh chain's entry (R252). -/
def Block.chain16 (b : Block) (k : Nat) : Nat := b.btab 13 0 (0x3500000 + 8 * 16 + k) 1

/-- PATH_GAIN of chain 16 where its detector is at the die pin, in 0.5 dB. -/
def Block.path16 (b : Block) : Int := if bitOf (b.chain16 2) 0 then 0 else signedOf 8 (b.chain16 3)

/-- G16 of R259 in 0.5 dB. -/
def Block.gain16 (b : Block) : Int := signedOf 8 (b.chain16 0) + b.path16

/-! ### Channels and stalls -/

/-- Entry of the channel table (R201); entries from N on are ignored. -/
def Block.chEntry (b : Block) (k : Nat) : Nat := if k < b.meshChannels then b.btab 9 0 (0x2E00000 + 4 * k) 4 else 0

/-- NF[k] in 0.5 dBm. -/
def Block.noiseFloor (b : Block) (k : Nat) : Int := signedOf 16 (b.tab (chState k) 2)

/-- One more in the 4-byte count at offset o of channel k's state. -/
def Block.chCount (b : Block) (k o : Nat) : Block := b.setTab (chState k + o) 4 ((b.tab (chState k + o) 4 + 1) % 2 ^ 32)

/-- A transmission on channel t blanks channel k (R194). -/
def Block.blanks (b : Block) (t k : Nat) : Bool :=
  !b.on F.SIEVE_BLINK.OPEN || decide (k ≤ t + b.get F.SIEVE_BLINK.DIST ∧ t ≤ k + b.get F.SIEVE_BLINK.DIST)

/-- Channel k is blanked now (R194, R195, R245). -/
def Block.blanked (b : Block) (k : Nat) : Bool :=
  b.feUnready 3 || b.sieve.txs.any (fun t => t.air && b.blanks t.req.ch k) || b.sieve.tails.any (fun t => decide (b.mono < t.2.2) && b.blanks t.2.1 k)

/-- A detection is expected: it falls inside a window that Post has declared (R185). -/
def Block.expectedDet (b : Block) (ch hyp ns : Nat) : Bool :=
  b.sieve.windows.any (fun w => w.ch == ch && w.hyp == hyp && decide (w.start ≤ ns ∧ ns ≤ w.stop))

/-- DET_MARGIN of a hypothesis in 0.5 dB. -/
def Block.detMargin (b : Block) (hyp : Nat) : Int :=
  match hyp with
  | 0 => b.getS F.SIEVE_DET_MARGIN.H0 | 1 => b.getS F.SIEVE_DET_MARGIN.H1 | 2 => b.getS F.SIEVE_DET_MARGIN.H2
  | _ => b.getS F.SIEVE_DET_MARGIN.H3

/-- The power test of R181. -/
def Block.loudEnough (b : Block) (ch hyp : Nat) (power : Int) : Bool :=
  decide (b.noiseFloor ch + b.detMargin hyp + signedOf 8 (bitsOf (b.chEntry ch) 23 16) ≤ power)

/-- Sieve's receivers work: it runs on a valid span and front end 3 is in READY, RX or TX (R175, R244). -/
def Block.hears (b : Block) : Bool := b.runs 9 && decide (0 < b.meshChannels) && decide (feReady ≤ b.fe 3 ∧ b.fe 3 ≤ feRx)

/-- Channel and hypothesis are searched, unblanked, and the power test holds (R181); in WALK for expected detections and on
channels with WALK set (R196). -/
def Block.declares (b : Block) (ch hyp : Nat) (power : Int) (ns : Nat) : Bool :=
  let e := b.chEntry ch
  b.hears && bitOf e 0 && bitOf e (1 + hyp) && !b.blanked ch && b.loudEnough ch hyp power &&
    (b.est 9 != stReduced || b.expectedDet ch hyp ns || bitOf e 5)

/-- The stall at an index. -/
def Block.stallAt (b : Block) (i : Nat) : Option Stall := b.sieve.stalls.find? (fun s => s.idx == i)

/-- b with stall s in place of the one of its index. -/
def Block.setStall (b : Block) (s : Stall) : Block :=
  { b with sieve := { b.sieve with stalls := b.sieve.stalls.filter (fun q => q.idx != s.idx) ++ [s] } }

/-- The stall of lowest power, the lowest index first. -/
def weakest (l : List Stall) : Option Stall :=
  l.foldl (fun m s => match m with
    | none => some s
    | some k => if s.power < k.power ∨ (s.power = k.power ∧ s.idx < k.idx) then some s else some k) none

/-- RESERVE, at most 32. -/
def Block.reserve (b : Block) : Nat := min 32 (b.get F.SIEVE_RXCFG.RESERVE)

/-- The stall a detection gets and the HUNT stall it evicts for it (R185, R196). -/
def Block.pickStall (b : Block) (power : Int) (expected : Bool) : Option (Nat × Bool) :=
  let walk := b.est 9 == stReduced
  let n := if walk then b.walkStalls else 128
  let free := (List.range n).filter (fun i => (b.stallAt i).isNone)
  match free.find? (fun i => walk || decide (b.reserve ≤ i)) with
  | some i => some (i, false)
  | none =>
    match (if expected then free.head? else none) with
    | some i => some (i, false)
    | none =>
      let hunt := b.sieve.stalls.filter (fun s => s.st == .hunt && decide (s.idx < n))
      let byPower := (weakest hunt).bind (fun s =>
        if s.power + 2 * (b.get F.SIEVE_RXCFG.POOL_MARGIN : Int) ≤ power then some s else none)
      let pick := match byPower with
        | some s => some s
        | none => if expected then weakest (hunt.filter (fun s => !s.expected)) else none
      pick.map (fun s => (s.idx, true))

/-- A stall filled with a new reception in HUNT; front end 3 goes to RX (R183, R244). -/
def Block.hunt (b : Block) (i ch hyp : Nat) (power : Int) (expected cand : Bool) (ns : Nat) : Block :=
  let b := b.setStall { idx := i, st := .hunt, ch := ch, hyp := hyp, power := power, expected := expected, cand := cand, ns := ns }
  if b.fe 3 = feReady then b.setFe 3 feRx else b

/-- A reception that replaces what stall i holds, whose release is counted under n (R182, R186, R187). -/
def Block.rehunt (b : Block) (i n ch hyp : Nat) (power : Int) (expected cand : Bool) (ns : Nat) : Block :=
  (b.releaseStall i n).hunt i ch hyp power expected cand ns

/-- Channel ch and instant ns are within one channel and 2 symbols of a detection on the same hypothesis (R182). -/
def Block.adjacent (b : Block) (ch hyp ns : Nat) (d : MeshDet) : Bool :=
  d.hyp == hyp && (d.ch == ch + 1 || d.ch + 1 == ch) &&
    decide (ns ≤ d.ns + b.h2Ns (2 * bitH2 hyp) ∧ d.ns ≤ ns + b.h2Ns (2 * bitH2 hyp))

/-- The detection that a stall has been seated for. -/
def Stall.det (s : Stall) : MeshDet := ⟨s.ch, s.hyp, s.power, s.ns⟩

/-- A declared detection takes a stall of the pool, or none (R185). -/
def Block.seatNew (b : Block) (ch hyp : Nat) (power : Int) (cand : Bool) (ns : Nat) : Block :=
  let ex := b.expectedDet ch hyp ns
  match b.pickStall power ex with
  | none => b.count .sieve C.SIEVE.UNSEATED
  | some (i, evict) =>
    let b := if evict then b.releaseStall i C.SIEVE.EVICTED else b
    let b := b.count .sieve C.SIEVE.SEATED
    let b := if i < b.reserve then b.count .sieve C.SIEVE.RESERVED_USED else b
    b.hunt i ch hyp power ex cand ns

/-- A detection that may seat takes the stall of its own channel's HUNT stall, if there is one and it is no stronger (R186, R187), else
that of a weaker detection beside it (R182), else one of the pool; the other weaker ones beside it are left out. -/
def Block.seatOver (b : Block) (own : Option Stall) (near : List Stall) (ch hyp : Nat) (power : Int) (cand : Bool) (ns : Nat) : Block :=
  let ex := b.expectedDet ch hyp ns
  match own with
  | some c =>
    if c.power ≤ power then
      (near.foldl (fun b s => b.releaseStall s.idx C.SIEVE.ADJACENT) b).rehunt c.idx C.SIEVE.FALSE ch hyp power ex cand ns
    else b
  | none => match near with
    | s :: rest =>
      (rest.foldl (fun b s => b.releaseStall s.idx C.SIEVE.ADJACENT) b).rehunt s.idx C.SIEVE.ADJACENT ch hyp power ex cand ns
    | [] => b.seatNew ch hyp power cand ns

/-- A declared detection finds its stall (R182, R184 to R187): none beside a stronger one, whether that has a stall or not. -/
def Block.seat (b : Block) (ch hyp : Nat) (power : Int) (ns : Nat) : Block :=
  if b.sieve.recent.any (fun d => b.adjacent ch hyp ns d && decide (power < d.power ∨ (power = d.power ∧ d.ch < ch))) then
    b.count .sieve C.SIEVE.ADJACENT
  else
    let near := b.sieve.stalls.filter (fun s => s.st == .hunt && b.adjacent ch hyp ns s.det)
    let mine := b.sieve.stalls.filter (fun s => s.ch == ch)
    match mine.find? (fun s => s.st != .hunt) with
    | some cur =>
      let margin := 2 * (clampTo 3 12 (b.get F.SIEVE_RXCFG.CAPTURE_MARGIN) : Int)
      if !b.on F.SIEVE_RXCFG.CAPTURE_EN || decide (power < cur.power + margin) then b
      else b.seatOver (mine.find? (fun s => s.st == .hunt)) near ch hyp power true ns
    | none => b.seatOver (mine.find? (fun s => s.hyp == hyp)) near ch hyp power false ns

/-- The order in which the detections of one CORE cycle are seated (R185): expected ones first, then stronger ones, then the lower
channel and hypothesis. -/
def detBefore (x y : Bool × MeshDet) : Bool :=
  if x.1 != y.1 then x.1
  else if x.2.power ≠ y.2.power then decide (y.2.power < x.2.power)
  else decide (4 * x.2.ch + x.2.hyp ≤ 4 * y.2.ch + y.2.hyp)

/-- Detections declared in one CORE cycle at instant ns: counted, kept for R182, seated (R181, R182, R185). -/
def Block.detectAll (b : Block) (ns : Nat) (l : List MeshDet) : Block :=
  let b := l.foldl (fun b d => ((b.count .sieve C.SIEVE.DETECT).chCount d.ch 4).lane 9 (128 + d.hyp) 0) b
  let old := b.sieve.recent.filter (fun d => decide (ns ≤ d.ns + b.h2Ns 8))
  let b := { b with sieve := { b.sieve with recent := old ++ l } }
  (sortBy detBefore (l.map (fun d => (b.expectedDet d.ch d.hyp ns, d)))).foldl (fun b x => b.seat x.2.ch x.2.hyp x.2.power ns) b

/-- The correlation of a window passes CORR_MIN, both in sixteenths (R181). -/
def Block.correlates (b : Block) (corr : Nat) : Bool := decide (max 1 (b.get F.SIEVE_RXCFG.CORR_MIN) ≤ corr)

/-- A detector's window declares a detection (R181). -/
def Block.hitDeclared (b : Block) (ns : Nat) (h : RoundHit) : Bool := b.correlates h.corr && b.declares h.ch h.hyp h.power ns

/-- What a detector's window shows, as a detection. -/
def hitDet (ns : Nat) (h : RoundHit) : MeshDet := ⟨h.ch, h.hyp, h.power, ns⟩

/-- The windows of the detectors that end in one CORE cycle (R181): correlation in sixteenths, power in 0.5 dBm, the instant in
device time. -/
def execSieveDetection (ns ch hyp : Nat) (level : HitLevel) (others : List RoundHit) (s : State) : Host.Outcome State Fault Refusal :=
  let b := s.blk
  let hits := ({ ch := ch, hyp := hyp, power := level.power, corr := level.corr } : RoundHit) :: others
  s.next (b.detectAll ns ((hits.filter (b.hitDeclared ns)).map (hitDet ns)))

/-- When PRE_TIMEOUT passes for a stall in HUNT (R183). -/
def Block.preDeadline (b : Block) (x : Stall) : Nat := x.ns + b.h2Ns (bitH2 x.hyp * 8 * max 4 (b.get F.SIEVE_RXCFG.PRE_TIMEOUT))

/-- A stall in HUNT released without its SFD (R183, R187). -/
def Block.preTimeout (b : Block) (x : Stall) : Block :=
  b.releaseStall x.idx (if x.cand then C.SIEVE.RESTART_FAIL else C.SIEVE.FALSE)

/-- Post takes part in receptions: it runs, or drains with Sieve's streams going on (R239). -/
def Block.postHears (b : Block) : Bool := b.runs 10 || b.est 10 == stDrain

/-- A stall's SFD matches (R184, R187 to R189): rivals and the displaced reception are released, the stream to Post begins. -/
def Block.sfdHit (b : Block) (ns : Nat) (h : SfdHit) : Block :=
  match b.stallAt h.stall.val with
  | none => b
  | some x =>
    if x.st != .hunt then b
    else if b.preDeadline x < ns then b.preTimeout x
    else match sfdCoded (b.on F.SIEVE_RXCFG.SFD_SET) x.hyp h.sfd.toNat with
      | none => b
      | some coded =>
        let b := b.lane 9 (128 + x.hyp) 1
        let b := b.releaseStalls (fun q => q.ch == x.ch && q.idx != x.idx && q.st != .hunt) C.SIEVE.DISPLACED
        let b := b.releaseStalls (fun q => q.ch == x.ch && q.idx != x.idx && q.st == .hunt) C.SIEVE.RACE_LOST
        let b := b.setStall { x with st := .header, cand := false, sfd := ns, coded := coded, cfo := h.cfo }
        if b.postHears then { b with post := { b.post with streams := b.post.streams ++ [⟨x.idx, 0, 0⟩] } } else b

/-- Hypothesis of the stall of an SFD match, 4 for a stall that is FREE. -/
def Block.hitHyp (b : Block) (h : SfdHit) : Nat := match b.stallAt h.stall.val with | some x => x.hyp | none => 4

/-- SFDs that match in one CORE cycle, the lower hypothesis first (R184). -/
def execSfdMatch (ns : Nat) (stall : Fin 128) (found : SfdFound) (others : List SfdHit) (s : State) : Host.Outcome State Fault Refusal :=
  let b := s.blk
  let hits := ({ found with stall := stall } : SfdHit) :: others
  s.next ((sortBy (fun x y => decide (b.hitHyp x ≤ b.hitHyp y)) hits).foldl (fun b h => b.sfdHit ns h) b)

/-- PRE_TIMEOUT passes without the SFD (R183). -/
def execPreambleTimeout (stall : Fin 128) (s : State) : Host.Outcome State Fault Refusal :=
  let b := s.blk
  s.next (match b.stallAt stall.val with
  | some x => if x.st == .hunt && b.reached (b.preDeadline x) then b.preTimeout x else b
  | none => b)

/-- A PHR is valid (R179). -/
def phrValid (p : PhrRead) : Bool := !p.ms && decide ((if p.fcs4 then 5 else 3) ≤ p.len)

/-- The reading of a PHR that counts, and whether RSC gives it (R179): of a coded H0 to H2 frame the valid one of lower metric, NRNSC
on a tie, of two that are not valid the one of lower metric (DESIGN CHOICE, log entry 163). -/
def phrChoice (two : Bool) (p : PhrRead) (rsc : Option PhrRead) (metrics : Nat × Nat) : PhrRead × Bool :=
  match rsc with
  | none => (p, false)
  | some q =>
    if two && (if phrValid p == phrValid q then decide (metrics.2 < metrics.1) else phrValid q) then (q, true) else (p, false)

/-- Octets a Saddlebag entry of an n-octet frame takes (R237): a header of 16, the frame without FCS padded to 4. -/
def bagOctets (n : Nat) : Nat := 16 + ceilDiv n 4 * 4

/-- Octets of the Saddlebag. -/
def bagBytes : Nat := 65536

/-- Octets of the Saddlebag that entries and reservations leave (R205, R237). -/
def Block.bagRoom (b : Block) : Nat :=
  bagBytes - b.get F.POST_BAG_STATUS.BYTES - sumNat (b.post.streams.map (fun q => q.bag)) - sumNat (b.post.good.map (fun q => q.bag))

/-- Post reserves for the frame of a stall whose length is known: cells for its delivery, in WALK room in the Saddlebag (R205). -/
def Block.reserveFor (b : Block) (stall octets : Nat) : Block :=
  if b.post.streams.any (fun q => q.stall == stall) then
    let put (b : Block) (cells bag : Nat) : Block := { b with post := { b.post with
      streams := b.post.streams.map (fun (q : PostStream) => if q.stall = stall then ⟨stall, cells, bag⟩ else q) } }
    if b.est 10 = stReduced then put b 0 (if bagOctets octets ≤ b.bagRoom then bagOctets octets else 0)
    else match b.takeCells (cellsFor (32 + octets)) with
      | some b => put b (cellsFor (32 + octets)) 0
      | none => b
  else b

/-- The PHR is judged (R179): to BODY, with its length, FCS type and DW told to Post (R188), or released. -/
def execPhrJudgement (stall : Fin 128) (nrnsc : PhrRead) (rsc : Option PhrRead) (metrics : Nat × Nat) (s : State) : Host.Outcome State Fault Refusal :=
  let b := s.blk
  s.next (match b.stallAt stall.val with
  | some x =>
    if x.st != .header then b
    else
      let (p, code) := phrChoice (x.coded && x.hyp != 3) nrnsc rsc metrics
      if p.ms then b.releaseStall x.idx C.SIEVE.UNSUPP
      else if !phrValid p then b.releaseStall x.idx C.SIEVE.PHR_ERR
      else (b.setStall { x with st := .body, len := p.len, fcs4 := p.fcs4, dw := p.dw, rsc := code }).reserveFor x.idx
        (p.len - (if p.fcs4 then 4 else 2))
  | none => b)

/-- The last chip of the frame of a stall in BODY, device time in ns (R188, R189). -/
def Block.frameEnd (b : Block) (x : Stall) : Nat := x.sfd + b.bodyNs x.hyp x.coded (b.on F.SIEVE_RXCFG.IL) x.len

/-- A stall's frame as Post receives it with verdict GOOD (R188). -/
def Block.goodFrame (b : Block) (x : Stall) (psdu : List Byte) (q : PostStream) : GoodFrame :=
  { stall := x.idx, ch := x.ch, hyp := x.hyp, coded := x.coded, dw := x.dw, fcs4 := x.fcs4, rssi := x.power / 2, cfo := x.cfo
    sfd := x.sfd, endNs := b.frameEnd x, psdu := psdu, cells := q.cells, bag := q.bag }

/-- The last PSDU bit is decoded (R188): the stall is free, the stream ends GOOD and its frame is Post's with what is reserved for it,
or it ends FCS_FAIL. LAST_RSSI is held with its top bit inverted, so that cleared state reads 0x80 (R201). -/
def execMeshFrameVerdict (stall : Fin 128) (body fcs : List Byte) (s : State) : Host.Outcome State Fault Refusal :=
  let b := s.blk
  let psdu := body ++ fcs
  s.next (match b.stallAt stall.val with
  | some x =>
    if x.st != .body then b
    else
      let b := { b with sieve := { b.sieve with stalls := b.sieve.stalls.filter (fun q => q.idx != x.idx) } }
      let b := match (if psdu.length = x.len then meshChecked x.fcs4 psdu else none) with
        | some body =>
          let b := ((b.count .sieve C.SIEVE.FRAME_OK).chCount x.ch 8).lane 9 x.idx 0
          let b := b.setTab (chState x.ch + 3) 1 (unsignedOf 8 (x.power / 2) ^^^ 0x80)
          { b with post := { b.post with
              good := b.post.good ++ (b.post.streams.filter (fun (q : PostStream) => q.stall == x.idx)).map (b.goodFrame x body)
              streams := b.post.streams.filter (fun q => q.stall != x.idx) } }
        | none => ((b.count .sieve C.SIEVE.FCS_FAIL).chCount x.ch 0xC).undoStream x.idx
      b.sieveIdle
  | none => b)

/-! ### Blinkers -/

/-- A downlink frame or grant is on air: Post awaits its acknowledgement and declares the window in which it may start, the
time of 16 symbols of the hypothesis past NODE_TURN_MAX_US included, for a detection ends a preamble (R185, R213, R226). -/
def Block.awaitAck (b : Block) (t : MeshTx) (grant : Bool) : Block :=
  let stop := b.txEndNs t + 1000 * b.get F.POST_EVT.NODE_TURN_MAX_US + b.h2Ns (16 * bitH2 t.hyp)
  { b with
    post := { b.post with
      await := b.post.await ++ [(⟨t.node, grant, t.ch, t.hyp, (nth t.psdu 2 0).toNat, bitOf (nth t.psdu 0 0).toNat 4⟩ : Await)]
      events := b.post.events.map (fun (e : TetherEvent) => if e.node = t.node ∧ !grant then { e with dlSent := e.dlSent + 1 } else e) }
    sieve := { b.sieve with windows := b.sieve.windows ++ [(⟨t.node, t.ch, t.hyp, b.txEndNs t, stop⟩ : RxWindow)] } }

/-- Post learns that a transmission is on air: counted, and an answer to it awaited (R209, R213, R223, R234). -/
def Block.meshSent (b : Block) (t : MeshTx) : Block :=
  match t.role with
  | 0 => b.count .post C.POST.ACK_SENT
  | 1 => (b.count .post C.POST.DL_SENT).awaitAck t false
  | 3 => (b.count .post C.POST.GRANT_SENT).awaitAck t true
  | _ => b

/-- The power target of chain 16 for what is on air, in 0.25 dBm (R260), less its backoff (R262). -/
def Block.target16 (b : Block) : Int :=
  powDb (powSum ((b.sieve.txs.filter (fun t => t.air)).map (fun t => t.power))) +
    (if bitOf (b.chain16 2) 0 then 2 * b.gain16 else 0) - 2 * ((b.chainAt 16).backoff : Int)

/-- Where the DRAIN of Sieve leads, while it drains. -/
def Block.sieveDrains (b : Block) : Option Nat := if b.est 9 = stDrain then look? b.eng.drains 9 else none

/-- Sieve runs reduced, or drains on the way there (R196, R197). -/
def Block.sieveWalk (b : Block) : Bool := b.est 9 == stReduced || b.sieveDrains == some stReduced

/-- Sieve transmits: it runs, or drains toward RUN or REDUCED, where transmissions continue (R197). -/
def Block.sieveSends (b : Block) : Bool := b.runs 9 || b.sieveDrains == some stRun || b.sieveDrains == some stReduced

/-- The ramp-up of a committed transmission, or the start of CAL in front end 3, blanks channels (R194, R195). A committed
transmission whose front end has left READY, RX and TX cannot start on time; on the way into WALK none starts beside two others
(R197). -/
def execChannelBlanking (cal : Bool) (tx : Nat) (s : State) : Host.Outcome State Fault Refusal :=
  let b := s.blk
  s.next (if cal then (if b.fe 3 = feCal then b.feBlank 3 else b)
  else match b.sieve.txs.find? (fun t => t.id == tx && t.committed && !t.air) with
    | none => b
    | some t =>
      if !b.reached (t.req.start - 1000 * b.rampUs) then b
      else if b.fe 3 < feReady ∨ b.fe 3 = feCal then (b.count (.rfc 3) C.RFC.TX_LATE).meshLate t
      else if b.sieveWalk && decide (2 ≤ (b.sieve.txs.filter (fun q => q.air)).length) then b.meshLate t
      else
        let b := { b with sieve := { b.sieve with
          txs := b.sieve.txs.map (fun (q : SieveTx) => if q.id = tx then { q with air := true } else q) } }
        let b := (b.setFe 3 feTx).updChain 16 (fun c => { c with target := some b.target16, viol := false })
        let b := b.releaseStalls (fun q => b.blanks t.req.ch q.ch) C.SIEVE.BLINKED
        let b := (b.count .sieve C.SIEVE.TX_FRAME).lane 9 132 0
        (b.emit (.mesh { t.req with power := t.power } (b.meshAir t.req t.power))).meshSent t.req)

/-! ### Noise floor -/

/-- MAX of the noise-floor loop in 0.5 dBm. -/
def Block.nfMax (b : Block) : Int := b.getS F.SIEVE_NF_BOUND.MAX

/-- MIN of the noise-floor loop; above MAX it acts as MAX (R381). -/
def Block.nfMin (b : Block) : Int := min b.nfMax (b.getS F.SIEVE_NF_BOUND.MIN)

/-- The update of channel k from its power samples (R190). An NF that a change of the bounds has left outside them goes to the nearer
one also where the loop holds (R381). -/
def Block.nfChannel (b : Block) (k : Nat) (xs : List Int) : Block :=
  let nf := b.noiseFloor k
  let fl := b.tab (chState k + 2) 1
  let open' := !b.on F.SIEVE_NF_LOOP.FREEZE && b.est 9 != stReduced && decide (16 ≤ xs.length)
  if !open' then b.setTab (chState k) 2 (unsignedOf 16 (clampInt b.nfMin b.nfMax nf))
  else
    let v := clampInt b.nfMin b.nfMax
      (if bitOf fl 2 then percentile 20 xs
       else nf + loopStep (percentile 20 xs - nf) (b.get F.SIEVE_NF_LOOP.GAIN_SHIFT) (2 ^ b.get F.SIEVE_NF_LOOP.STEP))
    (b.setTab (chState k) 2 (unsignedOf 16 v)).setTab (chState k + 2) 1
      (setBit (setBit fl 2 false) 0 (decide (v = b.nfMin ∨ v = b.nfMax)))

/-- A period of the noise-floor loop ends; samples per channel in 0.5 dBm, those that R190 excludes left out. -/
def execNfLoopUpdate (samples : List (Nat × List Int)) (s : State) : Host.Outcome State Fault Refusal :=
  let b := s.blk
  s.next (if b.runs 9 && b.on F.SIEVE_NF_LOOP.EN then
    ((List.range b.meshChannels).filter (fun k => bitOf (b.chEntry k) 0)).foldl
      (fun b k => b.nfChannel k (look samples k [])) b
  else b)

/-! ### Transmission -/

/-- Why Sieve does not take a request now (R191, R255, R263): TX_OK, the fuse set, a shut chain 16. -/
def Block.meshJudge (fu : Fuses) (b : Block) (ch : Nat) : TxVerdict :=
  if !bitOf (b.chEntry ch) 6 then .txOk
  else if !fu.regLock || (b.meshSub fu ch).isNone || bitOf (b.get F.RFC_CHAIN_STATE.SHUT) 16 then .regulatory
  else .ok

/-- A request refused (R191), with its reason counted where RFC counts it. -/
def Block.meshRefuse (b : Block) (t : MeshTx) (v : TxVerdict) : Block :=
  let b := b.count .sieve C.SIEVE.TX_REFUSED
  let b := match v with
    | .regulatory => b.count (.rfc 3) C.RFC.REG_REFUSED
    | .duty => b.count (.rfc 3) C.RFC.DUTY_REFUSED
    | _ => b
  b.meshUnsent t

/-- The shortest lead of a request in ns: 2 / S + 100 µs (R192). -/
def Block.leadNs (b : Block) : Nat := 2 * (1000000000 / spacingHz b.spacing) + 100000

/-- A request of Post reaches Sieve (R176, R191, R192, R249, R251), its preamble of 4 to 1,000 octets. A Sieve that does not receive and transmit refuses it by
TX_OK, for no channel of it has TX_OK in effect. -/
def Block.meshRequest (fu : Fuses) (b : Block) (t : MeshTx) : Block :=
  let t := { t with pre := clampTo 4 1000 t.pre }
  let v := if b.sieveSends then b.meshJudge fu t.ch else .txOk
  if v ≠ .ok then b.meshRefuse t v
  else if t.start < b.now + b.leadNs then (b.count .sieve C.SIEVE.TX_LATE).meshUnsent t
  else
    let id := b.sieve.nextTx
    let b := { b with sieve := { b.sieve with nextTx := id + 1, txs := b.sieve.txs ++ [({ id := id, req := t, power := t.power } : SieveTx)] } }
    let b := b.calAbort 3
    if b.fe 3 = feWarm ∨ b.fe 3 = feSettle ∨ b.fe 3 = feCal then
      (b.count (.rfc 3) C.RFC.TX_WAITED).updFe 3 (fun e => { e with waiting := e.waiting ++ [id] })
    else b

/-- A request as Post makes it (R191). -/
def execSieveTxRequest (t : MeshTx) (s : State) : Host.Outcome State Fault Refusal := s.next (s.blk.meshRequest s.fuse t)

/-- Most transmissions on air at once (R192, R196, R197). -/
def Block.maxTx (b : Block) : Nat :=
  let n := clampTo 1 16 (b.get F.SIEVE_TXCFG.MAX_TX)
  if b.sieveWalk then min n 2 else n

/-- The committed transmissions that will be on air at instant ns (R192). -/
def Block.onAirAt (b : Block) (ns : Nat) : List SieveTx :=
  b.sieve.txs.filter (fun t => t.committed &&
    decide (t.req.start ≤ ns + 1000 * b.rampUs ∧ ns < b.txEndNs t.req + 1000 * b.rampUs))

/-- The die-pin power that the cap of R259 leaves, in 0.5 dBm. -/
def Block.capPower (b : Block) (fu : Fuses) (ch : Nat) (p : Int) : Int :=
  match b.meshSub fu ch with
  | some n => min p (minInt (subBand fu n).eirp ((b.caps 3).map (fun c => (c : Int))) - b.gain16)
  | none => p

/-- The commit instant of a request (R192): RAMP_US and TX_LEAD before its start (R253). -/
def Block.commitNs (b : Block) (t : MeshTx) : Nat := t.start - 1000 * (b.rampUs + clampTo 1 100 (b.get (F.RFC_FEM.TX_LEAD 3)))

/-- The commit instant of a request that waits (R191 to R193, R259, R265). A front end not in READY, RX or TX drops it LATE
(R251). -/
def execSieveTxCommit (id : Nat) (s : State) : Host.Outcome State Fault Refusal :=
  let b := s.blk
  s.next (match b.sieve.txs.find? (fun t => t.id == id && !t.committed) with
  | none => b
  | some t =>
    let gone (b : Block) : Block := { b with sieve := { b.sieve with txs := b.sieve.txs.filter (fun q => q.id != id) } }
    if !b.reached (b.commitNs t.req) then b
    else if b.fe 3 < feReady ∨ b.fe 3 = feCal then (b.count (.rfc 3) C.RFC.TX_LATE).meshLate t
    else if !b.sieveSends || decide (t.req.start < b.now) then b.meshLate t
    else
      let v := b.meshJudge s.fuse t.req.ch
      if v ≠ .ok then (gone b).meshRefuse t.req v
      else
        let others := b.onAirAt t.req.start
        let want := clampInt (-40) 28 t.req.power
        let p := b.capPower s.fuse t.req.ch want
        let cut := leastCut (others.map (fun q => q.power)) p
        let sub := (b.meshSub s.fuse t.req.ch).getD 0
        if b.maxTx ≤ others.length then b.meshLate t
        else if 2 * min 20 (b.get F.SIEVE_TXCFG.MAX_CUT) < cut then b.meshLate t
        else if !b.dutyGrants s.fuse sub (b.airUnits t.req) then (gone b).meshRefuse t.req .duty
        else
          let b := b.dutyCharge s.fuse sub (b.airUnits t.req)
          let b := if p < want then b.count (.rfc 3) C.RFC.REG_CAPPED else b
          let b := if 0 < cut then b.count .sieve C.SIEVE.TX_CUT else b
          let b := b.updFe 3 (fun e => { e with waiting := e.waiting.filter (· != id) })
          { b with sieve := { b.sieve with
              txs := b.sieve.txs.map (fun (q : SieveTx) => if q.id = id then { q with committed := true, power := p - cut } else q) } })

/-- The ramp-down of a transmission is complete and its blanking tail begins, or the tail is over (R194, R253). Front end 3
leaves TX with the last transmission (R244). -/
def execSieveTxEnd (id : Nat) (tailOver : Bool) (s : State) : Host.Outcome State Fault Refusal :=
  let b := s.blk
  s.next (if tailOver then
    { b with sieve := { b.sieve with tails := b.sieve.tails.filter (fun t => t.1 != id || !b.reached t.2.2) } }
  else match b.sieve.txs.find? (fun t => t.id == id && t.air) with
    | none => b
    | some t =>
      let units := b.sieve.airRem + b.airUnits t.req
      let b := { b with sieve := { b.sieve with
        txs := b.sieve.txs.filter (fun q => q.id != id), tails := b.sieve.tails ++ [(id, t.req.ch, b.tailEnd)], airRem := units % 100 } }
      let b := if units / 100 = 0 then b else b.lane 9 132 1 (units / 100)
      if b.fe 3 = feTx && !b.sieve.txs.any (fun q => q.air) then
        (b.setFe 3 (if b.sieve.stalls.isEmpty then feReady else feRx)).feBoundary 3
      else b)

/-- Sieve leaves STOP with the span as configured (R199); a Sieve that runs on it already is not touched. -/
def execSieveSpanApply (s : State) : Host.Outcome State Fault Refusal :=
  let b := s.blk
  let c := b.get F.SIEVE_SPAN.SPACING
  let f := b.get F.SIEVE_CH0_FREQ.FREQ
  s.next (if b.runs 9 && b.sieve.span != some ⟨c, tunedHz f, spanValid c f⟩ then b.sieveStart else b)

end Sys2Proof.Machine
end

