-- ==== Sys2Proof/Machine/Post.lean ====
section
/-! DEFINITION. Post and the tether protocol (R202 to R242): the node table, reception, acknowledgements, tethers, downlink
queues, the Saddlebag; the Vault's rebuild, after which the mesh frames that waited for it go on (R321). -/

namespace Sys2Proof.Machine

/-! ### Node table -/

/-- A hot entry (R214). -/
structure Hot where
  st      : Nat := 0
  pend    : Bool := false
  drift   : Nat := 0
  anchN   : Nat := 0
  miss    : Nat := 0
  anchor  : Nat := 0
  profile : Nat := 0
  map     : Nat := 0
  counter : Nat := 0
  deriving DecidableEq, Repr

/-- The fields of a hot entry's 128 bits. -/
def hotOf (v : Nat) : Hot :=
  { st := bitsOf v 1 0, pend := bitOf v 2, drift := bitsOf v 12 3, anchN := bitsOf v 16 13, miss := bitsOf v 43 17
    anchor := bitsOf v 79 44, profile := bitsOf v 87 80, map := bitsOf v 95 88, counter := bitsOf v 127 96 }

/-- The 128 bits of a hot entry. -/
def hotWord (h : Hot) : Nat :=
  h.st % 4 + b2n h.pend * 2 ^ 2 + (h.drift % 2 ^ 10) * 2 ^ 3 + (h.anchN % 2 ^ 4) * 2 ^ 13 + (h.miss % 2 ^ 27) * 2 ^ 17 +
    (h.anchor % 2 ^ 36) * 2 ^ 44 + (h.profile % 2 ^ 8) * 2 ^ 80 + (h.map % 2 ^ 8) * 2 ^ 88 + (h.counter % 2 ^ 32) * 2 ^ 96

/-- Node states of R214. -/
def stFree : Nat := 0
def stKnown : Nat := 1
def stGranting : Nat := 2
def stTethered : Nat := 3

/-- The hot entry of a node. -/
def Block.hot (b : Block) (node : Nat) : Hot := hotOf (b.tab (hotAddr node) 16)

/-- b with a node's hot entry replaced. -/
def Block.setHot (b : Block) (node : Nat) (h : Hot) : Block := b.setTab (hotAddr node) 16 (hotWord h)

/-- b with Post changed. -/
def Block.updPost (b : Block) (f : Post → Post) : Block := { b with post := f b.post }

/-- Post serves its hot table alone (R236): in REDUCED, and in a DRAIN that began there. -/
def Block.postWalk (b : Block) : Bool :=
  b.est 10 == stReduced ||
    (b.est 10 == stDrain &&
      (look b.eng.drains 10 9 == stRun || (b.watch.plan == 3 && look b.eng.drains 10 9 != stReduced)))

/-- Post sends downlink frames, grants and broadcasts: in RUN, and in a DRAIN from there for the event in progress (R236, R239). -/
def Block.postSends (b : Block) : Bool := b.est 10 == stRun || (b.est 10 == stDrain && !b.postWalk)

/-- The hot entry saved to the record in TROT and higher (R218). -/
def Block.keepHot (b : Block) (node : Nat) : Block := if b.postWalk then b else b.saveHot node

/-- A field of a node's record (R217): n bytes at offset o. -/
def Block.rec' (b : Block) (node o n : Nat) : Nat := b.ram (recAddr node + o) n

/-- b with a field of a node's record set; in WALK no record is touched (R236). -/
def Block.setRec (b : Block) (node o n v : Nat) : Block := if b.postWalk then b else b.setRam (recAddr node + o) n v

/-- Count i of COUNTS raised by 1. -/
def Block.recCount (b : Block) (node i : Nat) : Block :=
  b.setRec node (0x38 + 4 * i) 4 ((b.rec' node (0x38 + 4 * i) 4 + 1) % 2 ^ 32)

/-- A device time of which a hot entry holds the units of 2 µs modulo 2^36: the one from 2^34 units before now on (DEDUCED,
log entry 26). -/
def Block.anchorNs (b : Block) (v : Nat) : Nat :=
  let u := b.now / 2000
  (u + (v + 2 ^ 36 + 2 ^ 34 - u % 2 ^ 36) % 2 ^ 36 - 2 ^ 34) * 2000

/-! ### PANs, profiles, maps -/

/-- n bytes at offset o of a PAN entry (R202). -/
def Block.pan (b : Block) (p o n : Nat) : Nat := b.btab 10 2 (0x2603000 + 32 * p + o) n

/-- n bytes at offset o of a profile (R219). -/
def Block.prof (b : Block) (i o n : Nat) : Nat := b.btab 10 0 (0x2600000 + 16 * i + o) n

/-- A profile is VALID (R219). -/
def Block.profValid (b : Block) (i : Nat) : Bool :=
  bitOf (b.prof i 0xF 1) 0 && decide (10 ≤ b.prof i 0 4 ∧ b.prof i 0 4 ≤ 86400000) &&
    decide (100 ≤ b.prof i 4 4 ∧ b.prof i 4 4 ≤ 604800000) && decide (1 ≤ b.prof i 0xA 2 ∧ b.prof i 0xA 2 ≤ 500) &&
    decide (b.prof i 0xC 1 < 8) && decide (4 ≤ b.prof i 0xD 1)

/-- The guard cap in effect, in µs (R219). -/
def Block.guardUs (b : Block) (i : Nat) : Nat :=
  let c := b.prof i 8 2
  min (if c = 0 then 5000 else 10 * c) (250 * b.prof i 0 4)

/-- The effective map as a bit set (R220). -/
def Block.effMap (b : Block) (m : Nat) : Nat := b.btab 10 1 (0x2601000 + 32 * m) 32 % 2 ^ b.meshChannels

/-- The channels of the effective map, ascending. -/
def Block.usedChans (b : Block) (m : Nat) : List Nat := bitsSet 256 (b.effMap m)

/-- The hop seed of a tether (R224). -/
def Block.hopSeed (b : Block) (node : Nat) : Nat := b.pan (node / 32768) 4 4 ^^^ node

/-- The channel of event c (R224). -/
def hopChannel (seed c : Nat) (used : List Nat) : Nat :=
  let x := seed ^^^ ((c * 0x9E3779B1) % 2 ^ 32)
  let x := x ^^^ (x >>> 16)
  let x := (x * 0x85EBCA6B) % 2 ^ 32
  let x := x ^^^ (x >>> 13)
  if used.contains (x % 256) then x % 256 else nth used (x % used.length) 0

/-- D_node + D_dev in 0.1 ppm (R228). -/
def Block.driftSum (b : Block) (h : Hot) : Nat :=
  (if h.anchN < 8 then 10 * b.prof h.profile 0xA 2 else 5 * h.drift) +
    (if b.postWalk then 200
     else if b.on F.CART_PTP_STATUS.LOCKED then b.get F.POST_TCFG.LOCK_PPM else b.get F.POST_TCFG.FREE_PPM)

/-- The widening w in µs (R228). -/
def Block.widening (b : Block) (h : Hot) : Nat :=
  ceilDiv (b.driftSum h * (h.miss + 1) * b.prof h.profile 0 4) 10000 + 16

/-- T_shr of a profile in ns: PRE_OCT + 2 octets at the hypothesis's bit rate, for H3 the rate of its data bits (R226, R178). -/
def Block.tshrNs (b : Block) (i : Nat) : Nat :=
  let hyp := b.prof i 0xC 1 % 4
  b.h2Ns ((if hyp = 3 then 8 else bitH2 hyp) * 8 * (b.prof i 0xD 1 + 2))

/-! ### Deliveries -/

/-- The receive header of R208. -/
def recvHeader (type flags ch mode node time counter : Nat) (rssi : Int) (pan len cookie outcome : Nat) : List Byte :=
  bytesLE 1 type ++ bytesLE 1 flags ++ bytesLE 1 ch ++ bytesLE 1 mode ++ bytesLE 4 node ++ bytesLE 8 time ++ bytesLE 4 counter ++
    bytesLE 1 (unsignedOf 8 rssi) ++ bytesLE 1 pan ++ bytesLE 2 len ++ bytesLE 4 cookie ++ bytesLE 4 outcome

/-- A delivery of PAN slot pan to the steward (R208, R291). -/
def Block.meshUp (b : Block) (pan : Nat) (octets : List Byte) (ts : Option Nat) : Block :=
  b.stewDeliver (12 + pan) (b.pvid (12 + pan)) octets ts

/-- RXMODE of a frame. -/
def rxMode (f : MeshFrame) : Nat := f.hyp + 4 * b2n f.coded

/-- A frame delivered (R208). base: FLAGS but for EXT_SRC, BCAST_DST and EVENT. -/
def Block.deliver (b : Block) (f : MeshFrame) (pan node base : Nat) (event : Option Nat) : Block :=
  let isExt := match f.src with | .ext _ => true | _ => false
  let flags := base + b2n isExt + 16 * b2n (f.dst == .short 0xFFFF) + 32 * b2n event.isSome
  let body := f.mhr ++ f.payload
  (b.count .post C.POST.DELIVERED).meshUp pan
    (recvHeader 0 flags f.ch (rxMode f) node f.sfd (event.getD 0) f.rssi pan body.length 0 0 ++ body) (some f.sfd)

/-- A confirmation for a frame with REPORT set (R234). -/
def Block.confirm (b : Block) (h : SendHdr) (outcome : Nat) : Block :=
  if h.report then b.meshUp (h.node / 32768) (recvHeader 1 0 0 0 h.node 0 0 0 (h.node / 32768) 0 h.cookie outcome) none else b

/-! ### Downlink queues -/

/-- The queue of a node. -/
def Block.dlQueue (b : Block) (node : Nat) : List DlFrame :=
  match b.post.queues.find? (fun q => q.node == node) with
  | some q => q.frames
  | none => []

/-- A node has a grant pending. -/
def Block.grantFor (b : Block) (node : Nat) : Option Grant := b.post.grants.find? (fun g => g.node == node)

/-- The frame that may be sent now: in an event the head, else the first without EVENT_ONLY (R233; DEDUCED, log entry 27). -/
def sendable (event : Bool) (fs : List DlFrame) : Option DlFrame := fs.find? (fun f => event || !f.hdr.eventOnly)

/-- PEND of a node follows its queue and its grant (R214). -/
def Block.fixPend (b : Block) (node : Nat) : Block :=
  let h := b.hot node
  if h.st = stFree then b
  else b.setHot node { h with
    pend := (sendable (h.st == stTethered) (b.dlQueue node)).isSome || (b.grantFor node).isSome }

/-- b with the queue of a node replaced. -/
def Block.setDlQueue (b : Block) (node : Nat) (fs : List DlFrame) : Block :=
  let rest := b.post.queues.filter (fun q => q.node != node)
  (b.updPost (fun p => { p with queues := if fs.isEmpty then rest else rest ++ [(⟨node, fs⟩ : DlQueue)] })).fixPend node

/-- Cells of the pool that a queued frame takes: its send header and its octets (R233; DEDUCED, log entry 27). -/
def dlCells (body : List Byte) : Nat := ceilDiv (16 + body.length) 256

/-- A frame leaves a node's queue: its cells return, counted in the queue manager's lane. -/
def Block.dlLeave (b : Block) (node : Nat) (f : DlFrame) : Block :=
  let b := b.setDlQueue node ((b.dlQueue node).erase f)
  (b.updPost (fun p => { p with freeQ := p.freeQ + dlCells f.body })).lane 10 3 1

/-- A queued frame dropped with an outcome (R234). -/
def Block.dlDrop (b : Block) (node : Nat) (f : DlFrame) (outcome : Nat) : Block := (b.dlLeave node f).confirm f.hdr outcome

/-- Lifetime of a queued frame in ns (R232, POST_DLQ.LIFE_S). -/
def Block.lifeNs (b : Block) (s : Nat) : Nat := 1000000000 * (if s = 0 then max 1 (b.get F.POST_DLQ.LIFE_S) else s)

/-- The frame at the head is past its lifetime. -/
def Block.dlLate (b : Block) (f : DlFrame) : Bool := decide (f.ns + b.lifeNs f.hdr.lifeS ≤ b.ao)

/-- A frame dropped for its age: counted, with its confirmation. -/
def Block.dlExpire (b : Block) (node : Nat) (f : DlFrame) : Block :=
  ((b.count .post C.POST.DL_EXPIRED).recCount node 7).dlDrop node f 2

/-- Frames found at the head past their lifetime dropped, at most n of them. -/
def Block.dlAge (b : Block) (node : Nat) : Nat → Block
  | 0 => b
  | n + 1 => match b.dlQueue node with
    | f :: _ => if b.dlLate f then (b.dlExpire node f).dlAge node n else b
    | [] => b

/-- The queue of a node flushed, with confirmations (R216). -/
def Block.dlFlush (b : Block) (node : Nat) : Block := (b.dlQueue node).foldl (fun b f => b.dlDrop node f 4) b

/-- The tether event of a node in progress. -/
def Block.eventOf (b : Block) (node : Nat) : Option TetherEvent := b.post.events.find? (fun e => e.node == node)

/-- The pending bit of an acknowledgement to a node (R211, R236). -/
def Block.pendingBit (b : Block) (node : Nat) : Bool :=
  if b.postWalk then false
  else match b.eventOf node with
    | some e => e.maxDl != 0 && ((sendable true (b.dlQueue node)).isSome || (b.grantFor node).isSome)
    | none => (sendable false (b.dlQueue node)).isSome || (b.grantFor node).isSome

/-- A frame for the MESH port enters its node's queue (R233). -/
def Block.dlEnqueue (b : Block) (h : SendHdr) (body : List Byte) : Block :=
  let q := b.dlQueue h.node
  if (b.hot h.node).st = stFree ∨ max 1 (b.get F.POST_DLQ.MAX_FRAMES) ≤ q.length ∨ b.post.freeQ < dlCells body then
    (b.count .post C.POST.DL_FULL_DROP).confirm h 5
  else
    let b := b.updPost (fun p => { p with freeQ := p.freeQ - dlCells body })
    (b.setDlQueue h.node (q ++ [({ hdr := h, body := body, ns := b.ao } : DlFrame)])).lane 10 3 0

/-! ### Frames of Post -/

/-- PRE_OCT in effect (POST_EVT). -/
def Block.preOct (b : Block) : Nat := max 4 (b.get F.POST_EVT.PRE_OCT)

/-- Least turnaround in ns: 4 / S + 140 µs (R210). -/
def Block.turnMin (b : Block) : Nat := 4 * (1000000000 / spacingHz b.spacing) + 140000

/-- A frame control field: type, secured, Frame Pending, AR, PAN ID compression, IEs, destination mode, version, source mode. -/
def frameControl (type : Nat) (sec fp ar comp ie : Bool) (dm ver sm : Nat) : List Byte :=
  bytesLE 2 (type + 8 * b2n sec + 16 * b2n fp + 32 * b2n ar + 64 * b2n comp + 512 * b2n ie + 1024 * dm + 4096 * ver + 16384 * sm)

/-- A Kigoser header IE (R221): element 0x00, the vendor's identifier, subtype, content. -/
def kigoserIe (subtype : Nat) (content : List Byte) : List Byte :=
  bytesLE 2 (4 + content.length) ++ [0x7A, 0x4B, 0x47] ++ bytesLE 1 subtype ++ content

/-- The content of a Kigoser IE of a subtype, at least n octets of it (R221). -/
def tetherIe (f : MeshFrame) (subtype n : Nat) : Option (List Byte) :=
  f.ies.findSome? (fun x =>
    if x.1 = 0 ∧ x.2.take 4 = [0x7A, 0x4B, 0x47, BitVec.ofNat 8 subtype] then
      (if 4 + n ≤ x.2.length then some (x.2.drop 4) else none) else none)

/-- An acknowledgement's octets with FCS (R209). -/
def ackPsdu (f : MeshFrame) (fp : Bool) (flags : Nat) : List Byte :=
  let seq := bytesLE 1 (f.seq.getD 0)
  let bs := if f.version < 2 then frameControl 2 false fp false false false 0 0 0 ++ seq
    else
      let (dm, da) := match f.src with
        | .short a => (2, bytesLE 2 a)
        | .ext a => (3, bytesLE 8 a)
        | .none => (0, [])
      frameControl 2 false fp false true true dm 2 0 ++ seq ++ da ++ kigoserIe 2 (bytesLE 1 flags)
  bs ++ meshFcs f.fcs4 bs

/-- Power of a request: the manual states none (free value, log entry 11). -/
def Block.drawPower (b : Block) : Int × Block := let (v, b) := b.draw; (signedOf 8 v, b)

/-- The auxiliary security header of R206: level, key identifier mode 0, frame counter. -/
def auxHdr (level fc : Nat) : List Byte := bytesLE 1 level ++ bytesLE 4 fc

/-- CCM* nonce of our frames: EXT most significant octet first, frame counter, level (IEEE 802.15.4). -/
def meshNonce (ext fc level : Nat) : List Byte := bytesBE 8 ext ++ bytesBE 4 fc ++ bytesLE 1 level

/-- A data frame to a node (R232), secured at its level with a value of the mesh frame counter (R206): none when the key or
the counter does not serve. -/
def Block.dataPsdu (b : Block) (node level seq : Nat) (fp fcs4 : Bool) (ies body : List Byte) : Option (List Byte) × Block :=
  let p := node / 32768
  let head := frameControl 1 (level != 0) fp true true (!ies.isEmpty) 2 2 2 ++ bytesLE 1 seq ++ bytesLE 2 (b.pan p 0 2) ++
    bytesLE 2 (node % 32768) ++ bytesLE 2 (b.pan p 2 2)
  if level = 0 then
    let bs := head ++ ies ++ body
    (some (bs ++ meshFcs fcs4 bs), b)
  else
    match b.keyProtect 1 node with
    | (none, b) => (none, b)
    | (some k, b) =>
      match b.mfcTake with
      | (none, b) => (none, b)
      | (some fc, b) =>
        let mhr := head ++ auxHdr level fc ++ ies
        let n := micLen level
        let nonce := meshNonce (b.pan p 8 8) fc level
        let (ct, mic) := if level < 4 then ccmStar k.key nonce (mhr ++ body) [] n else ccmStar k.key nonce mhr body n
        let bs := mhr ++ (if level < 4 then body else ct) ++ mic
        (some (bs ++ meshFcs fcs4 bs), (b.count .lock C.LOCK.MESH_CCM).countBlocks 0 k.mode (mhr.length + body.length))

/-- The next downlink sequence number of a node (OUT_DSN). -/
def Block.takeDsn (b : Block) (node : Nat) : Nat × Block :=
  let d := b.rec' node 0x10 1
  (d, b.setRec node 0x10 1 ((d + 1) % 256))

/-- A transmission to a node in the mode of an exchange (R213, R226). -/
def exchTx (b : Block) (x : Exch) (psdu : List Byte) (power : Int) (role : Nat) : MeshTx :=
  { ch := x.ch, hyp := x.hyp, pre := b.preOct, coded := x.coded, il := x.coded, dw := x.dw, fcs4 := x.fcs4, psdu := psdu
    power := power, start := x.next, role := role, node := x.node }

/-- The grant for a node sent (R223): its first anchor and counter are computed for this transmission. -/
def Block.sendGrant (fu : Fuses) (b : Block) (x : Exch) (g : Grant) : Block :=
  let sfd := x.next + b.shrNs x.hyp b.preOct
  let step := 1000000 * b.prof g.profile 0 4
  let j : Int := -(((g.first : Int) - (sfd + 10000000)) / step)
  let a : Int := g.first + j * step
  let c := (((b.hot x.node).counter : Int) + j) % 2 ^ 32
  let content := bytesLE 3 x.node ++ bytesLE 4 c.toNat ++ bytesLE 5 ((a - sfd) / 1000).toNat ++ bytesLE 4 (b.prof g.profile 0 4) ++
    bytesLE 4 (b.prof g.profile 4 4) ++ bytesLE 4 (b.hopSeed x.node) ++ bytesLE 1 (b.prof g.profile 0xC 1) ++
    bytesLE 1 (b.prof g.profile 0xD 1) ++ bytesLE 1 (b.prof g.profile 0xE 1) ++ bytesLE 32 (b.effMap g.map)
  let (seq, b) := b.takeDsn x.node
  let more := (sendable x.event (b.dlQueue x.node)).isSome
  match b.dataPsdu x.node (b.rec' x.node 8 1 % 8) seq more x.fcs4 (kigoserIe 3 content) [] with
  | (none, b) => b
  | (some psdu, b) =>
    let (p, b) := b.drawPower
    let b := b.updPost (fun q => { q with grants := q.grants.map (fun (h : Grant) =>
      if h.node = x.node then { h with sentC := c.toNat, sentA := a.toNat } else h) })
    b.meshRequest fu (exchTx b x psdu p 3)

/-- A queued frame sent (R213, R226): its sequence number is kept over its retries; its Frame Pending bit tells whether another
follows. -/
def Block.sendFrame (fu : Fuses) (b : Block) (x : Exch) (f : DlFrame) : Block :=
  let (seq, b) := match f.dsn with
    | some d => (d, b)
    | none =>
      let (d, b) := b.takeDsn x.node
      (d, b.setDlQueue x.node ((b.dlQueue x.node).map (fun (q : DlFrame) => if q = f then { q with dsn := some d } else q)))
  let rest := (sendable x.event ((b.dlQueue x.node).filter (fun q => q.dsn != some seq))).isSome
  let more := rest && (match b.eventOf x.node with
    | some e => !x.event || decide (e.dlSent + 1 < e.maxDl)
    | none => true)
  match b.dataPsdu x.node f.hdr.level seq more x.fcs4 [] f.body with
  | (none, b) => b
  | (some psdu, b) =>
    let (p, b) := b.drawPower
    b.meshRequest fu (exchTx b x psdu p 1)

/-- The exchange with a node ends. -/
def Block.exchEnd (b : Block) (node : Nat) : Block :=
  b.updPost (fun p => { p with exch := p.exch.filter (fun x => x.node != node) })

/-- The next downlink of an exchange: the pending grant, else the frame that may be sent now (R213, R223, R226). In an event no
more than MAX_DL frames, none that would start later than A + INTERVAL / 2. -/
def Block.sendNext (fu : Fuses) (b : Block) (x : Exch) : Block :=
  let fits := match b.eventOf x.node with
    | some e => !x.event || (decide (e.dlSent < e.maxDl) && decide (x.next ≤ e.anchor + 500000 * e.interval))
    | none => !x.event
  if !b.postSends ∨ x.more ∨ !fits ∨ b.post.await.any (fun a => a.node == x.node) then b
  else
    let b := b.dlAge x.node (b.dlQueue x.node).length
    let b := if x.event then b else b.exchEnd x.node
    match b.grantFor x.node with
    | some g => b.sendGrant fu x g
    | none => match sendable x.event (b.dlQueue x.node) with
      | some f => b.sendFrame fu x f
      | none => b.exchEnd x.node

/-- After a poll, when the acknowledgement showed Frame Pending (R213). -/
def execDataRequestPoll (node : Fin 131072) (s : State) : Host.Outcome State Fault Refusal :=
  s.next (match s.blk.post.exch.find? (fun x => x.node == node.val && !x.event) with
  | some x => s.blk.sendNext s.fuse x
  | none => s.blk)

/-- Inside a tether event (R226). -/
def execDownlinkSend (node : Fin 131072) (s : State) : Host.Outcome State Fault Refusal :=
  s.next (match s.blk.post.exch.find? (fun x => x.node == node.val && x.event) with
  | some x => s.blk.sendNext s.fuse x
  | none => s.blk)

/-- A BROADCAST frame sent once (R235). Version 1 with the GX-3256's short address as its source (PRESUMED, log entry 28); its
sequence number, coding, whitening, FCS type and power are free values. -/
def Block.broadcast (fu : Fuses) (b : Block) (h : SendHdr) (body : List Byte) : Block :=
  if b.est 10 ≠ stRun then b
  else
    let (v, b) := b.draw
    let (p, b) := b.drawPower
    let fcs4 := bitOf v 8
    let bs := frameControl 1 false false false true false 2 1 2 ++ bytesLE 1 v ++ bytesLE 2 (b.pan h.pan 0 2) ++
      bytesLE 2 0xFFFF ++ bytesLE 2 (b.pan h.pan 2 2) ++ body
    b.meshRequest fu { ch := h.channel, hyp := h.hyp, pre := b.preOct, coded := bitOf v 9, il := bitOf v 10, dw := bitOf v 11,
                       fcs4 := fcs4, psdu := bs ++ meshFcs fcs4 bs, power := p, start := b.now + b.leadNs, role := 2,
                       node := 131072 }

/-- A frame that Carter hands to the MESH port (R232, R233, R235). Without a Post that runs it goes nowhere. -/
def Block.meshEnqueue (fu : Fuses) (b : Block) (h : SendHdr) (body : List Byte) : Block :=
  if b.est 10 ≠ stRun then b else if h.broadcast then b.broadcast fu h body else b.dlEnqueue h body

/-- A frame leaves the MESH trough (R233). -/
def execMeshEnqueue (h : SendHdr) (body : List Byte) (s : State) : Host.Outcome State Fault Refusal :=
  s.next (s.blk.meshEnqueue s.fuse h body)

/-- A BROADCAST frame (R235). -/
def execMeshBroadcast (h : SendHdr) (body : List Byte) (s : State) : Host.Outcome State Fault Refusal :=
  s.next (s.blk.broadcast s.fuse h body)

/-- The frame at the head of a node's queue is found past its lifetime (R234). -/
def execDownlinkExpired (node : Fin 131072) (s : State) : Host.Outcome State Fault Refusal :=
  let b := s.blk
  s.next (if b.est 10 ≠ stRun then b
  else match b.dlQueue node.val with
    | f :: _ => if b.dlLate f then b.dlExpire node.val f else b
    | [] => b)

/-! ### State changes of a node -/

/-- A ledger record of Post with node index and reason (R240). -/
def Block.postEvent (b : Block) (src node reason : Nat) : Block := b.event 10 src 0 (bytesLE 4 node ++ bytesLE 1 reason)

/-- The grant of a node withdrawn. -/
def Block.dropGrant (b : Block) (node : Nat) : Block :=
  (b.updPost (fun p => { p with grants := p.grants.filter (fun g => g.node != node)
                                await := p.await.filter (fun a => !(a.node == node && a.grant)) })).fixPend node

/-- Windows declared for a node withdrawn. -/
def Block.dropWindows (b : Block) (node : Nat) : Block :=
  { b with sieve := { b.sieve with windows := b.sieve.windows.filter (fun w => w.node != node) } }

/-- What Post keeps of a tether beyond its hot entry forgotten. -/
def Block.dropTether (b : Block) (node : Nat) : Block :=
  b.updPost (fun p => { p with outReach := p.outReach.filter (· != node), anchored := del p.anchored node })

/-- A tether thrown (R231): KNOWN, counted, recorded; TETHER of the record follows (R218; DEDUCED, log entry 165). -/
def Block.throwTether (b : Block) (node reason : Nat) : Block :=
  let h := b.hot node
  ((((b.setHot node { h with st := stKnown }).fixPend node).keepHot node).dropTether node |>.count .post C.POST.THROWN).postEvent 16 node
    reason

/-- CREATE (R216, R223): the reason of its refusal, or the block. -/
def Block.create (b : Block) (node : Nat) (args : List Nat) : Nat × Block :=
  let prof := nth args 0 0
  let map := nth args 1 0
  if (b.hot node).st ≠ stKnown then (1, b)
  else if !b.profValid prof || b.effMap map == 0 then (2, b)
  else
    let b := b.setHot node { st := stGranting, profile := prof, map := map, counter := nth args 2 0 }
    let b := b.updPost (fun p => { p with grants := p.grants ++
      [({ node := node, profile := prof, map := map, first := nth args 3 0, expiry := b.ao + b.lifeNs (nth args 4 0) } : Grant)] })
    (0, (b.fixPend node).keepHot node)

/-- The record buffer (R217). -/
def recBuf : Nat := 0x2610000

/-- The steward-owned fields of the record buffer copied into a node's record. -/
def Block.bufToRec (b : Block) (node : Nat) : Block :=
  let d := writeBytes b.dram 0 (recAddr node) (readBytes b.tabs 0 recBuf 10)
  { b with dram := writeBytes d 0 (recAddr node + 0x80) (readBytes b.tabs 0 (recBuf + 0x80) 128) }

/-- Uncorrectable DRAM error in a node record (R242 row 3): the tether thrown, the record zeroed but for EXT_ADDR where that is
readable. -/
def Block.recordLost (b : Block) (node : Nat) (ext : Bool) : Block :=
  let b := if (b.hot node).st = stTethered then b.throwTether node 3 else b
  let d := clearRange b.dram (recAddr node) 256
  { b with dram := if ext then writeBytes d 0 (recAddr node) (readBytes b.dram 0 (recAddr node) 8) else d }

/-- One command carried out (R216): the reason of its refusal, 0 = done. recErr: the record it touches is found in error, which has
the effect of R242 and leaves the command undone. -/
def Block.tcmdRun (b : Block) (op node : Nat) (args : List Nat) (recErr : Bool) : Nat × Block :=
  let h := b.hot node
  let touch (ok : Nat × Block) : Nat × Block := if recErr then (4, (b.recordLost node true).note 10 3) else ok
  if b.postWalk then (3, b)
  else if op = 1 then
    if h.st ≠ stFree then (1, b)
    else
      let b' := { b with dram := clearRange b.dram (recAddr node + 10) 0x76 }
      touch (0, (((b'.bufToRec node).setHot node { st := stKnown }).fixPend node).saveHot node)
  else if op = 3 then b.create node args
  else if h.st = stFree then (1, b)
  else match op with
    | 2 =>
      let b := (((b.dlFlush node).dropGrant node).dropTether node).exchEnd node
      let gone := b.post.held.filter (fun f => f.node == node)
      let b := gone.foldl (fun b f => b.freeCells f.cells) b
      let b := b.updPost (fun p => { p with await := p.await.filter (fun a => a.node != node), held := p.held.filter (fun f => f.node != node) })
      (0, ((b.dropWindows node).setHot node {}).saveHot node)
    | 4 =>
      if h.st = stTethered then (0, b.throwTether node 2)
      else if h.st = stGranting then (0, ((b.setHot node { h with st := stKnown }).dropGrant node).saveHot node)
      else (1, b)
    | 5 => touch (0, b.setTabBytes recBuf (readBytes b.dram 0 (recAddr node) 256))
    | 6 => touch (0, b.bufToRec node)
    | _ => (0, b.dlFlush node)

/-- POST_TCMD_STATUS set. -/
def Block.tcmdStatus (b : Block) (state reason node : Nat) : Block :=
  ((b.set F.POST_TCMD_STATUS.STATE state).set F.POST_TCMD_STATUS.REASON reason).set F.POST_TCMD_STATUS.NODE node

/-- A command carried out and its status told. -/
def Block.tcmdDo (b : Block) (op node : Nat) (args : List Nat) (recErr : Bool) : Block :=
  let (r, b) := b.tcmdRun op node args recErr
  b.tcmdStatus (if r = 0 then 2 else 3) r node

/-- The arguments of a command: PROFILE, MAP, COUNTER0, FIRST, GRANT_LIFE_S. -/
def Block.tcmdArgs (b : Block) : List Nat :=
  [b.get F.POST_TARG0.PROFILE, b.get F.POST_TARG0.MAP, b.get F.POST_TARG1.COUNTER0,
   b.get F.POST_TARG2.FIRST_LO + 2 ^ 32 * b.get F.POST_TARG3.FIRST_HI, b.get F.POST_TARG0.GRANT_LIFE_S]

/-- A write to POST_TCMD (R216): ignored with a NOTE record while BUSY; on a node whose event is in progress the command waits
for the event's end. -/
def Block.tcmdWrite (b : Block) (road : Road) (op node : Nat) (recErr : Bool := false) : Block :=
  if !b.runs 10 || op = 0 || decide (8 ≤ op) then b
  else if b.get F.POST_TCMD_STATUS.STATE = 1 then b.noteWrite road R.POST_TCMD (op * 2 ^ 28 + node)
  else match b.eventOf node with
    | some _ =>
      if b.postWalk then b.tcmdDo op node b.tcmdArgs recErr
      else (b.updPost (fun p => { p with events := p.events.map (fun (e : TetherEvent) =>
        if e.node = node then { e with deferred := some (op, recErr, b.tcmdArgs) } else e) })).tcmdStatus 1 0 node
    | none => b.tcmdDo op node b.tcmdArgs recErr

/-- ADMIT (R216), which may find the node's record in error. -/
def execAdmitNode (node : NodeAccess) (s : State) : Host.Outcome State Fault Refusal :=
  s.next (s.blk.tcmdWrite .bar0 1 node.node.val node.recErr)

/-- FORGET (R216). -/
def execForget (node : Fin 131072) (s : State) : Host.Outcome State Fault Refusal := s.next (s.blk.tcmdWrite .bar0 2 node.val)

/-- CREATE (R216). -/
def execCreate (node : Fin 131072) (s : State) : Host.Outcome State Fault Refusal := s.next (s.blk.tcmdWrite .bar0 3 node.val)

/-- THROW (R216). -/
def execThrow (node : Fin 131072) (s : State) : Host.Outcome State Fault Refusal := s.next (s.blk.tcmdWrite .bar0 4 node.val)

/-- READ (R216), which may find the node's record in error. -/
def execRead (node : NodeAccess) (s : State) : Host.Outcome State Fault Refusal :=
  s.next (s.blk.tcmdWrite .bar0 5 node.node.val node.recErr)

/-- WRITE (R216), which may find the node's record in error. -/
def execWrite (node : NodeAccess) (s : State) : Host.Outcome State Fault Refusal :=
  s.next (s.blk.tcmdWrite .bar0 6 node.node.val node.recErr)

/-- FLUSH (R216). -/
def execFlush (node : Fin 131072) (s : State) : Host.Outcome State Fault Refusal := s.next (s.blk.tcmdWrite .bar0 7 node.val)

/-! ### Tether events -/

/-- One event on for a tether: COUNTER and ANCHOR advance, MISS with a missed one (R226, R230). -/
def Block.advance (b : Block) (node interval : Nat) (missed : Bool) : Block :=
  let h := b.hot node
  b.setHot node { h with
    counter := h.counter + 1, anchor := h.anchor + 500 * interval, miss := if missed then min (h.miss + 1) (2 ^ 27 - 1) else h.miss }

/-- Supervision (R231). -/
def Block.supervise (b : Block) (node interval sup : Nat) : Block :=
  if (b.hot node).st = stTethered ∧ sup ≤ (b.hot node).miss * interval then b.throwTether node 0 else b

/-- An event skipped (R230): no window, no wake. -/
def Block.skipEvent (b : Block) (node n : Nat) : Block :=
  let i := (b.hot node).profile
  let b := (((b.count .post n).lane 10 2 1).recCount node 5).advance node (b.prof i 0 4) true
  (b.keepHot node).supervise node (b.prof i 0 4) (b.prof i 4 4)

/-- The event that a hot entry is about, as it begins. -/
def Block.newEvent (b : Block) (node : Nat) (hit : Bool) : TetherEvent :=
  let h := b.hot node
  { node := node, ch := hopChannel (b.hopSeed node) h.counter (b.usedChans h.map), anchor := b.anchorNs h.anchor
    interval := b.prof h.profile 0 4, sup := b.prof h.profile 4 4, hyp := b.prof h.profile 0xC 1 % 4
    maxDl := b.prof h.profile 0xE 1, used := b.usedChans h.map, hit := hit }

/-- A tether's event falls inside the rebuild of the hot table: its record, from which the entry comes, shows it missed (R218, R231). -/
def Block.missInRebuild (b : Block) (node : Nat) : Block :=
  let b := b.setTabBytes (hotAddr node) (readBytes b.dram 0 (recAddr node + 0x1C) 16)
  let h := b.hot node
  let b := if h.st = stTethered then
      (((b.count .post C.POST.EVT_MISS).recCount node 4).advance node (b.prof h.profile 0 4) true).supervise node (b.prof h.profile 0 4)
        (b.prof h.profile 4 4)
    else b
  { b.saveHot node with tabs := clearRange b.tabs (hotAddr node) 16 }

/-- The instant comes to declare the window of a tether's next event (R226, R228, R230). An event inside the rebuild of the hot
table is missed (R218). The window aborts a calibration step of front end 3 (R249); in WALK the Watchman is told its start (R236). -/
def execTetherWindowOpen (node : Fin 131072) (s : State) : Host.Outcome State Fault Refusal :=
  let b := s.blk
  let n := node.val
  let h := b.hot n
  s.next (if b.est 10 = stStart ∧ b.post.rebuild then b.missInRebuild n
  else if h.st ≠ stTethered ∨ (b.eventOf n).isSome then b
  else if !b.runs 10 then b
  else
    let w := b.widening h
    if b.post.outReach.contains n ∨ b.guardUs h.profile < w ∨ b.effMap h.map = 0 then
      (b.skipEvent n C.POST.OUT_OF_REACH).updPost (fun p => { p with
        outReach := if (b.hot n).st = stTethered ∧ !p.outReach.contains n then p.outReach ++ [n] else p.outReach })
    else
      let e := b.newEvent n false
      let start := e.anchor - 1000 * w - b.tshrNs h.profile
      let b := (b.updPost (fun p => { p with events := p.events ++ [e] })).lane 10 2 0
      let b := { b with sieve := { b.sieve with windows := b.sieve.windows ++
        [(⟨n, e.ch, e.hyp, start, e.anchor + 1000 * w⟩ : RxWindow)] } }
      let b := if b.postWalk && bitOf (b.get F.WATCH_WAKE_EN.WAKE) 3 then { b with watch := { b.watch with wakesDue := b.watch.wakesDue ++ [start] } } else b
      (b.calAbort 3))

/-- The end of the window, or of the event if later (R226, R231); then the command that waited for it (R216, R241). -/
def execTetherEventEnd (node : Fin 131072) (s : State) : Host.Outcome State Fault Refusal :=
  let b := s.blk
  let n := node.val
  s.next (match b.eventOf n with
  | none => b
  | some e =>
    let b := ((b.updPost (fun p => { p with events := p.events.filter (fun q => q.node != n) })).dropWindows n).exchEnd n
    let b := if e.hit then (b.count .post C.POST.EVT_HIT).recCount n 3 else (b.count .post C.POST.EVT_MISS).recCount n 4
    let b := if (b.hot n).st = stTethered then
        ((b.advance n e.interval (!e.hit)).keepHot n).supervise n e.interval e.sup
      else b
    match e.deferred with
    | some (op, recErr, args) => b.tcmdDo op n args recErr
    | none => b)

/-- The drift loop (R229): offset in ns from the prediction over MISS + 1 intervals, in 0.01 ppm; halves of a step are dropped
toward the lower number (DEDUCED, log entry 26). -/
def Block.driftLoop (b : Block) (node : Nat) (h : Hot) (off interval : Int) : Hot × Block :=
  if b.postWalk || b.on F.POST_TCFG.DRIFT_FREEZE then (h, b)
  else
    let k : Int := 2 ^ b.get F.POST_TCFG.DRIFT_SHIFT
    let d := off * 100000000 / (((h.miss : Int) + 1) * interval)
    let m0 := signedOf 32 (b.rec' node 0x14 4)
    let a0 : Int := b.rec' node 0x18 4
    let m := if h.anchN = 0 then d else m0 + (d - m0) / k
    let a := if h.anchN = 0 then 0 else a0 + (((d - m).natAbs : Int) - a0) / k
    let drift := clampTo 4 1023 (ceilDiv (4 * m.natAbs + 15 * a.toNat) 200)
    ({ h with anchN := min 15 (h.anchN + 1), drift := drift },
     (b.setRec node 0x14 4 (unsignedOf 32 m)).setRec node 0x18 4 a.toNat)

/-- What the Tether Event IE of a node's frame brings (R227, R231): THROW in the acknowledgement, the full counter of a valid
anchor frame. -/
def Block.anchorFrame (b : Block) (node : Nat) (f : MeshFrame) : Bool × Option Nat × Block :=
  match tetherIe f 1 3 with
  | none => (false, none, b)
  | some c =>
    let flags := natLE (c.take 1)
    let ctr := natLE ((c.drop 1).take 2)
    let h := b.hot node
    if !bitOf flags 0 then (false, none, b)
    else if h.st ≠ stTethered then (true, none, b)
    else
      let ev := b.eventOf node
      let e := ev.getD (b.newEvent node false)
      let step : Int := 1000000 * e.interval
      let a : Int := b.anchorNs h.anchor
      let k : Int := ((ctr : Int) - h.counter) % 65536
      let x : Int := (f.sfd : Int) - a - k * step
      let d : Int := k + 65536 * ((2 * x + 65536 * step) / (2 * 65536 * step))
      let cnt := (((h.counter : Int) + d) % 2 ^ 32).toNat
      let off : Int := (f.sfd : Int) - (a + d * step)
      let chOk := f.ch == (if d = 0 then e.ch else hopChannel (b.hopSeed node) cnt e.used)
      if !chOk || decide (step < 4 * (off.natAbs : Int)) then (true, none, b.throwTether node 1)
      else if f.hyp ≠ e.hyp then (false, none, b)
      else if look? b.post.anchored node = some cnt then (false, some cnt, b)
      else
        let stray := !b.sieve.windows.any (fun w => w.node == node && decide (w.start ≤ f.sfd ∧ f.sfd ≤ w.stop))
        let b := if stray then b.count .post C.POST.STRAY_ANCHOR else b
        let (h', b) := b.driftLoop node h off step
        let anchor := (((f.sfd : Int) - d * step) / 2000 % 2 ^ 36).toNat
        let b := b.setHot node { h' with miss := 0, anchor := anchor }
        let b := b.setRec node 0x2C 8 f.sfd
        let b := b.updPost (fun p => { p with anchored := put' p.anchored node cnt, outReach := p.outReach.filter (· != node) })
        let b := if d ≠ 0 then b
          else b.updPost (fun p => { p with events := match ev with
            | some _ => p.events.map (fun (q : TetherEvent) => if q.node = node then { q with hit := true } else q)
            | none => p.events ++ [{ e with hit := true }] })
        (false, some cnt, b)

/-! ### Reception -/

/-- The PAN slot a frame is for (R203): its destination PAN, that of the entry itself where PAN ID compression leaves it out, and its
address are an enabled entry's, or it is a broadcast. -/
def Block.panOf (b : Block) (f : MeshFrame) : Option Nat :=
  (List.range 4).find? (fun p => bitOf (b.pan p 0x10 1) 0 && (f.panDst.all (fun x => x == b.pan p 0 2)) &&
    (f.dst == .short 0xFFFF || f.dst == .short (b.pan p 2 2) || f.dst == .ext (b.pan p 8 8)))

/-- The node a frame comes from (R202), when it is not FREE. -/
def Block.nodeOf (b : Block) (p : Nat) (f : MeshFrame) : Option Nat :=
  match f.src with
  | .short a => if a < 0x8000 ∧ (b.hot (32768 * p + a)).st ≠ stFree then some (32768 * p + a) else none
  | _ => none

/-- Condition 3 of R203; in WALK no frame from an extended address passes (R236). -/
def Block.srcOk (b : Block) (p : Nat) (f : MeshFrame) : Bool :=
  let ext := match f.src with | .ext _ => true | _ => false
  !(b.postWalk && ext) &&
    ((b.nodeOf p f).isSome || (ext && bitOf (b.pan p 0x10 1) 1) || (f.dst == .short 0xFFFF && b.on F.POST_CFG.BCAST_DELIVER))

/-- An acknowledgement of ours requested (R209, R210), with the exchange that follows it. -/
def Block.ackSend (fu : Fuses) (b : Block) (f : MeshFrame) (node : Option Nat) (event poll fp more : Bool) (flags : Nat) : Block :=
  let psdu := ackPsdu f fp flags
  let (p, b) := b.drawPower
  let t : MeshTx := { ch := f.ch, hyp := f.hyp, pre := b.preOct, coded := f.coded, il := f.coded, dw := f.dw, fcs4 := f.fcs4
                      psdu := psdu, power := p, start := f.endNs + max (1000 * b.get F.POST_ACK.TURN_US) b.turnMin, role := 0
                      node := node.getD 131072 }
  let stop := b.txEndNs t
  let b := (b.lane 10 1 0).exchEnd t.node
  let b := if fp then b.lane 10 1 1 else b
  let b := match node with
    | none => b
    | some n =>
      if (event || poll) && (fp || more) then
        let gap := max (1000 * b.get F.POST_ACK.DL_GAP_US) b.turnMin
        b.updPost (fun q => { q with exch := q.exch ++
          [(⟨n, event, f.ch, f.hyp, f.coded, f.dw, f.fcs4, stop + gap, more || !fp⟩ : Exch)] })
      else b
  let b := if event && more then
      { b with sieve := { b.sieve with windows := b.sieve.windows ++
        [(⟨t.node, f.ch, f.hyp, stop, stop + 1000 * b.get F.POST_EVT.NODE_TURN_MAX_US + b.h2Ns (16 * bitH2 f.hyp)⟩ : RxWindow)] } }
    else b
  b.meshRequest fu t

/-- Security (R206): none when the frame fails, else SEC_OK and SEC_UNCHECKED as bits of FLAGS, with the frame in plaintext where it
is verified. -/
def Block.secure (b : Block) (f : MeshFrame) (pan : Nat) (node : Option Nat) : Option (Nat × MeshFrame) × Block :=
  let least := match node with | some n => b.rec' n 8 1 % 8 | none => 0
  let bad (b : Block) (n : Nat) : Option (Nat × MeshFrame) × Block :=
    (none, match node with | some x => (b.count .post n).recCount x 2 | none => b.count .post n)
  if f.secLevel = 0 then
    if bitOf (b.pan pan 0x10 1) 2 ∨ 0 < least then bad b C.POST.SEC_FAIL else (some (0, f), b)
  else if f.secLevel = 4 ∨ f.secLevel < least then bad b C.POST.SEC_FAIL
  else match node with
    | none => (some (8, f), b)
    | some n =>
      if f.keyMode ≠ 0 then (some (8, f), b)
      else match b.keyVerify 1 n with
        | (none, b) => bad b C.POST.SEC_FAIL
        | (some k, b) =>
          let b := (b.count .lock C.LOCK.MESH_CCM).countBlocks 0 k.mode (f.mhr.length + f.payload.length)
          match meshOpen k.key (meshNonce (b.rec' n 0 8) f.fc f.secLevel) f with
          | none => bad (b.count .lock C.LOCK.VERIFY_FAIL_MIC) C.POST.SEC_FAIL
          | some g =>
            if f.fc < b.rec' n 0xC 4 ∨ f.fc = 0xFFFFFFFF then bad b C.POST.REPLAY
            else (some (4, g), b.setRec n 0xC 4 (f.fc + 1))

/-- The duplicate check (R207); a frame that is none sets LAST_DSN and DSN_VALID. -/
def Block.dupCheck (b : Block) (f : MeshFrame) (node : Option Nat) : Bool × Block :=
  match node, f.seq with
  | some n, some q =>
    if b.on F.POST_CFG.DUP_EN && bitOf (b.rec' n 0xB 1) 0 && b.rec' n 0xA 1 == q then
      (true, (b.count .post C.POST.DUP).recCount n 1)
    else (false, (b.setRec n 0xA 1 q).setRec n 0xB 1 (setBit (b.rec' n 0xB 1) 0 true))
  | _, _ => (false, b)

/-- Security, duplicates and delivery of an accepted frame (R206 to R208); base: BAGGED. A Data Request is not delivered. -/
def Block.takeIn (b : Block) (f : MeshFrame) (pan : Nat) (node : Option Nat) (base : Nat) (event : Option Nat) : Block :=
  match b.secure f pan node with
  | (none, b) => b
  | (some (fl, f), b) => match b.dupCheck f node with
    | (true, b) => b
    | (false, b) => if f.kind == .dataRequest then b else b.deliver f pan (node.getD 0x1FFFF) (base + fl) event

/-- A frame to be taken in now, its reserved cells there for its delivery, or held with them until the Vault is rebuilt: its own key
is not at hand, or a frame of its node waits already (R205, R321). -/
def Block.takeOrHold (b : Block) (f : MeshFrame) (pan : Nat) (node : Option Nat) (event : Option Nat) (cells : Nat) : Block :=
  match node with
  | some n =>
    if (b.rebuilding && f.secLevel != 0 && f.keyMode == 0) || b.post.held.any (fun h => h.node == n) then
      b.updPost (fun p => { p with held := p.held ++ [(⟨pan, n, event, f, cells⟩ : HeldFrame)] })
    else (b.freeCells cells).takeIn f pan node 0 event
  | none => (b.freeCells cells).takeIn f pan node 0 event

/-- Octets a frame's Saddlebag entry takes (R237). -/
def bagSize (f : MeshFrame) : Nat := bagOctets (f.mhr.length + f.payload.length + f.mic.length)

/-- POST_BAG_STATUS follows the Saddlebag; BAG_FULL fires when FULL sets (R237). -/
def Block.bagStatus (b : Block) : Block :=
  let used := sumNat (b.post.bag.map (fun e => bagSize e.frame))
  let full := decide (bagBytes - used < 2064)
  let was := b.on F.POST_BAG_STATUS.FULL
  let b := ((b.set F.POST_BAG_STATUS.BYTES used).set F.POST_BAG_STATUS.FRAMES b.post.bag.length).setB F.POST_BAG_STATUS.FULL full
  if full && !was then b.fire 10 19 else b

/-- An alarm frame stored in WALK (R236, R237). -/
def Block.bagPut (b : Block) (f : MeshFrame) (pan : Nat) (node : Option Nat) (event : Option Nat) : Block :=
  ((b.updPost (fun p => { p with bag := p.bag ++ [(⟨rxMode f, node.getD 0x1FFFF, pan, event, f⟩ : BagEntry)] })).count .post
    C.POST.BAGGED).bagStatus

/-- The Saddlebag drained in order and cleared (R238): each entry passes R206 and R207 as though it had just arrived; one whose
node has no record any more is delivered unchecked. -/
def Block.bagDrain (b : Block) : Block :=
  let bag := b.post.bag
  let b := bag.foldl (fun b e =>
    if e.node ≠ 0x1FFFF ∧ (b.hot e.node).st = stFree then
      (if e.frame.kind == .dataRequest then b else b.deliver e.frame e.pan e.node (2 + 8) e.event)
    else b.takeIn e.frame e.pan (if e.node = 0x1FFFF then none else some e.node) 2 e.event) b
  (b.updPost (fun p => { p with bag := [] })).bagStatus

/-- Post enters RUN with Carter running (R238). -/
def Block.bagDue (b : Block) : Bool := b.est 10 == stRun && b.runs 3 && !b.post.bag.isEmpty

/-- An acknowledgement that a downlink awaited has come (R213, R223, R226, R234); next: when the next frame may start. -/
def Block.ackArrived (b : Block) (a : Await) (next : Nat) : Block :=
  let b := (b.updPost (fun p => { p with await := p.await.erase a })).dropWindows a.node
  if a.grant then
    match b.grantFor a.node with
    | none => b
    | some g =>
      let h := b.hot a.node
      let b := b.setHot a.node { h with st := stTethered, anchor := g.sentA / 2000, counter := g.sentC, miss := 0, anchN := 0, drift := 0 }
      (((b.dropTether a.node).dropGrant a.node).keepHot a.node).postEvent 17 a.node 0
  else
    let b := match (b.dlQueue a.node).find? (fun f => f.dsn == some a.seq) with
      | some f => (((b.count .post C.POST.DL_ACKED).recCount a.node 6).dlLeave a.node f).confirm f.hdr 1
      | none => b
    if a.fp then
      b.updPost (fun p => { p with exch := p.exch.map (fun (x : Exch) => if x.node = a.node then { x with next := next } else x) })
    else b.exchEnd a.node

/-- An acknowledgement frame completes the downlink that awaits it (R204); another is not for us. -/
def Block.ackIn (b : Block) (f : MeshFrame) : Block :=
  match b.post.await.find? (fun a => a.ch == f.ch && a.hyp == f.hyp && f.seq == some a.seq) with
  | some a => b.ackArrived a (f.endNs + max (1000 * b.get F.POST_ACK.DL_GAP_US) b.turnMin)
  | none => b.count .post C.POST.RX_FILTERED

/-- An accepted frame with the cells and the Saddlebag room reserved for it (R204 to R212, R236). -/
def Block.accepted (fu : Fuses) (b : Block) (f : MeshFrame) (pan cells room : Nat) : Block :=
  let node := b.nodeOf pan f
  let b := match node with
    | some n => ((b.recCount n 0).setRec n 0x34 1 f.ch).setRec n 0x35 1 (unsignedOf 8 f.rssi)
    | none => b
  let (thrown, event, b) := match node with
    | some n => b.anchorFrame n f
    | none => (false, none, b)
  let ie := match tetherIe f 1 3 with | some c => natLE (c.take 1) | none => 0
  let poll := f.kind == .dataRequest
  let walk := b.postWalk
  let bag := walk && bitOf ie 1 && decide (bagSize f ≤ b.bagRoom + room)
  let hold := walk && !bag && (bitOf ie 1 || (!f.payload.isEmpty && !poll))
  let fp := match node with | some n => b.pendingBit n | none => false
  let inEvent := match node with | some n => (b.eventOf n).isSome | none => false
  let b := if hold then b.count .post C.POST.HOLD_ACK else b
  let b := if f.ar && f.dst != .short 0xFFFF && b.on F.POST_CFG.ACK_EN then
      b.ackSend fu f node inEvent poll fp (bitOf ie 2) (b2n hold + 2 * b2n walk + 4 * b2n thrown)
    else b
  if walk then
    let b := b.freeCells cells
    if bag then b.bagPut f pan node event else b
  else b.takeOrHold f pan node event cells

/-- A frame dropped, its reserved cells with it. -/
def Block.frameDrop (b : Block) (g : GoodFrame) (n : Nat) : Block := (b.freeCells g.cells).count .post n

/-- A frame whose MHR has been read is filtered and handled by its type (R203, R204). -/
def Block.frameFor (fu : Fuses) (b : Block) (g : GoodFrame) (f : MeshFrame) : Block :=
  if f.kind == .ack then (b.freeCells g.cells).ackIn f
  else match b.panOf f with
    | none => b.frameDrop g C.POST.RX_FILTERED
    | some p =>
      if !b.srcOk p f then b.frameDrop g C.POST.UNKNOWN_SRC
      else
        let b := b.lane 10 0 1
        if f.kind == .beacon || f.kind == .other then b.frameDrop g C.POST.RX_FILTERED else b.accepted fu f p g.cells g.bag

/-- A GOOD verdict (R203, R204): Post takes the frame that the stall's stream has brought; what the Saddlebag holds is delivered before
it (R238). A frame without an MHR is not for the GX-3256. -/
def execPostFrameAccept (stall : Fin 128) (s : State) : Host.Outcome State Fault Refusal :=
  let b := s.blk
  s.next (match b.post.good.find? (fun g => g.stall == stall.val) with
  | none => b
  | some g =>
    let b := b.updPost (fun p => { p with good := p.good.erase g })
    if !b.postHears then b.freeCells g.cells
    else
      let b := if b.bagDue then b.bagDrain else b
      let b := (b.count .post C.POST.RX_FRAME).lane 10 0 0
      match parseMhr g with
      | none => b.frameDrop g C.POST.RX_FILTERED
      | some f => b.frameFor s.fuse g f)

/-- A stream ends FCS_FAIL or ABANDONED (R205). -/
def execPostFrameUndo (stall : Fin 128) (s : State) : Host.Outcome State Fault Refusal := s.next (s.blk.undoStream stall.val)

/-- The node acknowledges its grant (R223). -/
def execGrantAcknowledged (node : Fin 131072) (s : State) : Host.Outcome State Fault Refusal :=
  let b := s.blk
  s.next (match b.post.await.find? (fun a => a.node == node.val && a.grant) with
  | some a => if b.postSends then b.ackArrived a (b.now + max (1000 * b.get F.POST_ACK.DL_GAP_US) b.turnMin) else b
  | none => b)

/-- A grant's lifetime ends (R223). -/
def execGrantExpired (node : Fin 131072) (s : State) : Host.Outcome State Fault Refusal :=
  let b := s.blk
  s.next (match b.grantFor node.val with
  | some g =>
    if b.runs 10 && decide (g.expiry ≤ b.ao) then
      (((b.setHot node.val { b.hot node.val with st := stKnown }).dropGrant node.val).keepHot node.val).postEvent 18 node.val 0
    else b
  | none => b)

/-- No acknowledgement starts in time (R213, R226): the frame keeps its place with one more retry, or is dropped at the retry
limit (R234); the exchange ends. -/
def execDownlinkAckTimeout (node : Fin 131072) (s : State) : Host.Outcome State Fault Refusal :=
  let b := s.blk
  s.next (match b.post.await.find? (fun a => a.node == node.val) with
  | none => b
  | some a =>
    let b := ((b.updPost (fun p => { p with await := p.await.erase a })).dropWindows node.val).exchEnd node.val
    if a.grant then b
    else match (b.dlQueue node.val).find? (fun f => f.dsn == some a.seq) with
      | none => b
      | some f =>
        if max 1 (b.get F.POST_EVT.DL_RETRY) ≤ f.retry + 1 then
          ((b.count .post C.POST.DL_RETRY_DROP).recCount node.val 7).dlDrop node.val f 3
        else b.setDlQueue node.val ((b.dlQueue node.val).map (fun (q : DlFrame) => if q = f then { q with retry := q.retry + 1 } else q)))

/-- Post enters RUN with Carter running (R238). -/
def execSaddlebagDrain (s : State) : Host.Outcome State Fault Refusal :=
  s.next (if s.blk.bagDue then s.blk.bagDrain else s.blk)

/-- Nodes whose record holds a TETHER that is not all zero. -/
def Block.recNodes (b : Block) : List Nat :=
  ((b.dram.filter (fun c => decide (0x1000000 ≤ c.1 ∧ c.1 < 0x3000000 ∧ 0x1C ≤ c.1 % 256 ∧ c.1 % 256 < 0x2C))).map
    (fun c => (c.1 - 0x1000000) / 256)).dedup

/-- The hot table rebuilt from the records, ST from TETHER and PEND from the queues; then every entry is written to its record (R218). -/
def Block.hotRebuild (b : Block) : Block :=
  let b := b.recNodes.foldl (fun b n => (b.setTabBytes (hotAddr n) (readBytes b.dram 0 (recAddr n + 0x1C) 16)).fixPend n) b
  let b := b.hotNodes.foldl (fun b n => b.saveHot n) b
  b.updPost (fun p => { p with rebuild := false })

/-- The rebuild of R218, in START. -/
def execHotTableRebuild (s : State) : Host.Outcome State Fault Refusal :=
  let b := s.blk
  s.next (if b.est 10 = stStart ∧ b.post.rebuild then b.hotRebuild else b)

/-- Every anchor and window moved with a step of device time by d ns (R296). -/
def Block.stepAnchors (b : Block) (d : Int) : Block :=
  let mv (x : Nat) : Nat := ((x : Int) + d).toNat
  let b := b.hotNodes.foldl (fun b n =>
    let h := b.hot n
    if h.st = stTethered then b.setHot n { h with anchor := (((h.anchor : Int) + d / 2000) % 2 ^ 36).toNat } else b) b
  let b : Block := { b with watch := { b.watch with wakesDue := b.watch.wakesDue.map mv } }
  let b := b.updPost (fun p => { p with
    events := p.events.map (fun (e : TetherEvent) => { e with anchor := mv e.anchor })
    exch := p.exch.map (fun (x : Exch) => { x with next := mv x.next })
    grants := p.grants.map (fun (g : Grant) => { g with sentA := mv g.sentA }) })
  { b with sieve := { b.sieve with
      windows := b.sieve.windows.map (fun (w : RxWindow) => { w with start := mv w.start, stop := mv w.stop }) } }

/-! ### The Vault's rebuild -/

/-- The Vault is rebuilt (R321): PEND_VAULT is cleared (R425), and the mesh frames that waited go on in order. -/
def execVaultRebuild (crcBad : List Nat) (s : State) : Host.Outcome State Fault Refusal :=
  let b := s.blk
  s.next (if b.rebuilding then
    let b := b.rebuildVault s.fuse crcBad
    let b := b.wipeClear 28
    let held := b.post.held
    let b := b.updPost (fun p => { p with held := [] })
    held.foldl (fun b h => (b.freeCells h.cells).takeIn h.frame h.pan (some h.node) 0 h.event) b
  else b)

end Sys2Proof.Machine
end

