-- ==== Sys2Proof/Machine/Egress.lean ====
section
/-! DEFINITION. Carter beyond its pipeline: egress (R283 to R287), the Loft (R282), ring links (R271, R284), the MAC table's
commands (R274, R275), the keeper (R58, R298, R299). -/

namespace Sys2Proof.Machine

/-! ### Frames in and through -/

/-- A frame enters its pipe (R279). -/
def execFrameIngress (g : Ingress) (s : State) : Host.Outcome State Fault Refusal := s.next (s.blk.ingress g)

/-- A frame is forwarded from its header on, before its FCS is known (R285): it goes as the pipeline decides for a
good one. One that does not meet R285 is stored and judged by its FCS. -/
def execCutThrough (g : Ingress) (s : State) : Host.Outcome State Fault Refusal :=
  let b := s.blk
  let c := b.ingress { g with fcs := .good }
  s.next (if b.cart.cut.length < c.cart.cut.length then c else b.ingress g)

/-- The ingress frame of a cut-through transmission fails after egress has begun (R287): what is sent ends at len octets, or at
MTU, with a stomped FCS. The ingress port counts the failure. -/
def execCutThroughStomp (p : Fin 2) (len : Nat) (cause : FcsVerdict) (s : State) : Host.Outcome State Fault Refusal :=
  let b := s.blk
  s.next (match b.cart.cut.find? (fun c => c.ingress == p.val) with
  | none => b
  | some c =>
    let head := 18 + (if c.frame.tag.isSome then 4 else 0)
    let c' := { c with frame := { c.frame with payload := c.frame.payload.take (min len b.mtu - head) } }
    let b := b.cartCount p.val (match cause with
      | .good => C.CART.OVERSIZE | .bad => C.CART.RX_FCS_ERR | .stomped => C.CART.RX_STOMPED)
    b.stomp c')

/-- An admitted frame, held by a trough or by a queue toward AIR or BACKHAUL, is copied to Loft cells (R282), or stays in the Cellar while the Loft is at its limit (R34). -/
def execLoftSpill (id : Nat) (s : State) : Host.Outcome State Fault Refusal :=
  let b := s.blk
  let held := b.cart.troughs.any (fun t => t.frames.any (fun f => f.pool == id)) ||
    b.drov.queues.any (fun q => q.frames.any (fun f => f.pool == id && f.reserved.isNone))
  s.next (match b.poolAt id with
  | some u =>
    if held && !u.loft && b.runs 3 && b.on F.CART_BUF.LOFT_EN && b.get F.CART_LOFT.SIZE_MIB != 0 &&
        decide (b.cart.cellar < b.get F.CART_BUF.SPILL_AT) && decide (u.cells ≤ b.cart.loft) && !b.loftLimit then
      let b := (b.loftMove u.cells).updCart (fun c => { c with
        loft := c.loft - u.cells, pool := c.pool.map (fun (q : CellUse) => if q.id = id then { q with loft := true } else q) })
      (b.freeCells u.cells).cartCount 7 C.CART.SPILLED
    else b
  | none => b)

/-! ### Egress -/

/-- SP_FROM of a port (R283). -/
def Block.spFrom (b : Block) (p : Nat) : Nat :=
  min 8 (b.get (match p with
    | 0 => F.CART_SCHED.SP_A | 1 => F.CART_SCHED.SP_B | 2 => F.CART_SCHED.SP_HOST | _ => F.CART_SCHED.SP_MESH))

/-- The frame at the head of a trough that may leave now: a spilled one needs a Cellar cell to pass through (R282). -/
def Block.headOf (b : Block) (t : Nat) : Option CartFrame :=
  match (b.trough t).frames with
  | [] => none
  | f :: _ => if b.loftWaits f.pool then none else some f

/-- Quantum of trough t in octets. -/
def Block.quantum (b : Block) (t : Nat) : Nat := 256 * max 1 (b.btab 3 4 (0x2238400 + 8 * t) 1)

/-- Deficit round robin over the classes below SP_FROM of port p, from class c on (R283): the first trough whose deficit covers
its head; a trough that is passed loses an unused deficit when it is empty, the next one gains its quantum. -/
def Block.drrPick (b : Block) (p sp : Nat) : Nat → Nat → Option (Nat × Block)
  | 0, _ => none
  | n + 1, c =>
    let t := 8 * p + c
    match b.headOf t with
    | some f =>
      if f.len ≤ (b.trough t).deficit then
        some (t, b.updCart (fun k => { k with drr := put' k.drr p c }))
      else
        let c' := if c + 1 < sp then c + 1 else 0
        let q := b.trough (8 * p + c')
        (b.setTrough { q with deficit := q.deficit + b.quantum (8 * p + c') }).drrPick p sp n c'
    | none =>
      let b := if (b.trough t).frames.isEmpty then b.setTrough { b.trough t with deficit := 0 } else b
      let c' := if c + 1 < sp then c + 1 else 0
      let q := b.trough (8 * p + c')
      (b.setTrough { q with deficit := q.deficit + b.quantum (8 * p + c') }).drrPick p sp n c'

/-- The trough of port p that is served next (R283). -/
def Block.pickTrough (b : Block) (p : Nat) : Option (Nat × Block) :=
  let sp := b.spFrom p
  match ((List.range 8).reverse.filter (fun c => decide (sp ≤ c))).find? (fun c => (b.headOf (8 * p + c)).isSome) with
  | some c => some (8 * p + c, b)
  | none =>
    if (List.range sp).any (fun c => (b.headOf (8 * p + c)).isSome) then
      let c := look b.cart.drr p 0
      b.drrPick p sp 400 (if c < sp then c else 0)
    else none

/-- The frame at the head of trough t leaves it, read from the Loft when it has spilled, its share of the deficit with it. -/
def Block.takeHead (b : Block) (t : Nat) : Option (CartFrame × Block) :=
  let q := b.trough t
  match q.frames with
  | [] => none
  | f :: rest =>
    let b := b.loftRead f.pool
    some (f, b.setTrough { q with frames := rest, deficit := q.deficit - f.len })

/-- originTimestamp of a one-step Sync message written at transmission (R293): 34 octets into the message, which follows the
EtherType, or the IP and UDP headers without options (IEEE 1588; PRESUMED, log entry 35). -/
def stampSync (now : Nat) (f : EthFrame) : EthFrame :=
  let o := 34 + (if f.etype = 0x0800 then 28 else if f.etype = 0x86DD then 48 else 0)
  { f with payload := f.payload.take o ++ bytesBE 6 (now / 1000000000) ++ bytesBE 4 (now % 1000000000) ++
      f.payload.drop (o + 10) }

/-- The sequenceId of a PTP event message (R293): over IEEE 802.3, or over UDP to port 319 over IP without options, of message
type 0 to 3 (IEEE 1588; PRESUMED, log entry 35). -/
def ptpEvent (f : EthFrame) : Option Nat :=
  let w (i n : Nat) : Nat := natBE ((f.payload.drop i).take n)
  let msg (o : Nat) : Option Nat := if w o 1 % 16 < 4 then some (w (o + 30) 2) else none
  if f.etype = 0x88F7 then msg 0
  else if f.etype = 0x0800 ∧ w 9 1 = 17 ∧ w 22 2 = 319 then msg 28
  else if f.etype = 0x86DD ∧ w 6 1 = 17 ∧ w 42 2 = 319 then msg 48
  else none

/-- A frame whose descriptor asks for its timestamp has left by ring port p: a PTP event message owes one (R293). -/
def Block.stampOwe (b : Block) (p : Nat) (f : CartFrame) : Block :=
  match (if f.tsReq then ptpEvent f.frame else none) with
  | some q => b.updCart (fun c => { c with stampDue := c.stampDue ++ [(p, q)] })
  | none => b

/-- A ring port sends: a cut-through frame whose turn it is, else the frame its scheduler picks; the tag follows UNTAG (R279).
While the bypass is not open it sends idles only (R298). -/
def Block.ringSend (b : Block) (p : Nat) : Block :=
  if !(b.on (ringLinkFld p) && b.ringOn p && b.cart.keeper.isOpen) then b
  else match b.cart.cut.find? (fun c => c.ingress == 1 - p) with
  | some c =>
    let b := (b.emit (.ring p c.vlan c.frame false)).cartCount p C.CART.TX_FRAMES
    (b.poolDrop c.pool).updCart (fun k => { k with cut := k.cut.filter (fun q => q.ingress != c.ingress) })
  | none => match b.pickTrough p with
    | none => b
    | some (t, b) => match b.takeHead t with
      | none => b
      | some (f, b) =>
        let fr := if f.oneStep then stampSync b.now f.frame else f.frame
        (((b.emit (.ring p f.vlan (b.airFrame p f.vlan (t % 8) fr none) false)).cartCount p C.CART.TX_FRAMES).poolDrop
          f.pool).stampOwe p f

/-- A MESH trough's head goes to Post, whenever Post runs (R283). -/
def Block.meshServe (fu : Fuses) (b : Block) : Block :=
  if b.est 10 ≠ stRun then b
  else match b.pickTrough 3 with
  | none => b
  | some (t, b) => match b.takeHead t with
    | none => b
    | some (f, b) =>
      let b := (b.poolDrop f.pool).cartCount 3 C.CART.TX_FRAMES
      match f.mesh with
      | some (h, body) => b.meshEnqueue fu h body
      | none => b

/-- A port serves its troughs (R283). HOST troughs are served as receive descriptors come (R337). -/
def execEgressSchedule (p : Fin 4) (s : State) : Host.Outcome State Fault Refusal :=
  let b := s.blk
  s.next (if !b.runs 3 || b.lame then b
  else match p.val with
    | 0 => b.ringSend 0
    | 1 => b.ringSend 1
    | 2 => b
    | _ => b.meshServe s.fuse)

/-! ### Ring links -/

/-- A ring link has gone up or down: its NOTE record, with the lane of the ring MAC, and RING_LINK (R12, R302). -/
def Block.ringNote (b : Block) (p : Nat) : Block := (b.note 3 5 (bytesLE 2 (2 + p))).fire 3 16

/-- A ring link goes down: its troughs are flushed (R284), cut-through frames toward it with them. -/
def Block.ringDown (b : Block) (p : Nat) : Block :=
  if b.on (ringLinkFld p) then
    let b := (b.set (ringLinkFld p) 0).lane 3 (2 + p) 0
    let b := b.flushTroughs (fun t => t / 8 == p)
    let gone := b.cart.cut.filter (fun c => c.ingress == 1 - p)
    let b := gone.foldl (fun b c => (b.poolDrop c.pool).cartCount p C.CART.FLUSHED) b
    (b.updCart (fun k => { k with cut := k.cut.filter (fun c => c.ingress != 1 - p) })).ringNote p
  else b

/-- Block lock held for 10 ms or lost for 1 ms (R271, R302). Both links up end the 500 ms of R299. -/
def execRingLink (p : Fin 2) (up : Bool) (s : State) : Host.Outcome State Fault Refusal :=
  let b := s.blk
  s.next (if up then
    if b.ringOn p.val && b.est 3 == stRun && !b.on (ringLinkFld p.val) then
      let b := (b.set (ringLinkFld p.val) 1).ringNote p.val
      if b.on F.CART_STATUS.LINK_A && b.on F.CART_STATUS.LINK_B then
        b.updCart (fun c => { c with keeper := { c.keeper with openedAo := none } })
      else b
    else b
  else b.ringDown p.val)

/-! ### MAC table commands -/

/-- CART_L2STATUS set. -/
def Block.l2Status (b : Block) (state reason : Nat) (e : Option MacEntry) : Block :=
  let b := (b.set F.CART_L2STATUS.STATE state).set F.CART_L2STATUS.REASON reason
  match e with
  | some m => ((b.set F.CART_L2STATUS.FOUND 1).setB F.CART_L2STATUS.STATIC m.static).set F.CART_L2STATUS.DEST m.dest
  | none => ((b.set F.CART_L2STATUS.FOUND 0).set F.CART_L2STATUS.STATIC 0).set F.CART_L2STATUS.DEST 0

/-- The address and VLAN of CART_L2ARG0 and CART_L2ARG1. -/
def Block.l2Key (b : Block) : Nat × Nat :=
  (natBE (bytesLE 4 (b.get F.CART_L2ARG0.MAC0_3) ++ bytesLE 2 (b.get F.CART_L2ARG1.MAC4_5)), b.get F.CART_L2ARG1.VLAN)

/-- A write of OP to CART_L2CMD (R274). It completes at once, so it never finds BUSY; a Carter that does not run ignores it. -/
def Block.l2Cmd (b : Block) (op : Nat) : Block :=
  let (mac, vlan) := b.l2Key
  if !b.runs 3 then b
  else match op with
  | 1 => match b.macPut mac vlan (b.get F.CART_L2ARG2.DEST) true with
    | some b => b.l2Status 2 0 none
    | none => b.l2Status 3 1 none
  | 2 => match b.macAt mac vlan with
    | some _ => (b.updCart (fun c => { c with macs := c.macs.filter (fun m => !(m.mac == mac && m.vlan == vlan)) })).l2Status 2 0 none
    | none => b.l2Status 3 2 none
  | 3 => match b.macAt mac vlan with
    | some m => b.l2Status 2 0 (some m)
    | none => b.l2Status 3 2 none
  | 4 =>
    let hit (m : MacEntry) : Bool := !m.static && (b.on F.CART_L2ARG2.ANY_DEST || m.dest == b.get F.CART_L2ARG2.DEST) &&
      (b.on F.CART_L2ARG2.ANY_VLAN || m.vlan == vlan)
    (b.updCart (fun c => { c with macs := c.macs.filter (fun m => !hit m) })).l2Status 2 0 none
  | _ => b

/-- INSERT. -/
def execL2Insert (road : Road) (s : State) : Host.Outcome State Fault Refusal :=
  s.next (s.blk.viaRoad road R.CART_L2CMD (1 * 2 ^ 28) (fun b => b.l2Cmd 1))

/-- DELETE. -/
def execL2Delete (road : Road) (s : State) : Host.Outcome State Fault Refusal :=
  s.next (s.blk.viaRoad road R.CART_L2CMD (2 * 2 ^ 28) (fun b => b.l2Cmd 2))

/-- LOOKUP. -/
def execL2Lookup (road : Road) (s : State) : Host.Outcome State Fault Refusal :=
  s.next (s.blk.viaRoad road R.CART_L2CMD (3 * 2 ^ 28) (fun b => b.l2Cmd 3))

/-- FLUSH. -/
def execL2Flush (road : Road) (s : State) : Host.Outcome State Fault Refusal :=
  s.next (s.blk.viaRoad road R.CART_L2CMD (4 * 2 ^ 28) (fun b => b.l2Cmd 4))

/-- An ageing period of AGE_S ends (R275; to a tick, log entry 164): learned entries without a frame since the period before leave. -/
def execMacAgeing (s : State) : Host.Outcome State Fault Refusal :=
  let b := s.blk
  let due := max b.cart.agedAt b.cart.runSince + 1000000000 * b.get F.CART_L2.AGE_S
  s.next (if b.get F.CART_L2.AGE_S = 0 ∨ !b.runs 3 ∨ b.mono + tickNs < due then b
  else
    let kept := b.cart.macs.filter (fun m => m.static || m.age == 0)
    b.updCart (fun c => { c with agedAt := b.mono, macs := kept.map (fun (m : MacEntry) => if m.static then m else { m with age := m.age + 1 }) }))

/-! ### The keeper -/

/-- A trigger of R299 stands. -/
def Block.keeperTrigger (b : Block) : Bool :=
  b.on F.CART_PORTCTL.KEEP_CLOSE || b.est 3 != stRun || decide (3 ≤ b.gait) || b.lame || b.stopSet 3 || b.gated 3

/-- A keeper trigger, or the loss of the supplies, which makes the pin high-impedance (R299). -/
def execKeeperRelease (supplyLost : Bool) (s : State) : Host.Outcome State Fault Refusal :=
  s.next (if supplyLost || s.blk.keeperTrigger then s.blk.keeperClose else s.blk)

/-- The bypass opens (R58): both links lose block lock at the switch (R299). -/
def execKeeperOpen (s : State) : Host.Outcome State Fault Refusal :=
  let b := s.blk
  s.next (if !b.keeperTrigger && b.on F.CART_STATUS.LINK_A && b.on F.CART_STATUS.LINK_B && !b.cart.keeper.isOpen &&
      decide (b.cart.keeper.holdTo ≤ b.ao) then
    let b := b.updCart (fun c => { c with keeper := { c.keeper with isOpen := true, openedAo := some b.ao } })
    (b.ringDown 0).ringDown 1
  else b)

/-- 500 ms after the opening a ring link is not up (R299). -/
def execKeepRetry (s : State) : Host.Outcome State Fault Refusal :=
  let b := s.blk
  s.next (match b.cart.keeper.openedAo with
  | some t =>
    if b.cart.keeper.isOpen && decide (t + 500000000 ≤ b.ao) then
      let b := (b.keeperClose).cartCount 7 C.CART.KEEP_RETRY
      b.updCart (fun c => { c with keeper := { c.keeper with holdTo := b.ao + 10000000000 } })
    else b
  | none => b)

end Sys2Proof.Machine
end

