-- ==== Sys2Proof/Machine/Ptp.lean ====
section
/-! DEFINITION. Device time under PTP (R293 to R297). -/

namespace Sys2Proof.Machine

/-- A PTP event message passes the timestamp point of a ring port (R293): the timestamp of one sent whose descriptor asked for it
enters the FIFO of 64; with a full FIFO it is discarded. A received one goes with its frame. ns: how far past the last tick. -/
def execPtpTimestamp (p : Fin 2) (seqId : BitVec 16) (tx : Bool) (ns : Fin 30518) (s : State) : Host.Outcome State Fault Refusal :=
  let b := s.blk
  let key := (p.val, seqId.toNat)
  s.next (if b.est 3 = stRun ∧ tx ∧ b.cart.stampDue.contains key then
    b.updCart (fun c => { c with
      stampDue := c.stampDue.erase key
      stamps := if c.stamps.length < 64 then c.stamps ++ [(⟨p.val, seqId.toNat, (b.now + ns.val) % 2 ^ 64⟩ : TxStamp)] else c.stamps })
  else b)

/-- The head of the timestamp FIFO removed, by a read of CART_TS_HI (R293). -/
def Block.tsPop (b : Block) : Block := b.updCart (fun c => { c with stamps := c.stamps.drop 1 })

/-- CART_TS_HI is read. -/
def execTsFifoPop (s : State) : Host.Outcome State Fault Refusal := s.next s.blk.tsPop

/-- A transit PTP message toward ring port p (R294): its correctionField as it leaves, whether its UDP checksum over IPv4 is set
to 0. -/
def execTransparentClock (p : Fin 2) (m : PtpMsg) (s : State) : Host.Outcome State Fault Refusal :=
  let b := s.blk
  let corrected (b : Block) (ns : Nat) : Block := (b.emit (.tc p.val (m.corr + 65536 * ns) (m.transport == 4))).cartCount p.val C.CART.TC_CORRECTED
  s.next (if b.est 3 ≠ stRun then b
  else if !b.on F.CART_PTP.TC_EN || m.transport == 6 then b.emit (.tc p.val m.corr false)
  else match m.kind.val with
    | 0 =>
      if m.oneStep then corrected b m.residence
      else
        let rest := b.cart.resid.filter (fun q => !(q.seqId == m.seqId && q.portId == m.portId))
        let r : Residence := ⟨m.seqId, m.portId, m.residence, b.mono + 1000000000⟩
        (b.emit (.tc p.val m.corr (m.transport == 4))).updCart (fun c => { c with resid := rest ++ [r] })
    | 1 => corrected b m.residence
    | _ =>
      match b.cart.resid.find? (fun q => q.seqId == m.seqId && q.portId == m.portId && decide (b.mono ≤ q.until')) with
      | some q => (corrected b q.time).updCart (fun c => { c with resid := c.resid.erase q })
      | none => b.emit (.tc p.val m.corr (m.transport == 4)))

/-- A step of device time by d ns (R296): LOCKED clears, predicted anchors move with it, the next sample counts as at 1 s. The
TSFs go on as they were. -/
def Block.timeStepBy (b : Block) (d : Int) : Block :=
  let b := { b with time := { b.time with device := (((b.time.device : Int) + d) % 2 ^ 64).toNat, stepped := b.time.stepped + d } }
  let b := (b.set F.CART_PTP_STATUS.LOCKED 0).updCart (fun c => { c with servo := { c.servo with last := none } })
  b.stepAnchors d

/-- A write to CART_TIME_ADJ (R296). -/
def execTimeStep (road : Road) (value : Word) (s : State) : Host.Outcome State Fault Refusal :=
  s.next (s.blk.viaRoad road R.CART_TIME_ADJ value.toNat (fun b => b.timeStepBy (signedOf 32 value.toNat)))

/-- A sample with its raw offset in ns, taken at device time t (R295). A frozen servo goes on measuring (R380). -/
def Block.servoRun (b : Block) (raw : Int) (t : Nat) : Block :=
  let b := (b.setS F.CART_PTP_STATUS.OFFSET (clampInt (-8388608) 8388607 raw)).set F.CART_PTP_STATUS.HOLDOVER 0
  let b := (b.updCart (fun c => { c with servo := { c.servo with seen := some b.mono } })).lane 3 5 0
  if b.on F.CART_PTP_SERVO.FREEZE then b
  else
    let sv := b.cart.servo
    let stepUs := b.get F.CART_PTP_SERVO.STEP_US
    let lock := max 1 (b.get F.CART_PTP_SERVO.LOCK_NS)
    if stepUs ≠ 0 ∧ stepUs * 1000 < raw.natAbs then
      let b := (b.timeStepBy (-raw)).lane 3 5 1
      b.updCart (fun c => { c with servo := { c.servo with integ := 0, good := 0 } })
    else
      let tns : Nat := match sv.last with | some l => max 1 (t - l) | none => 1000000000
      let off := raw * 1000000000 / (tns : Int)
      let integ := clampInt (-100000) 100000 (sv.integ + off / 2 ^ b.get F.CART_PTP_SERVO.KI_SHIFT)
      let trim := clampInt (-100000) 100000 (off / 2 ^ b.get F.CART_PTP_SERVO.KP_SHIFT + integ)
      let good := if raw.natAbs ≤ lock then sv.good + 1 else 0
      let b := b.updCart (fun c => { c with servo := { c.servo with integ := integ, trim := trim, good := good, last := some t } })
      let b := if 8 ≤ good then b.set F.CART_PTP_STATUS.LOCKED 1 else b
      if 4 * lock < raw.natAbs then b.set F.CART_PTP_STATUS.LOCKED 0 else b

/-- A time modulo 10^9 in the range −5 × 10^8 to 5 × 10^8 (R295). -/
def secondOffset (t : Nat) : Int := let m := t % 1000000000; if m ≤ 500000000 then m else (m : Int) - 1000000000

/-- A sample of the servo's source (R295, R410). -/
def execServoSample (q : ServoSrc) (s : State) : Host.Outcome State Fault Refusal :=
  let b := s.blk
  let src := b.get F.CART_PTP.SRC
  s.next (if !b.on F.CART_PTP.EN || b.est 3 != stRun then b
  else match q with
    | .sync port domain t origin corr =>
      if src = 1 ∧ port = b.get F.CART_PTP.SLAVE_PORT ∧ domain = b.get F.CART_PTP.DOMAIN then
        b.servoRun ((t : Int) - (origin + corr + b.get F.CART_PTP_DELAY.DELAY_NS)) t
      else b
    | .pps t => if src = 2 then b.servoRun (secondOffset t) t else b
    | .latched => match b.watch.ppsSample with
      | some t =>
        if src = 2 then ({ b with watch := { b.watch with ppsSample := none } }).servoRun (secondOffset t) t else b
      | none => b)

/-- Eight seconds without a sample (R295). -/
def execPtpHoldover (s : State) : Host.Outcome State Fault Refusal :=
  let b := s.blk
  let since := max (b.cart.servo.seen.getD 0) b.cart.runSince
  s.next (if b.on F.CART_PTP.EN && b.est 3 == stRun && decide (since + 8000000000 ≤ b.mono) then
    ((b.set F.CART_PTP_STATUS.LOCKED 0).set F.CART_PTP_STATUS.HOLDOVER 1).updCart
      (fun c => { c with servo := { c.servo with last := none, good := 0 } })
  else b)

/-- PPS_OUT in the first 100 ms of a second of device time (R297; to a tick, log entry 164). -/
def Block.ppsLevel (b : Block) : Bool :=
  b.on F.CART_PTP.PPS_OUT_EN && b.est 3 == stRun && decide ((b.now + tickNs) % 1000000000 < 100000000)

/-- PPS_OUT rises at a whole second of device time and falls 100 ms later (R297). high: the level it goes to, which is ppsLevel (log entry 177). -/
def execPpsOut (high : Bool) (s : State) : Host.Outcome State Fault Refusal :=
  let b := s.blk
  s.next (if b.ppsLevel = high then b.updCart (fun c => { c with ppsHigh := high }) else b)

end Sys2Proof.Machine
end

