-- ==== Sys2Proof/Machine/Watch.lean ====
section
/-! DEFINITION. The Watchman (R395 to R416): requests and ceilings, gait transitions, supplies, wakes of the Saddle die, watch
rounds, wake sources, always-on and device time, the Pony regulator. -/

namespace Sys2Proof.Machine

/-- b with the Watchman changed. -/
def Block.updWatch (b : Block) (f : Watch → Watch) : Block := { b with watch := f b.watch }

/-! ### Pony and wake sources -/

/-- An HP request (R413); PONY_READY follows within 50 µs, here at once. -/
def Block.hpReq (b : Block) : Block :=
  (((b.set F.WATCH_POWER_STATUS.PONY_HP 1).set F.WATCH_POWER_STATUS.PONY_READY 1).count .watch C.WATCH.HP_REQ).lane 11 1 1

/-- Nothing needs the Pony regulator in HP (R412, R413): asleep in WALK or in HALT, no transition, no flash work. -/
def Block.lpFree (b : Block) : Bool :=
  b.watch.move.isNone && ((b.watch.plan == 3 && !b.on F.WATCH_POWER_STATUS.AWAKE) ||
    (b.watch.plan == 4 && !b.on F.CLK_STATUS.PADDOCK_LOST)) && b.flash.erase.isNone && b.flash.queue.isEmpty

/-- HP released once no load needs it (R413). -/
def Block.lpRelease (b : Block) : Block :=
  if b.lpFree then (b.set F.WATCH_POWER_STATUS.PONY_HP 0).set F.WATCH_POWER_STATUS.PONY_READY 0 else b

/-- PONY_HP_REQUEST. -/
def execPonyHpRequest (s : State) : Host.Outcome State Fault Refusal := s.next s.blk.hpReq

/-- PONY_LP_RELEASE. -/
def execPonyLpRelease (s : State) : Host.Outcome State Fault Refusal := s.next s.blk.lpRelease

/-- Source s is enabled; 0, 5, 6 and 7 always are (R409). -/
def Block.wakeEn (b : Block) (s : Nat) : Bool := s == 0 || s == 5 || s == 6 || s == 7 || bitOf (b.get F.WATCH_WAKE_EN.WAKE) s

/-- Source s raises; 6 and 7 never do (WATCH_WAKE_EN). -/
def Block.wakeRaises (b : Block) (s : Nat) : Bool := decide (s < 6) && bitOf (b.get F.WATCH_WAKE_EN.RISE) s

/-- A raising source makes REQ the higher of REQ and RESUME (R409). -/
def Block.raise (b : Block) : Block :=
  let old := b.get F.WATCH_GAIT_REQ.REQ
  let new := min old (b.get F.WATCH_GAIT_REQ.RESUME)
  let b := b.set F.WATCH_GAIT_REQ.REQ new
  if new < old then b.updWatch (fun w => { w with riseWake := true, gateAsk := decide (new ≤ 1) }) else b

/-- An occurrence of an enabled source is recorded (R409); source 5 raises only when the PWR ceiling is lifted. -/
def Block.wakeMark (b : Block) (s : Nat) : Block :=
  if b.wakeEn s then
    let b := (b.set F.WATCH_WAKE_CAUSE.SEEN (setBit (b.get F.WATCH_WAKE_CAUSE.SEEN) s true)).set F.WATCH_WAKE_CAUSE.LAST s
    if s ≠ 5 ∧ b.wakeRaises s then b.raise else b
  else b

/-- An occurrence of a source, which requests HP first (R413). -/
def Block.wakeHit (b : Block) (s : Nat) : Block := if b.wakeEn s then b.hpReq.wakeMark s else b

/-- WAKE_SOURCE (R409): source 1 only while S3 is not in RUN; a release of PWR_LOSS_N is source 5. -/
def execWakeSource (src : Fin 8) (s : State) : Host.Outcome State Fault Refusal :=
  let b := s.blk
  s.next (if src.val = 1 ∧ b.est 3 = stRun then b
  else if src.val = 5 then (b.updWatch (fun w => { w with pwrLow := false })).wakeHit 5
  else b.wakeHit src.val)

/-! ### Requests and ceilings -/

/-- A request (R397): none when it is ignored as a whole. REQ 0xFF changes nothing but FATAL. -/
def Block.gaitRequest (b : Block) (req resume lmgate : Nat) (clr : Bool) : Option Block :=
  let lift (b : Block) : Block := if clr then b.liftFatal else b
  if req = 0xFF then some (lift b).keeperFall
  else if 4 < req ∨ 4 < resume ∨ ((req == 1 || resume == 1) != (lmgate != 0)) then none
  else
    let b := ((b.set F.WATCH_GAIT_REQ.REQ req).set F.WATCH_GAIT_REQ.RESUME resume).set F.WATCH_GAIT_REQ.LMGATE lmgate
    some (lift (b.updWatch (fun w => { w with gateAsk := decide (req ≤ 1), riseWake := false }))).keeperFall

/-- WATCH_GAIT_REQ written (R397): ignored with a NOTE record when the key or the request is wrong, and in RETIRED (R417). -/
def Block.gaitReqWrite (b : Block) (road : Road) (v : Nat) : Block :=
  if v / 2 ^ 16 != 0x4741 || b.sec.lc == 4 then b.noteWrite road R.WATCH_GAIT_REQ v
  else (b.gaitRequest (bitsOf v 2 0) (bitsOf v 6 4) (bitsOf v 10 8) (bitOf v 15)).getD (b.noteWrite road R.WATCH_GAIT_REQ v)

/-- WATCH_GAIT_REQ. -/
def execWatchGaitReq (road : Road) (value : Word) (s : State) : Host.Outcome State Fault Refusal :=
  s.next (s.blk.viaRoad road R.WATCH_GAIT_REQ value.toNat (fun b => b.gaitReqWrite road value.toNat))

/-- PWR_LOSS_N falls (R396); the keeper opens at the first instant (R299). -/
def execPwrLoss (s : State) : Host.Outcome State Fault Refusal :=
  s.next ((s.blk.updWatch (fun w => { w with pwrLow := true })).setCeil 0)

/-- PWR_LOSS_N has been high for the debounce time (R396): PWR is lifted, LOWBAT with it, and source 5 raises (R409). -/
def execPwrRestored (s : State) : Host.Outcome State Fault Refusal :=
  let b := s.blk.updWatch (fun w => { w with pwrLow := false })
  s.next (if b.ceil 0 then
    let b := b.set F.WATCH_GAIT_STATUS.CEIL (setBit (b.get F.WATCH_GAIT_STATUS.CEIL) 0 false)
    let b := (b.updWatch (fun w => { w with liftCause := true })).liftLowbat
    if b.wakeRaises 5 then b.raise else b
  else b)

/-- Automatic lifts of the last 3,600 s (R399). -/
def Block.recentLifts (b : Block) : List Nat := b.watch.lifts.filter (fun t => decide (b.ao < t + 3600000000000))

/-- FATAL is due to be lifted automatically (R399). -/
def Block.fatalDue (b : Block) : Bool :=
  b.ceil 1 && b.get F.WATCH_CFG.FATAL_RETRY_S != 0 &&
    decide (b.watch.fatalAo + b.get F.WATCH_CFG.FATAL_RETRY_S * 1000000000 ≤ b.ao) &&
    decide (b.recentLifts.length < b.get F.WATCH_CFG.RETRY_MAX)

/-- FATAL_LIFT (R399). -/
def execFatalLift (s : State) : Host.Outcome State Fault Refusal :=
  let b := s.blk
  s.next (if b.fatalDue then
    ((b.updWatch (fun w => { w with lifts := b.ao :: b.recentLifts })).count .watch C.WATCH.FATAL_LIFT).liftFatal
  else b)

/-- HALT_MV in effect (WATCH_BATT). -/
def Block.haltMv (b : Block) : Nat := clampTo 2700 5000 (b.get F.WATCH_BATT.HALT_MV)

/-- A reading of VBAT (R416): one in range ends the suspension of the LOWBAT test. -/
def Block.vbatRead (b : Block) (mv : Nat) : Block :=
  let b := b.set F.WATCH_POWER_STATUS.VBAT_MV (min mv 65535)
  if 2000 ≤ mv ∧ mv ≤ 6000 then b.updWatch (fun w => { w with vbatOff := false }) else b

/-- LOWBAT (R396): VBAT below HALT_MV for 1 s while PWR is set. -/
def execLowbat (vbatMv : Nat) (s : State) : Host.Outcome State Fault Refusal :=
  let b := s.blk.vbatRead vbatMv
  s.next (if b.ceil 0 && b.get F.WATCH_BATT.HALT_MV != 0 && decide (vbatMv < b.haltMv) && !b.watch.vbatOff then b.setCeil 2 else b)

/-- LOWBAT_LIFT (R396): VBAT at least 200 mV above for 10 s, or one of the other conditions. -/
def execLowbatLift (vbatMv : Nat) (s : State) : Host.Outcome State Fault Refusal :=
  let b := s.blk.vbatRead vbatMv
  s.next (if decide (b.haltMv + 200 ≤ vbatMv) || !b.ceil 0 || b.get F.WATCH_BATT.HALT_MV == 0 then b.liftLowbat else b)

/-! ### Transitions -/

/-- PMIC_EN lines of gait g (R402), with PMIC_EN2 kept high until the starting gait is reached (R515). -/
def Block.railsFor (b : Block) (g : Nat) : Nat :=
  let v := if g = 4 then 0 else 0x13
  let v := if g ≤ 2 || (b.watch.starting && g != 4) then v ||| 4 else v
  if g = 0 || (g = 1 && b.lmPowered) then v ||| 8 else v

/-- PMIC_EN lines driven (R403). -/
def Block.setRails (b : Block) (v : Nat) : Block := b.set F.WATCH_POWER_STATUS.PMIC_EN v

/-- Time awake in WALK counted up to now (counter 8). -/
def Block.awakeSum (b : Block) : Block :=
  if b.on F.WATCH_POWER_STATUS.AWAKE && b.gait == 3 then
    let t := b.watch.awakeRem + (b.ao - b.watch.awakeSince)
    (b.count .watch C.WATCH.AWAKE_MS (t / 1000000)).updWatch (fun w => { w with awakeRem := t % 1000000, awakeSince := b.ao })
  else b

/-- The mesh front end leaves OFF when a wake begins and the span is valid (R244). -/
def Block.meshFeStart (b : Block) : Block :=
  if b.fe 3 = feOff && b.runs 9 && decide (0 < b.meshChannels) then b.setFe 3 feWarm else b

/-- DRAM trained: the first training after POR or BOR reads the density (R35). -/
def Block.trainDram (b : Block) : Block :=
  if b.get F.TOP_ID.DRAM = 0 then
    let d0 := (Config.dramChannel 0).val
    let d1 := (Config.dramChannel 1).val
    let b := b.set F.TOP_ID.DRAM (1 + min d0 d1)
    if d0 = d1 then b else b.note 16 0
  else b

/-- TOP_ENG_GATE bits 5 to 7 written by the Watchman (R398). -/
def Block.gateLm (fu : Fuses) (b : Block) (lm : Nat) : Block :=
  b.gateWrite fu ((b.get F.TOP_ENG_GATE.GATE * 8) &&& 0x71F ||| (lm % 8 * 32))

/-- An engine held in START by the start sequence until the gait that runs it (R54). -/
def Block.startHeld (b : Block) (e : Nat) : Bool :=
  b.est e == stStart && b.want e == stOff && !b.gated e && (b.watch.plan == 6 || b.watch.starting)

/-- No engine but the Watchman is in START or DRAIN, those held in START apart: the step in progress has ended (R401). -/
def Block.stepSettled (b : Block) : Bool :=
  (List.range 11).all (fun e => (b.est e != stStart || b.startHeld e) && b.est e != stDrain)

/-- What a rise into gait g brings first (R388, R398, R400, R402). -/
def Block.riseStep (fu : Fuses) (b : Block) (g : Nat) : Block :=
  let b := (b.awakeSum).set F.WATCH_POWER_STATUS.AWAKE 1
  let b := b.setRails (b.get F.WATCH_POWER_STATUS.PMIC_EN ||| b.railsFor g)
  let b := if g = 3 then b.avsPut b.avsMax else if g = 2 then (b.avsPut b.avs.kept).trainDram else b
  let b := if g ≤ 1 then b.gateLm fu (if g = 1 then b.get F.WATCH_GAIT_REQ.LMGATE else 0) else b
  let b := b.updWatch (fun w => { w with plan := g, wakesDue := [] })
  let b := if g = 2 then b.meshFeStart else b
  (b.settleAll fu).crossSettle

/-- The next step of a fall toward gait g (R400): the gaits passed are taken in sequence. On entry to WALK the host link goes
to electrical idle (R334). -/
def Block.fallStep (fu : Fuses) (b : Block) (g : Nat) : Block :=
  if g ≤ 1 then (b.gateLm fu (b.get F.WATCH_GAIT_REQ.LMGATE)).crossSettle
  else
    let next := if b.watch.plan ≤ 1 then 2 else b.watch.plan + 1
    let b := if next = 3 then b.hostReset else b
    let b := b.updWatch (fun w => { w with plan := next, awakeSince := if next = 3 then b.ao else w.awakeSince })
    b.settleAll fu

/-- What HALT loses (R405, R434): DRAM, the session; the Saddle die is off. -/
def Block.haltLoss (b : Block) : Block :=
  { b.sealSession.set F.WATCH_POWER_STATUS.AWAKE 0 with dram := [] }

/-- A step has ended in gait plan (R388, R402): VMIN in WALK with the former value kept, rails lowered, HALT's losses. -/
def Block.stepDone (b : Block) : Block :=
  let g := b.watch.plan
  let b := if g = 3 then (b.updAvs (fun a => { a with kept := b.get F.TOP_AVS_STATUS.V })).avsPut b.avsMin
    else if g = 4 then b.awakeSum.haltLoss else b
  (b.setRails (b.railsFor g)).crossSettle

/-- The cause of a transition from CURRENT to g (R400). -/
def Block.moveCause (b : Block) (g : Nat) : Nat :=
  if g < b.gait then (if b.watch.riseWake then 5 else if b.watch.liftCause then 6 else 0)
  else if g = min 4 (b.get F.WATCH_GAIT_REQ.REQ) then 0
  else if g = 4 then (if b.ceil 2 then 3 else 4)
  else if b.ceil 0 then 1 else 2

/-- The gait a transition would run to now, if one is called for (R398, R400, R401): one gait up, or the whole way down.
GALLOP and CANTER give way to each other only for a request. -/
def Block.nextMove (b : Block) : Option Nat :=
  let t := b.target
  let g := b.gait
  if 4 < b.watch.plan ∨ t = g then none
  else if t ≤ 1 ∧ g ≤ 1 then (if b.watch.gateAsk then some t else none)
  else if g < t then some t
  else if g = 4 then some 3 else if g = 3 then some 2 else some t

/-- A transition toward gait d begins (R299, R400, R413); a gait change aborts calibration steps (R249). -/
def Block.moveBegin (fu : Fuses) (b : Block) (d : Nat) : Block :=
  let cause := b.moveCause d
  let src := b.gait
  let b := (b.hpReq.set F.WATCH_GAIT_STATUS.BUSY 1).set F.WATCH_GAIT_STATUS.TARGET d
  let b := b.updWatch (fun w => { w with move := some ⟨src, d, cause⟩ })
  let b := [0, 1, 2, 3].foldl (fun b f => b.calAbort f) b
  if d < src then b.riseStep fu d
  else (if 3 ≤ d ∧ src ≤ 2 then b.keeperClose else b).fallStep fu d

/-- The 60 s of R49 run while the starting gait is in effect. -/
def Block.settleClock (b : Block) : Block :=
  match b.ost.img with
  | some i =>
    let here := b.gait == i.gait && !b.ceil 1
    { b with ost := { b.ost with settleFrom := if here then (match b.ost.settleFrom with | some t => some t | none => some b.ao) else none } }
  | none => b

/-- The trial slot is settled (R49): TRIAL and TRIES cleared, the thermometer compared (R466). In EXHAUSTED trial counting is
suspended (R451). -/
def Block.settleSlot (b : Block) : Block :=
  let v := b.tally 1
  if bitOf v 1 && b.stage != stageExhausted then
    let b := b.tallyPut 1 (v % 2)
    { b with ost := { b.ost with settleReq := false, burnWait := true } }
  else b

/-- A gait is reached during or after the start sequence (R49, R51, R60): WALK_MS and GALLOP_MS with the first WALK and the first
time in the starting gait, step 9, a settle that waited. -/
def Block.startReach (b : Block) : Block :=
  match b.ost.img with
  | none => b
  | some i =>
    if !b.ost.started then b
    else
      let ms := min 0xFFFF (max 1 ((b.ao - b.ost.startAo) / 1000000))
      let b := if b.gait = 3 ∧ b.get F.OST_START_TIME.WALK_MS = 0 then b.set F.OST_START_TIME.WALK_MS ms else b
      if b.gait = i.gait ∧ b.get F.OST_START_STATUS.STEP < 9 then
        let b := if i.gait < 3 then b.set F.OST_START_TIME.GALLOP_MS ms else b
        let b := b.set F.OST_START_STATUS.STEP 9
        if b.ost.settleReq then b.settleSlot else b
      else b

/-- The start has ended in this gait (R59): engines held in START that it does not run go to OFF. -/
def Block.startLeft (b : Block) (held : List Nat) : Block :=
  if b.watch.starting then b else held.foldl (fun b e => if b.want e = stOff then b.enterOff e else b) b

/-- The counters of a completed transition (WATCH_CNT). -/
def Block.moveCount (b : Block) (m : GaitMove) : Block :=
  let b := b.count .watch C.WATCH.GAIT_CHANGE
  match m.cause with
  | 1 => b.count .watch C.WATCH.FALLS_PWR
  | 2 => b.count .watch C.WATCH.FALLS_FATAL
  | 3 => b.count .watch C.WATCH.FALLS_LOWBAT
  | 5 => b.count .watch C.WATCH.RISES
  | _ => b

/-- The GAIT record (R416). -/
def Block.gaitRec (b : Block) (m : GaitMove) : Block :=
  b.event 11 32 0 (bytesLE 1 m.src ++ bytesLE 1 b.gait ++ bytesLE 1 m.cause ++ bytesLE 1 (b.get F.WATCH_GAIT_STATUS.CEIL))

/-- A transition completes (R334, R400, R515). -/
def Block.moveEnd (b : Block) (m : GaitMove) : Block :=
  let b := (b.set F.WATCH_GAIT_STATUS.CURRENT m.dst).fixCanter
  let b := (b.set F.WATCH_GAIT_STATUS.BUSY 0).set F.WATCH_GAIT_STATUS.TARGET b.gait
  let owed := m.dst == 2 && decide (3 ≤ m.src) && b.on F.HOST_CFG.WAKE_EN && !b.watch.starting
  let b := if owed then { b with host := { b.host with wakeOwed := true } } else b
  let met := b.target == b.gait
  let held := (List.range 11).filter (fun e => b.startHeld e)
  let b := b.updWatch (fun w => { w with
    move := none, starting := w.starting && !met, riseWake := w.riseWake && !met, liftCause := w.liftCause && !met
    gateAsk := w.gateAsk && !met, awakeSince := if m.dst = 3 then b.ao else w.awakeSince })
  let b := b.stepDone
  (((((b.startLeft held).moveCount m).gaitRec m).startReach).settleClock).lpRelease

/-- GAIT_TRANSITION (R400, R401): begins the transition called for; each further one ends a step that has settled, takes the
next step of a fall, or completes. -/
def Block.gaitTransition (fu : Fuses) (b : Block) : Block :=
  match b.watch.move with
  | none => match b.nextMove with
    | some d => b.moveBegin fu d
    | none => b
  | some m =>
    if !b.stepSettled then b
    else if max 1 b.watch.plan = max 1 m.dst then b.moveEnd m
    else b.stepDone.fallStep fu m.dst

/-- GAIT_TRANSITION. -/
def execGaitTransition (s : State) : Host.Outcome State Fault Refusal := s.next (s.blk.gaitTransition s.fuse)

/-- HALT at once (R363): no drain; every engine but the Watchman goes to OFF with the effects of an ENGINE reset. -/
def Block.haltNow (fu : Fuses) (b : Block) : Block :=
  let m : GaitMove := ⟨b.gait, 4, 4⟩
  let b := if b.gait ≤ 2 then b.hostReset else b
  let b := (b.awakeSum).updWatch (fun w => { w with plan := 4, move := none, wakesDue := [] })
  let b := (List.range 11).foldl (fun b e => (b.engReset e).enterOff e) b
  let b := (b.set F.WATCH_GAIT_STATUS.TARGET 4).settleAll fu
  if m.src = 4 then b.stepDone else b.moveEnd m

/-! ### WALK: wakes and rounds -/

/-- In WALK with no transition in progress. -/
def Block.walking (b : Block) : Bool := b.gait == 3 && b.watch.plan == 3 && b.watch.move.isNone

/-- LEAD_US in ns. -/
def Block.wakeLead (b : Block) : Nat := 1000 * max 150 (b.get F.WATCH_WAKE.LEAD_US)

/-- A wake of the Saddle die (R407): HP, CORE and MESH, the mesh front end. -/
def Block.wakeSaddle (b : Block) : Block :=
  let b := (b.hpReq.count .watch C.WATCH.SADDLE_WAKES).lane 11 1 0
  let b := (b.set F.WATCH_POWER_STATUS.AWAKE 1).updWatch (fun w => { w with awakeSince := b.ao })
  b.meshFeStart.crossSettle

/-- SADDLE_WAKE (R407): a window due within the lead is an occurrence of source 3. -/
def execSaddleWake (s : State) : Host.Outcome State Fault Refusal :=
  let b := s.blk
  s.next (if b.walking && !b.on F.WATCH_POWER_STATUS.AWAKE then
    let b := b.wakeSaddle
    if b.watch.wakesDue.any (fun t => decide (t ≤ b.now + b.wakeLead)) then b.wakeMark 3 else b
  else b)

/-- A channel has WALK set (R408). -/
def Block.walkChannel (b : Block) : Bool := (List.range 256).any (fun k => bitOf (b.chEntry k) 0 && bitOf (b.chEntry k) 5)

/-- Rounds run (R408). -/
def Block.roundsRun (b : Block) : Bool := b.on F.WATCH_ROUND.EN && b.walkChannel

/-- PERIOD_MS in ns. -/
def Block.periodNs (b : Block) : Nat := 1000000 * clampTo 10 10000 (b.get F.WATCH_ROUND.PERIOD_MS)

/-- What keeps the Saddle die awake (R407). -/
def Block.awakeHeld (b : Block) : Bool :=
  !b.sieve.stalls.isEmpty || !b.sieve.txs.isEmpty || !b.sieve.tails.isEmpty ||
    b.sieve.windows.any (fun w => decide (w.start ≤ b.now)) ||
    !b.post.streams.isEmpty || !b.post.good.isEmpty || !b.post.exch.isEmpty || !b.post.await.isEmpty ||
    (b.fe 3 == feCal && (b.feAt 3).startup)

/-- A wake is due within MERGE_US (R407): a declared window less its lead, or the next round. -/
def Block.wakeSoon (b : Block) : Bool :=
  let m := 1000 * b.get F.WATCH_WAKE.MERGE_US
  b.watch.wakesDue.any (fun t => decide (b.now ≤ t ∧ t ≤ b.now + b.wakeLead + m)) ||
    (b.roundsRun && decide (b.periodNs - b.ao % b.periodNs ≤ m))

/-- SADDLE_SLEEP (R407). -/
def execSaddleSleep (s : State) : Host.Outcome State Fault Refusal :=
  let b := s.blk
  s.next (if !b.walking || !b.on F.WATCH_POWER_STATUS.AWAKE || b.awakeHeld then b
  else if b.wakeSoon then b.count .watch C.WATCH.MERGED
  else
    let b := (b.awakeSum.feDown 3).set F.WATCH_POWER_STATUS.AWAKE 0
    (b.updWatch (fun w => { w with wakesDue := w.wakesDue.filter (fun t => decide (b.now ≤ t)) })).crossSettle.lpRelease)

/-- Windows of a watch round (WATCH_ROUND.DWELL_WIN). -/
def Block.dwellWin (b : Block) : Nat := clampTo 1 8 (b.get F.WATCH_ROUND.DWELL_WIN)

/-- The detections that the comparisons of window w of a round declare on WALK channels (R181, R408). -/
def Block.roundHits (b : Block) (hits : List RoundHit) (w : Nat) : List MeshDet :=
  (hits.filter (fun h => h.win == w && bitOf (b.chEntry h.ch) 5 && b.hitDeclared b.now h)).map (hitDet b.now)

/-- WATCH_ROUND (R408): the wake it needs, with the mesh front end READY within LEAD_US when its stored results are valid;
the comparisons of its windows, one after another; its end is the boundary of the Watchman. -/
def execWatchRound (hits : List RoundHit) (s : State) : Host.Outcome State Fault Refusal :=
  let b := s.blk
  s.next (if !b.walking || !b.roundsRun then b
  else
    let b := if b.on F.WATCH_POWER_STATUS.AWAKE then b else b.wakeSaddle
    let b := if b.fe 3 = feWarm && b.calValid 3 then (b.feWarmed 3).feSettled s.fuse 3 else b
    let b := (b.count .watch C.WATCH.ROUNDS).lane 11 0 0
    let (found, b) := (List.range b.dwellWin).foldl (fun (x : Bool × Block) w =>
      let dets := x.2.roundHits hits w
      (x.1 || !dets.isEmpty, x.2.detectAll x.2.now dets)) (false, b)
    let b := if found then ((b.count .watch C.WATCH.ROUND_DETECT).lane 11 0 1).wakeMark 2 else b
    b.boundary 11)

/-- WATCH_TIMER as set. -/
def Block.timerAt (b : Block) : Nat := b.get F.WATCH_TIMER_LO.TIME + 2 ^ 32 * b.get F.WATCH_TIMER_HI.TIME

/-- WATCH_TIMER (R409): fires once when device time reaches it, and reads 0 then. -/
def execWatchTimer (s : State) : Host.Outcome State Fault Refusal :=
  let b := s.blk
  s.next (if b.timerAt ≠ 0 ∧ b.timerAt ≤ b.now then
    (((b.set F.WATCH_TIMER_LO.TIME 0).set F.WATCH_TIMER_HI.TIME 0).updWatch (fun w => { w with timerLo := 0 })).wakeHit 4
  else b)

/-- PPS_IN_EDGE (R366, R409, R410): the latest edge is kept for a servo sample, which gets it as a VALUE. -/
def execPpsInEdge (s : State) : Host.Outcome State Fault Refusal :=
  let b := s.blk
  s.next (if b.est 3 = stRun || !b.wakeEn 1 then b
  else
    let b := (b.set F.WATCH_PPS_LO.TIME b.now).set F.WATCH_PPS_HI.TIME (b.now / 2 ^ 32)
    (b.valueSend 8 0 b.now).wakeHit 1)

/-! ### Time -/

/-- Units of a nanosecond in which fractions are kept: 64 × 10^9. -/
def nsUnits : Nat := 64000000000

/-- The trim in effect: the servo's while Carter carries device time, else none (R295, R411). -/
def Block.trimPpb (b : Block) : Int := if b.est 3 = stRun then b.cart.servo.trim else 0

/-- What device time advances by at a tick, in nsUnits (R295, R411): 10^9 / 32,768 ns, slowed by the trim. -/
def Block.deviceStep (b : Block) : Nat := (1953125 * (1000000000 - b.trimPpb)).toNat

/-- A radio's TSF after u nsUnits (R118). -/
def LinkMac.tsfAdd (l : LinkMac) (u : Nat) : LinkMac :=
  let t := l.tsfFrac + u
  { l with tsf := (l.tsf + t / (1000 * nsUnits)) % 2 ^ 64, tsfFrac := t % (1000 * nsUnits) }

/-- A millisecond has passed: PRECODER_AGE of every valid station of Drover rises, saturating (chapter 5). -/
def Block.agePrecoders (b : Block) : Block :=
  (b.liveIdx 0x2800000 (2048 * 64) 64 1).foldl (fun b s =>
    if b.drovValid s then b.setTab (drovSta s + 0x3C) 2 (min 0xFFFF (b.tab (drovSta s + 0x3C) 2 + 1)) else b) b

/-- ns of a busy primary channel counted in CCA_BUSY_US (R82) while the radio's link MAC runs. -/
def Block.ccaTick (b : Block) (r ns : Nat) : Block :=
  if b.runs (lmEngine r) && b.ccaPrimary r then
    let t := (b.phyAt r).busyNs + ns
    (b.updPhy r (fun p => { p with busyNs := t % 1000 })).count (.phy (Fin.ofNat 3 r)) C.PHY.CCA_BUSY_US (t / 1000)
  else b

/-- ALWAYS_ON_TICK (R411): always-on time by 30,517 37/64 ns, device time by the same with the trim, the TSFs. -/
def execAlwaysOnTick (s : State) : Host.Outcome State Fault Refusal :=
  let b := s.blk
  let a := b.time.aoFrac + 37
  let ao := (b.time.ao + 30517 + a / 64) % 2 ^ 64
  let d := b.time.deviceFrac + b.deviceStep
  let u := b.deviceStep
  let run := b.domRun 1
  let b : Block := { b with
    time := { b.time with device := (b.time.device + d / nsUnits) % 2 ^ 64, deviceFrac := d % nsUnits, ao := ao, aoFrac := a % 64 }
    lm := [0, 1, 2].map (fun r =>
      if b.on (F.LM_MAC_CFG.TSF_PTP r) then (b.lmAt r).tsfAdd u
      else if run then (b.lmAt r).tsfAdd (1953125 * 1000000000) else b.lmAt r) }
  let b := ([0, 1, 2].foldl (fun b r => b.ccaTick r (b.time.ao - s.blk.time.ao)) b).awakeSum
  s.next (if ao / 1000000 = s.blk.time.ao / 1000000 then b else b.agePrecoders)

end Sys2Proof.Machine
end

