-- ==== Sys2Proof/Machine/Hatch.lean ====
section
/-! DEFINITION. The two inputs of the Assay die (R471, R487 to R490): the Hatch with its registers and mirrors, and the
calibration port. -/

namespace Sys2Proof.Machine

/-! ### Mirrors -/

/-- The fields of HATCH_ASSAY that fire ALERT when they become 1 (R490), as a mask. -/
def alertMask : Nat := 0x78FF0000

/-- The mirrors refreshed while group 10 is unparked (R487), ALERT and RECORD fired (R490). -/
def State.mirror (s : State) : State :=
  let b := s.blk
  if b.parked 10 then s
  else
    let a := s.assay
    let old := b.word R.HATCH_ASSAY
    let new := a.mirror
    let oldSeq := b.get F.HATCH_LAST_SEQ.SEQ
    let b := (((b.setB F.HATCH_ASSAY.ASSAY_UP a.up).setB F.HATCH_ASSAY.SEAL_OPEN a.sealOpen).setB F.HATCH_ASSAY.CLOCK_FAULT
      a.clockFault).setB F.HATCH_ASSAY.FLASH_FAULT a.flashFault
    let b := ((b.setB F.HATCH_ASSAY.TIME_LOST a.timeLost).set F.HATCH_ASSAY.OVERRANGE a.overNow).set F.HATCH_ASSAY.EN a.params.en
    let b := ((b.set F.HATCH_RTC.RTC a.rtc).set F.HATCH_LAST_SEQ.SEQ a.seq).set F.HATCH_SEAL.COUNT a.seals
    let b := b.set F.HATCH_LOG_HEAD.IDX a.logIdx
    let rises := (new &&& (old ^^^ 0xFFFFFFFF) &&& alertMask) != 0 || (bitOf old 31 && !a.up)
    let b := if rises then b.fire 22 32 (bytesLE 4 new) else b
    let b := if oldSeq < a.seq then (b.event 22 33 0 (bytesLE 4 a.seq ++ bytesLE 4 a.rtc)).count .hatch C.HATCH.RECORDS else b
    { s with blk := b }

/-- The Assay die after an event of its own, mirrored. -/
def State.onAssay (s : State) (f : Assay → Assay) : State := ({ s with assay := f s.assay }).mirror

/-- ALERT (R490): the mirrors refresh; a fault bit that becomes 1, or ASSAY_UP becoming 0, fires it. -/
def execAlert (s : State) : Host.Outcome State Fault Refusal := .next s.mirror

/-! ### The die's own events -/

/-- ASSAY_SAMPLE (R472): codes of V and I of channels 0 to 7. -/
def execAssaySample (codes : List (Int × Int)) (s : State) : Host.Outcome State Fault Refusal :=
  .next (s.onAssay (fun a => if a.up then a.sample codes else a))

/-- ASSAY_PULSE (R474). -/
def execAssayPulse (s : State) : Host.Outcome State Fault Refusal :=
  let a := s.assay
  .next (if a.up && decide (0 < a.pulseOwed) then
    { s with assay := { a with pulseOwed := a.pulseOwed - 1, pulses := a.pulses + 1 }, blk := s.blk.emit .pulse }
  else s)

/-- INTERVAL_RECORD (R479): the boundary reached. -/
def execIntervalRecord (s : State) : Host.Outcome State Fault Refusal :=
  .next (s.onAssay (fun a => if a.up && a.recDue then a.interval else a))

/-- SEAL_CHANGE (R475). -/
def execSealChange (openNow : Bool) (s : State) : Host.Outcome State Fault Refusal :=
  .next (s.onAssay (fun a => a.sealSet openNow))

/-- ASSAY_SUPPLY_FAIL (R484). -/
def execAssaySupplyFail (holdup : Bool) (s : State) : Host.Outcome State Fault Refusal :=
  .next (s.onAssay (fun a => a.supplyFail holdup))

/-- ASSAY_SUPPLY_RETURN (R484). -/
def execAssaySupplyReturn (s : State) : Host.Outcome State Fault Refusal := .next (s.onAssay (fun a => a.supplyReturn))

/-- ASSAY_CRYSTAL_FAULT (R485). -/
def execAssayCrystalFault (s : State) : Host.Outcome State Fault Refusal := .next (s.onAssay (fun a => a.crystalFault))

/-- ASSAY_CRYSTAL_RECOVERED (R485). -/
def execAssayCrystalRecovered (s : State) : Host.Outcome State Fault Refusal := .next (s.onAssay (fun a => a.crystalBack))

/-! ### The Hatch -/

/-- The first n bytes of HATCH_DATA. -/
def Block.hatchBytes (b : Block) (n : Nat) : List Byte :=
  ((List.range 64).flatMap (fun k => bytesLE 4 (b.get (F.HATCH_DATA.DATA k)))).take n

/-- The command as the die carries it out, from ARG0 and the request bytes in HATCH_DATA (R487). -/
def Assay.hatchCmd (a : Assay) (cmd arg : Nat) (data : List Byte) : AssayReply :=
  match cmd with
  | 0x01 => a.cmdStatus
  | 0x02 => a.cmdSnapshot
  | 0x03 => a.cmdReadRecord arg
  | 0x04 => a.cmdReadLog arg
  | 0x05 => a.cmdTimeSet (data.take 36)
  | 0x10 => a.cmdReadParam .hatch
  | 0x11 => a.cmdWriteParam .hatch (data.take 144)
  | 0x12 => a.cmdInstallKey .hatch arg (data.take 16)
  | 0x13 => a.cmdSetTime .hatch arg
  | _ => { result := .unknown, die := a }

/-- The command in progress is carried out and answered, after a record that is due (R490). -/
def State.hatchRun (s : State) (cmd : Nat) : State :=
  let r := s.assay.settleDue.hatchCmd cmd (s.blk.get F.HATCH_ARG0.ARG0) (s.blk.hatchBytes 256)
  let b := s.blk.hatchEnd r.result r.data
  let b := if cmd = 5 then b.count .hatch (if r.result = .ok then C.HATCH.TIMESET_OK else C.HATCH.TIMESET_REFUSED) else b
  ({ s with blk := b, assay := r.die }).mirror

/-- A write of v to HATCH_CMD (R487, R489): ignored with a NOTE record while BUSY; failed at once when the supply is out or group
10 is parked; else BUSY until the die answers. -/
def Block.hatchStart (a : Assay) (b : Block) (road : Road) (v : Nat) : Block :=
  if b.hatch.isSome then b.noteWrite road R.HATCH_CMD v
  else if !a.up then b.hatchEnd .down []
  else if b.parked 10 then b.hatchEnd .timeout []
  else { (b.hatchStatus 1 0 0).count (.clk 10) C.CLK.XFER with hatch := some (v % 256) }

/-- A command through the Hatch: the one in progress is answered; with none in progress the driver's writes of ARG0, the request
and HATCH_CMD come first. With another in progress its HATCH_CMD write is ignored with a NOTE record. -/
def State.hatchDo (s : State) (cmd arg : Nat) (req : List Byte) : State :=
  match s.blk.hatch with
  | some c => if c = cmd then s.hatchRun cmd else { s with blk := s.blk.noteWrite .bar0 R.HATCH_CMD cmd }
  | none =>
    let b := ((s.blk.set F.HATCH_ARG0.ARG0 arg).putHatch 0 req).hatchStart s.assay .bar0 cmd
    let s := { s with blk := b }
    if b.hatch.isSome then s.hatchRun cmd else s

/-- HATCH_CMD_FAILED (R489): the supply is out (ASSAY_DOWN), or group 10 stops or parks (TIMEOUT). What the die had already taken
stands; only the reply is lost. -/
def execHatchCmdFailed (timeout : Bool) (s : State) : Host.Outcome State Fault Refusal :=
  s.next (if s.blk.hatch.isSome then s.blk.hatchEnd (if timeout then .timeout else .down) [] else s.blk)

/-! ### The calibration port -/

/-- A reply through ASSAY_CAL (R488): the request's framing with RESULT in place of the first byte of ARG0. -/
def calReply (cmd arg : Nat) (r : AssayReply) : List Byte :=
  let m := bytesLE 1 cmd ++ bytesLE 2 r.data.length ++ bytesLE 1 r.result.code ++ (bytesLE 4 arg).drop 1 ++ r.data
  [0xA5] ++ m ++ bytesLE 2 (crc16 m)

/-- The command as the die carries it out for the calibration port. -/
def Assay.calCmd (a : Assay) (cmd arg : Nat) (data : List Byte) : AssayReply :=
  match cmd with
  | 0x01 => a.cmdStatus
  | 0x02 => a.cmdSnapshot
  | 0x03 => a.cmdReadRecord arg
  | 0x04 => a.cmdReadLog arg
  | 0x05 => a.cmdTimeSet data
  | 0x10 => a.cmdReadParam .cal
  | 0x11 => a.cmdWriteParam .cal data
  | 0x12 => a.cmdInstallKey .cal arg data
  | 0x13 => a.cmdSetTime .cal arg
  | _ => { result := .unknown, die := a }

/-- A command through the calibration port, which is active only with the supply in range and the seal open (R471, R488). -/
def State.calDo (s : State) (cmd arg : Nat) (data : List Byte) : State :=
  if !s.assay.up || !s.assay.sealOpen then s
  else
    let r := s.assay.settleDue.calCmd cmd arg data
    ({ s with assay := r.die, blk := s.blk.emit (.cal (calReply cmd arg r)) }).mirror

/-- A command on one of the two inputs. -/
def State.assayDo (s : State) (port : AssayIn) (cmd arg : Nat) (data : List Byte) : State :=
  match port with
  | .hatch => s.hatchDo cmd arg data
  | .cal => s.calDo cmd arg data

/-- STATUS. -/
def execAssayStatus (port : AssayIn) (s : State) : Host.Outcome State Fault Refusal := .next (s.assayDo port 0x01 0 [])

/-- SNAPSHOT. -/
def execSnapshot (port : AssayIn) (s : State) : Host.Outcome State Fault Refusal := .next (s.assayDo port 0x02 0 [])

/-- READ_RECORD. -/
def execReadRecord (port : AssayIn) (seq : Nat) (s : State) : Host.Outcome State Fault Refusal := .next (s.assayDo port 0x03 seq [])

/-- READ_LOG. -/
def execReadLog (port : AssayIn) (idx : Nat) (s : State) : Host.Outcome State Fault Refusal := .next (s.assayDo port 0x04 idx [])

/-- TIME_SET. -/
def execTimeSet (port : AssayIn) (req : List Byte) (s : State) : Host.Outcome State Fault Refusal := .next (s.assayDo port 0x05 0 req)

/-- READ_PARAM. -/
def execReadParam (port : AssayIn) (s : State) : Host.Outcome State Fault Refusal := .next (s.assayDo port 0x10 0 [])

/-- WRITE_PARAM. -/
def execWriteParam (port : AssayIn) (block : List Byte) (s : State) : Host.Outcome State Fault Refusal :=
  .next (s.assayDo port 0x11 0 block)

/-- INSTALL_KEY. -/
def execInstallKey (port : AssayIn) (which : Nat) (key : List Byte) (s : State) : Host.Outcome State Fault Refusal :=
  .next (s.assayDo port 0x12 which key)

/-- SET_TIME. -/
def execSetTime (port : AssayIn) (rtc : Word) (s : State) : Host.Outcome State Fault Refusal :=
  .next (s.assayDo port 0x13 rtc.toNat [])

/-- CALIBRATION_FRAME (R488): a frame with its CRC right is carried out; a write command not complete and checked while the seal
was open is refused. -/
def State.calFrame (s : State) (f : List Byte) (openThroughout : Bool) : State :=
  let cmd := numAt f 1 1
  let len := numAt f 2 2
  let arg := numAt f 4 4
  let ok := f.length == len + 10 && numAt f 0 1 == 0xA5 && crc16 ((f.drop 1).take (len + 7)) == numAt f (8 + len) 2
  if !ok || !s.assay.up || !s.assay.sealOpen then s
  else if (cmd = 0x11 ∨ cmd = 0x12 ∨ cmd = 0x13) ∧ !openThroughout then
    { s with blk := s.blk.emit (.cal (calReply cmd arg { result := .refused, die := s.assay })) }
  else s.calDo cmd arg ((f.drop 8).take len)

/-- CALIBRATION_FRAME. -/
def execCalibrationFrame (octets : List Byte) (openThroughout : Bool) (s : State) : Host.Outcome State Fault Refusal :=
  .next (s.calFrame octets openThroughout)

end Sys2Proof.Machine
end

