-- ==== Sys2Proof/Machine/Host.lean ====
section
/-! DEFINITION. The host port (R332 to R338) and Clerk's ledger commands (R341 to R347). Register writes of this chapter are in
Bus.lean. -/

namespace Sys2Proof.Machine

/-! ### The link -/

/-- HOST_PORT_RESET (R332). A function-level reset leaves the link itself up. -/
def execHostPortReset (cause : HostResetCause) (s : State) : Host.Outcome State Fault Refusal :=
  let b := s.blk
  let up := b.host.linkUp
  let gen := b.get F.HOST_STATUS.GEN
  let width := b.get F.HOST_STATUS.WIDTH
  s.next (match cause with
  | .flr => (b.hostReset).hostLink ⟨up, gen, width, false, false, false⟩
  | .perst => b.hostReset
  | .hotReset => b.hostReset
  | .linkLoss => b.hostReset)

/-- HOST_PORT_UP (R333): the link, Bus Master Enable and the power state as found. The port runs while S3 runs (R334); a link
that leaves L0 and L1 is lost (R332). Waiting records are fed when the port is up (R343); a message that the vector's mask
held back follows (R347). -/
def execHostPortUp (st : LinkFacts) (s : State) : Host.Outcome State Fault Refusal :=
  let b := s.blk
  s.next (if !b.runs 3 then b
  else if b.host.linkUp && !st.l0 then b.hostReset
  else ({ (b.hostLink st) with clerk := { (b.hostLink st).clerk with msixMask := st.mask } } : Block).feedAll.msix)

/-- WAKE_N_ASSERT (R334): WAKE_N is driven low when a rise from WALK or HALT has reached TROT. -/
def execWakeNAssert (s : State) : Host.Outcome State Fault Refusal :=
  let b := s.blk
  s.next (if b.host.wakeOwed then { b with host := { b.host with wakeOwed := false, wakeN := true, wakeAo := b.ao } } else b)

/-- WAKE_N_TIMEOUT (R334): 1 s without L0. -/
def execWakeNTimeout (s : State) : Host.Outcome State Fault Refusal :=
  let b := s.blk
  s.next (if b.host.wakeAo + 1000000000 ≤ b.ao + tickNs then { b with host := { b.host with wakeN := false } } else b)

/-! ### Descriptor rings: transmit ring n is ring n, receive ring n is ring 8 + n -/

/-- Host address of ring q. -/
def Block.ringBase (b : Block) (q : Nat) : Nat :=
  b.get (F.HOST_RING_BASE_LO.BASE_LO q) + 2 ^ 32 * b.get (F.HOST_RING_BASE_HI.BASE_HI q)

/-- Ring q runs: enabled, the port up (R333), Carter's host DMA in RUN. -/
def Block.ringRuns (b : Block) (q : Nat) : Bool := b.portUp && b.runs 3 && b.on (F.HOST_RING_CTRL.EN q)

/-- CONS of ring q advances by 1. -/
def Block.ringConsume (b : Block) (q : Nat) : Block :=
  b.set (F.HOST_RING_CONS.CONS q) ((b.get (F.HOST_RING_CONS.CONS q) + 1) % 2 ^ 16)

/-- Host address of the descriptor at CONS of ring q, of size octets. -/
def Block.descAddr (b : Block) (q size : Nat) : Nat :=
  b.ringBase q + size * (b.get (F.HOST_RING_CONS.CONS q) % b.ringSize q)

/-- DOORBELL_WRITE (R335): the new producer index, by its VALUE crossing (R367, R371). Doorbells come over PCIe alone; before
the start sequence is over one is ignored with a NOTE record (R56). -/
def execDoorbellWrite (ring : Fin 16) (value : BitVec 16) (s : State) : Host.Outcome State Fault Refusal :=
  let b := s.blk
  s.next (if !b.host.linkUp then b
  else if b.startIgnores .bar0 (R.HOST_RING_PROD ring.val) then b.noteWrite .bar0 (R.HOST_RING_PROD ring.val) value.toNat
  else b.valueSend 6 ring.val value.toNat)

/-- The STATUS byte of the transmit descriptor at CONS written, then CONS advanced past it (R336). -/
def Block.txDone (b : Block) (n status : Nat) : Block :=
  let b := (b.emit (.hostWrite (b.descAddr n 16 + 0xB) (bytesLE 1 status))).ringConsume n
  (b.count .host C.HOST.TX_DESC).lane 3 4 0

/-- A DMA that fails at the head of ring q, when it runs (R338). A receive ring's descriptor stays without DONE and the frame waiting
for it is dropped. -/
def Block.dmaError (b : Block) (q : Nat) : Block :=
  let b := b.count .host C.HOST.DMA_ERR
  if q < 8 then ((if b.ringPosted q = 0 then b else b.txDone q 4)).ringStop q
  else
    let b := match b.takeHead (16 + q % 8) with
      | some (f, b) => b.poolDrop f.pool
      | none => b
    b.ringStop q

/-- A DMA completion error of ring q (R338, R360): its NOTE record with it. -/
def Block.dmaFault (b : Block) (q : Nat) : Block := (b.dmaError q).note 23 1

/-- DMA_FAULT (R338). -/
def execDmaFault (ring : Fin 16) (s : State) : Host.Outcome State Fault Refusal :=
  let b := s.blk
  s.next (if b.ringRuns ring.val then b.dmaFault ring.val else b)

/-- Frames that Carter has refused for want of cells or by the admission rules of R281. -/
def Block.refusals (b : Block) : Nat :=
  sumNat ((List.range 8).map (fun p => b.cnt (.cart (Fin.ofNat 8 p)) C.CART.ADMIT_DROP + b.cnt (.cart (Fin.ofNat 8 p)) C.CART.NOCELL_DROP))

/-- The frame of a transmit descriptor handed to Carter (R336). -/
def Block.txFrame (b : Block) (n : Nat) (d : TxDesc) : Block :=
  let g : Ingress := { src := 2 + n, len := d.len + 4, fcs := .good, frame := d.frame, ip := d.ip, oneStep := d.oneStep, tsReq := d.tsReq }
  if d.direct then b.direct g d.dest d.cls d.mesh else b.ingress g

/-- The frame of d is not admitted: Carter refuses every place it would take (R281, R336; DEDUCED, log entry 36), or the lame state
all but a steward frame (R292). -/
def Block.txRefused (b : Block) (n : Nat) (d : TxDesc) : Bool :=
  if b.lame then d.frame.etype != b.get F.CART_STEWARD.ETYPE else
  let p := (List.range 8).foldl (fun (b : Block) k => b.set (cntFreeze (.cart (Fin.ofNat 8 k))) 0) b
  (p.txFrame n d).refusals != p.refusals

/-- TX_DESCRIPTOR (R336, R338): the next descriptor of transmit ring n. -/
def execTxDescriptor (n : Fin 8) (d : TxDesc) (s : State) : Host.Outcome State Fault Refusal :=
  let b := s.blk
  s.next (if !b.ringRuns n.val || b.ringPosted n.val == 0 then b
  else if !d.dmaOk then b.dmaFault n.val
  else if d.len < 60 ∨ b.mtu - 4 < d.len then b.txDone n.val 3
  else if b.txRefused n.val d then ((b.txFrame n.val d).txDone n.val 2).count .host C.HOST.TX_NOT_ADMITTED
  else (b.txFrame n.val d).txDone n.val 1)

/-- The octets of a frame as a receive ring carries it, without FCS (R337): tagged as the VLAN table has it for the HOST port
(R279), a steward-path frame as it came (R291). -/
def Block.rxOctets (b : Block) (cls : Nat) (f : CartFrame) : List Byte :=
  if !f.raw.isEmpty then f.raw
  else if f.steward then frameBytes f.frame
  else frameBytes (b.airFrame 2 f.vlan cls f.frame none)

/-- The octets of a frame laid into receive descriptors of ring q, the first one first; false when a write fails (R337). -/
def Block.rxFill (b : Block) (q : Nat) (f : CartFrame) (data : List Byte) (first : Bool) : List RxDesc → Block × Bool
  | [] => (b, true)
  | d :: ds =>
    let part := data.take d.bufLen
    let rest := data.drop d.bufLen
    if !d.dmaOk then (b, false)
    else
      let a := b.descAddr q 32
      let flags := b2n first * 2 + b2n rest.isEmpty * 4 + b2n f.ts.isSome * 8 + b2n f.steward * 16
      let body := bytesLE 2 part.length ++ bytesLE 2 flags ++ bytesLE 1 f.src ++ bytesLE 1 (q % 8) ++ bytesLE 2 (f.vlan % 4096) ++
        bytesLE 6 0 ++ bytesLE 8 (f.ts.getD 0)
      let b := ((b.emit (.hostWrite d.addr part)).emit (.hostWrite (a + 0xA) body)).emit (.hostWrite (a + 0xC) (bytesLE 2 (flags + 1)))
      let b := ((b.ringConsume q).count .host C.HOST.RX_DESC).lane 3 4 0
      if rest.isEmpty then (b, true) else b.rxFill q f rest false ds

/-- The frame at the head of trough t waits for descriptors: one more of lane 4 (R337). -/
def Block.rxWait (b : Block) (t : Nat) : Block :=
  let q := b.trough t
  match q.frames with
  | f :: rest => if f.waited then b else (b.setTrough { q with frames := { f with waited := true } :: rest }).lane 3 4 1
  | [] => b

/-- RX_DESCRIPTOR_FILL (R283, R337): the frame at the head of HOST trough n goes into the next descriptors of receive ring n,
ds as the host posted them. With too few of them it waits, counted in lane 4 once. -/
def execRxDescriptorFill (n : Fin 8) (ds : List RxDesc) (s : State) : Host.Outcome State Fault Refusal :=
  let b := s.blk
  let q := 8 + n.val
  s.next (if !b.ringRuns q then b
  else match b.headOf (16 + n.val) with
    | none => b
    | some f =>
      let data := b.rxOctets n.val f
      let ds := ds.take (b.ringPosted q)
      if sumNat (ds.map (fun d => d.bufLen)) < data.length then b.rxWait (16 + n.val)
      else match b.rxFill q f data true ds with
        | (b', true) =>
          (match b'.takeHead (16 + n.val) with
          | some (f, b) => (b.poolDrop f.pool).cartCount 2 C.CART.TX_FRAMES
          | none => b')
        | (b', false) => b'.dmaFault q)

/-! ### The ledger -/

/-- LEDGER_RECORD (R341, R345): an occurrence of a pulse source of severity EVENT. -/
def execLedgerRecord (origin : Fin 25) (src : BitVec 8) (kind : BitVec 8) (payload : List Byte) (s : State) :
    Host.Outcome State Fault Refusal :=
  s.next (s.blk.event origin.val src.toNat kind.toNat payload)

/-- LEDGER_FEED (R343). -/
def execLedgerFeed (s : State) : Host.Outcome State Fault Refusal := s.next s.blk.feedAll

/-- SERVED_SOURCE_FIRE (R346). -/
def execServedSourceFire (origin : Fin 25) (src : BitVec 8) (payload : List Byte) (s : State) : Host.Outcome State Fault Refusal :=
  s.next (s.blk.fire origin.val src.toNat payload)

/-- MSIX_MESSAGE (R347). -/
def execMsixMessage (s : State) : Host.Outcome State Fault Refusal := s.next s.blk.msix

end Sys2Proof.Machine
end

