-- ==== Sys2Proof/Machine/Medium.lean ====
section
/-! DEFINITION. What the link MACs' medium access and Drover's planning share: EDCA parameters and backoff (R99, R133), the times to the
next TBTT and restricted service period (R120, R127), carrier sense and the yoke (R102, R144, R145, R245), PPDU durations (R66, R151),
RUs (R158). -/

namespace Sys2Proof.Machine

/-! ### EDCA -/

/-- SIFS of a radio in µs (R96, R97). -/
def sifsUs (r : Nat) : Nat := if r = 2 then 10 else 16

/-- The slot time of a radio in µs (R99). -/
def Block.slotUs (b : Block) (r : Nat) : Nat := if r = 2 && b.on (F.LM_MAC_CFG.SLOT 2) then 20 else 9

/-- The EDCA register values an access category contends with (R99, R133), the upstream's for the backhaul's own frames. -/
def Block.edcaReg (b : Block) (r ac : Nat) : Nat :=
  let up := match b.planAt r 0 with | some p => p.users.any (fun u => b.isUpstream r u.sta) | none => false
  let of (l x n a : Fld) : Nat := b.get l * 2 ^ 16 + b.get x * 256 + b.get n * 16 + b.get a
  let own := match ac with
    | 0 => of (F.LM_EDCA_BE.TXOP_LIMIT r) (F.LM_EDCA_BE.ECWMAX r) (F.LM_EDCA_BE.ECWMIN r) (F.LM_EDCA_BE.AIFSN r)
    | 1 => of (F.LM_EDCA_BK.TXOP_LIMIT r) (F.LM_EDCA_BK.ECWMAX r) (F.LM_EDCA_BK.ECWMIN r) (F.LM_EDCA_BK.AIFSN r)
    | 2 => of (F.LM_EDCA_VI.TXOP_LIMIT r) (F.LM_EDCA_VI.ECWMAX r) (F.LM_EDCA_VI.ECWMIN r) (F.LM_EDCA_VI.AIFSN r)
    | _ => of (F.LM_EDCA_VO.TXOP_LIMIT r) (F.LM_EDCA_VO.ECWMAX r) (F.LM_EDCA_VO.ECWMIN r) (F.LM_EDCA_VO.AIFSN r)
  match (b.lmAt r).bhEdca with
  | some l => if up then nth l ac own else own
  | none => own

/-- AIFSN: 0 acts as 1. -/
def Block.aifsn (b : Block) (r ac : Nat) : Nat := max 1 (b.edcaReg r ac % 16)

/-- CWmin (R99). -/
def Block.cwMin (b : Block) (r ac : Nat) : Nat := 2 ^ bitsOf (b.edcaReg r ac) 7 4 - 1

/-- CWmax; an ECWMAX below ECWMIN acts as ECWMIN. -/
def Block.cwMax (b : Block) (r ac : Nat) : Nat := 2 ^ max (bitsOf (b.edcaReg r ac) 7 4) (bitsOf (b.edcaReg r ac) 11 8) - 1

/-- TXOP_LIMIT of an access category in units of 32 µs. -/
def Block.txopLimit (b : Block) (r ac : Nat) : Nat := b.edcaReg r ac / 2 ^ 16

/-- The EDCA function of an access category. -/
def Block.edcaAt (b : Block) (r ac : Nat) : Edca := nth (b.lmAt r).edca ac ⟨0, 0⟩

/-- Slots an access category has left to gain the TXOP, counted from SIFS (R99, R156). -/
def Block.slotsLeft (b : Block) (r ac : Nat) : Nat := b.aifsn r ac + (b.edcaAt r ac).backoff

/-- b with the CW and backoff of an access category replaced. -/
def Block.setEdca (b : Block) (r ac : Nat) (f : Edca → Edca) : Block := b.updLm r (fun l => { l with edca := upd l.edca ac f })

/-- CW of an access category doubled, capped at CWmax, and a new backoff drawn (R99). -/
def Block.cwDouble (b : Block) (r ac draw : Nat) : Block :=
  b.setEdca r ac (fun e =>
    let cw := max (b.cwMin r ac) (min (b.cwMax r ac) (2 * e.cw + 1))
    { cw := cw, backoff := draw % (cw + 1) })

/-- A TXOP that was answered takes CW back to CWmin; a new backoff is drawn (IEEE 802.11, PRESUMED, log entry 30). -/
def Block.cwReset (b : Block) (r ac draw : Nat) : Block :=
  b.setEdca r ac (fun _ => { cw := b.cwMin r ac, backoff := draw % (b.cwMin r ac + 1) })

/-! ### What bounds a transmission -/

/-- µs of a long time: no bound. -/
def farUs : Nat := 10 ^ 9

/-- µs to the next TBTT of a beaconing BSS (R120). -/
def Block.tbttUs (b : Block) (r : Nat) : Nat :=
  let t := (b.lmAt r).tsf
  (List.range 16).foldl (fun m i =>
    let step := 1024 * b.bss r i 6 2
    let off := 1024 * b.bss r i 0xA 2
    if b.beaconing r i then min m (step - (t + off * (step - 1)) % step) else m) farUs

/-- µs to the next restricted service period (R127). -/
def Block.restrictedUs (b : Block) (r : Nat) : Nat :=
  let t := (b.lmAt r).tsf
  (List.range 256).foldl (fun m i =>
    let a := lmWin r + 0x12000 + 32 * i
    let next := b.tab (a + 0x10) 8
    if bitOf (b.tab a 2) 15 && bitOf (b.tab (a + 2) 1) 2 && decide (t < next) then min m (next - t) else m) farUs

/-- A NAV of radio r is not 0 (R102). -/
def Block.navBusy (b : Block) (r : Nat) : Bool := decide (b.mono < (b.lmAt r).navBasic ∨ b.mono < (b.lmAt r).navIntra)

/-- The radio's medium is idle and its own exchange over. -/
def Block.mediumFree (b : Block) (r : Nat) : Bool :=
  !b.feUnready r && !b.ccaPrimary r && (b.phyAt r).tx.isNone && !b.navBusy r && (b.lmAt r).resp.isNone && (b.lmAt r).txop.isNone

/-- The radio transmits, receives, or owes or awaits a response (R144, R145). -/
def Block.radioBusy (b : Block) (r : Nat) : Bool :=
  b.inPpdu r || (b.lmAt r).resp.isSome || ((b.phyAt r).rx.map (fun (x : PhyRx) => x.valid)).getD false ||
    (b.lmAt r).txop.isSome

/-- The yoked link holds radio r back (R144, R145). -/
def Block.mateBusy (b : Block) (r : Nat) : Bool :=
  match yokeMate r with
  | some q => b.yokeCond && b.radioBusy q
  | none => false

/-! ### Durations -/

/-- Data bits per subcarrier of an MCS, in twelfths. -/
def mcsBits : List Nat := [6, 12, 18, 24, 36, 48, 54, 60, 72, 80, 90, 100, 108, 120]

/-- Data tones of a whole width in a MODE (R66). -/
def fullTones (mode width : Nat) : Nat :=
  if mode = 0 then 48 else if mode ≤ 2 then nth [52, 108, 234, 468, 468] width 52 else nth [234, 468, 980, 1960, 3920] width 234

/-- PHY rate in 10 kb/s on tones, with a guard interval of 0.8 µs, which every mode has (R66; IEEE 802.11, PRESUMED, log entry
30). -/
def toneRate (mode tones nss mcs : Nat) : Nat :=
  if mode = 0 then nth [600, 900, 1200, 1800, 2400, 3600, 4800, 5400] mcs 600
  else tones * nth mcsBits mcs 6 * nss * 1000 / (12 * (if mode ≤ 2 then 40 else 136))

/-- PHY rate in 10 kb/s at a width. -/
def phyRate (mode width nss mcs : Nat) : Nat := toneRate mode (fullTones mode width) nss mcs

/-- µs before the data of a PPDU (PRESUMED, log entry 30). -/
def preambleUs (mode : Nat) : Nat := nth [20, 36, 40, 44, 44] mode 44

/-- µs of a PPDU with octets of data at a rate in 10 kb/s. -/
def ppduUs (mode rate octets : Nat) : Nat := preambleUs mode + ceilDiv (800 * octets) (max 1 rate)

/-- Octets that fit a PPDU of us µs. -/
def ppduOctets (mode rate us : Nat) : Nat := (us - preambleUs mode) * rate / 800

/-- µs of a non-HT frame at a rate in 500 kb/s; 1 Mb/s is DSSS with its long preamble (PRESUMED, log entry 30). -/
def nonHtUs (rate octets : Nat) : Nat := (if rate = 2 then 192 else 20) + ceilDiv (16 * octets) (max 1 rate)

/-- The rate of a template's RATE in 500 kb/s (R121, R128): 1 Mb/s DSSS on LM-2G4 only, other values act as 0. -/
def rateCode (r v : Nat) : Nat := match v with | 1 => 24 | 2 => 48 | 3 => if r = 2 then 2 else 12 | _ => 12

/-! ### RUs -/

/-- The sizes of RUs with their data tones, largest first (IEEE 802.11be). -/
def ruSizes : List (Nat × Nat) := [(3984, 3920), (1992, 1960), (996, 980), (484, 468), (242, 234), (106, 102), (52, 48), (26, 24)]

/-- The RUs of a size in a channel of width code w, in ascending frequency, as masks of the subchannels they lie in (IEEE 802.11be;
PRESUMED, log entry 15). The middle 26-tone RU of 80 MHz lies in two. -/
def ruMasks (w size : Nat) : List Nat :=
  let per (k : Nat) : List Nat := (List.range (2 ^ w)).flatMap (fun i => List.replicate k (2 ^ i))
  let wide (n : Nat) : List Nat := if w < n then [] else (List.range (2 ^ (w - n))).map (fun i => (2 ^ 2 ^ n - 1) * 2 ^ (i * 2 ^ n))
  match size with
  | 26 =>
    if w < 2 then per 9
    else (List.range (2 ^ (w - 2))).flatMap (fun q =>
      List.replicate 9 (2 ^ (4 * q)) ++ List.replicate 9 (2 ^ (4 * q + 1)) ++ [6 * 2 ^ (4 * q)] ++
        List.replicate 9 (2 ^ (4 * q + 2)) ++ List.replicate 9 (2 ^ (4 * q + 3)))
  | 52 => per 4
  | 106 => per 2
  | 242 => wide 0
  | 484 => wide 1
  | 996 => wide 2
  | 1992 => wide 3
  | _ => wide 4

/-- Subchannels m are those of one RU, or of an MRU of R73: an aligned block less a pattern that IEEE 802.11be permits. -/
def mruOk (m : Nat) : Bool :=
  (List.range 5).any (fun w => (List.range (16 / 2 ^ w)).any (fun i =>
    (punctPatterns w).any (fun p => (2 ^ 2 ^ w - 1 - p) * 2 ^ (i * 2 ^ w) == m)))

/-- RUs clear of the punctured subchannels shared out (R158): the first n to as many users; each left over to the user on the adjacent
lower RU, or else higher, where the RU or MRU so formed is defined, else none. A user's RUs as (tones, subchannels). RUs below 242
tones combine with none of their own size. -/
def ruShare (size tones : Nat) (free : List Nat) (n : Nat) : List (Nat × Nat) :=
  let first := (free.take n).map (fun m => (tones, m))
  if size < 242 then first
  else (free.drop n).foldl (fun us m =>
    let low := us.findIdx? (fun u => bitOf u.2 (m.log2 - popcount m) && mruOk (u.2 ||| m))
    let high := us.findIdx? (fun u => bitOf u.2 (m.log2 + 1) && mruOk (u.2 ||| m))
    match low with
    | some i => upd us i (fun u => (u.1 + tones, u.2 ||| m))
    | none => match high with
      | some i => upd us i (fun u => (u.1 + tones, u.2 ||| m))
      | none => us) first

end Sys2Proof.Machine
end

