-- ==== Sys2Proof/Machine/Drover.lean ====
section
/-! DEFINITION. Drover and Marshal (R138 to R173): eligible links, ration credits, plans, commit, settle and undo, the
placement loop, precoders. -/

namespace Sys2Proof.Machine

/-- b with Marshal changed. -/
def Block.updMars (b : Block) (f : Marshal → Marshal) : Block := { b with marshal := f b.marshal }

/-- The DROV counters of radio r. -/
def Block.drovCount (b : Block) (r n : Nat) (k : Nat := 1) : Block := b.count (.drov (Fin.ofNat 3 r)) n k

/-! ### Eligible links -/

/-- The radio's link MAC is in RUN on a permitted channel (R140). -/
def Block.upRadio (b : Block) (r : Nat) : Bool := b.est (lmEngine r) == stRun && !b.on (F.PHY_STATUS.CHAN_DENIED r)

/-- Byte 0x34 of a station entry: PS and the U-APSD service period (R105). -/
def Block.psBits (b : Block) (r sta : Nat) : Nat := b.tab (staAddr r sta + 0x34) 1

/-- The station is in a TWT service period of its own (R125, R126). -/
def Block.inTwt (b : Block) (r sta : Nat) : Bool :=
  let t := (b.lmAt r).tsf
  (List.range 256).any (fun i =>
    let a := lmWin r + 0x12000 + 32 * i
    let v := b.tab a 2
    bitOf v 15 && !bitOf v 14 && v % 2048 == sta &&
      decide (b.tab (a + 0x10) 8 ≤ t ∧ t < b.tab (a + 0x10) 8 + 256 * b.tab (a + 4) 1))

/-- Entries of the TWT table of radio r with RESTRICTED set whose service period runs now (R126, R127). -/
def Block.restrictedNow (b : Block) (r : Nat) : List Nat :=
  let t := (b.lmAt r).tsf
  (List.range 256).filter (fun i =>
    let a := lmWin r + 0x12000 + 32 * i
    bitOf (b.tab a 2) 15 && bitOf (b.tab (a + 2) 1) 2 &&
      decide (b.tab (a + 0x10) 8 ≤ t ∧ t < b.tab (a + 0x10) 8 + 256 * b.tab (a + 4) 1))

/-- The station is a member of the restricted TWT of entry i: the entry names it, or a BROADCAST entry shares its TWT_ID with an
entry of the station (R127; log entry 41). -/
def Block.twtMember (b : Block) (r i sta : Nat) : Bool :=
  let a (k : Nat) : Nat := lmWin r + 0x12000 + 32 * k
  let v := b.tab (a i) 2
  if !bitOf v 14 then v % 2048 == sta
  else (List.range 256).any (fun k =>
    let w := b.tab (a k) 2
    bitOf w 15 && !bitOf w 14 && w % 2048 == sta && bitOf (b.tab (a k + 2) 1) 2 &&
      b.tab (a k + 3) 1 % 32 == b.tab (a i + 3) 1 % 32)

/-- Drover may plan traffic of the station on the radio now: in a restricted service period it is a member (R127). -/
def Block.twtAllows (b : Block) (r sta : Nat) : Bool := (b.restrictedNow r).all (fun i => b.twtMember r i sta)

/-- Downlink frames of access category ac may go to the station on the radio as its power save stands (R125). -/
def Block.psPass (b : Block) (r sta ac : Nat) : Bool :=
  let v := b.psBits r sta
  !bitOf v 0 || (b.lmAt r).polls.contains sta || (bitOf v 1 && bitOf (b.staFlags r sta) (18 + ac)) || b.inTwt r sta

/-- Downlink frames of access category ac may be planned for the station on the radio now (R125, R127, R161). -/
def Block.psOk (b : Block) (r sta ac : Nat) : Bool := b.twtAllows r sta && b.psPass r sta ac

/-- A link of record i that its station entry bears out (R139). -/
def Block.linkPresent (b : Block) (sta r : Nat) : Bool := b.staValid r sta && bitOf (b.staFlags r sta) 3

/-- KiB of unreserved frames of a station and access category. -/
def Block.unreservedKib (b : Block) (sta ac : Nat) : Nat :=
  sumNat (((b.queue (4 * sta + ac)).filter (fun f => f.reserved.isNone)).map (fun f => f.len)) / 1024

/-- LQ of radio r in record i. -/
def Block.lq (b : Block) (i r : Nat) : Nat := b.tab (mlAddr i + 0x10 + 2 * r) 2

/-- The radio of the highest score, the lowest index among equals. -/
def bestRadio (score : Nat → Nat) (rs : List Nat) : Option Nat :=
  rs.foldl (fun best r => match best with
    | none => some r
    | some k => if score k < score r ∨ (score k = score r ∧ r < k) then some r else some k) none

/-- The eligible link set of record i for a frame of TID t (R140). -/
def Block.linkSet (b : Block) (i sta tid ac : Nat) : List Nat :=
  let links := b.tab (mlAddr i + 2) 1 % 8
  let t2 := bitsOf (b.tab (mlAddr i + 4) 3) (3 * (tid % 8) + 2) (3 * (tid % 8))
  let mask := if t2 = 0 then links else links &&& t2
  let a := [0, 1, 2].filter (fun r => bitOf mask r && b.upRadio r && b.linkPresent sta r && b.psPass r sta ac)
  let emlsr := bitOf (b.tab (mlAddr i + 3) 1) 0 && decide (b.now < b.tab (mlAddr i + 0x18) 8)
  let a := if emlsr then a.filter (fun r => r == b.tab (mlAddr i + 0xE) 1 % 4) else a
  let pref := b.tab (mlAddr i + 0xC) 1 % 4
  if b.on F.MARS_CFG.SPREAD && decide (max 1 (b.get F.MARS_CFG.SPREAD_KB) ≤ b.unreservedKib sta ac) then a
  else if a.contains pref then [pref]
  else (bestRadio (b.lq i) a).toList

/-- A frame of TID t may be planned on radio r (R139, R140, R161); with Marshal not in RUN a multi-link station is served on its
anchor link alone (R136), with a record or without. -/
def Block.eligible (b : Block) (r sta tid ac : Nat) : Bool :=
  b.twtAllows r sta && (match b.mlOf sta with
  | none => b.staRadio sta == r && b.staValid r sta && b.upRadio r && b.psPass r sta ac
  | some i =>
    if b.est 8 = stRun then (b.linkSet i sta tid ac).contains r
    else b.linkPresent sta r && bitOf (b.staFlags r sta) 4 && b.upRadio r && b.psPass r sta ac)

/-- The radio is in the eligible link set of the station for some TID of an access category. -/
def Block.onLink (b : Block) (r sta ac : Nat) : Bool := (List.range 8).any (fun t => acOf t == ac && b.eligible r sta t ac)

/-- The frames of a queue need a key at its hard limit (R314). -/
def Block.keyOut (b : Block) (r key : Nat) : Bool :=
  let prot := decide (8192 ≤ key) || bitOf (b.staFlags r (key / 4)) 2
  match (if prot then b.queueKey r key else none) with
  | some h => (match b.keyAt 0 h with | some k => k.atHard (b.tally 4) | none => false)
  | none => false

/-- Unreserved frames of a station that radio r may take; none whose key may protect no more (R314). -/
def Block.takeable (b : Block) (r sta ac : Nat) : List QFrame :=
  (b.queue (4 * sta + ac)).filter (fun f => f.reserved.isNone && !b.loftWaits f.pool && !b.keyOut r (4 * sta + ac) && b.eligible r sta f.tid ac)

/-- The stations with frames of an access category in a queue. -/
def Block.holders (b : Block) (ac : Nat) : List Nat :=
  (b.drov.queues.filter (fun q => decide (q.key < 8192) && q.key % 4 == ac)).map (fun q => q.key / 4)

/-- Stations by DEFICIT from highest to lowest, the lower index among equals (R152). -/
def Block.byRation (b : Block) (ac : Nat) (l : List Nat) : List Nat :=
  sortBy (fun x y => decide (b.deficit y ac < b.deficit x ac ∨ (b.deficit x ac = b.deficit y ac ∧ x ≤ y))) l

/-- The candidates of a plan (R152). -/
def Block.candidates (b : Block) (r ac : Nat) : List Nat :=
  b.byRation ac ((b.holders ac).filter (fun s =>
    b.drovValid s && !(b.takeable r s ac).isEmpty && decide (-(2 ^ 23 - 2 ^ 16) ≤ b.deficit s ac)))

/-! ### Rungs -/

/-- Highest MCS of a MODE (R105). -/
def topMcs (mode : Nat) : Nat := match mode with | 0 => 7 | 1 => 7 | 2 => 9 | 3 => 11 | _ => 13

/-- Order of a rung in its ladder: by rate at any one width, the lower NSS among equals. -/
def rungOrder (nss mcs : Nat) : Nat := 16 * (nth mcsBits mcs 6 * nss) + nss

/-- The ladder of a station on a radio (R160): the pairs (NSS, MCS) its link entry permits, ascending. -/
def Block.ladder (b : Block) (r sta : Nat) : List (Nat × Nat) :=
  let f := b.staFlags r sta
  let mode := bitsOf f 8 6
  let nss := if mode = 0 then 1 else bitsOf f 11 9 + 1
  sortBy (fun x y => decide (rungOrder x.1 x.2 ≤ rungOrder y.1 y.2))
    ((List.range nss).flatMap (fun n => (List.range (topMcs mode + 1)).map (fun m => (n + 1, m))))

/-- RUNG of a station on radio r as (NSS, MCS). -/
def Block.rung (b : Block) (r sta : Nat) : Nat × Nat :=
  let v := b.tab (drovSta sta + 0x38) 4 >>> (7 * r)
  (bitsOf v 6 4 + 1, v % 16)

/-- b with RUNG set. -/
def Block.setRung (b : Block) (r sta : Nat) (x : Nat × Nat) : Block :=
  let v := b.tab (drovSta sta + 0x38) 4
  let low := v % 2 ^ (7 * r)
  let high := v >>> (7 * r + 7)
  b.setTab (drovSta sta + 0x38) 4 (low + (x.2 % 16 + 16 * ((x.1 - 1) % 8)) * 2 ^ (7 * r) + high * 2 ^ (7 * r + 7))

/-- The rung next above or below. -/
def Block.moveRung (b : Block) (r sta : Nat) (up : Bool) : Block :=
  let l := b.ladder r sta
  let cur := rungOrder (b.rung r sta).1 (b.rung r sta).2
  let next := if up then l.find? (fun x => decide (cur < rungOrder x.1 x.2))
    else l.reverse.find? (fun x => decide (rungOrder x.1 x.2 < cur))
  match next with
  | some x => b.setRung r sta x
  | none => b

/-- MODE of a station on a radio (R105). -/
def Block.staMode (b : Block) (r sta : Nat) : Nat := bitsOf (b.staFlags r sta) 8 6

/-- The width code of an SU PPDU to a station: the channel's, at most MAX_BW (R105); 20 MHz where a station without LDPC would need BCC
on more than 242 tones (R66). -/
def Block.suWidth (b : Block) (r sta : Nat) : Nat :=
  let f := b.staFlags r sta
  if !bitOf f 15 && decide (3 ≤ b.staMode r sta) then 0 else min (b.get (F.PHY_CHAN.WIDTH r)) (min 4 (bitsOf f 14 12))

/-- The rung a station new to a radio starts on: that nearest below the PHY rate of LAST_RATE (R160). -/
def Block.firstRung (b : Block) (r sta : Nat) : Nat × Nat :=
  let v := b.tab (staAddr r sta + 0x36) 2
  let cur := phyRate (bitsOf v 12 10) (bitsOf v 9 7) (bitsOf v 6 4 + 1) (v % 16)
  let l := b.ladder r sta
  (l.reverse.find? (fun x => decide (phyRate (b.staMode r sta) (b.suWidth r sta) x.1 x.2 ≤ cur))).getD (l.headD (1, 0))

/-- The rung of a station on a radio as a plan uses it (R160); BCC takes at most 4 streams and MCS 9 (R66). -/
def Block.rungNow (b : Block) (r sta : Nat) : Nat × Nat :=
  let x := if b.drov.seen.contains (4 * sta + r) then b.rung r sta else b.firstRung r sta
  if bitOf (b.staFlags r sta) 15 then x else (min 4 x.1, min 9 x.2)

/-- The rung below (R160): of a MU-MIMO member. -/
def Block.rungBelow (b : Block) (r sta : Nat) : Nat × Nat :=
  let x := b.rungNow r sta
  ((b.ladder r sta).reverse.find? (fun y => decide (rungOrder y.1 y.2 < rungOrder x.1 x.2))).getD x

/-- A station new to a radio starts on its rung (R160). -/
def Block.startRung (b : Block) (r sta : Nat) : Block :=
  if b.drov.seen.contains (4 * sta + r) then b
  else (b.setRung r sta (b.firstRung r sta)).updDrov (fun d => { d with seen := d.seen ++ [4 * sta + r] })

/-! ### Planning -/

/-- TX_BA of a station and TID. -/
def Block.txBa (b : Block) (sta tid : Nat) : Nat := b.tab (drovSta sta + 4 + 2 * (tid % 8)) 2 % 2048

/-- NEXT_SN of a station and TID. -/
def Block.nextSn (b : Block) (sta tid : Nat) : Nat := b.tab (drovSta sta + 0x14 + 2 * (tid % 8)) 2 % 4096

/-- The frames a plan may include: under an agreement only those whose sequence number lies within TX_BA of the oldest
unacknowledged one of the TID (R169); a single one where the first has no agreement (IEEE 802.11, PRESUMED, log entry 30) or after a
PS-Poll (R125). -/
def Block.pickFrames (b : Block) (r sta ac : Nat) : List QFrame :=
  let q := b.queue (4 * sta + ac)
  let within (f : QFrame) : Bool :=
    let w := b.txBa sta f.tid
    w != 0 &&
      (let same := q.filter (fun g => g.tid == f.tid)
       let base := ((same.findSome? (fun g => g.sn))).getD (b.nextSn sta f.tid)
       let fresh := same.filter (fun g => g.sn.isNone)
       let sn := f.sn.getD (b.nextSn sta f.tid + (fresh.findIdx? (fun g => g.id == f.id)).getD 0)
       decide ((sn + 4096 - base % 4096) % 4096 < w))
  let poll := bitOf (b.psBits r sta) 0 && (b.lmAt r).polls.contains sta && !b.inTwt r sta
  match b.takeable r sta ac with
  | [] => []
  | f :: t =>
    if b.txBa sta f.tid = 0 then [f]
    else
      let l := (f :: t).filter within
      if poll then l.take 1 else l

/-- Octets that a frame takes in a PSDU beyond its own: MAC and cipher headers, delimiter (PRESUMED, log entry 30). -/
def mpduOver : Nat := 40

/-- Octets of frames in a PSDU. -/
def psduLen (fs : List QFrame) : Nat := sumNat (fs.map (fun f => f.len + mpduOver))

/-- The longest prefix of frames within n octets. -/
def fitFrames : Nat → List QFrame → List QFrame
  | _, [] => []
  | n, f :: t => if f.len + mpduOver ≤ n then f :: fitFrames (n - f.len - mpduOver) t else []

/-- The latency of R155 in µs. -/
def planLatency (form : PlanForm) (users : Nat) : Nat :=
  match form with
  | .su => 4 | .group => 4 | .mu => 12 | .sounding => 6
  | _ => if users ≤ 37 then 16 else 40

/-- µs of the response to a plan's PPDU (the worked example of R169): a BlockAck, or the TB response of several users; none to a
group-addressed one. -/
def respUs (form : PlanForm) : Nat :=
  match form with
  | .su => 44 | .mu => 56 | .ofdma => 56 | .trigger => 44 | .sounding => 0 | .group => 0

/-- µs of RTS or MU-RTS, CTS and two SIFS, at 6 Mb/s (PRESUMED, log entry 30). -/
def protectUs (r : Nat) : Nat := nonHtUs 12 20 + nonHtUs 12 14 + 2 * sifsUs r

/-- PRECODER_AGE of a station. -/
def Block.precoderAge (b : Block) (sta : Nat) : Nat := b.tab (drovSta sta + 0x3C) 2

/-- The loss that the precoder predicts for a member stays within GROUP_LOSS_DB (R159). -/
def Block.lossOk (b : Block) (p : PlanInput) (sta : Nat) : Bool :=
  match look? p.loss sta with
  | some db => decide (db ≤ b.get F.DROV_FMT.GROUP_LOSS_DB)
  | none => false

/-- The group of R159 from one sounding set, in ration order. -/
def Block.muGroup (b : Block) (p : PlanInput) (cands set : List Nat) : List Nat :=
  (cands.filter (fun s => set.contains s && bitOf (b.drovCtrl s) 7 && decide (b.precoderAge s ≤ b.get F.DROV_SOUND.MAX_AGE_MS) &&
    b.lossOk p s)).take (if p.radio.val = 0 then 8 else 4)

/-- Frames of a user reserved for slot k of radio r, and requests for their encryption (R33, R164). -/
def Block.reserve' (b : Block) (r k key : Nat) (ids : List Nat) : Block :=
  let q := b.queue key
  let b := b.setQueue key (q.map (fun (f : QFrame) => if ids.contains f.id then { f with reserved := some (3 * k + r) } else f))
  let prot := decide (8192 ≤ key) || bitOf (b.staFlags r (key / 4)) 2
  match (if prot then b.queueKey r key else none) with
  | none => b
  | some h =>
    let todo := q.filter (fun f => ids.contains f.id && !f.enc)
    b.updLock (fun l => { l with queue := l.queue ++ todo.map (fun f =>
      ({ cls := 2, space := 0, handle := h, octets := f.len, protect := true, frame := f.id } : AesReq)) })

/-- A plan put into its slot (R151, R164): frames reserved, charges taken, counted. A committed plan gives way in slot 0. -/
def Block.putPlan (b : Block) (p : Plan) : Block :=
  let r := p.radio
  let k := p.slot
  let b := b.updDrov (fun d => { d with plans := d.plans.map (fun (q : Plan) =>
    if q.radio = r ∧ q.slot = k ∧ q.committed then { q with slot := 2 } else q) })
  let b := p.users.foldl (fun b u =>
    let b := b.reserve' r k (userKey p u) u.frames
    if p.form == .group || p.form == .sounding then b
    else (b.setDeficit u.sta p.ac (b.deficit u.sta p.ac - u.charge)).startRung r u.sta) b
  let b := b.updDrov (fun d => { d with plans := d.plans ++ [p] })
  let b := (b.drovCount r C.DROV.PLAN_MADE).lane 4 (2 * r + k) 0
  if k = 0 ∧ (b.lmAt r).txop.isSome ∧ p.first then b.drovCount r C.DROV.LATE_PLAN_US (planLatency p.form p.users.length) else b

/-- The charges of R151: T shared by data tones, equally where they share an RU. -/
def shareOut (total : Nat) (us : List PlanUser) : List PlanUser :=
  let w := max 1 (sumNat (us.map (fun u => u.tones)))
  us.map (fun u => { u with charge := ceilDiv (total * u.tones) w })

/-- DROV_QCFG.MAX_PPDU_US in effect. -/
def Block.maxPpdu (b : Block) : Nat := clampTo 100 5484 (b.get F.DROV_QCFG.MAX_PPDU_US)

/-- µs until the plan of slot k could start: what is COMMITTED before it, and for the second slot the plan of the first. -/
def Block.startUs (b : Block) (r k : Nat) : Nat :=
  (match b.committedPlan r with | some p => (p.stop - b.mono) / 1000 | none => 0) +
    (if k = 0 then 0 else match b.planAt r 0 with | some p => (if p.committed then 0 else p.total) | none => 0)

/-- The TXOP that the plan of slot k continues (R154 to R156), with the µs it leaves from the plan's start: none where a new contention
comes first. A TXOP just gained has its first plan still to come; a limit of 0 leaves one PPDU alone; a second slot assumes that the
first one's TXOP goes on while room is left for a short PPDU with its response. -/
def Block.txopRoom (b : Block) (r k : Nat) : Option (Nat × Nat) :=
  let left (stop : Option Nat) : Nat := (match stop with | some e => (e - b.mono) / 1000 | none => 0) - b.startUs r k
  let room (ac n : Nat) : Option (Nat × Nat) := if 104 < n then some (ac, n) else none
  match k, b.planAt r 0, (b.lmAt r).txop with
  | 0, _, none => none
  | 0, _, some t => if t.ppdus = 0 then some (t.ac, match t.stop with | some _ => left t.stop | none => farUs) else room t.ac (left t.stop)
  | _, none, _ => none
  | _, some p, some t => room p.ac (if p.first ∧ t.ppdus ≠ 0 then 32 * b.txopLimit r p.ac - p.total else left t.stop)
  | _, some p, none => room p.ac (32 * b.txopLimit r p.ac - p.total)

/-- The access category of a plan before which the radio contends (R156): of those with candidates the one with the fewest slots left,
the higher among equals. -/
def Block.contendAc (b : Block) (r : Nat) : Nat :=
  let acs := [3, 2, 0, 1].filter (fun ac => !(b.candidates r ac).isEmpty)
  ((if acs.isEmpty then [3, 2, 0, 1] else acs).foldl (fun best ac => match best with
    | some k => if b.slotsLeft r ac < b.slotsLeft r k then some ac else some k
    | none => some ac) none).getD 0

/-- Room for a PPDU with its response (R100, R127) and for the PPDU alone (R120), in µs from its start. -/
def Block.planRoom (b : Block) (r k ac : Nat) : Nat × Nat :=
  let s := b.startUs r k
  let txop := match b.txopRoom r k with
    | some x => x.2
    | none => if b.txopLimit r ac = 0 then farUs else 32 * b.txopLimit r ac
  (min txop (b.restrictedUs r - s), b.tbttUs r - s)

/-! ### The cipher pool (R33, R304) -/

/-- CORE cycles of one packet (the AES pool): 12 an operation, 16 with a 256-bit key. -/
def cipherCycles (mode n : Nat) : Nat := aesBlocks mode n * (if mode = 2 ∨ mode = 4 then 16 else 12)

/-- MODE of the key of a handle in space 0. -/
def Block.keyMode (b : Block) (h : Nat) : Nat := ((b.keyAt 0 h).map (fun k => k.mode)).getD 0

/-- Cycles that the encryption of a queued frame still takes. -/
def Block.frameCycles (b : Block) (r key : Nat) (f : QFrame) : Nat :=
  let prot := decide (8192 ≤ key) || bitOf (b.staFlags r (key / 4)) 2
  match (if prot && !f.enc then b.queueKey r key else none) with
  | some h => cipherCycles (b.keyMode h) f.len
  | none => 0

/-- Cycles left of the pool before the plan of slot k starts, less the encryption of plans already made (R304): none, no bound, where
the TXOP is held and its start waits for the plan (R155). CORE runs at 400 MHz. -/
def Block.cipherRoom (b : Block) (r k : Nat) : Option Nat :=
  let held := k == 0 && (b.lmAt r).txop.isSome && (b.committedPlan r).isNone
  if held then none
  else
    let us := b.startUs r k + sifsUs r + b.slotUs r * b.slotsLeft r (b.contendAc r)
    let owed := sumNat ((b.lock.queue.filter (fun q => q.cls == 2)).map (fun q => cipherCycles (b.keyMode q.handle) q.octets))
    some ((16 - b.get F.LOCK_CFG.RX_RESERVE) * 400 * us - owed)

/-- The frames whose encryption fits the cycles left, in order, and the cycles then left. -/
def takeCycles (cost : QFrame → Nat) : Nat → List QFrame → List QFrame × Nat
  | n, [] => ([], n)
  | n, f :: t =>
    if cost f ≤ n then
      let x := takeCycles cost (n - cost f) t
      (f :: x.1, x.2)
    else ([], 0)

/-- Users and frames cut to what the cipher pool encrypts in time (R33, R161). -/
def Block.cutCipher (b : Block) (r k ac : Nat) (us : List PlanUser) : List PlanUser :=
  match b.cipherRoom r k with
  | none => us
  | some n =>
    ((us.foldl (fun (x : List PlanUser × Nat) u =>
      let fs := (b.queue (4 * u.sta + ac)).filter (fun f => u.frames.contains f.id)
      let y := takeCycles (b.frameCycles r (4 * u.sta + ac)) x.2 fs
      (x.1 ++ [{ u with frames := y.1.map (fun f => f.id) }], y.2)) ([], n)).1).filter (fun u => !u.frames.isEmpty)

/-! ### Forms -/

/-- The rate of a user in 10 kb/s. -/
def Block.userRate (b : Block) (r : Nat) (u : PlanUser) : Nat := toneRate (b.staMode r u.sta) u.tones u.nss u.mcs

/-- µs that the frames a user may be sent need at its rung and RU. -/
def Block.needUs (b : Block) (r ac : Nat) (u : PlanUser) : Nat :=
  ppduUs (b.staMode r u.sta) (b.userRate r u) (psduLen (b.pickFrames r u.sta ac))

/-- A user with as many of its frames as fit us µs (R157). -/
def Block.fillUser (b : Block) (r ac us : Nat) (u : PlanUser) : PlanUser :=
  { u with frames := (fitFrames (ppduOctets (b.staMode r u.sta) (b.userRate r u) us) (b.pickFrames r u.sta ac)).map (fun f => f.id) }

/-- A user over the whole width of its PPDU. -/
def Block.wideUser (b : Block) (r sta width : Nat) (mu : Bool) : PlanUser :=
  let x := if mu then b.rungBelow r sta else b.rungNow r sta
  { sta := sta, nss := x.1, mcs := x.2, tones := fullTones (b.staMode r sta) width, ldpc := bitOf (b.staFlags r sta) 15 }

/-- An EMLSR station (R138, R141). -/
def Block.isEmlsr (b : Block) (sta : Nat) : Bool :=
  match b.mlOf sta with
  | some i => bitOf (b.tab (mlAddr i + 3) 1) 0
  | none => false

/-- An RTS or MU-RTS precedes a PPDU for these users (R103, R141): a TXOP to an EMLSR station begins with one, a PSDU beyond RTS_THRESH
takes one. -/
def Block.rtsDue (b : Block) (r ac : Nat) (first : Bool) (us : List PlanUser) : Bool :=
  let th := b.get (F.LM_RTS_CFG.RTS_THRESH r)
  (first && us.any (fun u => b.isEmlsr u.sta)) ||
    (th != 0xFFFF && us.any (fun u => decide (th < psduLen ((b.queue (4 * u.sta + ac)).filter (fun f => u.frames.contains f.id)))))

/-- A CTS-to-self precedes every OFDM PPDU of LM-2G4 under ERP_PROT (R103). -/
def Block.erpDue (b : Block) (r : Nat) : Bool := r == 2 && b.on (F.LM_MAC_CFG.ERP_PROT 2)

/-- A data plan for users of a form (R151, R157, R161): its PPDU lasts as long as the longest of them needs, within MAX_PPDU_US and what
the TXOP, the next TBTT and the next restricted service period leave; the others are filled up to that; users and frames beyond the
cipher pool are cut. Without a frame that fits no plan is made. -/
def Block.dataPlan (b : Block) (r k ac width : Nat) (form : PlanForm) (us : List PlanUser) : Block :=
  let first := (b.txopRoom r k).isNone || (k == 0 && (((b.lmAt r).txop.map (fun t => t.ppdus == 0)).getD false))
  let room := b.planRoom r k ac
  let extra := sifsUs r + respUs form
  let cap (n : Nat) : Nat := min (min b.maxPpdu room.2) (room.1 - n)
  let fill (n : Nat) : List PlanUser :=
    let dur := min (us.foldl (fun m u => max m (b.needUs r ac u)) 0) (cap n)
    (us.map (fun u => b.fillUser r ac dur u)).filter (fun u => !u.frames.isEmpty)
  let guard := b.rtsDue r ac first (fill extra) || b.erpDue r
  let extra := if guard then extra + protectUs r else extra
  let full := fill extra
  let fit := b.cutCipher r k ac full
  let b := if sumNat (fit.map (fun u => u.frames.length)) < sumNat (full.map (fun u => u.frames.length)) then
    b.drovCount r C.DROV.CIPHER_LIMITED else b
  let dur := fit.foldl (fun m u => max m (ppduUs (b.staMode r u.sta) (b.userRate r u)
    (psduLen ((b.queue (4 * u.sta + ac)).filter (fun f => u.frames.contains f.id))))) 0
  if fit.isEmpty then b
  else b.putPlan { radio := r, slot := k, ac := ac, form := form, users := shareOut (dur + extra) fit, dur := dur, total := dur + extra,
                   width := width, first := first, protect := guard }

/-- Punctured subchannels that a plan reckons with (R71, R158): STATIC, those that R63 omits, those that CCA last found busy. -/
def Block.punctNow (fu : Fuses) (b : Block) (r : Nat) : Nat :=
  match b.subchannels r with
  | some l => b.get (F.PHY_PUNCT.STATIC r) ||| b.omitted fu r l ||| b.busySecs r l.length
  | none => 0

/-- The most users of an OFDMA PPDU or trigger sequence (R66, R158). -/
def Block.userCap (b : Block) (r : Nat) : Nat :=
  min (max 1 (b.get F.DROV_FMT.MAX_USERS)) (nth [9, 18, 37, 74, 148] (b.get (F.PHY_CHAN.WIDTH r)) 148)

/-- RUs for n users on a radio (R158): the largest size with n RUs clear of punctured subchannels, shared out with what is left over. -/
def Block.ruPlan (fu : Fuses) (b : Block) (r n : Nat) : Option (List (Nat × Nat)) :=
  let w := b.get (F.PHY_CHAN.WIDTH r)
  let free (size : Nat) : List Nat := (ruMasks w size).filter (fun m => m &&& b.punctNow fu r == 0)
  (ruSizes.find? (fun s => decide (n ≤ (free s.1).length))).map (fun s => ruShare s.1 s.2 (free s.1) n)

/-- A user on its RU; BCC reaches no further than 242 tones (R66). -/
def Block.ruUser (b : Block) (r sta : Nat) (x : Nat × Nat) : PlanUser :=
  let y := b.rungNow r sta
  { sta := sta, nss := y.1, mcs := y.2, tones := x.1, mask := x.2, ldpc := bitOf (b.staFlags r sta) 15 }

/-- The OFDMA plan of R158. A user without LDPC is served only on an RU of at most 242 tones (R66). -/
def Block.ofdmaPlan (fu : Fuses) (b : Block) (r k ac : Nat) (sts : List Nat) : Block :=
  let sts := sts.take (b.userCap r)
  match b.ruPlan fu r sts.length with
  | none => b.dataPlan r k ac (b.suWidth r (sts.headD 0)) .su ((sts.take 1).map (fun s => b.wideUser r s (b.suWidth r s) false))
  | some rus =>
    let us := ((sts.zip rus).map (fun x => b.ruUser r x.1 x.2)).filter (fun u => u.ldpc || decide (u.tones ≤ 234))
    b.dataPlan r k ac (b.get (F.PHY_CHAN.WIDTH r)) .ofdma us

/-- The SU plan of a station. -/
def Block.suPlan (b : Block) (r k ac sta : Nat) : Block :=
  b.dataPlan r k ac (b.suWidth r sta) .su [b.wideUser r sta (b.suWidth r sta) false]

/-- The group queue of a radio that may be sent now: its DTIM beacon has just been sent, or every station of its BSS is awake (R122,
R150); none in a restricted service period (R127). -/
def Block.groupReady (b : Block) (r : Nat) : Option Nat :=
  if !(b.restrictedNow r).isEmpty then none
  else
    let key (i : Nat) : Nat := 8192 + 16 * r + i
    let some' (i : Nat) : Bool := (b.queue (key i)).any (fun f => f.reserved.isNone) && !b.keyOut r (key i)
    match (b.lmAt r).groups.find? some' with
    | some i => some (key i)
    | none => (List.range 16).findSome? (fun i =>
      let asleep := (b.liveIdx (lmWin r + 0x20000) (2048 * 64) 64 0x34).any (fun s =>
        b.staValid r s && bitOf (b.psBits r s) 0 && bitsOf (b.tab (staAddr r s + 6) 2) 15 12 == i)
      if some' i && !asleep then some (key i) else none)

/-- A plan for the group-addressed frames of a queue at 6 Mb/s, without a response (R150; the rate PRESUMED, log entry 30). -/
def Block.groupPlan (b : Block) (r k ac key : Nat) : Block :=
  let room := b.planRoom r k ac
  let fs := fitFrames (ppduOctets 0 600 (min (min b.maxPpdu room.2) room.1)) ((b.queue key).filter (fun f => f.reserved.isNone))
  let dur := ppduUs 0 600 (psduLen fs)
  if fs.isEmpty then b
  else b.putPlan { radio := r, slot := k, ac := ac, form := .group, users := [{ sta := key, tones := 48, frames := fs.map (fun f => f.id) }],
                   dur := dur, total := dur, first := (b.txopRoom r k).isNone || k == 0 }

/-- The stations of a sounding sequence (R163): MU_OK and eligible on the radio, oldest PRECODER_AGE first, up to 8. -/
def Block.soundSet (b : Block) (r : Nat) : List Nat :=
  let l := (List.range 2048).filter (fun s => b.drovValid s && bitOf (b.drovCtrl s) 7 && b.onLink r s 0)
  (sortBy (fun x y => decide (b.precoderAge y < b.precoderAge x ∨ (b.precoderAge x = b.precoderAge y ∧ x ≤ y))) l).take 8

/-- Soundings whose solver is still to start: sequences planned or running (R163). -/
def Block.soundings (b : Block) : Nat :=
  (b.drov.plans.filter (fun p => p.form == .sounding)).length + ([0, 1, 2].filter (fun r => (b.lmAt r).sound.isSome &&
    !b.drov.plans.any (fun p => p.radio == r && p.form == .sounding))).length

/-- A solver is free for one computation more, besides those that the soundings under way will need (R163). -/
def Block.solverFree (b : Block) : Bool := decide (b.drov.solving.length + b.soundings < 2)

/-- The stations of a radio in a TWT service period with TRIGGER set (R126). -/
def Block.twtTriggered (b : Block) (r : Nat) : List Nat :=
  let t := (b.lmAt r).tsf
  ((List.range 256).filterMap (fun i =>
    let a := lmWin r + 0x12000 + 32 * i
    let v := b.tab a 2
    if bitOf v 15 && !bitOf v 14 && bitOf (b.tab (a + 2) 1) 0 &&
        decide (b.tab (a + 0x10) 8 ≤ t ∧ t < b.tab (a + 0x10) 8 + 256 * b.tab (a + 4) 1) then some (v % 2048) else none)).dedup

/-- The users of a trigger sequence on a radio (R126, R162): for a BSRP trigger that is due its UL_OK stations; else those with reported
backlog and those in a TRIGGER service period, in ration order for the AC of the highest backlog; within the limits of R66. -/
def Block.upUsers (b : Block) (r : Nat) : List Nat :=
  let ok (s : Nat) : Bool := b.drovValid s && bitOf (b.drovCtrl s) 9 && b.onLink r s 0
  let back := b.drov.backlog.filter (fun x => ok (x.1 / 4))
  let top := back.foldl (fun (m : Nat × Nat) x => if m.2 < x.2 then x else m) (0, 0)
  let l : List Nat := if b.drov.bsrpDue.contains r then (List.range 2048).filter ok
    else (back.map (fun (x : Nat × Nat) => x.1 / 4) ++ (b.twtTriggered r).filter ok).dedup
  (b.byRation (top.1 % 4) l).take (b.userCap r)

/-- Uplink may take the next plan (R126, R162): UL_EN, users, and the share of TXOPs while downlink waits. -/
def Block.uplinkTurn (b : Block) (r : Nat) (down : Bool) : Bool :=
  let ul := look b.drov.ulTxops r 0
  let all := look b.drov.allTxops r 0
  b.on F.DROV_UL.UL_EN && !(b.upUsers r).isEmpty &&
    (!down || decide (256 * (ul + 1) ≤ b.get F.DROV_UL.SHARE * (all + 1)))

/-- Address of the trigger template of a type on radio r (R128). -/
def trigTemplate (r type : Nat) : Nat := lmWin r + 0x1000 + 64 * type

/-- n bytes at offset o of the trigger template of a type (R128). -/
def Block.trigField (b : Block) (r type o n : Nat) : Nat := b.btab (lmEngine r) 3 (trigTemplate r type + o) n

/-- MAX_UL_US of a trigger type (R128). -/
def Block.maxUl (b : Block) (r type : Nat) : Nat := clampTo 100 5484 (b.trigField r type 4 2)

/-- Octets of backlog that a station has reported. -/
def Block.backlogOf (b : Block) (sta : Nat) : Nat := sumNat ([0, 1, 2, 3].map (fun ac => look b.drov.backlog (4 * sta + ac) 0))

/-- A trigger sequence (R151, R162): a BSRP when one is due, else a Basic trigger; the TB PPDU lasts as long as the longest backlog
needs, within MAX_UL_US and what the moment leaves. -/
def Block.trigPlan (fu : Fuses) (b : Block) (r k ac : Nat) : Block :=
  let type := if b.drov.bsrpDue.contains r then 4 else 0
  let room := b.planRoom r k ac
  let sts := b.upUsers r
  match b.ruPlan fu r sts.length with
  | none => b
  | some rus =>
    let us := (sts.zip rus).map (fun x => b.ruUser r x.1 x.2)
    let need := if type = 4 then 0 else us.foldl (fun m u => max m (ppduUs (b.staMode r u.sta) (b.userRate r u) (b.backlogOf u.sta))) 0
    let trig := nonHtUs (rateCode r (b.trigField r type 1 1)) (28 + 6 * us.length)
    let extra := trig + respUs .trigger + 2 * sifsUs r
    let dur := min (max 100 need) (min (b.maxUl r type) (min b.maxPpdu (min (room.1 - extra) (room.2 - extra))))
    let b := b.updDrov (fun d => { d with bsrpDue := d.bsrpDue.filter (· != r) })
    if dur < 100 then b
    else b.putPlan { radio := r, slot := k, ac := ac, form := .trigger, users := shareOut (dur + extra) us, dur := dur,
                     total := dur + extra, width := b.get (F.PHY_CHAN.WIDTH r), trig := type, first := (b.txopRoom r k).isNone || k == 0 }

/-- A sounding sequence (R130, R163): NDP Announcement, NDP, report trigger and reports, charged to no station (durations PRESUMED, log
entry 30). -/
def Block.soundPlan (b : Block) (r k ac : Nat) : Block :=
  let us := (b.soundSet r).map (fun s => b.wideUser r s (b.suWidth r s) false)
  let total := nonHtUs 48 (28 + 4 * us.length) + 48 + nonHtUs 48 (28 + 6 * us.length) + 300 + 3 * sifsUs r
  let room := b.planRoom r k ac
  if room.1 < total ∨ room.2 < total then b
  else (b.updDrov (fun d => { d with soundDue := d.soundDue.filter (· != r) })).putPlan
    { radio := r, slot := k, ac := ac, form := .sounding, users := us, dur := total, total := total
      width := b.get (F.PHY_CHAN.WIDTH r), first := (b.txopRoom r k).isNone || k == 0 }

/-- A group of MU-MIMO stations (R159): the group, and whether a precoder for just these stations is ready. -/
def Block.muChoice (b : Block) (p : PlanInput) (cands : List Nat) : Option (List Nat × Bool) :=
  let mine := b.drov.ready.filter (fun x => x.radio == p.radio.val)
  ((mine.filter (fun x => x.su)).findSome? (fun x =>
    let g := b.muGroup p cands x.set
    if 2 ≤ g.length then some g else none)).map (fun g =>
      (g, mine.any (fun x => x.set.all g.contains && g.all x.set.contains)))

/-- A downlink plan in the form that R157 chooses. -/
def Block.downPlan (fu : Fuses) (b : Block) (p : PlanInput) (ac : Nat) (cands : List Nat) : Block :=
  let r := p.radio.val
  let k := p.slot.val
  match cands with
  | [] => b
  | c :: _ =>
    let us := b.needUs r ac (b.wideUser r c (b.suWidth r c) false)
    let su := decide (cands.length ≤ 1) || decide (b.get F.DROV_FMT.SU_US ≤ us) ||
      (!b.on F.DROV_FMT.OFDMA_EN && !b.on F.DROV_FMT.MU_EN)
    let ofdma := cands.filter (fun s => bitOf (b.drovCtrl s) 8)
    if su then b.suPlan r k ac c
    else match (if b.on F.DROV_FMT.MU_EN then b.muChoice p cands else none) with
      | some (g, true) =>
        let w := b.get (F.PHY_CHAN.WIDTH r)
        b.dataPlan r k ac w .mu (g.map (fun s => b.wideUser r s w true))
      | some (g, false) =>
        let b := match (if b.solverFree then [0, 1].find? (fun k => b.drov.solving.all (fun x => x.1 != k)) else none) with
          | some k => b.updDrov (fun d => { d with solving := d.solving ++ [((k, { radio := r, set := g, su := false }) : Nat × Precoder)] })
          | none => b
        b.suPlan r k ac (g.headD c)
      | none =>
        if b.on F.DROV_FMT.OFDMA_EN && decide (2 ≤ ofdma.length) then b.ofdmaPlan fu r k ac ofdma else b.suPlan r k ac c

/-- Stations of an access category without an eligible link counted, once a period (R140). -/
def Block.countNoLink (b : Block) (ac : Nat) : Block :=
  ((b.holders ac).filter (fun s => !b.marshal.counted.contains s && (match b.mlOf s with
    | some i => b.est 8 == stRun && (b.queue (4 * s + ac)).all (fun f => (b.linkSet i s f.tid ac).isEmpty)
    | none => false))).foldl (fun b s => (b.count .mars C.MARS.NO_LINK).updMars (fun m => { m with counted := m.counted ++ [s] })) b

/-- A slot of a radio may be filled: it is empty, and the second one only with RUNAHEAD of 2 behind a plan in the first. -/
def Block.slotFree (b : Block) (r k : Nat) : Bool :=
  let ahead := b.get F.DROV_PLAN.RUNAHEAD
  !b.drov.plans.any (fun q => q.radio == r && q.slot == k && !(q.committed && k == 0)) &&
    (k == 0 || ((ahead == 2 || ahead == 3) && b.drov.plans.any (fun q => q.radio == r && q.slot == 0 && !q.committed)))

/-- Drover fills a free slot (R154 to R163) for the AC of the TXOP it continues or of the next contention. Group-addressed frames that
follow a DTIM beacon come first, then a sounding sequence that is due, other group-addressed frames, uplink by its share, and the
downlink form of R157. -/
def Block.planMake (fu : Fuses) (b : Block) (p : PlanInput) : Block :=
  let r := p.radio.val
  let k := p.slot.val
  if b.est 4 ≠ stRun ∨ !b.upRadio r ∨ !b.slotFree r k then b
  else
    let ac := match b.txopRoom r k with | some x => x.1 | none => b.contendAc r
    let b := b.countNoLink ac
    let cands := b.candidates r ac
    let group := b.groupReady r
    let dtim := match group with | some key => (b.lmAt r).groups.contains ((key - 8192) % 16) | none => false
    if b.drov.soundDue.contains r && !dtim && b.solverFree && !(b.soundSet r).isEmpty then b.soundPlan r k ac
    else match group with
    | some key => b.groupPlan r k ac key
    | none => if b.uplinkTurn r (!cands.isEmpty) then b.trigPlan fu r k ac else b.downPlan fu p ac cands

/-- A plan is made (R155). -/
def execPlanMade (p : PlanInput) (s : State) : Host.Outcome State Fault Refusal := s.next (s.blk.planMake s.fuse p)

/-! ### Commit -/

/-- One user of the plan in slot k of radio r removed: undone singly, its RU sent empty (R165, R72). -/
def Block.removeUser (b : Block) (p : Plan) (sta : Nat) : Block :=
  match p.users.find? (fun u => u.sta == sta && !u.empty) with
  | none => b
  | some u =>
    let b := (b.undoUser p false u).drovCount p.radio C.DROV.USER_REMOVED
    b.updDrov (fun d => { d with plans := d.plans.map (fun (q : Plan) =>
      if q.radio = p.radio ∧ q.slot = p.slot then
        { q with users := q.users.map (fun (v : PlanUser) => if v.sta = sta then { v with empty := true, charge := 0, frames := [] } else v) }
      else q) })

/-- A user still passes at commit (R161, R165): its entry VALID, the radio in its eligible set, for data each of its frames. -/
def Block.userOk (b : Block) (p : Plan) (u : PlanUser) : Bool :=
  match p.form with
  | .group => true
  | .su => b.drovValid u.sta && fits
  | .mu => b.drovValid u.sta && fits
  | .ofdma => b.drovValid u.sta && fits
  | .trigger => b.drovValid u.sta && b.onLink p.radio u.sta 0
  | .sounding => b.drovValid u.sta && b.onLink p.radio u.sta 0
where
  fits : Bool :=
    ((b.queue (4 * u.sta + p.ac)).filter (fun f => u.frames.contains f.id)).all (fun f => b.eligible p.radio u.sta f.tid p.ac)

/-- A user's frames take their sequence numbers (R165); a PS-Poll of the station is served. -/
def Block.numberFrames (b : Block) (p : Plan) (u : PlanUser) : Block :=
  if p.form == .group then b
  else
    let key := 4 * u.sta + p.ac
    let b := ((b.queue key).filter (fun f => u.frames.contains f.id && f.sn.isNone)).foldl (fun b f =>
      let n := b.nextSn u.sta f.tid
      let b := (b.loftRead f.pool).setQueue key ((b.queue key).map (fun (g : QFrame) => if g.id = f.id then { g with sn := some n } else g))
      b.setTab (drovSta u.sta + 0x14 + 2 * (f.tid % 8)) 2 ((n + 1) % 4096)) b
    b.updLm p.radio (fun l => { l with polls := l.polls.filter (· != u.sta) })

/-- Transition delay of EML_DELAY in µs (R138). -/
def emlDelayUs (v : Nat) : Nat := nth [0, 16, 32, 64, 128, 256] (min 5 (bitsOf v 6 4)) 0

/-- Padding delay of EML_DELAY in µs (R138). -/
def emlPadUs (v : Nat) : Nat := nth [0, 32, 64, 128, 256] (min 4 (v % 8)) 0

/-- An EMLSR station's link and busy time set on radio r until the end of a TXOP (R141). -/
def Block.emlsrOn (b : Block) (r sta endNs : Nat) : Block :=
  match b.mlOf sta with
  | some i =>
    if bitOf (b.tab (mlAddr i + 3) 1) 0 && b.est 8 == stRun then
      let b := if b.tab (mlAddr i + 0xE) 1 % 4 = r then b else b.count .mars C.MARS.EMLSR_SWITCH
      (b.setTab (mlAddr i + 0xE) 1 r).setTab (mlAddr i + 0x18) 8 (endNs + 1000 * emlDelayUs (b.tab (mlAddr i + 7) 1))
    else b
  | none => b

/-- The counter of a committed plan's form. -/
def formCount (f : PlanForm) : Option Nat :=
  match f with
  | .su => some C.DROV.PPDU_SU | .mu => some C.DROV.PPDU_MU_MIMO | .ofdma => some C.DROV.PPDU_OFDMA
  | .trigger => some C.DROV.TRIG_UL | .sounding => some C.DROV.SOUNDING | .group => none

/-- The end of a plan would overrun the TXOP limit, a TBTT or a restricted service period (R100, R120, R127, R165). -/
def Block.overruns (b : Block) (p : Plan) : Bool :=
  let stop := match (b.lmAt p.radio).txop with
    | some t => (match t.stop with | some e => decide (e < b.mono + 1000 * p.total) | none => false)
    | none => false
  stop || decide (b.tbttUs p.radio < p.dur) || decide (b.restrictedUs p.radio < p.total)

/-- In a joint TXOP the yoked link's PPDU of this pair or the one before is not over with its response (R144). -/
def Block.pairWaits (b : Block) (r : Nat) : Bool :=
  match yokeMate r with
  | some q =>
    b.joint r && b.joint q && (b.committedPlan q).isSome &&
      decide (((b.lmAt q).txop.map (fun t => t.ppdus)).getD 0 ≤ ((b.lmAt r).txop.map (fun t => t.ppdus)).getD 0)
  | none => false

/-- The second plan of a pair in a joint TXOP is aligned with the first (R144): the shorter PPDU is padded to the longer one's end. -/
def Block.yokeAlign (b : Block) (r dur : Nat) : Block :=
  match yokeMate r with
  | some q =>
    if b.joint r && b.joint q then
      match b.committedPlan q with
      | some p =>
        let top := max p.dur dur
        let stretch (x : Plan) : Plan := if x.committed ∧ (x.radio = r ∨ x.radio = q) then { x with total := x.total + (top - x.dur), dur := top } else x
        ((b.count .mars C.MARS.YOKE_PAD_US (top - min p.dur dur)).lane 8 1 0).updDrov (fun d => { d with plans := d.plans.map stretch })
      | none => b
    else b
  | none => b

/-- The users of a plan that fail the recheck at TX start (R165). -/
def Block.failing (b : Block) (p : Plan) : List Nat := (p.users.filter (fun u => !u.empty && !b.userOk p u)).map (fun u => u.sta)

/-- What the recheck of radio r's next plan finds (R165): it overruns, the users that fail. -/
def Block.commitFacts (b : Block) (r : Nat) : Bool × List Nat :=
  match b.drov.plans.find? (fun p => p.radio == r && p.slot == 0 && !p.committed) with
  | some p => (b.overruns p, b.failing p)
  | none => (false, [])

/-- The plan in slot 1 is committed (R164, R165), its protection sent before (R103, R141): the plan behind it moves up. -/
def Block.planCommit (b : Block) (r : Nat) : Block :=
  match b.drov.plans.find? (fun p => p.radio == r && p.slot == 0 && !p.committed) with
  | none => b
  | some p =>
    if b.est 4 ≠ stRun ∨ (b.committedPlan r).isSome ∨ (p.protect && !p.guarded) ∨ b.pairWaits r then b
    else
      let bad := b.failing p
      if b.overruns p then b.undoFrom r 0
      else if p.form == .su && !bad.isEmpty then (b.drovCount r C.DROV.USER_REMOVED bad.length).undoFrom r 0
      else
        let b := bad.foldl (fun b s => match b.planAt r 0 with | some q => b.removeUser q s | none => b) b
        let users := (b.planAt r 0).elim [] (fun q => q.users)
        let b := users.foldl (fun b u => if u.empty then b else b.numberFrames p u) b
        let next := b.drov.plans.any (fun q => q.radio == r && q.slot == 1)
        let b := b.updDrov (fun d => { d with
          plans := d.plans.map (fun (q : Plan) =>
            if q.radio ≠ r then q
            else if q.slot = 0 then { q with committed := true, slot := if next then 2 else 0, stop := b.mono + 1000 * p.total }
            else if q.slot = 1 then { q with slot := 0 } else q)
          allTxops := if p.first then put d.allTxops r (look d.allTxops r 0 + 1) 0 else d.allTxops
          ulTxops := if p.first ∧ p.form = .trigger then put d.ulTxops r (look d.ulTxops r 0 + 1) 0 else d.ulTxops })
        let b := b.yokeAlign r p.dur
        let b := b.updLm r (fun l => { l with txop := l.txop.map (fun (t : Txop) => { t with ppdus := t.ppdus + 1 }) })
        let b := b.drovCount r C.DROV.PLAN_COMMIT
        let b := match formCount p.form with | some n => b.drovCount r n | none => b.drovCount r C.DROV.GROUP_US p.dur
        b.boundary 4

/-- A plan is committed at TX start (R165). overrun, failed: what the recheck finds, which is commitFacts (log entry 177). -/
def execPlanCommit (r : Fin 3) (overrun : Bool) (failed : List Nat) (s : State) : Host.Outcome State Fault Refusal :=
  s.next (if s.blk.commitFacts r.val = (overrun, failed) then s.blk.planCommit r.val else s.blk)

/-! ### Settle -/

/-- An unacknowledged frame back at its place: one retry more, dropped at RETRY_LIMIT (R169). -/
def Block.nack (b : Block) (r sta ac : Nat) (f : QFrame) : Block :=
  let key := 4 * sta + ac
  if b.retryLimit sta ≤ f.retry + 1 then
    let b := (b.setQueue key ((b.queue key).filter (fun g => g.id != f.id))).dropFrame f
    let b := (b.drovCount r C.DROV.RETRY_DROP).setTab (drovSta sta + 0x3E) 2 (min 65535 (b.tab (drovSta sta + 0x3E) 2 + 1))
    if b.txBa sta f.tid = 0 ∨ b.drov.barOwed.any (fun x => x.1 == sta && x.2.1 == f.tid) then b
    else b.updDrov (fun d => { d with barOwed := d.barOwed ++ [(sta, f.tid, 0)] })
  else b.setQueue key ((b.queue key).map (fun (g : QFrame) => if g.id = f.id then { g with reserved := none, retry := g.retry + 1 } else g))

/-- The rung loop of R160 for one settled PPDU. -/
def Block.rungStep (b : Block) (r sta sent acked : Nat) (heard : Bool) : Block :=
  let k := 4 * sta + r
  let b := b.updDrov (fun d => { d with
    good := put d.good k (if sent ≠ 0 ∧ 9 * sent ≤ 10 * acked then look d.good k 0 + 1 else 0) 0
    silent := put d.silent k (if heard then 0 else look d.silent k 0 + 1) 0 })
  if 8 ≤ look b.drov.good k 0 then (b.moveRung r sta true).updDrov (fun d => { d with good := del d.good k })
  else if heard ∧ 2 * acked < sent then b.moveRung r sta false
  else if 2 ≤ look b.drov.silent k 0 then (b.moveRung r sta false).updDrov (fun d => { d with silent := del d.silent k })
  else b

/-- LQ of a multi-link station on the radio from a settled PPDU (R147). -/
def Block.lqStep (b : Block) (r sta bits charge : Nat) : Block :=
  match b.mlOf sta with
  | some i =>
    if b.est 8 = stRun ∧ charge ≠ 0 then
      let g : Int := bits / charge
      let q : Int := b.lq i r
      let v := if q = 0 then g else q + (g - q) / 2 ^ b.get F.MARS_LOOP.LQ_SHIFT
      (b.setTab (mlAddr i + 0x10 + 2 * r) 2 (min 65535 v.toNat)).updMars (fun m => { m with carried := m.carried ++ [(i, r)] })
    else b
  | none => b

/-- One user of a downlink plan settled (R147, R160, R169). -/
def Block.settleUser (b : Block) (p : Plan) (us : List SettleUser) (u : PlanUser) : Block :=
  if p.form == .group then
    ((b.queue u.sta).filter (fun f => u.frames.contains f.id)).foldl (fun b f =>
      (b.setQueue u.sta ((b.queue u.sta).filter (fun g => g.id != f.id))).dropFrame f) b
  else if u.empty || p.form == .trigger || p.form == .sounding then b
  else
    let x := (us.find? (fun x => x.sta == u.sta)).getD ⟨u.sta, [], false⟩
    let key := 4 * u.sta + p.ac
    let fs := (b.queue key).filter (fun f => u.frames.contains f.id)
    let acked := fs.filter (fun f => f.aired && x.acked.contains f.id)
    let b := acked.foldl (fun b f => (b.setQueue key ((b.queue key).filter (fun g => g.id != f.id))).dropFrame f) b
    let b := (fs.filter (fun f => !(f.aired && x.acked.contains f.id))).foldl (fun b f => b.nack p.radio u.sta p.ac f) b
    let b := if b.bhRadio = some p.radio ∧ u.sta = b.bhSta then b.count (.lm (Fin.ofNat 3 p.radio)) C.LM.BH_TX acked.length else b
    (b.rungStep p.radio u.sta fs.length acked.length (x.heard || !x.acked.isEmpty)).lqStep p.radio u.sta
      (8 * sumNat (acked.map (fun f => f.len))) u.charge

/-- What a change of DEFICIT outside planning does to the book of its radio and access category (R499). -/
def Block.bookAdd (b : Block) (sta ac : Nat) (v : Int) : Block :=
  let k := 4 * b.staRadio sta + ac
  b.updDrov (fun d => { d with book := put d.book k (look d.book k 0 + v) 0 })

/-- Most a DEFICIT may reach (R153). -/
def Block.rationCap (b : Block) (sta ac : Nat) : Int :=
  min (b.weight sta ac * max 1 (b.get F.DROV_RATION.QUANTUM_US) * 2 ^ b.get F.DROV_RATION.CAP_SHIFT : Nat) (2 ^ 22 - 1)

/-- Resets and the refill of R153 when a plan for an access category settles on a radio. -/
def Block.refill (b : Block) (r ac : Nat) : Block :=
  let b := ((List.range 2048).filter (fun s => b.drovValid s && (b.queue (4 * s + ac)).isEmpty && decide (0 < b.deficit s ac))).foldl
    (fun b s => (b.bookAdd s ac (-(b.deficit s ac))).setDeficit s ac 0) b
  let hs := (b.holders ac).filter (fun s => (b.queue (4 * s + ac)).any (fun f => b.eligible r s f.tid ac))
  if hs.isEmpty ∨ hs.any (fun s => decide (0 < b.deficit s ac)) then b
  else
    let b := hs.foldl (fun b s =>
      let d := b.deficit s ac
      let v : Int := min (d + ((b.weight s ac * max 1 (b.get F.DROV_RATION.QUANTUM_US) : Nat) : Int)) (b.rationCap s ac)
      (b.bookAdd s ac (v - d)).setDeficit s ac v) b
    b.drovCount r C.DROV.REFILL

/-- Every segment of a report is there. -/
def BfReport.complete (x : BfReport) : Bool := (List.range x.total).all (fun k => x.segs.contains k)

/-- The end of a sounding sequence (R131, R163): stations without a complete report are counted, what came of theirs is discarded; a
solver computes the precoder of the others and their SU vectors. -/
def Block.soundingEnd (b : Block) (r : Nat) : Block :=
  match (b.lmAt r).sound with
  | none => b
  | some q =>
    let done := ((b.lmAt r).reports.filter (fun x => x.complete)).map (fun x => x.sta)
    let miss := (q.stas.filter (fun s => !done.contains s)).length
    let b := (b.count (.lm (Fin.ofNat 3 r)) C.LM.SND_MISS miss).updLm r (fun l => { l with reports := [], sound := none })
    match [0, 1].find? (fun k => b.drov.solving.all (fun x => x.1 != k)) with
    | some k => if done.isEmpty || b.est 4 != stRun then b
      else b.updDrov (fun d => { d with solving := d.solving ++ [(k, ⟨r, done, true⟩)] })
    | none => b

/-- Group-addressed frames that follow a DTIM beacon are gone (R122). -/
def Block.groupsGone (b : Block) (r : Nat) : Block :=
  b.updLm r (fun l => { l with groups := l.groups.filter (fun i => !(b.queue (8192 + 16 * r + i)).isEmpty) })

/-- The committed plan of a radio settles (R164, R169). The TXOP ends with it when nothing more is planned in it (R100); one that was
answered takes CW back to CWmin. -/
def Block.planSettle (b : Block) (r : Nat) (us : List SettleUser) : Block :=
  match b.committedPlan r with
  | none => b
  | some p =>
    let b := p.users.foldl (fun b u => b.settleUser p us u) b
    let b := if p.form == .sounding then b.soundingEnd r else b
    let b := ((b.dropPlan r p.slot).refill r p.ac).groupsGone r
    let b := if us.any (fun u => u.heard) then (let (v, b) := b.draw; b.cwReset r p.ac v) else b
    let more := b.drov.plans.any (fun q => q.radio == r && q.slot == 0 && q.ac == p.ac && !q.first)
    if b.txopLimit r p.ac = 0 ∨ !more then b.endTxop r else b

/-- A plan settles (R169). -/
def execPlanSettle (r : Fin 3) (users : List SettleUser) (s : State) : Host.Outcome State Fault Refusal :=
  s.next (s.blk.planSettle r.val users)

/-- Another access category gains the TXOP (R156). -/
def execPlanSwap (r : Fin 3) (ac : Fin 4) (s : State) : Host.Outcome State Fault Refusal :=
  let b := s.blk
  s.next (match b.planAt r.val 0 with
  | some p => if !p.committed && p.ac != ac.val then (b.undoFrom r.val 0).drovCount r.val C.DROV.PLAN_SWAP else b
  | none => b)

/-- A plan or one of its users is undone while PLANNED (R166, R167). -/
def execPlanUndo (r : Fin 3) (slot : Fin 2) (user : Option Nat) (s : State) : Host.Outcome State Fault Refusal :=
  let b := s.blk
  s.next (match b.planAt r.val slot.val with
  | some p =>
    if p.committed then b
    else match user with
      | some sta => if p.form == .su then b.undoFrom r.val slot.val else b.removeUser p sta
      | none => b.undoFrom r.val slot.val
  | none => b)

/-! ### Queues -/

/-- Carter hands over a frame (R149, R150): its cells are reserved here. -/
def execAirEnqueue (r : Fin 3) (sta : Option (Fin 2048)) (bss : Fin 16) (tid : Fin 8) (f : EthFrame) (s : State) :
    Host.Outcome State Fault Refusal :=
  let b := s.blk
  let n := cellsFor (frameLen f)
  let key := match sta with | some x => 4 * x.val + acOf tid.val | none => 8192 + 16 * r.val + bss.val
  s.next (match b.takeCells n with
  | none => b.cartCount 4 C.CART.NOCELL_DROP
  | some b => b.airPut key tid.val f n 0)

/-- The frame at a queue's head has waited there AGE_MS without being planned (R149). -/
def execQueueAgeDrop (q : Nat) (s : State) : Host.Outcome State Fault Refusal :=
  let b := s.blk
  let age := b.get F.DROV_QCFG.AGE_MS
  s.next (match b.queue q with
  | f :: rest =>
    if age ≠ 0 ∧ f.reserved.isNone ∧ f.head ≠ 0 ∧ f.head + age ≤ b.ao / 1000000 + 1 ∧ b.runs 4 then
      ((b.setQueue q rest).dropFrame f).drovCount (b.queueRadio q) C.DROV.AGED
    else b
  | [] => b)

/-! ### Sounding, precoders, BSRP -/

/-- SOUND_MS pass (R163). -/
def execSoundingDue (s : State) : Host.Outcome State Fault Refusal :=
  let b := s.blk
  s.next (if b.est 4 = stRun ∧ b.get F.DROV_SOUND.SOUND_MS ≠ 0 then b.updDrov (fun d => { d with soundDue := [0, 1, 2] }) else b)

/-- BSRP_MS pass (R162). -/
def execBsrpDue (r : Fin 3) (s : State) : Host.Outcome State Fault Refusal :=
  let b := s.blk
  s.next (if b.est 4 = stRun ∧ b.get F.DROV_UL.BSRP_MS ≠ 0 ∧ b.on F.DROV_UL.UL_EN ∧ !b.drov.bsrpDue.contains r.val then
    b.updDrov (fun d => { d with bsrpDue := d.bsrpDue ++ [r.val] })
  else b)

/-- A solver is done (R159, R163): the precoder of its set is ready, after a sounding with the SU vector of each of its stations, and
each of these is counted. Its lane holds the longest time. -/
def execPrecoderReady (solver : Fin 2) (us : Nat) (s : State) : Host.Outcome State Fault Refusal :=
  let b := s.blk
  s.next (match b.drov.solving.find? (fun x => x.1 == solver.val) with
  | none => b
  | some x =>
    let l := 6 + solver.val
    let p := x.2
    let old (g : Precoder) : Bool := g.radio == p.radio && (g.set == p.set || (p.su && g.set.any p.set.contains))
    let b := b.updDrov (fun d => { d with
      solving := d.solving.filter (fun y => y.1 != solver.val), ready := d.ready.filter (fun g => !old g) ++ [p] })
    let n := 1 + (if p.su then p.set.length else 0)
    let b := (b.drovCount p.radio C.DROV.PRECODER_READY n).lane 4 l 0
    let long := b.cnt (.lanes 4) (l * 256 + 1)
    if long < us then b.lane 4 l 1 (us - long) else b)

/-! ### The placement loop -/

/-- Index i of the records: VALID, with a legal anchor (R138). -/
def Block.mlValid (b : Block) (i : Nat) : Bool := bitOf (b.tab (mlAddr i) 2) 15 && bitsOf (b.tab (mlAddr i + 3) 1) 2 1 != 3

/-- The loop of R146 over the records from its start on. -/
def Block.placeLoop (b : Block) (u : Nat → Nat) (moved : List Nat) : List Nat → List Nat × Block
  | [] => (moved, b)
  | i :: rest =>
    if b.get F.MARS_LOOP.MOVE_MAX ≤ moved.length then (moved, b)
    else if !b.mlValid i || bitOf (b.tab (mlAddr i + 3) 1) 3 || decide (b.tab (mlAddr i + 0xD) 1 < b.get F.MARS_LOOP.MIN_HOLD) then
      b.placeLoop u moved rest
    else
      let b := b.lane 8 0 0
      let sta := b.tab (mlAddr i) 2 % 2048
      let links := b.tab (mlAddr i + 2) 1
      let rs := [0, 1, 2].filter (fun r => bitOf links r && b.upRadio r && b.linkPresent sta r)
      let score (r : Nat) : Nat := if rs.contains r then b.lq i r * (255 - u r) else 0
      let pref := b.tab (mlAddr i + 0xC) 1 % 4
      match bestRadio score rs with
      | some best =>
        if best ≠ pref ∧ score pref * (16 + b.get F.MARS_LOOP.HYST) ≤ score best * 16 then
          let b := (b.setTab (mlAddr i + 0xC) 1 best).setTab (mlAddr i + 0xD) 1 0
          (b.count .mars C.MARS.MOVES).placeLoop u (moved ++ [i]) rest
        else b.placeLoop u moved rest
      | none => b.placeLoop u moved rest

/-- A record's links at the end of a period (R139, R147): absent ones counted; LQ of a link that carried nothing from LAST_RATE. -/
def Block.periodLinks (b : Block) (i : Nat) : Block :=
  let sta := b.tab (mlAddr i) 2 % 2048
  let links := b.tab (mlAddr i + 2) 1
  [0, 1, 2].foldl (fun b r =>
    if !bitOf links r then b
    else if !b.linkPresent sta r then b.count .mars C.MARS.LINK_ABSENT
    else if b.marshal.carried.contains (i, r) || decide (b.tab (staAddr r sta + 0x38) 8 + 1000000000 < b.now) ||
        b.tab (staAddr r sta + 0x38) 8 == 0 then b
    else
      let v := b.tab (staAddr r sta + 0x36) 2
      let rate := phyRate (bitsOf v 12 10) (bitsOf v 9 7) (bitsOf v 6 4 + 1) (v % 16)
      b.setTab (mlAddr i + 0x10 + 2 * r) 2 (min 65535 (rate * 3 / 400))) b

/-- A placement period ends (R146, R147): Marshal's engine boundary. u0 to u2: the radios' utilisation. -/
def execPlacementPeriod (u0 u1 u2 : BitVec 8) (s : State) : Host.Outcome State Fault Refusal :=
  let b := s.blk
  let u (r : Nat) : Nat := match r with | 0 => u0.toNat | 1 => u1.toNat | _ => u2.toNat
  s.next (if b.est 8 ≠ stRun then b
  else
    let b := ((b.set F.MARS_UTIL.U0 u0.toNat).set F.MARS_UTIL.U1 u1.toNat).set F.MARS_UTIL.U2 u2.toNat
    let valid := (List.range 1024).filter (fun i => b.mlValid i)
    let b := valid.foldl (fun b i => b.periodLinks i) b
    let order := valid.filter (fun i => decide (b.marshal.last ≤ i)) ++ valid.filter (fun i => decide (i < b.marshal.last))
    let (moved, b) := if b.on F.MARS_LOOP.FREEZE then ([], b) else b.placeLoop u [] order
    let b := (valid.filter (fun i => !moved.contains i)).foldl (fun b i =>
      b.setTab (mlAddr i + 0xD) 1 (min 255 (b.tab (mlAddr i + 0xD) 1 + 1))) b
    let b := if b.on F.MARS_LOOP.FREEZE then b else b.setB F.MARS_STATUS.AT_BOUND (moved.length == b.get F.MARS_LOOP.MOVE_MAX)
    let b := (b.set F.MARS_STATUS.MOVED moved.length).wrap F.MARS_STATUS.PERIODS 1
    let b := b.updMars (fun m => { last := if moved.isEmpty then m.last else (moved.getLastD 0 + 1) % 1024, carried := [], counted := [] })
    (b.count .mars C.MARS.LOOP_PERIODS).boundary 8)

end Sys2Proof.Machine
end

