-- ==== Sys2Proof/Machine/Lm.lean ====
section
/-! DEFINITION. The commands of the link MACs (chapter 4): provisional and final MPDUs, duplicates, reorder windows, responses,
EDCA and the NAV, the yoke's shared access (R144, R145), beacons and probes, power save, triggers, sounding, the backhaul
station. A Basic Ethernet frame stands for the MSDU of a data MPDU; for management it carries the frame's octets. -/

namespace Sys2Proof.Machine

/-- The LM counters of radio r. -/
def Block.lmCount (b : Block) (r n : Nat) : Block := b.count (.lm (Fin.ofNat 3 r)) n

/-- SNs modulo 4,096 from a on up to n. -/
def snDist (a n : Nat) : Nat := (n + 4096 - a % 4096) % 4096

/-- The station entry of radio r with a transmitter address (R106). -/
def Block.staOf (b : Block) (r ta : Nat) : Option Nat :=
  (b.liveIdx (lmWin r + 0x20000) (2048 * 64) 64 8).find? (fun i => b.staValid r i && b.macTab (staAddr r i) == ta)

/-- BSS index of a station (R105). -/
def Block.staBss (b : Block) (r sta : Nat) : Nat := bitsOf (b.tab (staAddr r sta + 6) 2) 15 12

/-- Carter's source index of frames from a station of radio r (R270). -/
def Block.staSrc (b : Block) (r sta : Nat) : Nat := if b.isUpstream r sta then 11 else 16 + 16 * r + b.staBss r sta

/-! ### Agreements -/

/-- The active agreement of a station and TID in the agreement table of radio q: STATE active or start pending (R107 to R109). -/
def Block.agrOf (b : Block) (q sta tid : Nat) : Option Nat :=
  if 8 ≤ tid then none
  else
    let v := b.tab (staAddr q sta + 0x10 + 2 * tid) 2
    let i := v % 1024
    let st := b.tab (agrAddr q i + 3) 1
    if bitOf v 15 && bitOf (b.tab (agrAddr q i) 2) 15 && (st == 1 || st == 3) then some i else none

/-- WIN_START of agreement i. -/
def Block.winStart (b : Block) (q i : Nat) : Nat := b.tab (agrAddr q i + 8) 2 % 4096

/-- WIN_SIZE of agreement i (R108). -/
def Block.winSize (b : Block) (q i : Nat) : Nat := clampTo 1 1024 (b.tab (agrAddr q i + 4) 2)

/-- b with HELD of agreement i counted anew. -/
def Block.heldCount (b : Block) (q i : Nat) : Block :=
  b.setTab (agrAddr q i + 0xE) 2 ((b.lmAt q).held.filter (fun h => h.agr == i)).length

/-- A final MPDU released to Carter with its cells, after the PN replay check against the last PN released for the station and TID
(R110, R115). -/
def Block.deliverMpdu (b : Block) (q : Nat) (m : MpduHdr) (sta cells : Nat) : Block :=
  let key := 16 * sta + m.tid
  if m.prot && decide (m.pn ≤ look (b.lmAt q).lastPn key 0) then (b.freeCells cells).lmCount q C.LM.RX_REPLAY
  else
    let b := if m.prot then b.updLm q (fun l => { l with lastPn := put l.lastPn key m.pn 0 }) else b
    let src := b.staSrc q sta
    let g : Ingress := { src := src, len := frameLen m.frame, fcs := .good, frame := m.frame, ip := m.ip, ts := some b.now,
                         sta := if src = 11 then none else some sta }
    b.ingress g (some cells)

/-- One held MPDU released. -/
def Block.releaseHeld (b : Block) (q : Nat) (h : HeldMpdu) : Block :=
  let b := b.updLm q (fun l => { l with held := l.held.filter (fun x => !(x.agr == h.agr && x.sn == h.sn)) })
  b.deliverMpdu q h.hdr h.sta h.cells

/-- In-order release from WIN_START on, up to the first hole (R110). -/
def Block.releaseRun (b : Block) (q i : Nat) : Nat → Block
  | 0 => b
  | n + 1 =>
    match (b.lmAt q).held.find? (fun h => h.agr == i && h.sn == b.winStart q i) with
    | none => b
    | some h => ((b.releaseHeld q h).setTab (agrAddr q i + 8) 2 ((h.sn + 1) % 4096)).releaseRun q i n

/-- WIN_START moved to sn: what lies before it is released in order, then what follows it without a hole (R110). -/
def Block.moveWindow (b : Block) (q i sn : Nat) : Block :=
  let w := b.winStart q i
  let early := sortBy (fun x y => snDist w x.sn ≤ snDist w y.sn)
    ((b.lmAt q).held.filter (fun h => h.agr == i && decide (snDist w h.sn < snDist w sn)))
  let b := early.foldl (fun b h => b.releaseHeld q h) b
  ((b.setTab (agrAddr q i + 8) 2 (sn % 4096)).releaseRun q i 1024).heldCount q i

/-- Held MPDUs of an agreement in sequence order. -/
def Block.heldOf (b : Block) (q i : Nat) : List HeldMpdu :=
  let w := b.winStart q i
  sortBy (fun x y => snDist w x.sn ≤ snDist w y.sn) ((b.lmAt q).held.filter (fun h => h.agr == i))

/-- Every held MPDU of an agreement released in sequence order. -/
def Block.releaseAll (b : Block) (q i : Nat) : Block := ((b.heldOf q i).foldl (fun b h => b.releaseHeld q h) b).heldCount q i

/-- REORDER_RELEASE: the hole is filled, or WIN_START moves as IEEE 802.11 says (R110). -/
def execReorderRelease (r : Fin 3) (agr : Fin 1024) (moveTo : Option Nat) (s : State) : Host.Outcome State Fault Refusal :=
  let b := s.blk
  let st := b.tab (agrAddr r.val agr.val + 3) 1
  s.next (if st ≠ 1 ∧ st ≠ 3 then b
  else match moveTo with
    | some sn => if 0 < snDist (b.winStart r.val agr.val) sn ∧ snDist (b.winStart r.val agr.val) sn < 2048 then
        b.moveWindow r.val agr.val sn else b
    | none => (b.releaseRun r.val agr.val 1024).heldCount r.val agr.val)

/-- REORDER_TIMEOUT: the oldest held MPDU has waited TIMEOUT_MS; those up to the next hole are released, WIN_START moves past it
(R110). -/
def execReorderTimeout (r : Fin 3) (agr : Fin 1024) (s : State) : Host.Outcome State Fault Refusal :=
  let b := s.blk
  let q := r.val
  let ms := clampTo 1 1000 (b.tab (agrAddr q agr.val + 0xA) 2)
  s.next (match b.heldOf q agr.val with
  | [] => b
  | h :: t =>
    if (h :: t).any (fun x => decide (x.arrival + 1000000 * ms ≤ b.ao)) then
      (b.moveWindow q agr.val h.sn).lmCount q C.LM.RX_REORDER_TIMEOUT
    else b)

/-- The scoreboard of agreement i starts at sn: bits outside its window fall (R107). -/
def Block.scoreFrom (b : Block) (q i sn : Nat) : Block :=
  let win := b.winSize q i
  b.updLm q (fun l => { l with
    scoreAt := put' l.scoreAt i (sn % 4096)
    score := l.score.filter (fun s => s.1 != i || decide (snDist sn s.2 < win)) })

/-- The scoreboard bit of a final SN set; one beyond the scoreboard's end moves its start as IEEE 802.11 says (R107, R110). -/
def Block.scoreFinal (b : Block) (q i sn : Nat) : Block :=
  let win := b.winSize q i
  let d := snDist (look (b.lmAt q).scoreAt i 0) sn
  let b := if win ≤ d ∧ d < 2048 then b.scoreFrom q i (sn + 4097 - win) else b
  b.updLm q (fun l => { l with score := if l.score.contains (i, sn) then l.score else l.score ++ [(i, sn)] })

/-- VALID of agreement i set to 1: slots, STATE, WIN_START = SSN; or NOSLOT (R109). -/
def Block.agrOn (b : Block) (q i : Nat) : Block :=
  let ssn := b.tab (agrAddr q i + 6) 2 % 4096
  match b.takeSlots q i 1 ssn with
  | (b, true) => b.scoreFrom q i ssn
  | (b, false) => (b.lmCount q C.LM.BA_NOSLOT).event (lmEngine q) 16 0 (bytesLE 2 i)

/-- VALID of agreement i set to 0: held MPDUs released, slots returned (R109). -/
def Block.agrOff (b : Block) (q i : Nat) : Block :=
  let b := b.releaseAll q i
  (b.updLm q (fun l => { l with
    slots := del l.slots i, scoreAt := del l.scoreAt i, score := l.score.filter (fun s => s.1 != i) })).setTab (agrAddr q i + 3) 1 0

/-- What a write to an agreement entry does, whose VALID was was before it (R109). -/
def Block.agrWritten (b : Block) (q i : Nat) (was : Bool) : Block :=
  let now := bitOf (b.tab (agrAddr q i) 2) 15
  if now && !was then b.agrOn q i else if was && !now then b.agrOff q i else b

/-- AGREEMENT_VALID_WRITE: VALID of an agreement entry written, the other fields as they stand. -/
def execAgreementValidWrite (r : Fin 3) (agr : Fin 1024) (valid : Bool) (s : State) : Host.Outcome State Fault Refusal :=
  let b := s.blk
  let a := agrAddr r.val agr.val
  let v := b.tab a 2
  s.next (if !b.runs (lmEngine r.val) then b
  else (b.setTab a 2 (v % 2 ^ 15 + b2n valid * 2 ^ 15)).agrWritten r.val agr.val (bitOf v 15))

/-- DRAIN ends at the engine's boundary (R14), Post's not before the tether events in progress have completed (R239). A link MAC on its
way to OFF releases its held MPDUs to Carter (R135). -/
def execDrainComplete (e : Fin 12) (s : State) : Host.Outcome State Fault Refusal :=
  let b := s.blk
  let q := 7 - e.val
  let b' := if 5 ≤ e.val ∧ e.val ≤ 7 ∧ b.est e.val = stDrain ∧ b.drainTo e.val = stOff ∧ b.runs 3 then
      (((b.lmAt q).held.map (fun h => h.agr)).dedup).foldl (fun b i => b.releaseAll q i) b
    else b
  s.next (if e.val = 10 ∧ !b.post.events.isEmpty then b else b'.drainDone s.fuse e.val)

/-! ### Provisional MPDUs -/

/-- The key an MPDU is decrypted under (R111): the station's, or the group key of the backhaul interface for a group-addressed
frame from the upstream. -/
def Block.rxKey (b : Block) (r : Nat) (sta : Option Nat) (m : MpduHdr) : Option Nat :=
  match sta with
  | none => none
  | some i => if isGroup m.ra then b.gtk r (b.get (F.LM_BH_CTRL.VIF r)) else b.ptk r i

/-- MPDU_PROVISIONAL (R111, R113): cells, decryption; the provisional scoreboard bit lasts as long as the MPDU is listed. -/
def Block.mpduStart (b : Block) (r : Nat) (m : MpduHdr) : Block :=
  match (b.phyAt r).rx with
  | none => b
  | some x =>
    if !x.valid || x.defer || !(b.runs (lmEngine r) || b.est (lmEngine r) == stDrain) then b
    else match b.takeCells (cellsFor m.octets) with
      | none => b.lmCount r C.LM.RX_NOCELL
      | some b =>
        let sta := b.staOf r m.ta
        let q := sta.bind (b.agrRadio r)
        let agr := match q, sta with | some q, some i => if m.kind = 0 then b.agrOf q i m.tid else none | _, _ => none
        let key := if m.prot then b.rxKey r sta m else none
        let id := (b.lmAt r).nextId
        let p : ProvMpdu := { id := id, ppdu := (b.phyAt r).rxNo, hdr := m, sta := sta, agr := agr, cells := cellsFor m.octets,
                              noKey := m.prot && key.isNone }
        let b := b.updLm r (fun l => { l with prov := l.prov ++ [p], nextId := id + 1 })
        match key with
        | some h => b.updLock (fun l => { l with queue := l.queue ++
            [({ cls := 1, space := 0, handle := h, octets := m.octets, protect := false, frame := mpduReq r id } : AesReq)] })
        | none => b

/-- MPDU_PROVISIONAL. -/
def execMpduProvisional (r : Fin 3) (m : MpduHdr) (s : State) : Host.Outcome State Fault Refusal := s.next (s.blk.mpduStart r.val m)

/-! ### Final MPDUs -/

/-- The NAV as a final frame not addressed to the radio's BSSs sets it (R102). -/
def Block.navUpdate (b : Block) (r : Nat) (m : MpduHdr) : Block :=
  let stop := b.mono + 1000 * min 32767 m.duration
  b.updLm r (fun l =>
    if m.cfEnd then
      (if m.intra then (if l.intraBy = m.ta then { l with navIntra := 0 } else l)
       else if l.basicBy = m.ta then { l with navBasic := 0 } else l)
    else if m.intra then (if l.navIntra < stop then { l with navIntra := stop, intraBy := m.ta } else l)
    else if l.navBasic < stop then { l with navBasic := stop, basicBy := m.ta } else l)

/-- What a final frame tells of its station: power, rate, time, power save (R105, R125). -/
def Block.staHeard (b : Block) (r sta : Nat) (m : MpduHdr) : Block :=
  let a := staAddr r sta
  let ps := b.tab (a + 0x34) 1
  let b := b.setTab (a + 0x34) 1 (if m.pm then ps / 2 * 2 + 1 else 0)
  let b := b.setTab (a + 0x35) 1 (unsignedOf 8 m.rssi)
  let b := (b.setTab (a + 0x36) 2 m.rate).setTab (a + 0x38) 8 b.now
  let b := match m.bsr with
    | some (ac, n) => b.updDrov (fun d => { d with backlog := put d.backlog (4 * sta + ac % 4) n 0 })
    | none => b
  if m.opensTxop then b.emlsrOn r sta (b.now + 1000 * m.duration) else b

/-- A frame received on a link that T2LM_UL does not allow for its TID (R140). -/
def Block.offMap (b : Block) (r sta tid : Nat) : Block :=
  match b.mlOf sta with
  | some i =>
    let m := bitsOf (b.tab (mlAddr i + 8) 3) (3 * (tid % 8) + 2) (3 * (tid % 8))
    if tid < 8 ∧ m ≠ 0 ∧ !bitOf m r ∧ b.runs 8 then b.count .mars C.MARS.UL_OFF_MAP else b
  | none => b

/-- A response owed to a frame's sender (R97), joined to what is owed for the same PPDU. -/
def Block.owe (b : Block) (r kind : Nat) (m : MpduHdr) (sta agr : Option Nat) : Block :=
  let p : RespPart := { dst := m.ta, sta := sta, agr := agr }
  b.updLm r (fun l => { l with resp := some (match l.resp with
    | some x => { x with kind := max x.kind kind, parts := if x.parts.contains p then x.parts else x.parts ++ [p] }
    | none => { kind := kind, parts := [p], rate := m.rate, bss := m.bss.getD 0 }) })

/-- RX_SEQ entry of a TID: 0 to 7, 8 = non-QoS. -/
def Block.rxSeq (b : Block) (r sta tid : Nat) : Option Nat :=
  if bitOf (b.tab (staAddr r sta + 0x32) 2) (min tid 8) then some (b.tab (staAddr r sta + 0x20 + 2 * min tid 8) 2) else none

/-- b with RX_SEQ set. -/
def Block.setRxSeq (b : Block) (r sta tid v : Nat) : Block :=
  let a := staAddr r sta
  let valid := b.tab (a + 0x32) 2
  let b := b.setTab (a + 0x20 + 2 * min tid 8) 2 v
  b.setTab (a + 0x32) 2 (valid ||| 2 ^ min tid 8)

/-- A final data MPDU under an agreement: a duplicate, or held and released; its scoreboard bit is set (R107, R110, R116, R117). -/
def Block.agrMpdu (b : Block) (r q i sta : Nat) (m : MpduHdr) (cells : Nat) : Block :=
  let sn := m.sn % 4096
  let b := if b.tab (agrAddr q i + 3) 1 = 3 then
    ((b.setTab (agrAddr q i + 3) 1 1).setTab (agrAddr q i + 8) 2 sn).scoreFrom q i sn else b
  let b := b.scoreFinal q i sn
  let d := snDist (b.winStart q i) sn
  let win := b.winSize q i
  if 2048 ≤ d ∨ (b.lmAt q).held.any (fun h => h.agr == i && h.sn == sn) then (b.freeCells cells).lmCount r C.LM.RX_DUP
  else
    let b := b.setRxSeq r sta m.tid (sn * 16 + m.fn % 16)
    let b := if win ≤ d then b.moveWindow q i ((sn + 4097 - win) % 4096) else b
    let b := b.updLm q (fun l => { l with
      held := l.held ++ [({ agr := i, sn := sn, cells := cells, arrival := b.ao, hdr := m, sta := sta } : HeldMpdu)] })
    (b.releaseRun q i 1024).heldCount q i

/-- A final data MPDU of a known station without an agreement (R107, R116). -/
def Block.plainMpdu (b : Block) (r sta : Nat) (m : MpduHdr) (cells : Nat) : Block :=
  if m.retry && b.rxSeq r sta m.tid == some (m.sn * 16 + m.fn % 16) then (b.freeCells cells).lmCount r C.LM.RX_DUP
  else
    let b := b.setRxSeq r sta m.tid (m.sn * 16 + m.fn % 16)
    match b.agrRadio r sta with
    | some q => b.deliverMpdu q m sta cells
    | none => (b.lmCount r C.LM.RX_NO_ANCHOR).deliverMpdu r m sta cells

/-- A management frame for the steward, through Carter (R106). -/
def Block.mgmtFrame (b : Block) (r bss : Nat) (m : MpduHdr) (cells : Nat) : Block :=
  let src := 16 + 16 * r + bss
  (b.freeCells cells).stewDeliver src (b.pvid src) m.frame.payload (some b.now)

/-- A frame addressed to the radio (R97, R106, R107, R110, R116). late: its response has gone. A probe request is answered under R123;
a frame of an unknown sender other than management is acknowledged, dropped and counted. -/
def Block.ownMpdu (b : Block) (r : Nat) (m : MpduHdr) (sta : Option Nat) (cells : Nat) (late : Bool) : Block :=
  let single := !isGroup m.ra
  let owe (b : Block) (kind : Nat) (agr : Option Nat) : Block := if single && !late then b.owe r kind m sta agr else b
  let blocked := decide (b.mono < (b.lmAt r).navBasic) && (b.lmAt r).basicBy != m.ta
  match m.kind, sta with
  | 2, _ => (owe b 0 none).freeCells cells
  | 1, some i =>
    let b := owe b 0 none
    if m.retry && b.rxSeq r i 8 == some (m.sn * 16 + m.fn % 16) then (b.freeCells cells).lmCount r C.LM.RX_DUP
    else (b.setRxSeq r i 8 (m.sn * 16 + m.fn % 16)).mgmtFrame r (m.bss.getD 0) m cells
  | 1, none => (owe b 0 none).mgmtFrame r (m.bss.getD 0) m cells
  | 5, some _ => (if blocked then b else owe b 3 none).freeCells cells
  | 5, none => ((if blocked then b else owe b 3 none).freeCells cells).lmCount r C.LM.RX_UNKNOWN_TA
  | 6, some i => (if b.isUpstream r i then owe b 4 none else b).freeCells cells
  | 3, some i =>
    match (b.agrRadio r i).bind (fun q => (b.agrOf q i m.tid).map (fun a => (q, a))) with
    | some (q, a) =>
      let b := (owe b 0 (some a)).freeCells cells
      let b := if snDist (look (b.lmAt q).scoreAt a 0) m.sn < 2048 then b.scoreFrom q a m.sn else b
      let d := snDist (b.winStart q a) m.sn
      if b.tab (agrAddr q a + 3) 1 = 1 ∧ 0 < d ∧ d < 2048 then b.moveWindow q a m.sn else b
    | none => (owe b 0 none).freeCells cells
  | 0, some i =>
    let b := b.offMap r i m.tid
    let b := if b.isUpstream r i then b.lmCount r C.LM.BH_RX else b
    match (b.agrRadio r i).bind (fun q => (b.agrOf q i m.tid).map (fun a => (q, a))) with
    | some (q, a) => (owe b 0 (some a)).agrMpdu r q a i m cells
    | none => (owe b 0 none).plainMpdu r i m cells
  | _, some _ => b.freeCells cells
  | _, none => ((owe b 0 none).freeCells cells).lmCount r C.LM.RX_UNKNOWN_TA

/-- A verdict (R112): FCS, then MIC, which no one knows while the decryption waits for a core. -/
def Block.mpduVerdict (b : Block) (r id : Nat) (fcs mic : Bool) : Block :=
  match (b.lmAt r).prov.find? (fun p => p.id == id) with
  | none => b
  | some p =>
    let m := p.hdr
    let waiting := b.lock.queue.any (fun q => q.cls == 1 && q.frame == mpduReq r id)
    if !fcs then (b.undoMpdu r p).lmCount r C.LM.RX_FCS_FAIL
    else if m.prot && waiting then b
    else if m.prot && (p.noKey || !mic) then
      let b := if p.noKey then b else b.count .lock C.LOCK.VERIFY_FAIL_MIC
      ((b.undoMpdu r p).lmCount r C.LM.RX_MIC_FAIL).event (lmEngine r) 17 0 (bytesLE 2 (p.sta.getD 0xFFFF))
    else
      let b := (b.updLm r (fun l => { l with prov := l.prov.filter (fun q => q.id != id) })).lmCount r C.LM.RX_MPDU_OK
      let b := match p.sta with | some i => b.staHeard r i m | none => b
      let own := match m.bss with | some i => bitOf (b.bssFlags r (i % 16)) 0 | none => false
      let up := match p.sta with | some i => b.isUpstream r i | none => false
      if own || (up && isGroup m.ra) then b.ownMpdu r m p.sta p.cells p.late
      else
        let b := (b.navUpdate r m).freeCells p.cells
        if p.sta.isNone && m.kind != 2 then b.lmCount r C.LM.RX_UNKNOWN_TA else b

/-- MPDU_VERDICT. -/
def execMpduVerdict (r : Fin 3) (id : Nat) (fcs : Bool) (mic : Bool) (s : State) : Host.Outcome State Fault Refusal :=
  s.next (s.blk.mpduVerdict r.val id fcs mic)

/-! ### Responses -/

/-- A transmission of the link MAC's own at a rate in 500 kb/s. -/
def Block.sendOwn (fu : Fuses) (b : Block) (r kind sta : Nat) (width rate : Nat) (body : AirBody := .plain) (bss : Nat := 0) : Block :=
  b.txStart fu r { t := { width := width }, kind := kind, sta := sta, bss := bss, rate := rate, body := body }

/-- The rates of the Supported Rates elements (1 and 50) among the elements of a frame body, with their basic bits. -/
def ratesIn : Nat → List Nat → List Nat
  | 0, _ => []
  | n + 1, id :: len :: t => (if id = 1 ∨ id = 50 then t.take len else []) ++ ratesIn n (t.drop len)
  | _ + 1, _ => []

/-- DSSS and OFDM rates of IEEE 802.11 in 500 kb/s. -/
def dsssRates : List Nat := [2, 4, 11, 22]

/-- OFDM rates. -/
def ofdmRates : List Nat := [12, 18, 24, 36, 48, 72, 96, 108]

/-- The basic rate set of a BSS as its beacon template tells it (R97), in 500 kb/s: the elements begin 36 octets into the frame. -/
def Block.basicRates (b : Block) (r i : Nat) : List Nat :=
  let f := b.btabBytes (lmEngine r) 1 (templateAddr r 1 i + 0x10) (b.templateLen r 1 i)
  ((ratesIn 128 ((f.drop 36).map (fun x => x.toNat))).filter (fun v => bitOf v 7)).map (fun v => v % 128)

/-- The non-HT rate, in 500 kb/s, that answers a PPDU of a rate as in LAST_RATE (R97, IEEE 802.11): the highest basic rate, else the
highest mandatory one, at most the PPDU's non-HT reference rate. Non-HT MCS 8 to 11 are the DSSS rates (DESIGN CHOICE, log entry
160). -/
def Block.respRate (b : Block) (r bss rate : Nat) : Nat :=
  let mcs := rate % 16
  let dsss := decide (bitsOf rate 12 10 = 0 ∧ 8 ≤ mcs ∧ r = 2)
  let ref := if dsss then nth dsssRates (mcs - 8) 22
    else if bitsOf rate 12 10 = 0 then nth ofdmRates mcs 108 else nth [12, 24, 36, 48, 72, 96, 108] mcs 108
  let all := if dsss then dsssRates else ofdmRates
  let pick (l : List Nat) : Nat := ((l.filter (fun v => all.contains v && decide (v ≤ ref))).foldl max 0)
  let basic := pick (b.basicRates r bss)
  if basic ≠ 0 then basic else pick (if dsss then dsssRates else [12, 24, 48])

/-- Bits of a BlockAck's bitmap for an agreement's window. -/
def baBits (win : Nat) : Nat := if win ≤ 64 then 64 else if win ≤ 256 then 256 else if win ≤ 512 then 512 else 1024

/-- What an acknowledgement says of one part (R97, R107): the final SNs of the scoreboard from its start on, or an ACK alone. -/
def Block.baPart (b : Block) (r : Nat) (p : RespPart) : BaPart :=
  match p.sta, p.agr with
  | some i, some a =>
    match b.agrRadio r i with
    | some q =>
      let ssn := look (b.lmAt q).scoreAt a 0
      let bits := baBits (b.winSize q a)
      let sns := ((b.lmAt q).score.filter (fun x => x.1 == a && decide (snDist ssn x.2 < bits))).map (fun x => x.2)
      { sta := i, tid := b.tab (agrAddr q a + 2) 1 % 16, ssn := ssn, bits := bits
        sns := sortBy (fun x y => decide (snDist ssn x ≤ snDist ssn y)) sns }
    | none => { sta := i }
  | some i, none => { sta := i }
  | none, _ => { sta := 2048 }

/-- The kind of a response owed: 3 a CTS, 4 a trigger-based PPDU, else ACK, BlockAck or multi-STA BlockAck. -/
def RespOwed.airKind (x : RespOwed) : Nat :=
  if 3 ≤ x.kind then x.kind
  else match x.parts with
    | [p] => b2n p.agr.isSome
    | _ => 2

/-- RESPONSE_SEND (R97, R114): the contents frozen, MPDUs whose MIC is unknown left out; the response owed starts, as wide as the PPDU
it answers. -/
def execResponseSend (r : Fin 3) (s : State) : Host.Outcome State Fault Refusal :=
  let b := s.blk
  let q := r.val
  let late := (b.lmAt q).prov.filter (fun p => p.hdr.prot && !p.late)
  let b := late.foldl (fun b _ => b.lmCount q C.LM.RX_MIC_LATE) b
  let b := b.updLm q (fun l => { l with prov := l.prov.map (fun (p : ProvMpdu) => { p with late := p.late || p.hdr.prot }) })
  s.next (match (b.lmAt q).resp with
  | none => b
  | some x =>
    if !(b.runs (lmEngine q) || b.est (lmEngine q) == stDrain) then b
    else
      let kind := x.airKind
      let body := if kind = 3 ∨ kind = 0 then .plain else .blockAck (x.parts.map (fun p => b.baPart q p))
      let dst := if kind = 2 then 2 ^ 48 - 1 else (x.parts.head?.map (fun p => p.dst)).getD (2 ^ 48 - 1)
      let b := (b.updLm q (fun l => { l with resp := none })).lmCount q C.LM.RESP_SENT
      b.sendOwn s.fuse q kind dst (bitsOf x.rate 9 7) (b.respRate q x.bss x.rate) body)

/-! ### Medium access -/

/-- A link held back by the yoked one is counted while Marshal runs (R144, R145). -/
def Block.yokeDefer (b : Block) : Block := if b.est 8 = stRun then b.count .mars C.MARS.YOKE_DEFER else b

/-- The first beacon that waits starts, at the rate and width of its template (R120, R121). -/
def Block.beaconStart (fu : Fuses) (b : Block) (r : Nat) : Block :=
  match (b.lmAt r).beacons with
  | [] => b
  | (i, _) :: t =>
    let f (o : Nat) : Nat := b.btab (lmEngine r) 1 (templateAddr r 1 i + o) 1
    (b.updLm r (fun l => { l with beacons := t })).sendOwn fu r 6 i
      (if bitOf (f 3) 0 then b.get (F.PHY_CHAN.WIDTH r) else 0) (rateCode r (f 2))

/-- The BSS whose probe-response template answers for the radio: the transmitted BSSID, else the first valid BSS (R123). -/
def Block.txBss (b : Block) (r : Nat) : Nat :=
  match (List.range 16).find? (fun i => bitOf (b.bssFlags r i) 0 && bitOf (b.bssFlags r i) 1) with
  | some i => i
  | none => ((List.range 16).find? (fun i => bitOf (b.bssFlags r i) 0)).getD 0

/-- The first probe response that waits starts, at the rate and width of its template (R121, R123). -/
def Block.probeStart (fu : Fuses) (b : Block) (r : Nat) : Block :=
  match (b.lmAt r).probes with
  | [] => b
  | p :: t =>
    let i := b.txBss r
    let f (o : Nat) : Nat := b.btab (lmEngine r) 2 (templateAddr r 2 i + o) 1
    (b.updLm r (fun l => { l with probes := t })).sendOwn fu r 7 (p.da.getD (2 ^ 48 - 1))
      (if bitOf (f 3) 0 then b.get (F.PHY_CHAN.WIDTH r) else 0) (rateCode r (f 2)) .plain i

/-- A TXOP of an access category begins now (R100): a sounding sequence still open is over. -/
def Block.txopBegin (b : Block) (r ac : Nat) (joint : Bool := false) : Block :=
  let n := b.txopLimit r ac
  (b.soundingEnd r).updLm r (fun l => { l with
    txop := some { ac := ac, stop := if n = 0 then none else some (b.mono + 32000 * n), joint := joint } })

/-- The yoked other link joins a TXOP (R144): it keeps its backoff. -/
def Block.yokeJoin (b : Block) (r q : Nat) : Block :=
  match b.planAt q 0 with
  | some p =>
    if p.committed then b
    else
      let b := (b.txopBegin q p.ac true).updLm r (fun l => { l with txop := l.txop.map (fun (t : Txop) => { t with joint := true }) })
      b.count .mars C.MARS.YOKE_JOINT
  | none => b

/-- The access categories that contend, highest first: with frames or a plan waiting, VO for a probe response (R99, R123). -/
def Block.contenders (b : Block) (r : Nat) : List Nat :=
  [3, 2, 0, 1].filter (fun ac => !(b.candidates r ac).isEmpty || (ac == 3 && !(b.lmAt r).probes.isEmpty) ||
    (match b.planAt r 0 with | some p => !p.committed && p.ac == ac | none => false))

/-- Backoffs count down in the idle slots after each AIFS among n slots after SIFS (R99). -/
def Block.idleSlots (b : Block) (r n : Nat) : Block :=
  [0, 1, 2, 3].foldl (fun b ac => b.setEdca r ac (fun e => { e with backoff := e.backoff - (n - b.aifsn r ac) })) b

/-- An access category wins the contention: the others that reached zero with it collide internally, its own next backoff is drawn now
(DESIGN CHOICE, log entry 161). draws: for the winner, then the others in order. -/
def Block.edcaWin (fu : Fuses) (b : Block) (r ac : Nat) (others draws : List Nat) (idlePifs : Bool) : Block :=
  let b := b.setEdca r ac (fun e => { e with backoff := draws.headD 0 % (e.cw + 1) })
  let b := (others.zip (draws.drop 1 ++ List.replicate 4 0)).foldl (fun b x => (b.cwDouble r x.1 x.2).lmCount r C.LM.INTERNAL_COLLISION) b
  if ac = 3 ∧ !(b.lmAt r).probes.isEmpty then b.probeStart fu r
  else
    let free := match yokeMate r with | some q => b.mediumFree q | none => false
    let b := b.txopBegin r ac
    match yokeMate r with
    | some q => if b.yokeCond && b.est 8 == stRun && idlePifs && free then b.yokeJoin r q else b
    | none => b

/-- Group-addressed frames follow a DTIM beacon at once (R122): a TXOP for them without contention; another plan made before gives way
(DESIGN CHOICE, log entry 162). -/
def Block.groupGain (b : Block) (r : Nat) : Block :=
  let b : Block := match b.planAt r 0 with
    | some p => if p.form == .group || p.committed then b else (b.undoFrom r 0).drovCount r C.DROV.PLAN_SWAP
    | none => b
  b.txopBegin r (match b.planAt r 0 with | some p => p.ac | none => b.contendAc r)

/-- EDCA_TXOP_GAIN (R99, R120, R122, R123, R144, R145, R171). The medium has been idle for SIFS and slots slots since it was last busy;
idlePifs: the other yoked link's for PIFS. A beacon needs one slot, then the access categories whose backoff ends first. Until Drover
leaves START only beacons go. -/
def Block.edcaGain (fu : Fuses) (b : Block) (r slots : Nat) (draws : List Nat) (idlePifs : Bool) : Block :=
  if b.est (lmEngine r) ≠ stRun ∨ !b.mediumFree r then b
  else if b.mateBusy r then b.yokeDefer
  else if 1 ≤ slots ∧ !(b.lmAt r).beacons.isEmpty then b.beaconStart fu r
  else if b.est 4 = stReset ∨ b.est 4 = stStart then b
  else if (b.lmAt r).groups.any (fun i => !(b.queue (8192 + 16 * r + i)).isEmpty) then b.groupGain r
  else
    let acs := b.contenders r
    let first := acs.foldl (fun m ac => min m (b.slotsLeft r ac)) (slots + 1)
    if slots < first then b.idleSlots r slots
    else match acs.filter (fun ac => b.slotsLeft r ac == first) with
      | ac :: others => (b.idleSlots r first).edcaWin fu r ac others draws idlePifs
      | [] => b

/-- EDCA_TXOP_GAIN. -/
def execEdcaTxopGain (r : Fin 3) (slots draw : Nat) (draws : List Nat) (idlePifs : Bool) (s : State) : Host.Outcome State Fault Refusal :=
  s.next (s.blk.edcaGain s.fuse r.val slots (draw :: draws) idlePifs)

/-- The first PPDU of a TXOP without a response (R101, R160, R168): its plan is undone with what was planned behind it, a silent PPDU for
each of its stations. -/
def Block.undoAired (b : Block) (r : Nat) : Block :=
  let b : Block := match b.committedPlan r with
    | some p => if p.form == .trigger || p.form == .sounding || p.form == .group then b
      else (p.users.filter (fun u => !u.empty)).foldl (fun b u => b.rungStep r u.sta u.frames.length 0 false) b
    | none => b
  b.undoLive r true

/-- TXOP_LOST (R101): a missing CTS or response doubles the CW; the new backoff is a free value within it (log entry 11). A sounding
sequence ends with its TXOP (R131). -/
def Block.txopLost (b : Block) (r : Nat) (cause : LossCause) : Block :=
  let ac := match (b.lmAt r).txop with | some t => t.ac | none => 0
  let punish (b : Block) : Block := let (v, b) := b.draw; (b.cwDouble r ac v).lmCount r C.LM.RESP_TIMEOUT
  let b := match cause with
    | .cca => b.loseTxop r
    | .refused => b.dropTxop r
    | .noCts => (punish b).loseTxop r
    | .noResponse =>
      let first := match (b.lmAt r).txop, b.committedPlan r with | some t, some p => p.first && decide (t.ppdus ≤ 1) | _, _ => false
      let b := punish b
      if first then (b.undoAired r).endTxop r else b.endTxop r
  b.soundingEnd r

/-- TXOP_LOST. -/
def execTxopLost (r : Fin 3) (cause : LossCause) (s : State) : Host.Outcome State Fault Refusal :=
  let b := s.blk
  s.next (if b.runs (lmEngine r.val) && (b.lmAt r.val).txop.isSome then b.txopLost r.val cause else b)

/-! ### Triggers, protection, sounding -/

/-- The contents of a trigger frame of a type for a plan (R128): users, RUs, rates and TB PPDU length from the plan, the rest from the
template; padding for the largest NOMINAL_PAD, and pad more where the plan needs it (R141). -/
def Block.trigFrame (b : Block) (p : Plan) (type ul pad : Nat) : TrigFrame :=
  let r := p.radio
  let us := p.users.filter (fun u => !u.empty)
  { type := type, giLtf := b.trigField r type 2 1, csReq := bitOf (b.trigField r type 3 1) 0
    ulUs := min ul (b.maxUl r type)
    padUs := us.foldl (fun m u => max m (b.nominalPad r u.sta)) pad
    users := us.map (fun u =>
      { sta := u.sta, tones := u.tones, mask := u.mask, nss := u.nss, mcs := u.mcs, rssi := signedOf 8 (b.trigField r type 6 1)
        bars := if type = 2 then b.barsOf u.sta p.ac (List.range 8) else [] }) }

/-- A trigger frame of a type for a plan is sent at its template's rate over the plan's width; with the template's ENABLE 0 the plan is
undone as a lost TXOP (R128). -/
def Block.triggerSend (fu : Fuses) (b : Block) (p : Plan) (type ul pad : Nat) : Block :=
  let r := p.radio
  if bitOf (b.trigField r type 0 1) 0 then
    (b.lmCount r C.LM.TRIG_SENT).sendOwn fu r 9 type p.width (rateCode r (b.trigField r type 1 1)) (.trigger (b.trigFrame p type ul pad))
  else b.dropTxop r

/-- The plan of slot 0 of a radio with one of its protection frames sent. -/
def Block.guardSent (b : Block) (r : Nat) (done : Bool) : Block :=
  b.updDrov (fun d => { d with plans := d.plans.map (fun (q : Plan) =>
    if q.radio = r ∧ q.slot = 0 ∧ !q.committed then { q with selfCts := true, guarded := done } else q) })

/-- A protection frame: a CTS-to-self, else an MU-RTS or an RTS; the stations it is for, none where nothing is sent; its width. -/
structure GuardFrame where
  toSelf : Bool
  mu     : Bool
  dest   : List Nat
  width  : Nat
  deriving DecidableEq, Repr

/-- The protection frame that comes next for a plan (R103, R141, R164): on LM-2G4 under ERP_PROT a CTS-to-self first; an RTS to a single
user, an MU-RTS to several or to an EMLSR station. -/
def Block.guardFrame (b : Block) (r : Nat) (p : Plan) : GuardFrame :=
  let us := (p.users.filter (fun u => !u.empty)).map (fun u => u.sta)
  if b.erpDue r && !p.selfCts then ⟨true, false, [], 0⟩
  else if !b.rtsDue r p.ac p.first p.users then ⟨false, false, [], p.width⟩
  else ⟨false, us.any b.isEmlsr || decide (2 ≤ us.length), us, p.width⟩

/-- RTS_PROTECTION (R103, R141, R164): the protection of the plan that comes next in the TXOP held, one frame a command, as guardFrame
tells it. The CTS-to-self goes at 1 Mb/s DSSS; an MU-RTS is padded for its EMLSR stations' delay and sets their EML_LINK and EML_BUSY
to the end of the TXOP. -/
def execRtsProtection (r : Fin 3) (toSelf mu : Bool) (dest : List Nat) (width : Nat) (s : State) : Host.Outcome State Fault Refusal :=
  let b := s.blk
  let q := r.val
  s.next (match b.planAt q 0, (b.lmAt q).txop with
  | some p, some t =>
    if !b.runs (lmEngine q) || p.committed || !p.protect || p.guarded || b.guardFrame q p != ⟨toSelf, mu, dest, width⟩ then b
    else if toSelf then (b.guardSent q (!b.rtsDue q p.ac p.first p.users)).sendOwn s.fuse q 3 0 0 2
    else if mu then
      let eml := dest.filter b.isEmlsr
      let pad := eml.foldl (fun m n => max m (match b.mlOf n with
        | some i => emlPadUs (b.tab (mlAddr i + 7) 1)
        | none => 0)) 0
      let b := b.guardSent q true
      let b := if bitOf (b.trigField q 3 0 1) 0 then
        eml.foldl (fun b n => b.emlsrOn q n ((match t.stop with | some e => b.now + (e - b.mono) | none => b.now + 1000 * p.total))) b else b
      b.triggerSend s.fuse p 3 (nonHtUs 12 14) pad
    else match dest with
      | n :: _ => (b.guardSent q true).sendOwn s.fuse q 8 n width 12
      | [] => b.guardSent q true
  | _, _ => b)

/-- The type of trigger that a plan calls for: its own, or MU-BAR. -/
def trigKind (p : Plan) : Nat := if p.form == .trigger then p.trig else 2

/-- TRIGGER_FRAME_SEND (R128, R162, R164): the trigger of a COMMITTED trigger sequence, Basic or BSRP; for a COMMITTED OFDMA PPDU an
MU-BAR to its users (R169). kind: the type of trigger it is, which is trigKind (log entry 177). -/
def execTriggerFrameSend (r : Fin 3) (kind : Nat) (s : State) : Host.Outcome State Fault Refusal :=
  let b := s.blk
  s.next (match b.committedPlan r.val with
  | some p =>
    if !b.runs (lmEngine r.val) || kind != trigKind p then b
    else if p.form == .trigger then b.triggerSend s.fuse p p.trig p.dur 0
    else if p.form == .ofdma then
      let sent := bitOf (b.trigField r.val 2 0 1) 0
      (b.triggerSend s.fuse p 2 (respUs .ofdma) 0).updDrov (fun d => { d with
        barOwed := if sent then d.barOwed.filter (fun x => !p.users.any (fun u => u.sta == x.1 && !u.empty)) else d.barOwed })
    else b
  | none => b)

/-- TB_PPDU_RECEIVE (R129): users without anything decodable are counted; none at all loses the TXOP; else the response owed is joined by
an ACK for each that has no part in it yet. -/
def execTbPpduReceive (r : Fin 3) (users : List TbUser) (s : State) : Host.Outcome State Fault Refusal :=
  let b := s.blk
  let q := r.val
  s.next (if !b.runs (lmEngine q) then b
  else
    let got := users.filter (fun u => u.decoded)
    let b := (users.filter (fun u => !u.decoded)).foldl (fun b _ => b.lmCount q C.LM.UL_USER_MISS) b
    let b := got.foldl (fun b u => match u.bsr with
      | some (ac, n) => b.updDrov (fun d => { d with backlog := put d.backlog (4 * u.sta + ac % 4) n 0 })
      | none => b) b
    if got.isEmpty then b.txopLost q .noResponse
    else
      let x := ((b.lmAt q).resp).getD { kind := 0, parts := [], bss := b.staBss q ((got.head?.map (fun u => u.sta)).getD 0) }
      let more := (got.filter (fun u => !x.parts.any (fun p => p.sta == some u.sta))).map (fun u =>
        ({ dst := b.macTab (staAddr q u.sta), sta := some u.sta } : RespPart))
      b.updLm q (fun l => { l with resp := some { x with parts := x.parts ++ more } }))

/-- SOUNDING_SEQUENCE (R130): the next frame of Drover's COMMITTED sounding sequence, one a command: NDP Announcement, NDP on the chains of
PHY_CHAN, a BFRP trigger for the HE and EHT stations, and a Beamforming Report Poll for each VHT station. An earlier sequence that is
still open ends here (R131). -/
def execSoundingSequence (r : Fin 3) (s : State) : Host.Outcome State Fault Refusal :=
  let b := s.blk
  let q := r.val
  s.next (match b.committedPlan q with
  | none => b
  | some p =>
    if !(p.form == .sounding) || !b.runs (lmEngine q) then b
    else
      let stas := (p.users.filter (fun u => !u.empty)).map (fun u => u.sta)
      let he := stas.filter (fun i => decide (3 ≤ b.staMode q i))
      let vht := stas.filter (fun i => decide (b.staMode q i < 3))
      let go (b : Block) (x : SoundSeq) : Block := b.updLm q (fun l => { l with sound := some x })
      match (b.lmAt q).sound with
      | none =>
        (go (b.updLm q (fun l => { l with reports := [] })) ⟨1, stas, vht⟩).sendOwn s.fuse q 10 (2 ^ 48 - 1) p.width 48 (.ndpAnnounce stas)
      | some x =>
        if x.stas ≠ stas then
          (go (b.soundingEnd q) ⟨1, stas, vht⟩).sendOwn s.fuse q 10 (2 ^ 48 - 1) p.width 48 (.ndpAnnounce stas)
        else if x.next = 1 then (go b { x with next := if he.isEmpty then 3 else 2 }).sendOwn s.fuse q 10 (2 ^ 48 - 1) p.width 0 .ndp
        else if x.next = 2 then
          (go b { x with next := 3 }).triggerSend s.fuse { p with users := p.users.filter (fun u => he.contains u.sta) } 1 300 0
        else match x.polls with
          | i :: t => (go b { x with polls := t }).sendOwn s.fuse q 10 (b.macTab (staAddr q i)) p.width 48 .reportPoll
          | [] => b)

/-- BEAMFORMING_REPORT (R131): a final report segment; the station's PRECODER_AGE counts from its complete report. -/
def execBeamformingReport (r : Fin 3) (sta : Fin 2048) (seg : Nat) (total : Nat) (last : Bool) (s : State) :
    Host.Outcome State Fault Refusal :=
  let b := s.blk
  let total := clampTo 1 8 total
  let old := ((b.lmAt r.val).reports.find? (fun x => x.sta == sta.val)).getD ⟨sta.val, total, []⟩
  let new : BfReport := { old with segs := if seg < old.total ∧ !old.segs.contains seg then old.segs ++ [seg] else old.segs }
  s.next (if !b.runs (lmEngine r.val) then b
  else
    let b := b.updLm r.val (fun l => { l with reports := l.reports.filter (fun x => x.sta != sta.val) ++ [new] })
    let b := if new.complete && !old.complete then
        let b := b.lmCount r.val C.LM.SND_REPORT
        if b.drovValid sta.val then b.setTab (drovSta sta.val + 0x3C) 2 0 else b
      else b
    if last then b.soundingEnd r.val else b)

/-! ### Beacons and probes -/

/-- TBTT of a beaconing BSS (R120): the DTIM count advances, the beacon is queued, an earlier one that still waits is dropped; on
a free medium it starts unless the yoked link holds it back (R144, R145). -/
def Block.tbtt (fu : Fuses) (b : Block) (r i : Nat) : Block :=
  let l := b.lmAt r
  let tu := l.tsf / 1024
  let int := b.bss r i 6 2
  let due := decide ((tu + int * 65536 - b.bss r i 0xA 2) % int = 0) && look l.tbttAt i 0 != tu + 1
  if !b.runs (lmEngine r) || !b.beaconing r i || !due then b
  else
    let period := max 1 (b.bss r i 8 1)
    let c := look l.dtim i 1
    let b := if l.beacons.any (fun x => x.1 == i) then b.lmCount r C.LM.BCN_DROPPED else b
    let b := b.updLm r (fun l => { l with
      dtim := put l.dtim i (if c = 0 then period - 1 else c - 1) 1
      tbttAt := put l.tbttAt i (tu + 1) 0
      beacons := l.beacons.filter (fun x => x.1 != i) ++ (if b.templateLen r 1 i = 0 then [] else [(i, tu * 1024)]) })
    if b.mediumFree r then (if b.mateBusy r then b.yokeDefer else b.beaconStart fu r) else b

/-- TBTT. -/
def execTbtt (r : Fin 3) (bss : Fin 16) (s : State) : Host.Outcome State Fault Refusal := s.next (s.blk.tbtt s.fuse r.val bss.val)

/-- BEACON_DROPPED (R120): not started within LATE_MAX TU of its TBTT, or by the next TBTT. -/
def execBeaconDropped (r : Fin 3) (bss : Fin 16) (s : State) : Host.Outcome State Fault Refusal :=
  let b := s.blk
  let max' := b.get (F.LM_BCN_CTRL.LATE_MAX r.val)
  let wait := if max' = 0 then b.bss r.val bss.val 6 2 else max'
  s.next (if (b.lmAt r.val).beacons.any (fun x => x.1 == bss.val && decide (x.2 + 1024 * wait ≤ (b.lmAt r.val).tsf)) then
    (b.updLm r.val (fun l => { l with beacons := l.beacons.filter (fun x => x.1 != bss.val) })).lmCount r.val C.LM.BCN_DROPPED
  else b)

/-- A probe request matches a BSS of the radio (R123). -/
def Block.probeMatch (b : Block) (r : Nat) (q : ProbeReq) : Bool :=
  let named := match q.bss with | some i => bitOf (b.bssFlags r (i % 16)) 0 | none => q.bcast
  named && (List.range 16).any (fun i =>
    let f := b.bssFlags r i
    bitOf f 0 && !bitOf f 4 &&
      ((!q.ssid.isEmpty && q.ssid == (b.btabBytes (lmEngine r) 0 (lmWin r + 64 * i + 0x10) (min 32 (b.bss r i 0xD 1)))) ||
        (q.ssid.isEmpty && !bitOf f 3) || (r == 0 && q.short == some (b.bss r i 0x30 4))))

/-- PROBE_REQUEST (R123): answered with VO contention; broadcast requests on LM-6G share one broadcast response. -/
def execProbeRequest (r : Fin 3) (q : ProbeReq) (s : State) : Host.Outcome State Fault Refusal :=
  let b := s.blk
  let da := if r.val = 0 ∧ q.bcast then none else some q.ta
  s.next (if !b.runs (lmEngine r.val) || !b.probeMatch r.val q || b.templateLen r.val 2 (b.txBss r.val) == 0 ||
      (da.isNone && (b.lmAt r.val).probes.any (fun p => p.da == none)) then b
  else b.updLm r.val (fun l => { l with probes := l.probes ++ [⟨da, b.mono⟩] }))

/-- PROBE_RESPONSE_DROP (R123): the responses that have not started 20 ms after their request. -/
def execProbeResponseDrop (r : Fin 3) (s : State) : Host.Outcome State Fault Refusal :=
  let b := s.blk
  s.next (b.updLm r.val (fun l => { l with probes := l.probes.filter (fun p => decide (b.mono < p.ns + 20000000)) }))

/-! ### Power save -/

/-- PS_POLL (R125): acknowledged; Drover may plan one frame. -/
def execPsPoll (r : Fin 3) (sta : Fin 2048) (s : State) : Host.Outcome State Fault Refusal :=
  let b := s.blk
  let q := r.val
  s.next (if !b.runs (lmEngine q) || !b.staValid q sta.val then b
  else
    let b := b.updLm q (fun l => { l with
      resp := some { kind := 0, parts := [{ dst := b.macTab (staAddr q sta.val), sta := some sta.val }], bss := b.staBss q sta.val } })
    if bitOf (b.psBits q sta.val) 0 && !(b.lmAt q).polls.contains sta.val then
      b.updLm q (fun l => { l with polls := l.polls ++ [sta.val] })
    else b)

/-- UAPSD_TRIGGER (R125): a service period opened in a trigger-enabled access category, closed by EOSP. -/
def execUapsdTrigger (r : Fin 3) (sta : Fin 2048) (ac : Fin 4) (eosp : Bool) (s : State) : Host.Outcome State Fault Refusal :=
  let b := s.blk
  let v := b.psBits r.val sta.val
  let a := staAddr r.val sta.val + 0x34
  s.next (if !b.runs (lmEngine r.val) || !b.staValid r.val sta.val then b
  else if eosp then b.setTab a 1 (v % 2)
  else if bitOf v 0 && bitOf (b.staFlags r.val sta.val) (18 + ac.val) then b.setTab a 1 3 else b)

/-- TWT_SERVICE_PERIOD_END (R126): INTERVAL added to NEXT_WAKE. -/
def execTwtServicePeriodEnd (r : Fin 3) (i : Fin 256) (s : State) : Host.Outcome State Fault Refusal :=
  let b := s.blk
  let a := lmWin r.val + 0x12000 + 32 * i.val
  let dur := 256 * b.tab (a + 4) 1
  let next := b.tab (a + 0x10) 8
  s.next (if bitOf (b.tab a 2) 15 && b.runs (lmEngine r.val) && decide (next + dur ≤ (b.lmAt r.val).tsf) then
    b.setTab (a + 0x10) 8 (next + max dur (b.tab (a + 8) 4)) else b)

/-! ### Backhaul -/

/-- BH_BEACON_LOSS (R134): one upstream beacon more is missed; at BCN_LOSS in a row the link is down. -/
def execBhBeaconLoss (r : Fin 3) (s : State) : Host.Outcome State Fault Refusal :=
  let b := s.blk
  let q := r.val
  s.next (if b.bhRadio ≠ some q then b
  else
    let b := b.sat (F.LM_BH_STATUS.MISSED q) 1
    if max 1 (b.get (F.LM_BH_CTRL.BCN_LOSS q)) ≤ b.get (F.LM_BH_STATUS.MISSED q) ∧ b.on (F.LM_BH_STATUS.LINKED q) then
      (b.setB (F.LM_BH_STATUS.LINKED q) false).fire (lmEngine q) 18
    else b)

/-- BH_BEACON_RECEIVED (R133, R134). -/
def execBhBeaconReceived (r : Fin 3) (x : BhBeacon) (s : State) : Host.Outcome State Fault Refusal :=
  let b := s.blk
  let q := r.val
  s.next (if b.bhRadio ≠ some q then b
  else
    let b := (b.set (F.LM_BH_STATUS.MISSED q) 0).setB (F.LM_BH_STATUS.LINKED q) true
    b.updLm q (fun l => { l with bhEdca := some x.edca, bhTsf := (x.tsf : Int) - (l.tsf : Int) }))

end Sys2Proof.Machine
end

