-- ==== Sys2Proof/Machine/Clk.lean ====
section
/-! DEFINITION. Clocks and crossings (R361 to R378): the PADDOCK and GROOM monitors, crossing groups, stopped clocks, stream
faults, and the link CRC errors they are handled as (R95, R200). -/

namespace Sys2Proof.Machine

/-! ### Link CRC errors -/

/-- A Bridle link CRC error on a sample block of radio r (R95): the PPDU received or transmitted is dropped or abandoned, with a NOTE
record; the 17th within 1 ms is a CONTAINED error of the link MAC. -/
def Block.bridleCrc (b : Block) (r : Nat) (kind : Nat) : Block :=
  let b := b.count (.phy (Fin.ofNat 3 r)) C.PHY.BRIDLE_CRC
  let b := if (b.phyAt r).rx.isSome then b.undoRx r else b
  let b := b.updPhy r (fun p => { p with
    rx := none, search := none, tx := none, crcAt := b.mono :: p.crcAt.filter (fun t => decide (b.mono ≤ t + 1000000)) })
  let b := if b.fe r = feRx ∨ b.fe r = feTx then (b.setFe r feReady).feBoundary r else b
  let b := b.note (lmEngine r) kind [BitVec.ofNat 8 r]
  if 16 < (b.phyAt r).crcAt.length then
    (b.updPhy r (fun p => { p with crcAt := [] })).fault (lmEngine r) .contained 4 0xFFFF []
  else b

/-- A Tack link CRC error on a sample block (R200): stalls released, transmissions cut, with a NOTE record; the 17th within 1 ms is a
CONTAINED error of Sieve. -/
def Block.tackCrc (b : Block) (kind : Nat) : Block :=
  let b := b.count .sieve C.SIEVE.TACK_CRC
  let b := (((b.releaseStalls (fun _ => true) C.SIEVE.ABANDONED).cutMeshTx).feBoundary 3).note 9 kind
  let at' := b.mono :: b.sieve.crcAt.filter (fun t => decide (b.mono ≤ t + 1000000))
  if 16 < at'.length then
    ({ b with sieve := { b.sieve with crcAt := [] } } : Block).fault 9 .contained 5 0xFFFF []
  else { b with sieve := { b.sieve with crcAt := at' } }

/-! ### Oscillators -/

/-- PADDOCK_STABLE (R362); once lost, the crystal is not used again before POR or BOR. -/
def execPaddockStable (s : State) : Host.Outcome State Fault Refusal :=
  s.next (if s.blk.on F.CLK_STATUS.PADDOCK_LOST then s.blk else s.blk.set F.CLK_STATUS.PADDOCK_OK 1)

/-- PADDOCK_LOST (R362, R412): GROOM and, for it, the Pony regulator in HP run on in HALT. -/
def Block.paddockFail (b : Block) : Block :=
  if b.on F.CLK_STATUS.PADDOCK_LOST then b
  else
    let b := (b.set F.CLK_STATUS.PADDOCK_OK 0).set F.CLK_STATUS.PADDOCK_LOST 1
    let b := if b.watch.plan = 4 then (b.set F.WATCH_POWER_STATUS.PONY_HP 1).set F.WATCH_POWER_STATUS.PONY_READY 1 else b
    (b.note 19 0).crossSettle

/-- PADDOCK_LOST. -/
def execPaddockLost (s : State) : Host.Outcome State Fault Refusal := s.next s.blk.paddockFail

/-- GROOM fails (R363): the keeper, the CLOCK ceiling with HALT at once, the FATAL record. During a start before its gait
the engines are still held, and the ceiling alone acts. -/
def Block.groomFail (fu : Fuses) (b : Block) : Block :=
  let b := (b.keeperClose).setCeil 3
  let b := if b.watch.plan = 6 ∨ b.watch.plan = 7 then b else b.haltNow fu
  { b.fault 19 .fatal 1 0xFFFF [] with clk := { b.clk with groomAo := 0 } }

/-- GROOM_FAILURE. -/
def execGroomFailure (s : State) : Host.Outcome State Fault Refusal := s.next (s.blk.groomFail s.fuse)

/-- GROOM has been stable for 10 ms (R363, R396); a lame device is lame again. -/
def Block.groomBack (fu : Fuses) (b : Block) : Block :=
  if b.ceil 3 then
    let b := b.set F.WATCH_GAIT_STATUS.CEIL (setBit (b.get F.WATCH_GAIT_STATUS.CEIL) 3 false)
    let b := b.updWatch (fun w => { w with liftCause := true })
    if b.on F.OST_START_STATUS.LAME ∧ b.watch.plan = 4 then
      ((b.updWatch (fun w => { w with plan := 5 })).settleAll fu).crossSettle
    else b
  else b

/-- GROOM_RECOVERED. -/
def execGroomRecovered (s : State) : Host.Outcome State Fault Refusal := s.next (s.blk.groomBack s.fuse)

/-! ### Crossings -/

/-- CROSSING_MODE_CHANGE (R374). -/
def execCrossingModeChange (g : Fin 11) (s : State) : Host.Outcome State Fault Refusal := s.next (s.blk.xmode g.val)

/-- GROUP_PARK (R375). -/
def execGroupPark (g : Fin 11) (s : State) : Host.Outcome State Fault Refusal := s.next ((s.blk.park g.val).xmode g.val)

/-- GROUP_UNPARK (R375): both clocks run. -/
def execGroupUnpark (g : Fin 11) (s : State) : Host.Outcome State Fault Refusal :=
  s.next (if s.blk.groupRuns g.val then (s.blk.unpark g.val).xmode g.val else s.blk)

/-- Severity of a stopped clock (R377): NOTE records stand on source 0 as R377 says, and are not latched (R493). -/
def stopSev (g : Nat) : Sev :=
  if g ≤ 5 then .sect else if g = 7 then .fatal else .note

/-- A stopped clock (R377): CLK_XFAULT, TIMEOUT, the record, the park, the group's action. -/
def Block.clockStopped (fu : Fuses) (b : Block) (g cls dom : Nat) (coreDead : Bool) : Block :=
  let b := b.set F.CLK_XFAULT.TIMEOUT (setBit (b.get F.CLK_XFAULT.TIMEOUT) g true)
  let b := b.count (.clk (Fin.ofNat 11 g)) C.CLK.TIMEOUT
  let cycles := 2 ^ clampTo 8 16 (b.get F.CLK_XTIMEOUT.LOG2)
  let p := bytesLE 1 g ++ bytesLE 1 cls ++ bytesLE 1 dom ++ [0] ++ bytesLE 4 cycles
  let noted (b : Block) : Block :=
    b.pulse { sev := .note, origin := 19, src := 0, kind := 2, time := b.now, payload := padTo 16 p }
  let b := b.park g
  match g with
  | 0 => b.sectErr 19 1 false 2 0xFFFF p
  | 1 => b.sectErr 19 1 false 2 0xFFFF p
  | 2 => b.sectErr 19 2 false 2 0xFFFF p
  | 3 => b.sectErr 19 2 false 2 0xFFFF p
  | 4 => b.sectErr 19 3 false 2 0xFFFF p
  | 5 => b.sectErr 19 3 false 2 0xFFFF p
  | 6 => (noted b).hostReset
  | 7 => let b := b.fatalErr 19 false 2 0xFFFF p
         if coreDead then b.groomFail fu else b
  | 8 => if coreDead then b.groomFail fu else (noted b).paddockFail
  | _ => noted b

/-- STOPPED_CLOCK (R377, R378): an unparked group only. coreDead: CORE cannot restart (group 7), or it is GROOM that has
stopped (group 8). -/
def execStoppedClock (g : Fin 11) (cls : Fin 5) (dom : Fin 8) (coreDead : Bool) (s : State) : Host.Outcome State Fault Refusal :=
  s.next (if s.blk.parked g.val then s.blk else s.blk.clockStopped s.fuse g.val cls.val dom.val coreDead)

/-- EVT_HELD_SATURATED (R369): n occurrences lost. -/
def execEvtHeldSaturated (g : Fin 11) (n : Nat) (s : State) : Host.Outcome State Fault Refusal :=
  s.next ((s.blk.count (.clk g) C.CLK.EVT_HELD_SAT n).note 19 0 (bytesLE 1 g.val))

/-- STREAM_FAULT (R370): a link CRC error of the owner (radio r for groups 0 and 1), or a frame with a bad FCS for ring and
host data. -/
def execStreamFault (g : Fin 11) (r : Fin 3) (s : State) : Host.Outcome State Fault Refusal :=
  let b := s.blk.count (.clk g) C.CLK.STREAM_FAULT
  s.next (match g.val with
  | 0 => b.bridleCrc r.val 3
  | 1 => b.bridleCrc r.val 3
  | 2 => b.tackCrc 4
  | 3 => b.tackCrc 4
  | 4 => b.cartCount 0 C.CART.RX_FCS_ERR
  | 5 => b.cartCount 1 C.CART.RX_FCS_ERR
  | 6 => b.cartCount 2 C.CART.RX_FCS_ERR
  | _ => b)

end Sys2Proof.Machine
end

