-- ==== Sys2Proof/Machine/Flash.lean ====
section
/-! DEFINITION. The embedded flash controller (R437 to R454): erases, suspension, reclaim, scrub, retirement and wear-out. -/

namespace Sys2Proof.Machine

/-- b with the flash changed. -/
def Block.updFlash (b : Block) (f : Flash → Flash) : Block := { b with flash := f b.flash }

/-- b with block n of the flash changed. -/
def Block.updBlk (b : Block) (n : Nat) (f : FlashBlk → FlashBlk) : Block :=
  b.updFlash (fun q => { q with blks := upd q.blks n f })

/-! ### State records and erases -/

/-- A state record programmed into the active state block (R439). -/
def Block.stateRec (b : Block) (kind n count : Nat) : Block :=
  b.updFlash (fun f => { f with state := f.state ++ [⟨kind, n, count, f.nextSseq⟩], nextSseq := f.nextSseq + 1 })

/-- Records kept when the other state block takes over: every RETIRE, and each LOST without a later INTENT (R440). -/
def keptState (l : List StateRec) : List StateRec :=
  l.filter (fun r => r.kind == 2 || (r.kind == 3 && !l.any (fun q => q.kind == 1 && q.block == r.block && decide (r.sseq < q.sseq))))

/-- Room for one more state record: with the active block full but for one unit, the other one is erased and made active. -/
def Block.stateRoom (b : Block) : Block :=
  if b.flash.state.length + 1 < blkUnits then b
  else
    let o := 1 - b.flash.stateBlk
    let b := b.stateRec 1 o (b.blkAt o).count
    let b := (b.updBlk o (fun k => { k with count := k.count + 1, hours := b.tally 14, hdrOk := true })).count .flash C.FLASH.ERASES
    b.updFlash (fun f => { f with state := keptState f.state, stateBlk := o })

/-- A block in use that may be erased: not retired, not frozen, not the active state block (R438, R450, R451). -/
def Block.erasable (b : Block) (n : Nat) : Bool :=
  decide (n < 96) && !(b.blkAt n).retired && !(b.blkAt n).frozen && n != b.flash.stateBlk

/-- An erase begins (R440): its INTENT, then the array. Only one is ever in progress (R437); the Pony is in HP for it (R453). -/
def Block.eraseStart (b : Block) (n : Nat) : Block :=
  if b.flash.erase.isSome || !b.erasable n then b
  else
    let b := b.stateRoom.stateRec 1 n (b.blkAt n).count
    let b := b.updBlk n (fun k => { k with hdrOk := false, ready := false, units := [] })
    let b := (b.updFlash (fun f => { f with erase := some n })).hpReq
    let b := (b.set F.FLASH_STATUS.ERASING 1).set F.FLASH_STATUS.ERASE_BLK n
    (b.set F.FLASH_SUSPENDS.CUR 0).set F.FLASH_STATUS.STARVED 0

/-- FLASH_WEAR after an erase (R449): erase counts of the rotation over 64,000 and of the reserve over 4,000, at most 100. -/
def Block.wearUpdate (b : Block) : Block :=
  let sum (r : Nat) : Nat := sumNat ((b.flash.blks.filter (fun k => k.role == r && !k.retired)).map (fun k => k.count))
  (b.set F.FLASH_WEAR.TALLY_WEAR (min 100 (sum 1 / 64000))).set F.FLASH_WEAR.RESERVE_WEAR (min 100 (sum 3 / 4000))

/-- A new stage (R451) with its STAGE record. -/
def Block.setStage (b : Block) (st : Nat) : Block :=
  let former := b.stage
  (b.set F.FLASH_STATUS.STAGE st).event 20 34 0
    (bytesLE 1 former ++ bytesLE 1 st ++ bytesLE 1 (b.get F.FLASH_STATUS.SPARES_LEFT))

/-! ### Live records -/

/-- The newest SEQ of a tally in the journal, and its value; frozen and retired blocks stay readable (R445, R450). -/
def Block.newest (b : Block) (id : Nat) : Option (Nat × Nat) :=
  (b.flash.blks.flatMap (fun k => k.units)).foldl (fun m u =>
    match u with
    | .record i v s => if i = id then (match m with
        | some (s', _) => if s' ≤ s then some (s, v) else m
        | none => some (s, v)) else m
    | _ => m) none

/-- IDs whose newest record lies in block n, rising SEQ, each once. -/
def Block.liveIn (b : Block) (n : Nat) : List (Nat × Nat) :=
  (b.blkAt n).units.foldl (fun l u =>
    match u with
    | .record i v s => if b.newest i == some (s, v) && !l.any (fun x => x.1 == i) then l ++ [(i, v)] else l
    | _ => l) []

/-- Live records copied to the head with a new SEQ, each counted in COPIES (R447). -/
def Block.copyLive (b : Block) : List (Nat × Nat) → Option Block
  | [] => some b
  | (id, v) :: t =>
    match b.putRecord id v with
    | some b' => (b'.count .flash C.FLASH.COPIES).copyLive t
    | none => none

/-- SEQ of the first record of a block. -/
def FlashBlk.firstSeq (k : FlashBlk) : Option Nat :=
  k.units.findSome? (fun u => match u with | .record _ _ s => some s | _ => none)

/-- The oldest block of the rotation: its first record has the lowest SEQ; the head is never it (R447). -/
def Block.oldestBlk (b : Block) : Option Nat :=
  ((List.range 96).filter (fun n => b.inRotation n && n != b.flash.head)).foldl (fun m n =>
    match (b.blkAt n).firstSeq with
    | none => m
    | some s => match m with
      | some x => (match (b.blkAt x).firstSeq with | some q => if s < q then some n else m | none => some n)
      | none => some n) none

/-- A journal block reclaimed (R447): copies first, then the erase. -/
def Block.reclaim (b : Block) (n : Nat) : Block :=
  if b.flash.erase.isSome then b
  else match b.copyLive (b.liveIn n) with
    | some b' => b'.eraseStart n
    | none => b

/-! ### Retirement -/

/-- Class B values to keep at WORN: id and persistent value. -/
def Block.liveB (b : Block) : List (Nat × Nat) :=
  (List.range 2048).filterMap (fun id => if tallyClassA id then none else (b.newest id).map (fun x => (id, x.2)))

/-- Class A values to move to the reserve. -/
def Block.liveA (b : Block) : List (Nat × Nat) :=
  (List.range 2048).filterMap (fun id => if tallyClassA id then (b.newest id).map (fun x => (id, x.2)) else none)

/-- Records of a list with SEQs from s on. -/
def seqUnits (s : Nat) : List (Nat × Nat) → List JUnit
  | [] => []
  | (i, v) :: t => .record i v s :: seqUnits (s + 1) t

/-- Entry to WORN (R451): class B compacted into the fewest rotation blocks, which are frozen; class A into the reserve, which
becomes its journal; queued class B writes become shadows. -/
def Block.enterWorn (b : Block) : Block :=
  let bs := b.liveB
  let as_ := b.liveA
  let us := seqUnits b.flash.nextSeq bs
  let free := (List.range 96).filter (fun n => (b.blkAt n).role == 1 && !(b.blkAt n).retired)
  let keep := free.take (ceilDiv us.length blkUnits)
  let put1 (b : Block) (p : Nat × Nat) : Block :=
    b.updBlk p.1 (fun k => { k with units := (us.drop (blkUnits * p.2)).take blkUnits, frozen := true, ready := false })
  let b := (keep.zip (List.range keep.length)).foldl put1 b
  let first := ((List.range 96).find? (fun n => (b.blkAt n).role == 3 && !(b.blkAt n).retired)).getD 74
  let b := b.updFlash (fun f => { f with
    nextSeq := f.nextSeq + us.length, head := first
    shadowIds := (f.queue.filter (fun t => !tallyClassA t.id)).map (fun t => t.id)
    queue := f.queue.filter (fun t => tallyClassA t.id) })
  let b := b.setStage stageWorn
  let b := as_.foldl (fun b x => match b.putRecord x.1 x.2 with | some b' => b' | none => b) b
  b.note 20 8

/-- Entry to EXHAUSTED (R451): a class A write whose first copy is programmed completes, with its second where a unit is free; the other
queued ones are refused and the image shows the newest persistent values; FATAL. -/
def Block.enterExhausted (b : Block) : Block :=
  let b := (b.flash.queue.filter (fun t => t.first.isSome)).foldl (fun b t => (b.putReq t).getD b) b
  let gone := b.flash.queue.filter (fun t => tallyClassA t.id && t.first.isNone)
  let b := gone.foldl (fun b t =>
    let v := ((b.newest t.id).map (fun x => x.2)).getD 0
    let b := b.updFlash (fun f => { f with image := put f.image t.id v 0 })
    ((b.set F.FLASH_TALLY_STATUS.LAST 2).set F.FLASH_TALLY_STATUS.LAST_ID t.id).count .flash C.FLASH.REFUSED_EXH) b
  let b := b.updFlash (fun f => { f with queue := f.queue.filter (fun t => !tallyClassA t.id) })
  (b.setStage stageExhausted).fault 20 .fatal 9 0xFFFF []

/-- A spare joins the rotation (R451): the lowest-numbered one, erased first. -/
def Block.joinSpare (b : Block) (n : Nat) : Block :=
  let b := b.set F.FLASH_STATUS.SPARES_LEFT (b.get F.FLASH_STATUS.SPARES_LEFT - 1)
  (b.updBlk n (fun k => { k with role := 1, ready := false })).eraseStart n

/-- What the loss of a block of role r brings (R451). -/
def Block.afterRetire (b : Block) (r : Nat) : Block :=
  if r = 2 then b.set F.FLASH_STATUS.SPARES_LEFT (b.get F.FLASH_STATUS.SPARES_LEFT - 1)
  else if r = 3 then
    let left := ((List.range 96).filter (fun n => (b.blkAt n).role == 3 && !(b.blkAt n).retired)).length
    let b := b.set F.FLASH_STATUS.RESERVE_LEFT left
    if left < 2 ∧ b.stage ≠ stageExhausted then b.enterExhausted else b
  else if b.stage ≠ 0 then b
  else match (List.range 96).find? (fun n => (b.blkAt n).role == 2 && !(b.blkAt n).retired) with
    | some n => b.joinSpare n
    | none => b.enterWorn

/-- A block retires (R450): its live records copied first, the RETIRE record, the NOTE record. An erase of it ends. -/
def Block.retire (b : Block) (n kind : Nat) : Block :=
  let k := b.blkAt n
  if k.retired ∨ k.frozen ∨ !(k.role = 1 ∨ k.role = 2 ∨ k.role = 3) then b
  else
    let b := if b.inRotation n then (b.updBlk n (fun k => { k with retired := true })).copyLive (b.liveIn n) |>.getD b else b
    let b := b.updBlk n (fun k => { k with retired := true, ready := false, marked := false })
    let b := if b.flash.erase = some n then (b.updFlash (fun f => { f with erase := none })).set F.FLASH_STATUS.ERASING 0 else b
    let b := ((b.stateRoom.stateRec 2 n k.count).count .flash C.FLASH.RETIRED).note 20 kind (bytesLE 2 n ++ [0, 0] ++ bytesLE 4 k.count)
    b.afterRetire k.role

/-- BLOCK_RETIRE (R450): a header with COUNT 100,000 and a block marked again within 24 h of a rewrite are judged here too. -/
def execBlockRetire (blk : Fin 96) (why : RetireCase) (s : State) : Host.Outcome State Fault Refusal :=
  let b := s.blk
  let k := b.blkAt blk.val
  s.next (match why with
  | .eraseFail => b.retire blk.val 6
  | .programFail => b.retire blk.val 6
  | .worn => if 100000 ≤ k.count then b.retire blk.val 0 else b
  | .scrub => if k.scrubAo ≠ 0 ∧ b.ao < k.scrubAo - 1 + 86400000000000 then b.retire blk.val 0 else b)

/-! ### Commands -/

/-- The third step of an erase (R440): the header, the block ready, what waited goes on. A scrub rewrite's contents come back
from the buffer; an erase of the steward store is the overwrite of R425. -/
def Block.eraseDone (b : Block) : Block :=
  match b.flash.erase with
  | none => b
  | some n =>
    let b := b.updBlk n (fun k => { k with count := k.count + 1, hours := b.tally 14, hdrOk := true, ready := true, marked := false })
    let b := (b.updFlash (fun f => { f with erase := none })).count .flash C.FLASH.ERASES
    let b := ((b.set F.FLASH_STATUS.ERASING 0).set F.FLASH_STATUS.SUSPENDED 0).set F.FLASH_STATUS.STARVED 0
    let b := if b.flash.scrubBuf = some n then
        let b := (b.updBlk n (fun k => { k with scrubAo := b.ao + 1 })).updBlk 79 (fun k => { k with ready := false })
        (b.updFlash (fun f => { f with scrubBuf := none })).count .flash C.FLASH.SCRUB_REWRITE
      else b
    let b := if n = 78 then b.wipeClear 30 else b
    let b := (b.wearUpdate.flushTallies 17).secSettle
    if 100000 ≤ (b.blkAt n).count then b.retire n 0 else b

/-- ERASE_COMPLETE (R440). -/
def execEraseComplete (s : State) : Host.Outcome State Fault Refusal := s.next s.blk.eraseDone.lpRelease

/-- The current erase is reported starved, once (R442). -/
def Block.starve (b : Block) : Block :=
  if b.flash.erase.isNone || b.on F.FLASH_STATUS.STARVED then b
  else ((b.set F.FLASH_STATUS.STARVED 1).count .flash C.FLASH.STARVE).fire 20 33

/-- ERASE_SUSPEND (R442): one suspension of the erase, with its resumption; STARVE_N may be passed. -/
def execEraseSuspend (s : State) : Host.Outcome State Fault Refusal :=
  let b := s.blk
  s.next (if b.flash.erase.isNone then b
  else
    let b := (b.sat F.FLASH_SUSPENDS.CUR 1).count .flash C.FLASH.SUSPENDS
    let c := b.get F.FLASH_SUSPENDS.CUR
    let b := b.set F.FLASH_SUSPENDS.MAX (max c (b.get F.FLASH_SUSPENDS.MAX))
    let lim := b.get F.FLASH_CFG.STARVE_N
    if lim ≠ 0 ∧ lim < c then b.starve else b)

/-- STARVE (R442): the erase has been pending for ms; or it has been suspended more than STARVE_N times. -/
def execStarve (ms : Nat) (s : State) : Host.Outcome State Fault Refusal :=
  let b := s.blk
  let t := b.get F.FLASH_CFG.STARVE_MS
  let n := b.get F.FLASH_CFG.STARVE_N
  s.next (if (t ≠ 0 ∧ t < ms) ∨ (n ≠ 0 ∧ n < b.get F.FLASH_SUSPENDS.CUR) then b.starve else b)

/-- Background work may run (R453): in WALK and HALT only while HP is held. -/
def Block.flashBg (b : Block) : Bool := decide (b.gait ≤ 2) || b.on F.WATCH_POWER_STATUS.PONY_HP

/-- FLASH_ERASE (R440, R453): an erase of a block that holds nothing live; that of the steward store requests HP itself. -/
def execFlashErase (blk : Fin 96) (s : State) : Host.Outcome State Fault Refusal :=
  let b := s.blk
  s.next (if (b.liveIn blk.val).isEmpty && (b.flashBg || blk.val == 78) then b.eraseStart blk.val else b)

/-- JOURNAL_RECLAIM (R447): fewer than two ready blocks are left. -/
def execJournalReclaim (s : State) : Host.Outcome State Fault Refusal :=
  let b := s.blk
  s.next (if b.readyBlocks.length < 2 && (b.flashBg || !b.flash.queue.isEmpty) then
    (match b.oldestBlk with
     | some n => b.reclaim n
     | none => b)
  else b)

/-- AGE_H (FLASH_SCRUB). -/
def Block.scrubAge (b : Block) : Nat := 8766 * clampTo 1 10 (b.get F.FLASH_SCRUB.AGE_Y)

/-- A block marked for rewrite (R443); marked again within 24 h of a rewrite it retires (R450). -/
def Block.scrubMark (b : Block) (n : Nat) : Block :=
  let k := b.blkAt n
  let b := b.updBlk n (fun k => { k with marked := true })
  if k.scrubAo ≠ 0 ∧ b.ao < k.scrubAo - 1 + 86400000000000 then b.retire n 0 else b

/-- SCRUB_VISIT (R443): the next block in use is read; weak: a unit read differently or needed correction. -/
def execScrubVisit (weak : Bool) (s : State) : Host.Outcome State Fault Refusal :=
  let b := s.blk
  s.next (if !b.on F.FLASH_SCRUB.EN || !b.flashBg then b
  else
    let n := b.flash.scrubPos % 96
    let b := (b.count .flash C.FLASH.SCRUB_READ).updFlash (fun f => { f with scrubPos := (n + 1) % 96 })
    let old := decide (b.scrubAge ≤ b.tally 14 - (b.blkAt n).hours)
    if (weak || old) && !(b.blkAt n).retired then b.scrubMark n else b)

/-- SCRUB_REWRITE (R443): a journal or reserve block is reclaimed early; any other goes through the scrub buffer, which is
erased first when it still holds an earlier copy. -/
def execScrubRewrite (blk : Fin 96) (s : State) : Host.Outcome State Fault Refusal :=
  let b := s.blk
  let n := blk.val
  s.next (if !(b.blkAt n).marked || b.flash.erase.isSome || !b.flashBg then b
  else if b.inRotation n ∨ (b.blkAt n).role = 3 then
    let b' := b.reclaim n
    if n = b.flash.head ∨ b'.flash.erase ≠ some n then b
    else (b'.updBlk n (fun k => { k with scrubAo := b.ao + 1 })).count .flash C.FLASH.SCRUB_REWRITE
  else if !(b.blkAt 79).ready then b.eraseStart 79
  else if b.erasable n then (b.updFlash (fun f => { f with scrubBuf := some n })).eraseStart n
  else b)

/-- WEAR (R451): TALLY_WEAR has reached 80; once per start at most. -/
def execWear (s : State) : Host.Outcome State Fault Refusal :=
  let b := s.blk
  s.next (if 80 ≤ b.get F.FLASH_WEAR.TALLY_WEAR ∧ !b.flash.wearFired then
    ((b.set F.FLASH_STATUS.WARN 1).updFlash (fun f => { f with wearFired := true })).fire 20 32
  else b)

/-- LIFE_HOUR_TICK (R449). -/
def execLifeHourTick (s : State) : Host.Outcome State Fault Refusal := s.next (s.blk.tallyPut 14 (s.blk.tally 14 + 1))

/-- A write of a tally through FLASH_TALLY_DATA (R444): only steward tallies, 512 to 2,047. -/
def Block.tallyRoad (b : Block) (road : Road) (id v : Nat) : Block :=
  if id < 512 then b.noteWrite road R.FLASH_TALLY_DATA v else b.tallyPut id v

/-- TALLY_WRITE (R444, R445): id as FLASH_TALLY_IDX names it. -/
def execTallyWrite (road : Road) (id : Fin 2048) (value : Word) (s : State) : Host.Outcome State Fault Refusal :=
  s.next (s.blk.viaRoad road R.FLASH_TALLY_DATA value.toNat (fun b => b.tallyRoad road id.val value.toNat))

end Sys2Proof.Machine
end

