-- ==== Sys2Proof/Machine/Sec.lean ====
section
/-! DEFINITION. Lifecycle, security fuses, zeroisation, the debug port and tamper (R417 to R436). -/

namespace Sys2Proof.Machine

/-! ### Lifecycle commands -/

/-- SEC_LC_STATUS: state 1 BUSY, 2 DONE, 3 REFUSED, with its reason. -/
def Block.lcStatus (b : Block) (st reason : Nat) : Block :=
  (b.set F.SEC_LC_STATUS.STATE st).set F.SEC_LC_STATUS.REASON reason

/-- The road may command the lifecycle: BAR0, and the debug port (which writes only at D3, R418, R427). -/
def lcRoad : Road → Bool
  | .bar0 => true | .dap => true | _ => false

/-- A slot of hashes at a fuse offset is programmed: any bit is 1 (R420). -/
def Fuses.programmed (fu : Fuses) (a n : Nat) : Bool := (fuseBytes fu.sec a n).any (· != 0)

/-- ROOT_HASH slot s is programmed. -/
def Fuses.rootSlot (fu : Fuses) (s : Nat) : Bool := decide (s < 4) && fu.programmed (0x20 + 32 * s) 32

/-- ROOT_HASH slot s is programmed and not revoked. -/
def Fuses.rootUsable (fu : Fuses) (s : Nat) : Bool := fu.rootSlot s && !bitOf (fuseByte fu.sec 2) s

/-- The lifecycle state as the transitions judge it: the fuses (R417). -/
def State.lc (s : State) : Nat := s.fuse.lifecycle

/-- Why a lifecycle command is refused, if it is (R418, R421, R451): road 5, key 1, state 2, conditions 3, VBAT 4. -/
def State.lcRefusal (s : State) (road : Road) (key op vbat : Nat) : Option Nat :=
  let fu := s.fuse
  let lc := s.lc
  let stateOk := if op = 1 ∨ op = 2 then lc == 0 else if op = 3 then lc == 1 else lc == 1 || lc == 3
  let cond :=
    if op = 1 then !fu.hasSecret && s.blk.on F.LOCK_RNG_STATUS.INSTANTIATED
    else if op = 2 then fu.hasSecret && fu.programmed 8 8
    else if op = 3 then fu.regLock && [0, 1, 2, 3].any fu.rootUsable
    else true
  if !lcRoad road then some 5
  else if key ≠ 0x4C43 then some 1
  else if !stateOk then some 2
  else if !cond || s.blk.stage == stageExhausted then some 3
  else if vbat < 3000 then some 4
  else none

/-- Fuse words programmed from word w on: bits written 1 are set, none is cleared (R6). -/
def burnWords (m : List (Nat × Nat)) (w : Nat) : List Nat → List (Nat × Nat)
  | [] => m
  | v :: t => burnWords (put m w (look m w 0 ||| v) 0) (w + 1) t

/-- SEC_LC_CMD OP 1 accepted: 256 bits drawn from the DRBG are burned (R421). -/
def State.genSecret (s : State) (secret : Nat) : State :=
  { s with
    fuse := { s.fuse with sec := burnWords s.fuse.sec 56 ((List.range 8).map (fun i => secret / 2 ^ (32 * i) % 2 ^ 32)) }
    blk := (s.blk.drbgGet 1).lcStatus 2 0 }

/-- The target of a lifecycle command: OP 2 MAKER, 3 FIELD, 4 RETIRED. -/
def lcTarget (op : Nat) : Nat := if op = 2 then 1 else if op = 3 then 2 else 4

/-- A lifecycle command (R418): refused with its reason, or carried out; a transition runs with LIFECYCLE_TRANSITION. While
one runs, a further command is ignored. -/
def State.lcCmd (s : State) (road : Road) (key op vbat secret : Nat) : State :=
  if s.blk.sec.move.isSome then s
  else match s.lcRefusal road key op vbat with
  | some r =>
    let b := s.blk.lcStatus 3 r
    { s with blk := if road = .hitch then b.noteWrite road R.SEC_LC_CMD (key * 2 ^ 16 + op) else b }
  | none =>
    if op = 1 then s.genSecret secret
    else { s with blk := (s.blk.lcStatus 1 0).updSec (fun c => { c with move := some (lcTarget op) }) }

/-- A write of v to SEC_LC_CMD; other values of OP are ignored. -/
def State.lcWrite (s : State) (road : Road) (v vbat secret : Nat) : State :=
  let op := v % 16
  if 1 ≤ op ∧ op ≤ 4 then s.lcCmd road (v / 2 ^ 16) op vbat secret else s

/-- GEN_SECRET: OP 1, with the key of the value written. -/
def execGenSecret (road : Road) (value : Word) (secret : BitVec 256) (vbatMv : Nat) (s : State) : Host.Outcome State Fault Refusal :=
  .next (s.viaRoad road R.SEC_LC_CMD value.toNat (fun s => s.lcCmd road (value.toNat / 2 ^ 16) 1 vbatMv secret.toNat))

/-- TO_MAKER: OP 2. -/
def execToMaker (road : Road) (value : Word) (vbatMv : Nat) (s : State) : Host.Outcome State Fault Refusal :=
  .next (s.viaRoad road R.SEC_LC_CMD value.toNat (fun s => s.lcCmd road (value.toNat / 2 ^ 16) 2 vbatMv 0))

/-- TO_FIELD: OP 3. -/
def execToField (road : Road) (value : Word) (vbatMv : Nat) (s : State) : Host.Outcome State Fault Refusal :=
  .next (s.viaRoad road R.SEC_LC_CMD value.toNat (fun s => s.lcCmd road (value.toNat / 2 ^ 16) 3 vbatMv 0))

/-- TO_RETIRED: OP 4. -/
def execToRetired (road : Road) (value : Word) (vbatMv : Nat) (s : State) : Host.Outcome State Fault Refusal :=
  .next (s.viaRoad road R.SEC_LC_CMD value.toNat (fun s => s.lcCmd road (value.toNat / 2 ^ 16) 4 vbatMv 0))

/-- The LC fuse bit of a target state (R417). -/
def lcBit (t : Nat) : Nat := if t = 1 then 1 else if t = 2 then 2 else if t = 3 then 4 else 8

/-- A transition runs (R419): zeroisation for RETURN and RETIRED, and once it has committed the LC bit, the LIFECYCLE record, a DEVICE
reset. A session ends (R434). In EXHAUSTED it is refused (R451). -/
def State.transition (s : State) (t : Nat) : State :=
  let ask := decide (3 ≤ t) && !s.blk.sec.moveWiped
  let b := if ask then s.blk.zeroise.updSec (fun c => { c with moveWiped := true }) else s.blk
  let fin (b : Block) : Block := b.updSec (fun c => { c with move := none, moveWiped := false })
  if ask ∧ s.blk.wipeRefused then { s with blk := (fin s.blk).lcStatus 3 3 }
  else if 3 ≤ t ∧ b.sec.wipeWait then { s with blk := b }
  else
    let b := (fin b).sealSession
    let former := s.lc
    let fu : Fuses := { s.fuse with sec := burnWords s.fuse.sec 0 [lcBit t] }
    let b := b.event 21 35 0 (bytesLE 1 former ++ bytesLE 1 fu.lifecycle)
    let b := b.updSec (fun c => { c with lc := fu.lifecycle, level := resetLevel fu.lifecycle, chal := none })
    { s with fuse := fu, blk := b.wideReset fu kindDevice 0 none }

/-- LIFECYCLE_TRANSITION (R419). -/
def execLifecycleTransition (s : State) : Host.Outcome State Fault Refusal :=
  .next (match s.blk.sec.move with
  | some t => s.transition t
  | none => s)

/-! ### The fuse block -/

/-- A byte of the block may be written in lifecycle lc (R421): 1 POLICY, 2 and 3 the revocations, 8 to 15 DEVICE_ID, 0x20 to
0xDF the hashes; no other. -/
def fuseOpen (lc a : Nat) : Bool :=
  if a = 1 ∨ a = 2 ∨ a = 3 then decide (lc ≤ 2)
  else if 8 ≤ a ∧ a < 16 then lc == 0
  else if 0x20 ≤ a ∧ a < 0xE0 then decide (lc ≤ 1)
  else false

/-- Bits of word w that exist: POLICY 3:0, ROOT_REVOKE 3:0, DBG_REVOKE 1:0 in word 0 (R420). -/
def fuseMask (w : Nat) : Nat := if w = 0 then 0x030F0FFF else 0xFFFFFFFF

/-- A ROOT_REVOKE write of R422: it would revoke the KEY_SLOT of the running image or the last usable slot. -/
def State.revokesTooMuch (s : State) (v : Nat) : Bool :=
  let r := fuseByte s.fuse.sec 2 ||| (v / 2 ^ 16 % 16)
  let new := v / 2 ^ 16 % 16
  new != 0 &&
    ((match s.blk.ost.img with | some i => bitOf new i.keySlot | none => false) ||
     ([0, 1, 2, 3].any s.fuse.rootUsable && !([0, 1, 2, 3].any (fun k => s.fuse.rootSlot k && !bitOf r k))))

/-- A write of v to SEC_FUSE_DATA (R421, R422): ignored with a NOTE record unless every byte it touches is open, VBAT is at
least 3,000 mV, and a field unit keeps a usable slot. -/
def State.fuseWrite (s : State) (road : Road) (v vbat : Nat) : State :=
  let w := s.blk.get F.SEC_FUSE_IDX.WORD
  let touched := ([0, 1, 2, 3].filter (fun i => v / 2 ^ (8 * i) % 256 != 0)).map (fun i => 4 * w + i)
  let lc := s.lc
  if !touched.all (fuseOpen lc) || decide (vbat < 3000) || (w == 0 && lc == 2 && s.revokesTooMuch v) then
    { s with blk := s.blk.noteWrite road R.SEC_FUSE_DATA v }
  else { s with fuse := { s.fuse with sec := burnWords s.fuse.sec w [v &&& fuseMask w] } }

/-- SEC_FUSE_DATA written (R421). -/
def execSecFuseWrite (road : Road) (value : Word) (vbatMv : Nat) (s : State) : Host.Outcome State Fault Refusal :=
  .next (s.viaRoad road R.SEC_FUSE_DATA value.toNat (fun s => s.fuseWrite road value.toNat vbatMv))

/-- SEC_FUSE_DATA as read: the words of ROOT_SECRET read 0 (R420). -/
def State.fuseRead (s : State) : Nat :=
  let w := s.blk.get F.SEC_FUSE_IDX.WORD
  if 56 ≤ w then 0 else look s.fuse.sec w 0

/-! ### Zeroisation -/

/-- A write of v to SEC_ZEROISE (R424, R451): ignored without its key and in BLANK and RETIRED. -/
def Block.zeroiseWrite (fu : Fuses) (b : Block) (v : Nat) : Block :=
  if v / 2 ^ 16 = 0x5A45 ∧ bitOf v 0 ∧ 1 ≤ fu.lifecycle ∧ fu.lifecycle ≤ 3 then
    (if b.wipeRefused then b.lcStatus 3 3 else b.zeroise)
  else b

/-- ZEROISE: SEC_ZEROISE written. -/
def execZeroise (road : Road) (value : Word) (s : State) : Host.Outcome State Fault Refusal :=
  s.next (s.blk.viaRoad road R.SEC_ZEROISE value.toNat (fun b => b.zeroiseWrite s.fuse value.toNat))

/-- Locksmith in RUN with DRAM available (R425). -/
def Block.lockDram (b : Block) : Bool := b.est 2 == stRun && decide (b.gait ≤ 2) && b.get F.TOP_ID.DRAM != 0

/-- An overwrite of R425 finishes: bit 0 the Vault, 1 the backing area, 2 the steward store. -/
def Block.wipeDone (fu : Fuses) (b : Block) (bit : Nat) : Block :=
  if !bitOf (b.tally 8) (28 + bit) || b.sec.wipeWait then b
  else match bit with
  | 0 => if b.lockDram then ((b.rebuildVault fu []).updLock (fun l => { l with vault := [] })).wipeClear 28 else b
  | 1 =>
    if !b.on F.LOCK_MBACK.EN then b.wipeClear 29
    else if b.lockDram then (if b.mbackFits b.backBase then b.norErase b.backBase 0x400000 else b).wipeClear 29
    else b
  | _ => b.wipeClear 30

/-- WIPE_OVERWRITE_DONE. -/
def execWipeOverwriteDone (bit : Fin 3) (s : State) : Host.Outcome State Fault Refusal := s.next (s.blk.wipeDone s.fuse bit.val)

/-! ### The debug port -/

/-- Minimum level of a TAP instruction, and whether it needs a gait above HALT (R426); none: no such instruction. -/
def tapRule (code : Nat) : Option (Nat × Bool) :=
  match code with
  | 0x01 => some (0, false) | 0xFF => some (0, false) | 0x10 => some (0, false) | 0x11 => some (0, false)
  | 0x12 => some (0, false) | 0x02 => some (1, true) | 0x00 => some (1, true) | 0x03 => some (1, true)
  | 0x04 => some (1, true) | 0x20 => some (2, true) | _ => none

/-- EXTEST, CLAMP and HIGHZ hold the device. -/
def tapHolds (code : Nat) : Bool := code == 0 || code == 3 || code == 4

/-- A TAP instruction loaded (R426): BYPASS below its level or outside its gaits; EXTEST, CLAMP and HIGHZ hold the device as
RESET_N low does, and the next instruction releases it as a PIN reset ending. -/
def Block.tapLoad (fu : Fuses) (b : Block) (code : Nat) : Block :=
  let ok := match tapRule code with
    | some (lv, up) => decide (lv ≤ b.sec.level) && (!up || b.gait != 4 || b.sec.hold)
    | none => false
  let ir := if ok then code else 0xFF
  let was := b.sec.hold
  let b := b.updSec (fun c => { c with ir := ir, hold := tapHolds ir })
  let b := if tapHolds ir && !was then b.keeperClose else b
  let b := if tapHolds ir != was then b.wideReset fu kindPin 0 none else b
  if ir = 1 then b.emit (.tap (bytesLE 4 0x132568BD)) else b

/-- TAP_INSTRUCTION_LOAD. -/
def execTapInstructionLoad (code : BitVec 8) (s : State) : Host.Outcome State Fault Refusal :=
  s.next (s.blk.tapLoad s.fuse code.toNat)

/-- Consecutive failures f (SEC_DBG_FAIL). -/
def Block.dbgFails (b : Block) : Nat := b.tally 11 % 256

/-- Seconds of lockout left (R431). -/
def Block.lockoutS (b : Block) : Nat :=
  let f := b.dbgFails
  if f < 4 then 0
  else
    let stop := b.sec.failAo + min 86400 (60 * 2 ^ (f - 4)) * 1000000000
    ceilDiv (stop - b.ao) 1000000000

/-- The challenge that awaits its response: its COUNTER, once SEC_DBG_CTR is persistent and while it is valid (R428). -/
def Block.challenge (b : Block) : Option Nat :=
  match b.sec.chal with
  | some (t, c) => if b.ao < t + 60000000000 ∧ b.tallyDone 10 then some c else none
  | none => none

/-- Bytes 4 to 19 of the challenge record: MAGIC, DEVICE_ID, COUNTER (R428). -/
def chalMessage (fu : Fuses) (counter : Nat) : List Byte := bytesLE 4 0x47424447 ++ fu.deviceId ++ bytesLE 4 counter

/-- STATUS (R428): 1 while the write of SEC_DBG_CTR for a challenge is not persistent. -/
def Block.chalStatus (b : Block) : Nat := if b.sec.status = 0 ∧ !b.tallyDone 10 then 1 else b.sec.status

/-- The 24-byte record that Capture-DR returns (R428). -/
def Block.chalRecord (fu : Fuses) (b : Block) : List Byte :=
  bytesLE 1 b.chalStatus ++ bytesLE 1 b.sec.level ++ bytesLE 1 b.sec.lc ++ bytesLE 1 b.gait ++
    chalMessage fu b.sec.counter ++ bytesLE 4 b.lockoutS

/-- A challenge is asked for (R428, R431, R435, R451): refused, or issued by incrementing SEC_DBG_CTR. -/
def Block.askChallenge (fu : Fuses) (b : Block) : Block :=
  let b := if b.gait = 4 then b.wakeHit 7 else b
  let barred := b.sec.lc == 4 || (b.gait == 4 && (b.ceil 2 || b.ceil 3)) || b.sec.tamperLow || !b.tallyOk 10
  let b :=
    if barred then b.updSec (fun c => { c with status := 3 })
    else if b.lockoutS ≠ 0 then b.updSec (fun c => { c with status := 2 })
    else
      let n := (b.tally 10 + 1) % 2 ^ 32
      (b.tallyPut 10 n).updSec (fun c => { c with status := 0, counter := n, chal := some (b.ao, n) })
  b.emit (.tap (b.chalRecord fu))

/-- DBG_CHALLENGE (R428). -/
def execDbgChallenge (s : State) : Host.Outcome State Fault Refusal := s.next (s.blk.askChallenge s.fuse)

/-- A challenge not answered within 60 s (R428). -/
def execChallengeExpiry (s : State) : Host.Outcome State Fault Refusal :=
  let b := s.blk
  s.next (match b.sec.chal with
  | some (t, _) => if t + 60000000000 ≤ b.ao then b.updSec (fun c => { c with chal := none }) else b
  | none => b)

/-- Maximum debug level in FIELD (R420). -/
def Fuses.dbgMax (fu : Fuses) : Nat := 3 - popcount (bitsOf (fuseByte fu.sec 1) 3 1)

/-- REQUEST is allowed in lifecycle lc (R430). -/
def Fuses.reqAllowed (fu : Fuses) (lc req : Nat) : Bool :=
  match lc with
  | 0 => true
  | 1 => decide (1 ≤ req ∧ req ≤ 3) || req == 0x11
  | 2 => decide (1 ≤ req ∧ req ≤ fu.dbgMax) || req == 0x10 || req == 0x11
  | 3 => decide (1 ≤ req ∧ req ≤ 3) || req == 0x11
  | _ => false

/-- DBG_HASH slot s is programmed. -/
def Fuses.dbgSlot (fu : Fuses) (s : Nat) : Bool := decide (s < 2) && fu.programmed (0xA0 + 32 * s) 32

/-- The response is signed as R429 asks: not at all in BLANK, nor in MAKER without a debug key. -/
def Fuses.signedOk (fu : Fuses) (lc counter : Nat) (resp : List Byte) : Bool :=
  let slot := (resp.getD 1 0).toNat
  let pub := (resp.drop 4).take 64
  if lc = 0 ∨ (lc = 1 ∧ !fu.dbgSlot 0 ∧ !fu.dbgSlot 1) then true
  else
    fu.dbgSlot slot && !bitOf (fuseByte fu.sec 3) slot && sha256 pub == fuseBytes fu.sec (0xA0 + 32 * slot) 32 &&
      ecdsaVerify pub (sha256 (chalMessage fu counter ++ resp.take 2)) ((resp.drop 68).take 32) ((resp.drop 100).take 32)

/-- The jobs of checking a response, where it needs a signature (R325, R429). -/
def Block.respJobs (fu : Fuses) (b : Block) (lc counter : Nat) (resp : List Byte) : Block :=
  let slot := (resp.getD 1 0).toNat
  let pub := (resp.drop 4).take 64
  if lc = 0 ∨ (lc = 1 ∧ !fu.dbgSlot 0 ∧ !fu.dbgSlot 1) ∨ !fu.dbgSlot slot ∨ bitOf (fuseByte fu.sec 3) slot then b
  else if sha256 pub != fuseBytes fu.sec (0xA0 + 32 * slot) 32 then b.hashJob 64
  else ((b.hashJob 64).hashJob 18).verifyJob (fu.signedOk lc counter resp)

/-- A response rejected (R429): counted, DEBUG fires, the lockout of R431 counts from now. -/
def Block.dbgReject (b : Block) (req : Nat) : Block :=
  let b := b.updSec (fun c => { c with status := 5, chal := none, failAo := b.ao })
  (b.tallyPut 11 (min 255 (b.dbgFails + 1))).debugRec req 1

/-- What a grant of REQUEST does (R429 to R432): a level is never lowered; 0x10 and 0x11 ask for a transition. -/
def Block.dbgEffect (b : Block) (lc req : Nat) : Block :=
  if req = 0x10 ∧ lc ≠ 0 then b.updSec (fun c => { c with move := some 3 })
  else if req = 0x11 ∧ lc ≠ 0 then b.updSec (fun c => { c with move := some 4 })
  else if lc = 0 ∨ req ≤ b.sec.level then b
  else b.updSec (fun c => { c with level := req })

/-- REQUEST 3 opens and wipes (R432): in FIELD below D3. -/
def Block.opens (b : Block) (lc req : Nat) : Bool := lc == 2 && req == 3 && decide (b.sec.level < 3)

/-- A response granted (R429): a grant in HALT sets REQ to WALK. With an open-and-wipe STATUS is busy until it is through. -/
def Block.dbgGrant (b : Block) (lc req : Nat) : Block :=
  let b := if b.gait = 4 then (b.set F.WATCH_GAIT_REQ.REQ 3).updWatch (fun w => { w with riseWake := true }) else b
  let b := (b.updSec (fun c => { c with chal := none })).tallyPut 11 0
  if b.opens lc req then ((b.updSec (fun c => { c with openStep := 1, status := 1 })).zeroise).openGo
  else ((b.updSec (fun c => { c with status := 4 })).dbgEffect lc req).debugRec req 0

/-- DBG_RESPONSE (R429): in HALT the check needs a rise to WALK that the ceilings permit; one made for a rejection is undone. -/
def Block.dbgResponse (fu : Fuses) (b : Block) (resp : List Byte) : Block :=
  let req := (resp.getD 0 0).toNat
  let lc := b.sec.lc
  match b.challenge with
  | none => b.dbgReject req
  | some c =>
    let b := if resp.length = 132 then b.respJobs fu lc c resp else b
    if resp.length = 132 && fu.reqAllowed lc req && !(b.gait == 4 && b.ceilGait == 4) && fu.signedOk lc c resp &&
        !((b.opens lc req || req == 0x10 || req == 0x11) && b.wipeRefused) then b.dbgGrant lc req
    else b.dbgReject req

/-- DBG_RESPONSE. -/
def execDbgResponse (octets : List Byte) (s : State) : Host.Outcome State Fault Refusal := s.next (s.blk.dbgResponse s.fuse octets)

/-- DBG_SEAL (R434). -/
def execDbgSeal (s : State) : Host.Outcome State Fault Refusal := s.next s.blk.sealSession

/-- A write of v to SEC_DBG_CTRL (R434): END with its key, through BAR0 (or the debug port, which writes as BAR0) or Creosh. -/
def Block.dbgCtrlWrite (b : Block) (road : Road) (v : Nat) : Block :=
  if v / 2 ^ 16 = 0x4442 ∧ bitOf v 0 ∧ (lcRoad road ∨ road = .creosh) then b.sealSession else b

/-- SESSION_END: SEC_DBG_CTRL written. -/
def execSessionEnd (road : Road) (value : Word) (s : State) : Host.Outcome State Fault Refusal :=
  s.next (s.blk.viaRoad road R.SEC_DBG_CTRL value.toNat (fun b => b.dbgCtrlWrite road value.toNat))

/-- SESSION_IDLE_TIMEOUT (R434): no TCK edge for IDLE_S seconds. -/
def execSessionIdleTimeout (s : State) : Host.Outcome State Fault Refusal :=
  s.next (if s.blk.get F.SEC_DBG_CFG.IDLE_S = 0 then s.blk else s.blk.sealSession)

/-! ### Tamper -/

/-- TAMPER_N falls (R435, R409 source 6). -/
def Block.tamperFall (fu : Fuses) (b : Block) : Block :=
  let b := (b.updSec (fun c => { c with tamperLow := true })).wakeHit 6
  if b.sec.lc = 2 ∨ b.sec.lc = 3 then
    let b := b.sealSession.updSec (fun c => { c with chal := none })
    let b := (b.tallyPut 12 (b.tally 12 + 1)).fire 21 32
    if bitOf (fuseByte fu.sec 1) 0 || b.on F.SEC_TAMPER_CFG.WIPE then b.zeroise else b
  else b.fire 21 32

/-- TAMPER: an edge of TAMPER_N after its filter; low: it falls. -/
def execTamper (low : Bool) (s : State) : Host.Outcome State Fault Refusal :=
  s.next (if low then s.blk.tamperFall s.fuse else s.blk.updSec (fun c => { c with tamperLow := false }))

end Sys2Proof.Machine
end

