-- ==== Sys2Proof/Machine/Faults.lean ====
section
/-! DEFINITION. Detected faults and their actions (R491 to R498 with the fault tables of the chapters), the muster and its
books (R499 to R502), GPIO and the temperature and supply monitors (R524, R525). -/

namespace Sys2Proof.Machine

/-! ### Detected faults -/

/-- A solver fault found on the precoder of a station (R173): every precoder that serves it is discarded, its stations are served SU
until the next sounding. -/
def Block.precoderLost (b : Block) (sta : Nat) : Block :=
  let hit (p : Precoder) : Bool := p.set.contains sta
  let all := (b.drov.solving.map (fun x => x.2)) ++ b.drov.ready
  let lost := (sta :: (all.filter hit).flatMap (fun p => p.set)).dedup
  let b := b.updDrov (fun d => { d with solving := d.solving.filter (fun x => !hit x.2), ready := d.ready.filter (fun p => !hit p) })
  (lost.filter (fun i => b.drovValid i)).foldl (fun b i => b.setTab (drovSta i + 0x3C) 2 0xFFFF) b

/-- Uncorrectable error in a hot entry (R242 row 2): in WALK set FREE, THROWN when it was tethered; else rebuilt from its record. -/
def Block.hotLost (b : Block) (node : Nat) : Block :=
  let h := b.hot node
  if b.postWalk then
    let b := if h.st = stTethered then b.throwTether node 3 else b
    b.setHot node {}
  else (b.setTabBytes (hotAddr node) (readBytes b.dram 0 (recAddr node + 0x1C) 16)).fixPend node

/-- Uncorrectable error in a cell (R302 row 2): the frame at the head of trough t is dropped, a cut-through frame toward its
port stomped. -/
def Block.cellLost (b : Block) (t : Nat) : Block :=
  match b.cart.cut.find? (fun c => 1 - c.ingress == t / 8 && decide (t < 16)) with
  | some c => b.stomp c
  | none => match b.cart.troughs.find? (fun q => q.t == t) with
    | some q => match q.frames with
      | f :: rest =>
        let b := b.poolDrop f.pool
        let b := b.updCart (fun c => { c with troughs := (c.troughs.filter (fun x => x.t != t)) ++
          (if rest.isEmpty then [] else [{ q with frames := rest }]) })
        b.cartCount (t / 8) C.CART.FLUSHED
      | [] => b
    | none => b

/-- A register keep word lost (R416): the register at an address back to its reset values. -/
def Block.regLost (b : Block) (a : Nat) : Block :=
  { b with regs := b.regs.filter (fun x => x.1 / 32 != a), shadows := b.shadows.filter (fun s => s.1.addr != a) }

/-- The rail table back at the values of POR, both banks (R403, R416). -/
def Block.railsLost (b : Block) : Block :=
  let keep := b.tabs.filter (fun c => !(decide (0x3300000 ≤ c.1 % 2 ^ 28 ∧ c.1 % 2 ^ 28 < 0x3400000)))
  { b with tabs := (railLoad 0 ++ railLoad (2 ^ 28)).foldl (fun m c => put m c.1 c.2 0) keep }

/-- What a fault does besides its severity's action (the fault tables of R95, R173, R200, R242, R269, R302, R329, R360, R416,
R454, R525). item: the datum hit; for a node record, 131,072 more where its EXT_ADDR is not readable. -/
def Block.faultSide (fu : Fuses) (b : Block) (origin code item : Nat) : Block :=
  match origin, code with
  | 2, 2 => b.updLock (fun l => { l with cache := dropKey l.cache (item / 131072) (item % 131072) })
  | 2, 3 =>
    let b := b.updLock (fun l => { l with vault := dropKey l.vault (item / 131072) (item % 131072)
                                          cache := dropKey l.cache (item / 131072) (item % 131072) })
    b.limitPush 3 (item / 131072) (item % 131072)
  | 2, 7 => b.set F.LOCK_VSTATUS.BACK_FAIL 1
  | 3, 2 => b.cellLost item
  | 3, 5 => b.fire 3 16
  | 4, 3 => b.precoderLost item
  | 9, 2 => b.releaseStalls (fun s => s.idx == item) C.SIEVE.ABANDONED
  | 10, 2 => b.hotLost item
  | 10, 3 => b.recordLost (item % 131072) (item < 131072)
  | 10, 4 => (b.updPost (fun p => { p with bag := p.bag.eraseIdx item })).bagStatus
  | 11, 2 => b.railsLost
  | 11, 3 => b.regLost item
  | 11, 4 => b.updWatch (fun w => { w with vbatOff := true })
  | 18, 5 => [5, 6, 7, 9].foldl (fun (b : Block) e => b.contErr e 5 0xFFFF [])
      (match dutyFresh fu item with | some w => b.setDuty item w.bins | none => b)
  | 20, 1 => ((b.count .flash C.FLASH.ECC_CORR).updBlk item (fun k => { k with marked := true }))
  | 20, 5 => b.set F.FLASH_STATUS.LOST 1
  | 23, 1 => if item < 16 ∧ b.ringRuns item then b.dmaError item else b
  | 23, 3 => if item < 16 ∧ b.ringRuns item then b.dmaError item else b
  | 24, 1 => b.fire 24 33
  | 24, 4 => { b with pinExcl := if b.pinExcl.contains item then b.pinExcl else b.pinExcl ++ [item] }
  | _, _ => b

/-- A fault detected (R491): its row's action and severity. Link CRC errors have their whole effect of their own (R95, R200). -/
def Block.detected (fu : Fuses) (b : Block) (origin code lane item : Nat) : Block :=
  if (5 ≤ origin ∧ origin ≤ 7) ∧ code = 3 then b.bridleCrc (lmRadio origin) 3
  else if origin = 9 ∧ code = 4 then b.tackCrc 4
  else
    let b := b.faultSide fu origin code item
    match faultSev origin code with
    | some v => b.fault origin v code lane (bytesLE 2 lane)
    | none => b

/-- ERROR_DETECTED (R491); with origin 22 it is a flash error of the Assay die (R486), which acts on the die alone. -/
def execErrorDetected (origin : Fin 25) (code : BitVec 8) (lane : BitVec 16) (item : Nat) (s : State) :
    Host.Outcome State Fault Refusal :=
  if origin.val = 22 then .next (s.onAssay (fun a => if a.up then a.flashError code.toNat item else a))
  else s.next (s.blk.detected s.fuse origin.val code.toNat lane.toNat item)

/-- A write of v to CLERK_ERR_ACK (R494). -/
def Block.errAckWrite (b : Block) (v : Nat) : Block := b.ackErr (bitsOf v 12 8)

/-- ERR_ACK. -/
def execErrAck (road : Road) (value : Word) (s : State) : Host.Outcome State Fault Refusal :=
  s.next (s.blk.viaRoad road R.CLERK_ERR_ACK value.toNat (fun b => b.errAckWrite value.toNat))

/-! ### The muster -/

/-- The owner of a book (R499): an engine, or 23 HOST, 19 CLK, 18 RFC. -/
def bookOwner (k : Nat) : Nat :=
  match k with
  | 0 => 3 | 1 => 3 | 2 => 4 | 3 => 23 | 4 => 23 | 5 => 19 | 6 => 18 | _ => 10

/-- Book k is audited now (R500, R502): its owner runs; in WALK only books 5 and 6, and book 7 only with DRAM in use. -/
def Block.audited (b : Block) (k : Nat) : Bool :=
  let o := bookOwner k
  let runs := if o < 12 then b.runs o else if o = 23 then b.runs 3 else true
  runs && b.runs 1 && b.on F.CLERK_MUSTER_CFG.EN && (decide (b.gait ≤ 2) || b.lame || k == 5 || k == 6)

/-- The expected total of one copy of a book (R501) that is found off by drift, and the block once a value the model does not carry has
been drawn (PCIe credits, book 4). Book 6 expects the limit where USED is the sum of the bins and exceeds it. -/
def Block.bookExpected (fu : Fuses) (b : Block) (k inst : Nat) (drift : Int) : Int × Block :=
  let i := inst % 256
  let j := inst / 256 % 256
  match k with
  | 0 => (cellarCells, b)
  | 1 => (b.loftCells, b)
  | 2 => (look b.drov.book (4 * i + j) 0, b)
  | 3 =>
    let q := if j = 0 then i else 8 + i
    ((((b.get (F.HOST_RING_PROD.PROD q) + 2 ^ 16 - b.get (F.HOST_RING_CONS.CONS q)) % 2 ^ 16 : Nat) : Int), b)
  | 4 => let (v, b) := b.draw; ((v % 2 ^ 12 : Nat), b)
  | 5 => ((if j = 3 then look b.clk.held i 0 else if j = 2 ∧ i = 7 then b.clk.cmds.length else 0 : Nat), b)
  | 6 =>
    let sum : Int := if keepsDuty fu i then binSum (b.dutyWin i) else 0
    let limit : Int := (subBand fu i).duty * 360000
    (if limit < sum ∧ drift = sum - limit then limit else sum, b)
  | _ => (65536, b)

/-- The section that takes the error of a recount that fails (R501); a device-level book's is that of its users. -/
def bookSection (k inst : Nat) : Nat :=
  match k with
  | 5 => (match inst % 256 with | 0 => 1 | 1 => 1 | 2 => 2 | 3 => 2 | 4 => 3 | 5 => 3 | 6 => 3 | _ => 5)
  | 6 => 2
  | 3 => 3
  | 4 => 3
  | k => sectionOf (bookOwner k)

/-- Both ends of group g reinitialised (R376): occurrences held are lost. -/
def Block.crossReset (b : Block) (g : Nat) : Block := { b with clk := { b.clk with held := put b.clk.held g 0 0 } }

/-- A book that does not balance (R501): drift is the total found less the expected one. -/
def Block.mismatch (fu : Fuses) (b : Block) (k inst : Nat) (drift : Int) (recountOk : Bool) : Block :=
  let o := bookOwner k
  let (x, b) := b.bookExpected fu k inst drift
  let p := bytesLE 1 k ++ bytesLE 3 inst ++ bytesLE 4 (unsignedOf 32 x) ++ bytesLE 4 (unsignedOf 32 (x + drift))
  let b := b.set F.CLERK_MUSTER_STATUS.MISMATCHED (setBit (b.get F.CLERK_MUSTER_STATUS.MISMATCHED) k true)
  let b := b.fault o .contained 0x80 0xFFFF p
  let b := match k with
    | 5 => let g := inst % 256; (((b.park g).crossReset g).unpark g).xmode g
    | 6 => match dutyFresh fu (inst % 256) with | some w => b.setDuty (inst % 256) w.bins | none => b
    | _ => b
  if recountOk then b else b.sectErr o (bookSection k inst) false 0x82 0xFFFF p

/-- MUSTER (R500): a muster completes. Its captures and deferrals are commands of their own. -/
def execMuster (s : State) : Host.Outcome State Fault Refusal :=
  let b := s.blk
  s.next (if b.on F.CLERK_MUSTER_CFG.EN && b.runs 1 then b.wrap F.CLERK_MUSTER_STATUS.AUDITS 1 else b)

/-- The consecutive deferrals of book k. -/
def Block.setDefers (b : Block) (k n : Nat) : Block := { b with clerk := { b.clerk with defers := put b.clerk.defers k n 0 } }

/-- BOOK_CAPTURE (R500, R501): drift 0 is a book that balances. -/
def execBookCapture (book : Fin 8) (inst : Nat) (drift : Int) (recountOk : Bool) (s : State) : Host.Outcome State Fault Refusal :=
  let b := s.blk
  s.next (if !b.audited book.val then b
  else
    let b := (b.set F.CLERK_MUSTER_STATUS.DEFERRED (setBit (b.get F.CLERK_MUSTER_STATUS.DEFERRED) book.val false)).setDefers book.val 0
    if drift = 0 then b else b.mismatch s.fuse book.val inst drift recountOk)

/-- MUSTER_DEFER (R500): the eighth deferral in a row writes a NOTE record of the owner. -/
def execMusterDefer (book : Fin 8) (s : State) : Host.Outcome State Fault Refusal :=
  let b := s.blk
  s.next (if !b.audited book.val then b
  else
    let n := look b.clerk.defers book.val 0 + 1
    let b := b.set F.CLERK_MUSTER_STATUS.DEFERRED (setBit (b.get F.CLERK_MUSTER_STATUS.DEFERRED) book.val true)
    if n = 8 then (b.setDefers book.val 0).note (bookOwner book.val) 0 (bytesLE 1 book.val) else b.setDefers book.val n)

/-! ### Pins -/

/-- The levels at the GPIO pins become v: enabled edges are recorded and fire GPIO (R524). -/
def Block.gpioLevels (b : Block) (v : Nat) : Block :=
  let old := b.get F.PIN_GPIO_IN.IN
  let all := 2 ^ 24 - 1
  let rise := v &&& (old ^^^ all) &&& b.get F.PIN_GPIO_RISE.RISE
  let fall := old &&& (v ^^^ all) &&& b.get F.PIN_GPIO_FALL.FALL
  let ev := rise ||| fall
  let b := b.set F.PIN_GPIO_IN.IN v
  if ev = 0 then b else (b.set F.PIN_GPIO_EVT.EVT (b.get F.PIN_GPIO_EVT.EVT ||| ev)).fire 24 32

/-- The levels with the driven pins as PIN_GPIO_OUT has them. -/
def Block.gpioDriven (b : Block) (v : Nat) : Nat :=
  let oe := b.get F.PIN_GPIO_OE.OE
  (v &&& (oe ^^^ (2 ^ 24 - 1))) ||| (b.get F.PIN_GPIO_OUT.OUT &&& oe)

/-- VDD_IO feeds the GPIO pins: they work in every gait but HALT (R524). -/
def Block.gpioOn (b : Block) : Bool := bitOf (b.get F.WATCH_POWER_STATUS.PMIC_EN) 1

/-- GPIO (R524): the levels that the board puts on the pins. -/
def execGpio (levels : BitVec 24) (s : State) : Host.Outcome State Fault Refusal :=
  s.next (if s.blk.gpioOn then s.blk.gpioLevels (s.blk.gpioDriven levels.toNat) else s.blk)

/-- PIN_TEMP of a die: 0 Saddle, 1 Bridle, 2 Tack. -/
def tempFld (die : Nat) : Fld := if die = 0 then F.PIN_TEMP.SADDLE else if die = 1 then F.PIN_TEMP.BRIDLE else F.PIN_TEMP.TACK

/-- THERM (R491, R525): a die at temp for 100 ms: the NOTE record of its row, and the served source. -/
def execTherm (die : Fin 3) (temp : Int) (s : State) : Host.Outcome State Fault Refusal :=
  let b := s.blk.setS (tempFld die.val) temp
  s.next (if (clampTo 70 110 (b.get F.PIN_THERM.WARN_C) : Int) ≤ temp then (b.note 24 1).fire 24 33 else b)

/-- OVERTEMPERATURE (R525): a die at temp for 10 ms. -/
def execOvertemperature (die : Fin 3) (temp : Int) (s : State) : Host.Outcome State Fault Refusal :=
  let b := s.blk.setS (tempFld die.val) temp
  s.next (if 115 ≤ temp ∧ !b.pinExcl.contains die.val then b.fault 24 .fatal 2 0xFFFF [] else b)

/-- SUPPLY_UNDERVOLTAGE (R525): VDD_IO (io) or VDD_CORE below its limit while its PMIC_EN line is high. -/
def execSupplyUndervoltage (io : Bool) (s : State) : Host.Outcome State Fault Refusal :=
  let b := s.blk
  s.next (if bitOf (b.get F.WATCH_POWER_STATUS.PMIC_EN) (if io then 1 else 0) then b.fault 24 .fatal 3 0xFFFF [] else b)

end Sys2Proof.Machine
end

