-- ==== Sys2Proof/Machine/Read.lean ====
section
/-! DEFINITION. What a read of a BAR0 address gives (R5, R6, R13, R23, R24): fields the register file holds, fields that show a
state held elsewhere, counters, tallies, fuses, table windows. Side effects of reads are in Bus.lean. -/

namespace Sys2Proof.Machine

/-- The PEND bits of an owner's tables (R27). -/
def Block.bankPend (b : Block) (owner : Nat) : Nat :=
  sumNat (((b.eng.ops.filter (fun o => o.owner == owner)).map (fun o => 2 ^ o.table)).dedup)

/-- A shadow of the owner waits (R13). -/
def Block.shadowPend (b : Block) (owner : Nat) : Bool := b.shadows.any (fun s => shadowOwner s.1.addr == owner)

/-- The counter set behind the selector register at address a, if the selection names one. -/
def Block.selected (b : Block) (a : Nat) : Option CntSet :=
  if a = R.PHY_CNT_SEL then (let r := b.get F.PHY_CNT_SEL.RADIO; if r < 3 then some (.phy (Fin.ofNat 3 r)) else none)
  else if a = R.RFC_CNT_SEL then some (.rfc (Fin.ofNat 4 (b.get F.RFC_CNT_SEL.FE)))
  else if a = R.LM_CNT_SEL 0 then some (.lm 0)
  else if a = R.LM_CNT_SEL 1 then some (.lm 1)
  else if a = R.LM_CNT_SEL 2 then some (.lm 2)
  else if a = R.MARS_CNT_SEL then some .mars
  else if a = R.DROV_CNT_SEL then (let r := b.get F.DROV_CNT_SEL.RADIO; if r < 3 then some (.drov (Fin.ofNat 3 r)) else none)
  else if a = R.SIEVE_CNT_SEL then some .sieve
  else if a = R.POST_CNT_SEL then some .post
  else if a = R.CART_CNT_SEL then some (.cart (Fin.ofNat 8 (b.get F.CART_CNT_SEL.PORT)))
  else if a = R.LOCK_CNT_SEL then some .lock
  else if a = R.HOST_CNT_SEL then some .host
  else if a = R.CLK_CNT_SEL then (let g := b.get F.CLK_CNT_SEL.GROUP; if g < 11 then some (.clk (Fin.ofNat 11 g)) else none)
  else if a = R.WATCH_CNT_SEL then some .watch
  else if a = R.FLASH_CNT_SEL then some .flash
  else if a = R.OST_PH_CNT_SEL then some .packhorse
  else if a = R.HATCH_CNT_SEL then some .hatch
  else none

/-- COUNTER of every selector register stands in bits 31:24. -/
def selCounter (a : Nat) : Fld := fld a 31 24 0 .rwL

/-- The selected counter behind the register that follows the selector at address a. -/
def Block.cntShown (b : Block) (a : Nat) : Nat :=
  match b.selected a with
  | some c => b.cnt c (b.get (selCounter a))
  | none => 0

/-! ### Words that show a state -/

/-- STATE of PHY_STATUS_r (R64, R244). -/
def Block.phyState (b : Block) (r : Nat) : Nat :=
  let f := b.fe r
  if !b.engUp (lmEngine r) then 1
  else if (b.subchannels r).isNone then 0
  else if f = feCal then 5
  else if f < feReady then 1
  else if (b.phyAt r).tx.isSome then 4
  else if (b.phyAt r).rx.isSome then 3
  else 2

/-- PHY_STATUS_r but for NOISE. -/
def Block.phyStatus (b : Block) (r : Nat) : List (Fld × Nat) :=
  [(F.PHY_STATUS.OBSS_LEVEL r, unsignedOf 8 ((b.phyAt r).obssHalf / 2)), (F.PHY_STATUS.STATE r, b.phyState r)]

/-- LMx_STATUS. -/
def Block.lmStatus (b : Block) (r : Nat) : List (Fld × Nat) :=
  let l := b.lmAt r
  let nav := (max l.navBasic l.navIntra - b.mono) / 1000
  let used := sumNat (l.slots.map (fun x => x.2))
  [(F.LM_STATUS.NAV_US r, min 0xFFFF nav), (F.LM_STATUS.RESP_OWED r, b2n (b.respPossible r)),
   (F.LM_STATUS.TXOP_HELD r, b2n l.txop.isSome), (F.LM_STATUS.INTRA_NAV r, b2n (decide (b.mono < l.navIntra))),
   (F.LM_STATUS.TXOP_AC r, match l.txop with | some t => t.ac | none => 0),
   (F.LM_STATUS.SLOTS_FREE r, min 255 ((32768 - used) / 128))]

/-- A plan slot as DROV_STATUS shows it: 0 EMPTY, 1 PLANNED, 2 COMMITTED. -/
def Block.slotState (b : Block) (r k : Nat) : Nat :=
  match b.planAt r k with
  | none => 0
  | some p => if p.committed then 2 else 1

/-- DROV_STATUS. -/
def Block.drovStatus (b : Block) : List (Fld × Nat) :=
  [(F.DROV_STATUS.S1_R0, b.slotState 0 0), (F.DROV_STATUS.S2_R0, b.slotState 0 1), (F.DROV_STATUS.S1_R1, b.slotState 1 0),
   (F.DROV_STATUS.S2_R1, b.slotState 1 1), (F.DROV_STATUS.S1_R2, b.slotState 2 0), (F.DROV_STATUS.S2_R2, b.slotState 2 1)]

/-- SIEVE_STATUS. -/
def Block.sieveStatus (b : Block) : List (Fld × Nat) :=
  let n := b.meshChannels
  [(F.SIEVE_STATUS.BLANK_ALL, b2n (b.runs 9 && decide (0 < n) && (List.range n).all (fun k => b.blanked k))),
   (F.SIEVE_STATUS.TX_ACTIVE, (b.sieve.txs.filter (fun t => t.air)).length),
   (F.SIEVE_STATUS.AT_BOUND, ((List.range n).filter (fun k => bitOf (b.tab (chState k + 2) 1) 0)).length),
   (F.SIEVE_STATUS.STALLS_FREE, 128 - b.sieve.stalls.length),
   (F.SIEVE_STATUS.CHANNELS, match b.sieve.span with | some s => spanChannels s.spacing - 1 | none => 255)]

/-- SIEVE_STALLBUSYk. -/
def Block.stallBusy (b : Block) (k : Nat) : Nat :=
  sumNat ((b.sieve.stalls.filter (fun s => s.idx / 32 == k)).map (fun s => 2 ^ (s.idx % 32)))

/-- POST_STATUS. -/
def Block.postStatus (b : Block) : List (Fld × Nat) :=
  [(F.POST_STATUS.TETHERED, (b.hotNodes.filter (fun n => b.tab (hotAddr n) 1 % 4 == 3)).length),
   (F.POST_STATUS.REBUILD, b2n b.post.rebuild), (F.POST_STATUS.CELLS_FREE16, b.post.freeQ / 16)]

/-- RFC_FE_STATUS_f. -/
def Block.feStatus (b : Block) (f : Nat) : List (Fld × Nat) :=
  let cs := feChains f
  [(F.RFC_FE_STATUS.CAL_DUE f, b.calDueBits f), (F.RFC_FE_STATUS.STORED_VALID f, b2n (b.calValid f)),
   (F.RFC_FE_STATUS.BACKOFF f, cs.foldl (fun m c => max m (b.chainAt c).backoff) 0),
   (F.RFC_FE_STATUS.ALC_IDX_MAX f, cs.foldl (fun m c => max m (b.chainAt c).idx) 0 / 8)]

/-- RFC_CAL_STATUS_f. -/
def Block.calStatus (b : Block) (f : Nat) : List (Fld × Nat) :=
  let last := (b.feAt f).runs.foldl (fun (m : Option CalRun) x =>
    match m with
    | none => some x.2
    | some y => if y.ord < x.2.ord then some x.2 else m) none
  (match last with
   | some x => [(F.RFC_CAL_STATUS.LAST_S f, min 0xFFFF ((b.ao - x.ao) / 1000000000)), (F.RFC_CAL_STATUS.T_CAL f, unsignedOf 8 x.temp)]
   | none => []) ++ [(F.RFC_CAL_STATUS.STEPS f, (b.feAt f).steps % 256)]

/-- RFC_TEMP: a front end that is OFF is not measured. -/
def Block.feTemps (b : Block) : Nat :=
  sumNat ((List.range 4).map (fun f =>
    2 ^ (8 * f) * (if b.fe f = feOff then 0x80 else b.get F.RFC_TEMP.T / 2 ^ (8 * f) % 256)))

/-- The timestamp at the head of the FIFO (R293). -/
def Block.tsHead (b : Block) : List (Fld × Nat) :=
  match b.cart.stamps with
  | [] => []
  | t :: _ => [(F.CART_TS_ID.VALID, 1), (F.CART_TS_ID.PORT, t.port), (F.CART_TS_ID.SEQ_ID, t.seqId),
               (F.CART_TS_LO.TIME, t.time % 2 ^ 32), (F.CART_TS_HI.TIME, t.time / 2 ^ 32 % 2 ^ 32)]

/-- PLL lock bits of CLK_STATUS: a PLL is locked while its domain runs (R361). -/
def Block.clkStatus (b : Block) : List (Fld × Nat) :=
  [(F.CLK_STATUS.CORE_SLOW, b2n b.coreSlow), (F.CLK_STATUS.LOCK, sumNat ((List.range 5).map (fun i => b2n (b.domRun (i + 2)) * 2 ^ i))),
   (F.CLK_STATUS.RUN, sumNat ((List.range 7).map (fun d => b2n (b.domRun d) * 2 ^ d)))]

/-- SEC_STATE. -/
def Block.secState (b : Block) : List (Fld × Nat) :=
  [(F.SEC_STATE.LC, b.sec.lc), (F.SEC_STATE.LEVEL, b.sec.level), (F.SEC_STATE.TAMPER_LOW, b2n b.sec.tamperLow),
   (F.SEC_STATE.WIPE_PEND, b2n (decide (2 ^ 24 ≤ b.tally 8))), (F.SEC_STATE.LOCKOUT, b2n (decide (0 < b.lockoutS))),
   (F.SEC_STATE.CHAL_VALID, b2n b.challenge.isSome)]

/-- FLASH_BLK_INFO. -/
def Block.blkInfo (b : Block) : List (Fld × Nat) :=
  let n := b.get F.FLASH_BLK_IDX.BLOCK
  if n < 96 then
    let k := b.blkAt n
    [(F.FLASH_BLK_INFO.RETIRED, b2n k.retired), (F.FLASH_BLK_INFO.FROZEN, b2n k.frozen), (F.FLASH_BLK_INFO.MARKED, b2n k.marked),
     (F.FLASH_BLK_INFO.ROLE, k.role), (F.FLASH_BLK_INFO.COUNT, k.count)]
  else [(F.FLASH_BLK_INFO.ROLE, 0x1F)]

/-- Dword k of the copy record that CLERK_COPY_IDX selects (R344). -/
def Block.copyDword (b : Block) (k : Nat) : Nat :=
  match b.copyRec (b.get F.CLERK_COPY_IDX.IDX) with
  | some r => natLE (((r.bytes 0).drop (4 * k)).take 4)
  | none => 0

/-- The nibble of section n in TOP_SECT_STATE: 0 unpowered, 1 powered with no engine running, 2 running, 3 in reset, 4 running
reduced. S5 runs from the first. -/
def Block.sectState (b : Block) (n : Nat) : Nat :=
  let es := sectionEngines n
  if n = 5 then (if b.est 11 = stReset ∧ b.watch.plan ≠ 7 then 3 else 2)
  else if es.all (fun e => b.est e == stReset) then 3
  else if es.any (fun e => b.est e == stReduced) then 4
  else if es.any (fun e => b.est e == stRun || b.est e == stDrain) then 2
  else if es.all (fun e => b.est e == stOff) && es.all (fun e => planMode b.watch.plan e == .off) then 0
  else 1

/-- The tally a TAL register shows, with its lowest bit (R444 and the owners' chapters). -/
def talOf (a : Nat) (b : Block) : Option Nat :=
  if a = R.OST_BOOT then some 1 else if a = R.OST_BOOT_COUNT then some 2 else if a = R.LOCK_MFC_RESV then some 3
  else if a = R.LOCK_MFC_EPOCH then some 4 else if a = R.LOCK_VAULT_GEN then some 5 else if a = R.HOST_CREOSH_FLOOR then some 6
  else if a = R.HOST_CREOSH_TXBLK then some 7 else if a = R.SEC_WIPE then some 8 else if a = R.SEC_DBG_OPENED then some 9
  else if a = R.SEC_DBG_CTR then some 10 else if a = R.SEC_DBG_FAIL then some 11 else if a = R.SEC_TAMPER_COUNT then some 12
  else if a = R.WATCH_BOR_COUNT then some 13 else if a = R.FLASH_LIFE_HOURS then some 14 else if a = R.OST_MIG then some 16
  else if a = R.OST_PH_STATE then some 17 else if a = R.OST_PH_ID then some 18 else if a = R.CLERK_LAST_FAULT then some 19
  else if a = R.FLASH_TALLY_DATA then some (b.get F.FLASH_TALLY_IDX.ID)
  else none

/-- Whole words that are not put together from fields: errors, counters, tallies, fuses. -/
def Block.wordAt (fu : Fuses) (b : Block) (a : Nat) : Option Nat :=
  match talOf a b with
  | some id => some (if id = 15 then 0 else b.tally id)
  | none =>
    match blockEngine (a / 0x100000), a % 0x100000 with
    | some e, 0x00C => some (b.errBook e).primary
    | some e, 0x010 => some (b.errBook e).secondary
    | some e, 0x020 =>
      let l := b.get (F.ENG_LANE_IDX.LANE e)
      some (if l < 256 then b.cnt (.lanes (Fin.ofNat 12 e)) (256 * l + b.get (F.ENG_LANE_IDX.COUNTER e)) else 0)
    | _, _ =>
      if (b.selected (a - 4)).isSome then some (b.cntShown (a - 4))
      else if a = R.CLERK_ERR_PRIM then some (b.errBook (b.get F.CLERK_ERR_SEL.ORIGIN)).primary
      else if a = R.CLERK_ERR_SEC then some (b.errBook (b.get F.CLERK_ERR_SEL.ORIGIN)).secondary
      else if R.CLERK_COPY_DATA0 ≤ a ∧ a ≤ R.CLERK_COPY_DATA7 then some (b.copyDword ((a - R.CLERK_COPY_DATA0) / 4))
      else if a = R.RFC_TEMP then some b.feTemps
      else if a = R.RFC_REG_DATA then some (look fu.reg (b.get F.RFC_REG_IDX.WORD) 0)
      else if a = R.SEC_FUSE_DATA then
        (let w := b.get F.SEC_FUSE_IDX.WORD
         some (if 56 ≤ w then 0 else look fu.sec w 0))
      else none

/-- Fields of the register at address a that show a state held elsewhere. -/
def Block.fieldsAt (b : Block) (a : Nat) : List (Fld × Nat) :=
  let off := a % 0x100000
  match a / 0x100000 with
  | 0 =>
    if a = R.TOP_SECT_STATE then
      [(F.TOP_SECT_STATE.S0, b.sectState 0), (F.TOP_SECT_STATE.S1, b.sectState 1), (F.TOP_SECT_STATE.S2, b.sectState 2),
       (F.TOP_SECT_STATE.S3, b.sectState 3), (F.TOP_SECT_STATE.S4, b.sectState 4), (F.TOP_SECT_STATE.S5, b.sectState 5)]
    else []
  | 2 =>
    if a = R.CLERK_LEDGER_STATUS then
      [(F.CLERK_LEDGER_STATUS.FULL, b2n b.ledgerFull), (F.CLERK_LEDGER_STATUS.WAITING, b2n (decide (0 < b.clerk.waiting)))]
    else if a = R.CLERK_COPY_HEAD then [(F.CLERK_COPY_HEAD.HEAD, b.clerk.copyHead)]
    else []
  | 3 =>
    if a = R.LOCK_VSTATUS then
      [(F.LOCK_VSTATUS.REBUILD, b2n (b.runs 2 && b.lock.rebuildOwed && !b.lame)),
       (F.LOCK_VSTATUS.BACK_PEND, min 127 b.lock.dirty.length)]
    else []
  | 4 =>
    if a = R.CART_STATUS then
      [(F.CART_STATUS.KEEP_OPEN, b2n b.cart.keeper.isOpen), (F.CART_STATUS.LOFT_LIMIT, b2n b.loftLimit), (F.CART_STATUS.MAC_USED, b.cart.macs.length)]
    else if a = R.CART_TIME_LO then [(F.CART_TIME_LO.TIME, b.now % 2 ^ 32)]
    else if a = R.CART_TS_ID ∨ a = R.CART_TS_LO ∨ a = R.CART_TS_HI then b.tsHead
    else []
  | 5 => if a = R.DROV_STATUS then b.drovStatus else []
  | 10 =>
    (match [0, 1, 2].find? (fun r => a == R.PHY_STATUS r) with
     | some r => b.phyStatus r
     | none =>
       if a = R.PHY_SP_STATUS then [(F.PHY_SP_STATUS.ACTIVE, b2n b.spActive)]
       else if a = R.PHY_BANK then [(F.PHY_BANK.PEND, b.bankPend 12)]
       else [])
  | 11 =>
    (match [0, 1, 2, 3].find? (fun f => a == R.RFC_FE_STATUS f) with
     | some f => b.feStatus f
     | none =>
       match [0, 1, 2, 3].find? (fun f => a == R.RFC_CAL_STATUS f) with
       | some f => b.calStatus f
       | none =>
         if a = R.RFC_BANK then [(F.RFC_BANK.PEND, b.bankPend 13)]
         else if a = R.RFC_DUTY_USED then
           (match b.rfc.duty.find? (fun w => w.sub == b.get F.RFC_DUTY_SEL.SUB) with
            | some w => [(F.RFC_DUTY_USED.KEPT, 1), (F.RFC_DUTY_USED.USED, binSum w.bins)]
            | none => [])
         else [])
  | 12 =>
    if a = R.SIEVE_STATUS then b.sieveStatus
    else if a = R.SIEVE_STALLBUSY0 then [(F.SIEVE_STALLBUSY0.BUSY, b.stallBusy 0)]
    else if a = R.SIEVE_STALLBUSY1 then [(F.SIEVE_STALLBUSY1.BUSY, b.stallBusy 1)]
    else if a = R.SIEVE_STALLBUSY2 then [(F.SIEVE_STALLBUSY2.BUSY, b.stallBusy 2)]
    else if a = R.SIEVE_STALLBUSY3 then [(F.SIEVE_STALLBUSY3.BUSY, b.stallBusy 3)]
    else []
  | 13 => if a = R.POST_STATUS then b.postStatus else []
  | 14 => if a = R.WATCH_GAIT_STATUS then [(F.WATCH_GAIT_STATUS.RETRIES, min 15 b.recentLifts.length)] else []
  | 15 => if a = R.CLK_STATUS then b.clkStatus else []
  | 16 =>
    if a = R.FLASH_BLK_INFO then b.blkInfo
    else if a = R.FLASH_TALLY_IDX then
      (let id := b.get F.FLASH_TALLY_IDX.ID
       [(F.FLASH_TALLY_IDX.SHADOW, b2n (b.flash.shadowIds.contains id)), (F.FLASH_TALLY_IDX.CLASS_A, b2n (tallyClassA id))])
    else if a = R.FLASH_TALLY_STATUS then [(F.FLASH_TALLY_STATUS.PEND, b.flash.queue.length)]
    else []
  | 17 => if a = R.SEC_STATE then b.secState else []
  | 19 =>
    if a = R.HOST_CREOSH_STATUS then
      [(F.HOST_CREOSH_STATUS.KEY_VALID, b2n b.lock.steward.isSome), (F.HOST_CREOSH_STATUS.ARMED, b2n b.creosh.armed.isSome),
       (F.HOST_CREOSH_STATUS.RETURN, b2n b.creosh.ret.isSome),
       (F.HOST_CREOSH_STATUS.RETURN_SRC, match b.creosh.ret with | some p => p.src | none => 0)]
    else []
  | 20 =>
    if a = R.PIN_TEMP then
      -- a die without power is not measured: the Saddle and Bridle dies follow EN0 and EN3
      (let en := b.get F.WATCH_POWER_STATUS.PMIC_EN
       (if bitOf en 0 then [] else [(F.PIN_TEMP.SADDLE, 0x80)]) ++ (if bitOf en 3 then [] else [(F.PIN_TEMP.BRIDLE, 0x80)]))
    else if a = R.PIN_GPIO_IN then (if b.gpioOn then [] else [(F.PIN_GPIO_IN.IN, 0)])
    else []
  | m =>
    match blockEngine m, off with
    | some e, _ =>
      if 5 ≤ e ∧ e ≤ 7 then
        let r := lmRadio e
        if a = R.LM_STATUS r then b.lmStatus r
        else if a = R.LM_TSF_LO r then [(F.LM_TSF_LO.TSF r, (b.lmAt r).tsf % 2 ^ 32)]
        else if a = R.LM_TSF_HI r then [(F.LM_TSF_HI.TSF r, (b.lmAt r).tsfHi % 2 ^ 32)]
        else []
      else []
    | none, _ => []

/-- Fields of the common engine header that show a state (R13, R27). -/
def Block.headerAt (b : Block) (a : Nat) : List (Fld × Nat) :=
  match blockEngine (a / 0x100000) with
  | some e =>
    if a = R.ENG_STATUS e then
      [(F.ENG_STATUS.BANK_PEND e, b2n (b.bankPend e != 0)), (F.ENG_STATUS.SHADOW_PEND e, b2n (b.shadowPend e))]
    else if a = R.ENG_BANK e then [(F.ENG_BANK.PEND e, b.bankPend e)]
    else []
  | none => []

/-- STATE of OST_PH_STATE (R459): 0 IDLE, 1 MANIFEST, 2 RECEIVING, 3 STAGED. -/
def Block.phState (b : Block) : Nat := b.tally 17 / 2 ^ 28

/-- Payload pieces stored: bits set in tallies 256 to 511 (R458, R463). -/
def Block.phPresent (b : Block) : Nat := sumNat ((List.range 256).map (fun i => popcount (b.tally (256 + i))))

/-- The staging offset a of the NOR map in use (R455). -/
def Block.stageAt (b : Block) (a : Nat) : Nat := (match b.ost.map with | some m => m.stage | none => 0) + a

/-- PAYLOAD_LEN of the manifest as stored (R456). -/
def Block.payloadLen (b : Block) : Nat := b.nor (b.stageAt 0x1010) 4

/-- OST_PH_STATUS and OST_PH_PROGRESS: a sheaf check in progress (R460), pieces stored and to come. WATCH_TIMER_LO reads as
written, WATCH_PPS_HI as latched. -/
def Block.phAt (b : Block) (a : Nat) : List (Fld × Nat) :=
  if a = R.OST_PH_STATUS then [(F.OST_PH_STATUS.VERIFYING, b2n b.ost.sheafCheck.isSome)]
  else if a = R.OST_PH_PROGRESS then
    [(F.OST_PH_PROGRESS.PRESENT, b.phPresent),
     (F.OST_PH_PROGRESS.PIECES, if 2 ≤ b.phState then ceilDiv b.payloadLen 1024 else 0)]
  else if a = R.WATCH_TIMER_LO then [(F.WATCH_TIMER_LO.TIME, b.watch.timerLo)]
  else if a = R.WATCH_PPS_HI then [(F.WATCH_PPS_HI.TIME, b.watch.ppsHiLatch)]
  else if a = R.OST_START_STATUS then [(F.OST_START_STATUS.TALLY_LAYOUT, b.tally 0 % 2 ^ 16)]
  else []

/-- What a field shows to a reader: 0 when write-only, else the state it shows, else the stored value (R6). -/
def Block.fieldRead (b : Block) (shown : List (Fld × Nat)) (f : Fld) : Nat :=
  if f.ty = .wo then 0
  else match shown.find? (fun x => x.1 == f) with
  | some x => x.2 % 2 ^ f.width
  | none => b.shown f

/-- The word a register reads as; 0 where none is assigned (R24). -/
def Block.readReg (fu : Fuses) (b : Block) (a : Nat) : Nat :=
  match Regs.find a with
  | none => 0
  | some d =>
    match b.wordAt fu a with
    | some v => v % 2 ^ 32
    | none =>
      let shown := b.fieldsAt a ++ b.headerAt a ++ b.phAt a
      sumNat (d.fields.map (fun f => b.fieldRead shown f * 2 ^ f.lo))

/-! ### Table windows -/

/-- The window of an owner answers: an engine's while it is neither OFF nor in RESET; those of the PHY and RFC always (R24). -/
def Block.windowOpen (b : Block) (owner : Nat) : Bool := decide (12 ≤ owner) || (b.est owner != stOff && b.est owner != stReset)

/-- An entry of the MAC table as its 16 bytes (R274). -/
def MacEntry.bytes (m : MacEntry) : List Byte :=
  bytesBE 6 m.mac ++ bytesLE 2 (m.vlan % 4096 + 0x8000) ++ bytesLE 2 m.dest ++ bytesLE 1 (b2n m.static) ++ bytesLE 1 m.age ++
    List.replicate 4 0

/-- Byte a of a window as its reader sees it (R23, R26): the inactive bank of a banked table; key material reads 0. -/
def Block.windowByte (b : Block) (a : Nat) : Nat :=
  match tableAt a with
  | some t =>
    match t.kind with
    | .banked n => (look b.tabs (a + bankOff (1 - b.active t.owner n)) 0).toNat
    | .live =>
      if t.base = 0x2000000 then
        let i := (a - t.base) / 16
        match b.cart.macs.find? (fun m => macKey m == i) with
        | some m => (nth m.bytes ((a - t.base) % 16) 0).toNat
        | none => 0
      else if t.base = 0x2E01000 ∧ (a - t.base) % 16 = 2 then
        -- the blanked bit shows the present instant (R194, R201)
        (setBit (look b.tabs a 0).toNat 1 (b.blanked ((a - t.base) / 16)))
      else if t.base = 0x2E01000 ∧ (a - t.base) % 16 = 3 then
        -- LAST_RSSI, 0x80 before any (R201)
        (look b.tabs a 0).toNat ^^^ 0x80
      else (look b.tabs a 0).toNat
  | none =>
    -- the hot table and the record buffer (R214, R217)
    if (0x2400000 ≤ a ∧ a < 0x2600000) ∨ (recBuf ≤ a ∧ a < recBuf + 256) then (look b.tabs a 0).toNat else 0

/-- A dword of a table window (R23, R24). -/
def Block.readWindow (b : Block) (a : Nat) : Nat :=
  match windowOwner a with
  | none => 0
  | some o =>
    if b.windowOpen o then sumNat ((List.range 4).map (fun i => 2 ^ (8 * i) * b.windowByte (a + i))) else 0

/-- A dword of BAR0 without the side effects of reading it. -/
def Block.readWord (fu : Fuses) (b : Block) (a : Nat) : Nat :=
  let a := a / 4 * 4
  if a < 0x2000000 then b.readReg fu a else b.readWindow a

end Sys2Proof.Machine
end

