-- ==== Sys2Proof/Machine/RegWrite.lean ====
section
/-! DEFINITION. What a write does to a register by the types of its fields (R6, R28 to R31) and to a table window (R23 to R27, R46),
with what the owners of the entries do then (R109, R126, R138, R139, R149). -/

namespace Sys2Proof.Machine

/-! ### Fields by type -/

/-- The engine whose running refuses an RW-H write to a register at address a (R6). -/
def hOwner (a : Nat) : Nat :=
  let o := shadowOwner a
  if o < 12 then o else if o < 16 then feOwner (o - 12) else 11

/-- A shadow put in the place of its register; a later write replaces it (R6). -/
def shadowIns (l : List (Fld × Nat)) (f : Fld) (v : Nat) : List (Fld × Nat) :=
  l.filter (fun s => decide (s.1.key < f.key)) ++ [(f, v)] ++ l.filter (fun s => decide (f.key < s.1.key))

/-- One field of a register written with v, a bit field of its width. -/
def Block.putField (b : Block) (refused : Bool) (f : Fld) (v : Nat) : Block :=
  match f.ty with
  | .rwL => b.set f v
  | .rwH => if refused then b else b.set f v
  | .rwB => { b with shadows := shadowIns b.shadows f v }
  | .w1c => b.set f (b.get f &&& (v ^^^ (2 ^ f.width - 1)))
  | .ro => b
  | .wo => b
  | .tal => b
  | .fus => b

/-- A write of v to a register by the types of its fields: an RW-H write to a running engine and a write to a tally leave a NOTE
record; shadows that nothing holds up take effect at once (R29). -/
def Block.storeReg (b : Block) (road : Road) (d : RegDesc) (v : Nat) : Block :=
  let has (t : RegType) : Bool := d.fields.any (fun f => f.ty == t)
  let refused := has .rwH && b.busyH (hOwner d.addr)
  let b := if refused || has .tal then b.noteWrite road d.addr v else b
  let b := d.fields.foldl (fun b f => b.putField refused f (v / 2 ^ f.lo % 2 ^ f.width)) b
  if has .rwB then b.settleShadows (shadowOwner d.addr) else b

/-! ### Registers of the block with a rule of their own -/

/-- _ENG_CTRL written (R13, R14, R30). -/
def Block.engCtrlWrite (fu : Fuses) (b : Block) (e v : Nat) : Block :=
  let b := if bitOf v 3 then b.clearSet (.lanes (Fin.ofNat 12 e)) else b
  let b := b.setB (F.ENG_CTRL.CNT_FREEZE e) (bitOf v 2)
  let b := if b.hold e == bitOf v 1 then b else b.holdWrite e (bitOf v 1)
  if b.on (F.ENG_CTRL.STOP e) == bitOf v 0 then b else b.stopWrite fu e (bitOf v 0)

/-- A counter selector written: the selection first, then CLEAR of the set it names. -/
def Block.selWrite (b : Block) (road : Road) (d : RegDesc) (v : Nat) : Block :=
  let b := b.storeReg road d v
  if bitOf v 9 then (match b.selected d.addr with | some c => b.clearSet c | none => b) else b

/-- LMx_BH_CTRL written (R132): EN beside the other link MAC's EN is ignored, with CONFLICT and a NOTE record; between two EN of
one start LM-6G's wins. -/
def Block.bhWrite (b : Block) (road : Road) (d : RegDesc) (r v : Nat) : Block :=
  if b.busyH (lmEngine r) then b.noteWrite road d.addr v
  else
    let b := (b.storeReg road d v).set (F.LM_BH_STATUS.CONFLICT r) 0
    let q := 1 - r
    if !(b.on (F.LM_BH_CTRL.EN r) && b.bhOn q) || decide (2 ≤ r) then b
    else if r = 0 && !b.ost.started then (b.set (F.LM_BH_STATUS.CONFLICT q) 1).noteWrite road (R.LM_BH_CTRL q) (b.word (R.LM_BH_CTRL q))
    else (b.set (F.LM_BH_STATUS.CONFLICT r) 1).noteWrite road d.addr v

/-- LOCK_MBACK written (R320): EN is not applied to an area that does not fit. -/
def Block.mbackWrite (b : Block) (road : Road) (d : RegDesc) (v : Nat) : Block :=
  if b.busyH 2 then b.noteWrite road d.addr v
  else
    let b := b.storeReg road d v
    if b.on F.LOCK_MBACK.EN && !b.mbackFits b.backBase then (b.set F.LOCK_MBACK.EN 0).noteWrite road d.addr v else b

/-- CLERK_LEDGER_CFG written (R341, R342). -/
def Block.ledgerCfg (b : Block) (road : Road) (v : Nat) : Block :=
  let en := bitOf v 31
  let n := v % 32
  if b.on F.CLERK_LEDGER_CFG.EN then
    if en then (if n = b.get F.CLERK_LEDGER_CFG.SIZE_LOG2 then b else b.noteWrite road R.CLERK_LEDGER_CFG v)
    else
      let b := (b.set F.CLERK_LEDGER_CFG.EN 0).set F.CLERK_LEDGER_CFG.SIZE_LOG2 n
      { b with clerk := { b.clerk with waiting := 0, msixSince := 0, msixFirst := 0, msixUrgent := false } }
  else
    let b := b.set F.CLERK_LEDGER_CFG.SIZE_LOG2 n
    if en then ((b.set F.CLERK_LEDGER_CFG.EN 1).set F.CLERK_LEDGER_HEAD.HEAD 0).set F.CLERK_LEDGER_TAIL.TAIL 0 else b

/-- CLERK_LEDGER_TAIL written (R342): neither behind TAIL nor ahead of HEAD. Space in the ring feeds what waits (R343). -/
def Block.ledgerTail (b : Block) (road : Road) (v : Nat) : Block :=
  let t := v % 2 ^ 17
  let tail := b.get F.CLERK_LEDGER_TAIL.TAIL
  if b.ledgerUsed < (t + 2 ^ 17 - tail) % 2 ^ 17 then b.noteWrite road R.CLERK_LEDGER_TAIL v
  else (b.set F.CLERK_LEDGER_TAIL.TAIL t).feedAll

/-- HOST_TXn_CTRL or HOST_RXn_CTRL written (R335, R338): setting EN starts the ring from index 0 and ends its stop. -/
def Block.ringCtrl (b : Block) (q v : Nat) : Block :=
  let was := b.on (F.HOST_RING_CTRL.EN q)
  let b := (b.setB (F.HOST_RING_CTRL.EN q) (bitOf v 31)).set (F.HOST_RING_CTRL.SIZE_LOG2 q) v
  if bitOf v 31 && !was then
    let f := if q < 8 then F.HOST_STATUS.TX_STOPPED else F.HOST_STATUS.RX_STOPPED
    ((b.set (F.HOST_RING_PROD.PROD q) 0).set (F.HOST_RING_CONS.CONS q) 0).set f (setBit (b.get f) (q % 8) false)
  else b

/-- HOST_TXn_BASE or HOST_RXn_BASE written: ignored with a NOTE record while EN is 1. -/
def Block.ringBaseWrite (b : Block) (road : Road) (q : Nat) (d : RegDesc) (v : Nat) : Block :=
  if b.on (F.HOST_RING_CTRL.EN q) then b.noteWrite road d.addr v else b.storeReg road d v

/-- WATCH_BATT written: HALT_MV 0 lifts the LOWBAT ceiling (R396). -/
def Block.battWrite (b : Block) (road : Road) (d : RegDesc) (v : Nat) : Block :=
  let b := b.storeReg road d v
  if b.get F.WATCH_BATT.HALT_MV = 0 then b.liftLowbat else b

/-- The registers of the block whose write is more than a store: none for any other. The writes that reach fuses or the Assay die
are in Bus.lean. -/
def Block.regRule (fu : Fuses) (b : Block) (road : Road) (d : RegDesc) (v : Nat) : Option Block :=
  let a := d.addr
  let off := a % 0x100000
  if (b.selected a).isSome then some (b.selWrite road d v)
  else match blockEngine (a / 0x100000), off with
  | some e, 0x004 => some (b.engCtrlWrite fu e v)
  | some e, 0x018 => some (b.bankReq e v)
  | _, _ =>
    if a = R.TOP_ENG_GATE then some (b.gateWrite fu v)
    else if a = R.TOP_ENG_RESET then some (b.engResets (v % 2 ^ 12))
    else if a = R.TOP_SECT_RESET then some (b.sectResets (v % 2 ^ 6))
    else if a = R.TOP_DEV_RESET then some (b.devReset fu road v)
    else if a = R.PHY_BANK_REQ then some (b.bankReq 12 v)
    else if a = R.RFC_BANK_REQ then some (b.bankReq 13 v)
    else if a = R.LM_BH_CTRL 0 then some (b.bhWrite road d 0 v)
    else if a = R.LM_BH_CTRL 1 then some (b.bhWrite road d 1 v)
    else if a = R.POST_TCMD then some (b.tcmdWrite road (v / 2 ^ 28) (v % 2 ^ 17))
    else if a = R.RFC_IMGCAP then some (b.imgcapWrite road v)
    else if a = R.RFC_CHAIN_REVIVE then some (b.revive v)
    else if a = R.CART_L2CMD then some (b.l2Cmd (v / 2 ^ 28))
    else if a = R.CART_TIME_ADJ then some (b.timeStepBy (signedOf 32 v))
    else if a = R.LOCK_KCMD then some (b.keyCommand fu road v)
    else if a = R.LOCK_MBACK then some (b.mbackWrite road d v)
    else if a = R.CLERK_LEDGER_BASE_LO ∨ a = R.CLERK_LEDGER_BASE_HI then
      some (if b.on F.CLERK_LEDGER_CFG.EN then b.noteWrite road a v else b.storeReg road d v)
    else if a = R.CLERK_LEDGER_CFG then some (b.ledgerCfg road v)
    else if a = R.CLERK_LEDGER_TAIL then some (b.ledgerTail road v)
    else if a = R.CLERK_LEDGER_STATUS then
      some (if bitOf v 31 then (b.set F.CLERK_LEDGER_STATUS.OVERFLOW 0).set F.CLERK_LEDGER_STATUS.DROPPED 0 else b)
    else if a = R.CLERK_DONE then some (b.serveDone (bitsOf v 12 8) (v % 256))
    else if a = R.CLERK_ERR_ACK then some (b.errAckWrite v)
    else if a / 0x100000 = 19 ∧ 0x100 ≤ off ∧ off < 0x300 then
      (let q := (off - 0x100) / 0x20
       match off % 0x20 with
       | 0x08 => some (b.ringCtrl q v)
       | 0x00 => some (b.ringBaseWrite road q d v)
       | 0x04 => some (b.ringBaseWrite road q d v)
       | _ => none)
    else if a = R.CLK_XMODE then some (b.storeReg road d (v &&& 0x085))
    else if a = R.WATCH_GAIT_REQ then some (b.gaitReqWrite road v)
    else if a = R.WATCH_WAKE_EN then
      some ((b.set F.WATCH_WAKE_EN.WAKE (v % 256 ||| 0xE1)).set F.WATCH_WAKE_EN.RISE (v / 2 ^ 16 % 64))
    else if a = R.WATCH_TIMER_LO then some (b.updWatch (fun w => { w with timerLo := v }))
    else if a = R.WATCH_TIMER_HI then some ((b.set F.WATCH_TIMER_LO.TIME b.watch.timerLo).set F.WATCH_TIMER_HI.TIME v)
    else if a = R.WATCH_BATT then some (b.battWrite road d v)
    else if a = R.SEC_DBG_CTRL then some (b.dbgCtrlWrite road v)
    else if a = R.SEC_ZEROISE then some (b.zeroiseWrite fu v)
    else if a = R.FLASH_TALLY_DATA then some (b.tallyRoad road (b.get F.FLASH_TALLY_IDX.ID) v)
    else if a = R.PIN_GPIO_OE ∨ a = R.PIN_GPIO_OUT then
      (let b := b.storeReg road d v
       some (if b.gpioOn then b.gpioLevels (b.gpioDriven (b.get F.PIN_GPIO_IN.IN)) else b))
    else none

/-- A write of v to register d of the block. -/
def Block.regWrite (fu : Fuses) (b : Block) (road : Road) (d : RegDesc) (v : Nat) : Block :=
  match b.regRule fu road d v with
  | some b' => b'
  | none => b.storeReg road d v

/-! ### Table windows -/

/-- Bytes written into a table: into the inactive bank or both banks of a banked one, into the steward-owned bytes of a live one
(R25, R26, R46). -/
def Block.tableBytes (b : Block) (t : TableDesc) (both : Bool) (a : Nat) (bs : List Byte) : Block :=
  match t.kind with
  | .banked n =>
    if both then (b.setTabBytes a bs).setTabBytes (a + bankOff 1) bs
    else b.setTabBytes (a + bankOff (1 - b.active t.owner n)) bs
  | .live =>
    (List.range bs.length).foldl (fun b i =>
      let o := (a + i - t.base) % t.stride
      if t.hw.any (fun h => decide (h.1 ≤ o ∧ o < h.1 + h.2)) then b else b.setTabBytes (a + i) [nth bs i 0]) b

/-- The link MAC window that holds address a. -/
def winRadio (a : Nat) : Nat := (0x2CFFFFF - a) / 0x100000

/-- A TWT entry whose NEXT_WAKE is already past starts at the next multiple of INTERVAL after it (R126). -/
def Block.twtWritten (b : Block) (r i : Nat) : Block :=
  let a := lmWin r + 0x12000 + 32 * i
  let next := b.tab (a + 0x10) 8
  let step := b.tab (a + 8) 4
  let now := (b.lmAt r).tsf
  if bitOf (b.tab a 2) 15 && decide (next < now) && step != 0 then
    b.setTab (a + 0x10) 8 (next + ceilDiv (now - next) step * step)
  else b

/-- A multi-link record set VALID (R138). -/
def Block.mlWritten (b : Block) (i : Nat) (was : Bool) : Block :=
  let a := mlAddr i
  if bitOf (b.tab a 2) 15 && !was then
    (((b.setTab (a + 0xC) 1 (bitsOf (b.tab (a + 3) 1) 2 1)).setTab (a + 0xD) 1 0).setTab (a + 0x10) 6 0).setTab (a + 0x18) 8 0
  else b

/-- A station without ML is valid in more than one link MAC (R139). -/
def Block.twoLinks (b : Block) (sta : Nat) : Bool :=
  b.drovValid sta && !bitOf (b.drovCtrl sta) 6 &&
    decide (2 ≤ ([0, 1, 2].filter (fun r => b.staValid r sta)).length)

/-- The NOTE record of R139 when a write brings that about. -/
def Block.linksNoted (b : Block) (before : Block) (sta : Nat) : Block :=
  if b.twoLinks sta && !before.twoLinks sta then b.note 4 0 (bytesLE 2 sta) else b

/-- A frame belongs to a committed plan. -/
def Block.inCommitted (b : Block) (f : QFrame) : Bool :=
  b.drov.plans.any (fun p => p.committed && p.users.any (fun u => u.frames.contains f.id))

/-- Drover's entry of a station written (R148, R149): VALID set clears the hardware's fields (DESIGN CHOICE, log entry 37), VALID
cleared drops every queued frame outside a committed plan. -/
def Block.drovWritten (b : Block) (sta : Nat) (was : Bool) : Block :=
  let now := b.drovValid sta
  if now && !was then
    let b := [0, 1, 2, 3].foldl (fun b ac => b.bookAdd sta ac (-(b.deficit sta ac))) b
    let b := (b.setTab (drovSta sta + 0x14) 44 0).setTab (drovSta sta + 0x3C) 2 0xFFFF
    b.updDrov (fun d => { d with seen := d.seen.filter (fun k => k / 4 != sta) })
  else if was && !now then
    [0, 1, 2, 3].foldl (fun b ac => b.purgeQueue (4 * sta + ac) (fun f => !b.inCommitted f)) b
  else b

/-- What the owner does with entry i of table t, bytes lo to hi of which have been written, before being the block as it was. -/
def Block.entryWritten (b : Block) (before : Block) (t : TableDesc) (i lo hi : Nat) : Block :=
  if t.base = 0x2D00000 then b.mlWritten i (bitOf (before.tab (mlAddr i) 2) 15)
  else if t.base = 0x2800000 then (b.drovWritten i (before.drovValid i)).linksNoted before i
  else if 5 ≤ t.owner ∧ t.owner ≤ 7 then
    let r := winRadio t.base
    if t.base = lmWin r + 0x40000 then b.agrWritten r i (bitOf (before.tab (agrAddr r i) 2) 15)
    else if t.base = lmWin r + 0x12000 then (if lo < 4 ∨ (lo ≤ 0x17 ∧ 0x10 ≤ hi) then b.twtWritten r i else b)
    else if t.base = lmWin r + 0x20000 then b.linksNoted before i
    else b
  else b

/-- Bytes written into a table, and what its owner does with the entries they touch. -/
def Block.tableWrite (b : Block) (t : TableDesc) (both : Bool) (a : Nat) (bs : List Byte) : Block :=
  let b' := b.tableBytes t both a bs
  if bs.isEmpty then b
  else
    let first := (a - t.base) / t.stride
    let last := (a + bs.length - 1 - t.base) / t.stride
    (List.range (last + 1 - first)).foldl (fun c k =>
      let i := first + k
      let e := t.base + t.stride * i
      c.entryWritten b t i (a - e) (min (t.stride - 1) (a + bs.length - 1 - e))) b'

/-- A dword written to the key staging buffer (R309). -/
def Block.stageKey (b : Block) (o v : Nat) : Block :=
  b.updLock (fun l => { l with
    staged := true
    staging := (List.range 4).foldl (fun m i => put m (o + i) (v / 2 ^ (8 * i) % 256) 0) l.staging })

/-- A dword written to a table window (R23 to R27). -/
def Block.windowWrite (b : Block) (road : Road) (a v : Nat) : Block :=
  match windowOwner a with
  | none => b
  | some o =>
    if !b.windowOpen o then b.noteWrite road a v
    else match tableAt a with
    | some t =>
      let pend := match t.kind with | .banked n => (b.bankOp t.owner n).isSome | .live => false
      if pend then b.noteWrite road a v else b.tableWrite t false a (bytesLE 4 v)
    | none =>
      if recBuf ≤ a ∧ a < recBuf + 256 then b.setTabBytes a (bytesLE 4 v)
      else if 0x3000000 ≤ a ∧ a < 0x3000020 then b.stageKey (a - 0x3000000) v
      else b

end Sys2Proof.Machine
end

