-- ==== Sys2Proof/Machine/Image.lean ====
section
/-! DEFINITION. The NOR map and the Ramlan image (R36 to R46, R52, R55, R467): reading a slot, the checks of pass 1 in the order
of FAIL_A, the run index. -/

namespace Sys2Proof.Machine

/-! ### Bytes -/

/-- n bytes of l from offset o, little-endian. -/
def leAt (l : List Byte) (o n : Nat) : Nat := natLE ((l.drop o).take n)

/-- The 32-bit little-endian words of a byte list. -/
def wordsLE (l : List Byte) : List Nat := (pieces 4 l.length l).map natLE

/-- Set bits of the rollback thermometer (R420). -/
def Fuses.rollback (fu : Fuses) : Nat := popcount (fuseNum fu.sec 0x10 8)

/-- The ROOT_HASH of slot s (R420). -/
def Fuses.rootHash (fu : Fuses) (s : Nat) : List Byte := fuseBytes fu.sec (0x20 + 32 * s) 32

/-- The jobs of checking a signature block at offset o of l, in Locksmith's hash and verifier lanes (R42, R325). -/
def Block.sigJobs (fu : Fuses) (b : Block) (l : List Byte) (o : Nat) : Block :=
  let slot := leAt l o 1
  let pub := (l.drop (o + 8)).take 64
  if !fu.rootUsable slot then b
  else if sha256 pub != fu.rootHash slot then b.hashJob 64
  else ((b.hashJob 64).hashJob o).verifyJob
    (ecdsaVerify pub (sha256 (l.take o)) ((l.drop (o + 72)).take 32) ((l.drop (o + 104)).take 32))

/-- A signature block at offset o of l meets R42 over the bytes before it: 0, or the failure cause 8 or 9. Its 7 reserved bytes are
not looked at: no cause speaks of them (DESIGN CHOICE, log entry 102). -/
def Fuses.sigCause (fu : Fuses) (l : List Byte) (o : Nat) : Nat :=
  let slot := leAt l o 1
  let pub := (l.drop (o + 8)).take 64
  if !fu.rootUsable slot || sha256 pub != fu.rootHash slot then 8
  else if ecdsaVerify pub (sha256 (l.take o)) ((l.drop (o + 72)).take 32) ((l.drop (o + 104)).take 32) then 0 else 9

/-! ### The NOR map (R37, R38) -/

/-- Two areas overlap: each begins before the other ends. An empty staging area whose offset lies inside another area counts as
overlapping it, of which R38 does not speak (DESIGN CHOICE, log entry 146). -/
def overlaps (a n b m : Nat) : Bool := decide (a < b + m ∧ b < a + n)

/-- The fields of a map copy, when it is valid on a NOR of size bytes. -/
def mapOf (l : List Byte) (size : Nat) : Option NorMap :=
  let m : NorMap := ⟨leAt l 0x08 4, leAt l 0x0C 4, leAt l 0x10 4, leAt l 0x14 4, leAt l 0x18 4⟩
  let areas := [(m.slotA, m.slotSize), (m.slotB, m.slotSize), (m.stage, m.stageSize)]
  let apart := !overlaps m.slotA m.slotSize m.slotB m.slotSize && !overlaps m.slotA m.slotSize m.stage m.stageSize &&
    !overlaps m.slotB m.slotSize m.stage m.stageSize
  if leAt l 0 4 = 0x4D4C4D52 && crc32 (l.take 0x3C) == leAt l 0x3C 4 && leAt l 4 2 == 1 && leAt l 6 2 == 0 &&
      ((l.drop 0x1C).take 32).all (· == 0) &&
      [m.slotA, m.slotB, m.slotSize, m.stage, m.stageSize].all (fun x => x % 0x10000 == 0) &&
      decide (0x10000 ≤ m.slotSize ∧ m.slotSize ≤ 0x1000000 ∧ m.stageSize ≤ 0x2000000) &&
      apart && areas.all (fun x => !overlaps x.1 x.2 0 0x2000 && decide (x.1 + x.2 ≤ size)) then some m
  else none

/-! ### Records (R43, R44, R45) -/

/-- The record at the head of ws, with its length in words; none when it is malformed. END is not one of them. -/
def parseRec (ws : List Nat) : Option (ImgRec × Nat) :=
  match ws with
  | [] => none
  | h :: t =>
    let fl := h / 2 ^ 20 % 16
    let n := h % 2 ^ 20
    let ok (r : ImgRec) (good : Bool) : Option (ImgRec × Nat) := if good then some (r, n) else none
    if n = 0 ∨ t.length + 1 < n then none
    else match h / 2 ^ 24, t.take (n - 1) with
    | 1, [a, v, m] => ok (.set a v m) (fl == 0 && a % 4 == 0)
    | 2, a :: c :: ds => ok (.fill a (ds.flatMap (bytesLE 4))) (fl == 0 && a % 4 == 0 && c % 4 == 0 && decide (4 ≤ c) && n == 3 + c / 4)
    | 3, [a, c] => ok (.zero a c) (fl == 0 && a % 4 == 0 && c % 4 == 0 && decide (4 ≤ c))
    | 4, [a, m, v, w] => ok (.wait fl a m v w) (decide (fl < 4) && a % 4 == 0 && decide (a < 0x2000000))
    | 5, [g, x] => ok (.gait g x) (fl == 0)
    | _, _ => none

/-- The records of an area up to END, each with its offset and length in words from the area's start. -/
def parseRecs : Nat → Nat → List Nat → List (Nat × Nat × ImgRec) → Option (List (Nat × Nat × ImgRec))
  | 0, _, _, _ => none
  | k + 1, off, ws, acc =>
    if ws = [0x0F000002, acc.length] then some acc.reverse
    else match parseRec ws with
    | some (r, n) => parseRecs k (off + n) (ws.drop n) ((off, n, r) :: acc)
    | none => none

/-- The window owner and the bytes that a FILL or ZERO addresses. -/
def ImgRec.target : ImgRec → Option (Nat × Nat)
  | .fill a d => some (a, d.length)
  | .zero a n => some (a, n)
  | _ => none

/-- The engine to whose run a FILL or ZERO at address a belongs: the window's owner; radio r's part of the PHY window belongs to its
link MAC (R93). -/
def runOwner (a : Nat) : Option Nat :=
  match windowOwner a with
  | some 12 => if a < 0x34C0000 then some (lmEngine ((a - 0x3400000) / 0x40000)) else none
  | o => o

/-- The record is aimed at the window of engine e, or belongs to its run. -/
def ImgRec.aimsAt (e : Nat) (r : ImgRec) : Bool :=
  match r.target with
  | some (a, _) => runOwner a == some e
  | none => false

/-- Positions of the records aimed at engine e's window. -/
def runPos (e : Nat) (rs : List (Nat × Nat × ImgRec)) : List Nat :=
  (List.range rs.length).filter (fun i => match rs[i]? with | some (_, _, r) => r.aimsAt e | none => false)

/-- They stand side by side (R44). -/
def runWhole (e : Nat) (rs : List (Nat × Nat × ImgRec)) : Bool :=
  let p := runPos e rs
  p.isEmpty || p.getLastD 0 + 1 - p.headD 0 == p.length

/-- The run index entry of engine e (R55): offset from the image's start, bytes, SHA-256. -/
def runOf (img : List Byte) (rs : List (Nat × Nat × ImgRec)) (e : Nat) : Option RunIdx :=
  let mine := rs.filter (fun x => x.2.2.aimsAt e)
  match mine.head?, mine.getLast? with
  | some f, some l =>
    let o := 64 + 4 * f.1
    let n := 4 * (l.1 + l.2.1 - f.1)
    some ⟨e, o, n, sha256 ((img.drop o).take n)⟩
  | _, _ => none

/-- A GAIT record that R45 allows. -/
def gaitOk (g gate : Nat) : Bool :=
  decide (g ≤ 3) && (if g = 1 then gate != 0 && gate &&& 0xE0 == gate else gate == 0)

/-- The record area obeys R44: GAIT first and once, one run per engine. -/
def areaOk (rs : List (Nat × Nat × ImgRec)) : Bool :=
  (match rs with
   | (_, _, .gait g x) :: t => gaitOk g x && t.all (fun r => match r.2.2 with | .gait _ _ => false | _ => true)
   | _ => false) && (List.range 12).all (fun e => runWhole e rs)

/-- A target that R45 permits: a register that carries IMG; one table that is not hardware-owned as a whole. -/
def targetOk (r : ImgRec) : Bool :=
  match r with
  | .set a _ _ => match Regs.find a with | some d => d.img | none => false
  | .fill a d => (match tableAt a with
    | some t => decide (a + d.length ≤ t.base + t.size) && t.hw != [(0, t.stride)]
    | none => false)
  | .zero a n => (match tableAt a with
    | some t => decide (a + n ≤ t.base + t.size) && t.hw != [(0, t.stride)]
    | none => false)
  | _ => true

/-! ### The migration area (R467) -/

/-- The destination of a conversion record. -/
def MigRec.dst : MigRec → Nat
  | .move d _ => d
  | .scale d _ _ _ _ => d
  | .dflt d _ => d
  | .drop d => d

/-- The sections of a migration area so far, with record r appended to the last one. -/
def migAdd (acc : List (Nat × List MigRec)) (w : Nat) (r : MigRec) : Option (List (Nat × List MigRec)) :=
  match acc.getLast? with
  | none => none
  | some (f, rs) =>
    if w % 2 ^ 28 != r.dst || !decide (512 ≤ r.dst ∧ r.dst < 2048) || rs.any (fun q => q.dst == r.dst) then none
    else some (acc.dropLast ++ [(f, rs ++ [r])])

/-- A tally number that migration may name. -/
def migId (n : Nat) : Bool := decide (512 ≤ n ∧ n < 2048)

/-- The sections of a migration area: source layout and conversion records; none when it is malformed. -/
def parseMig : Nat → List Nat → List (Nat × List MigRec) → Option (List (Nat × List MigRec))
  | _, [], acc => some acc
  | 0, _, _ => none
  | k + 1, h :: t, acc =>
    let n := h % 2 ^ 20
    if h / 2 ^ 20 ≠ 0x60 ∨ n < 2 ∨ t.length + 1 < n then none
    else
      let b := t.take (n - 1)
      let w := b.headD 0
      let d := w % 2 ^ 11
      let acc' : Option (List (Nat × List MigRec)) :=
        match w / 2 ^ 28, b with
        | 0, [_] => if w < 2 ^ 16 then some (acc ++ [(w, [])]) else none
        | 1, [_, s] => if migId s then migAdd acc w (.move d s) else none
        | 2, [_, x, m, a] =>
          if migId (x % 2 ^ 16) && decide (x < 2 ^ 22) then migAdd acc w (.scale d (x / 2 ^ 16) (x % 2 ^ 16) m a) else none
        | 3, [_, v] => migAdd acc w (.dflt d v)
        | 4, [_] => migAdd acc w (.drop d)
        | _, _ => none
      match acc' with
      | some a => parseMig k (t.drop (n - 1)) a
      | none => none

/-- The sections obey R467 for an image of this layout. -/
def migOk (ss : List (Nat × List MigRec)) (layout : Nat) : Bool :=
  decide (1 ≤ ss.length ∧ ss.length ≤ 4) && ss.all (fun s => !s.2.isEmpty && s.1 != layout) &&
    decide ((ss.map (fun s => s.1)).Nodup)

/-! ### Pass 1 (R52) -/

/-- Magic and header CRC of an image (R40). -/
def hdrCrcOk (l : List Byte) : Bool := crc32 (l.take 0x3C) == leAt l 0x3C 4

/-- Header values that R40 allows, and areas that lie within the slot (R38): the offset of the signature block. -/
def imgSigAt (l : List Byte) : Option Nat :=
  let recLen := leAt l 0x18 4
  let migOff := leAt l 0x1C 4
  let migLen := leAt l 0x20 4
  let e := 64 + recLen + migLen
  if leAt l 0x0D 1 ≤ 1 ∧ leAt l 0x0C 1 ≤ 64 ∧ leAt l 0x14 4 = 64 ∧ recLen % 4 = 0 ∧ migLen % 4 = 0 ∧
      (if migOff = 0 then migLen = 0 else migOff = 64 + recLen) ∧ e + 136 ≤ l.length then some e
  else none

/-- The structure of an image (cause 6): its records with their places, its migration sections, the signature block's offset. -/
def imgBody (l : List Byte) : Option (List (Nat × Nat × ImgRec) × List (Nat × List MigRec) × Nat) :=
  match imgSigAt l with
  | none => none
  | some e =>
    let recLen := leAt l 0x18 4
    let ws := wordsLE ((l.drop 64).take recLen)
    let ms := wordsLE ((l.drop (64 + recLen)).take (e - 64 - recLen))
    match parseRecs (ws.length + 1) 0 ws [], parseMig ms.length ms [] with
    | some rs, some ss =>
      if areaOk rs && (leAt l 0x1C 4 == 0 || migOk ss (leAt l 0x0E 2)) then some (rs, ss, e) else none
    | _, _ => none

/-- The checks of pass 1 on a plaintext slot, in the order of FAIL_A (R52): a cause, or what Ostler keeps of the image and its
run index. -/
def imgCheck (fu : Fuses) (slot : Nat) (l : List Byte) : Nat × Option (ImgFacts × List RunIdx) :=
  if leAt l 0 4 ≠ 0x4E4C4D52 ∨ !hdrCrcOk l then (2, none)
  else if leAt l 4 2 ≠ 1 ∨ leAt l 6 2 ≠ 64 then (3, none)
  else if leAt l 0x10 2 ≠ 0x3256 ∨ !(leAt l 0x12 1 == 0xB0 || leAt l 0x12 1 == 0xFF) then (4, none)
  else if leAt l 0x0C 1 < fu.rollback then (5, none)
  else match imgBody l with
  | none => (6, none)
  | some (rs, ss, e) =>
    if !rs.all (fun r => targetOk r.2.2) then (7, none)
    else
      let c := fu.sigCause l e
      if c ≠ 0 then (c, none)
      else
        let g := match rs with | (_, _, .gait g x) :: _ => (g, x) | _ => (3, 0)
        (0, some ({ slot := slot, keySlot := leAt l e 1, version := leAt l 8 4, rollback := leAt l 0x0C 1
                    autoSettle := leAt l 0x0D 1 == 1, layout := leAt l 0x0E 2, gait := g.1, gate := g.2
                    records := rs.map (fun r => r.2.2), migration := ss, digest := sha256 (l.take e), length := e + 136 },
                  (List.range 12).filterMap (runOf l rs)))

/-! ### Slots -/

/-- The NOR offset of a slot. -/
def NorMap.slotAt (m : NorMap) (slot : Nat) : Nat := if slot = 0 then m.slotA else m.slotB

/-- The plaintext of n bytes of a slot from unit u on (R39). -/
def Block.slotUnits (fu : Fuses) (b : Block) (m : NorMap) (slot u n : Nat) : List Byte :=
  let raw := b.norBytes (m.slotAt slot + 4096 * u) (4096 * n)
  xtsUnits (xtsDec fu.slotKey) u (pieces 4096 raw.length raw)

/-- The plaintext of a whole slot. -/
def Block.slotPlain (fu : Fuses) (b : Block) (m : NorMap) (slot : Nat) : List Byte :=
  b.slotUnits fu m slot 0 (m.slotSize / 4096)

/-- n bytes of a slot's plaintext from byte o on. -/
def Block.slotBytes (fu : Fuses) (b : Block) (m : NorMap) (slot o n : Nat) : List Byte :=
  let u := o / 4096
  ((b.slotUnits fu m slot u (ceilDiv (o + n) 4096 - u)).drop (o % 4096)).take n

/-- The signature jobs of checking a slot that gets as far as its signature (R52). -/
def Block.slotJobs (fu : Fuses) (b : Block) (m : NorMap) (slot : Nat) : Block :=
  let l := b.slotPlain fu m slot
  match imgBody l with
  | some (rs, _, e) =>
    if fu.hasSecret && [0, 8, 9].contains (imgCheck fu slot l).1 && rs.all (fun r => targetOk r.2.2) then b.sigJobs fu l e else b
  | none => b

/-- A slot under pass 1: cause 12 when it could not be read, 8 while no slot key exists (R423). -/
def Block.slotCheck (fu : Fuses) (b : Block) (m : NorMap) (slot : Nat) (readOk : Bool) : Nat × Option (ImgFacts × List RunIdx) :=
  if !fu.hasSecret then (8, none)
  else if !readOk then (12, none)
  else imgCheck fu slot (b.slotPlain fu m slot)

end Sys2Proof.Machine
end

