-- ==== Sys2Proof/Machine/Steward.lean ====
section
/-! DEFINITION. Creosh frames as LOCAL sends them (R348, R350, R351): the floor of a start, the outgoing SEQ block, the tag, replies and their way through Carter. -/

namespace Sys2Proof.Machine

/-- b with the Creosh state changed. -/
def Block.updCreosh (b : Block) (f : Creosh → Creosh) : Block := { b with creosh := f b.creosh }

/-- The floor of this start (R350): FLOOR + 1, written once and not in EXHAUSTED; H cleared once the write is persistent. -/
def Block.creoshFloor (b : Block) : Block :=
  if b.creosh.floorDone || !b.runs 1 || !b.tallyOk 6 then b
  else
    let b := if b.creosh.floorAsked then b
      else (b.tallyPut 6 (b.tally 6 + 1)).updCreosh (fun c => { c with floorAsked := true })
    if b.tallyDone 6 then b.updCreosh (fun c => { c with floorDone := true, high := 0, seen := [] }) else b

/-- An outgoing block for the next frame (R351): B + 1 is written before the first frame of a start and whenever a block is
used up, and serves once the write is persistent. -/
def Block.creoshBlock (b : Block) : Block :=
  if b.creosh.txReady && decide (b.creosh.txNext < 65536) then b
  else if !b.tallyOk 7 then b
  else
    let b := if b.creosh.txAsked then b
      else (b.tallyPut 7 (b.tally 7 + 1)).updCreosh (fun c => { c with txAsked := true, txReady := false })
    if b.tallyDone 7 then b.updCreosh (fun c => { c with txReady := true, txAsked := false, txNext := 0 }) else b

/-- The octets of a Creosh frame before its tag (R348). -/
def creoshHead (op status seq : Nat) (body : List Byte) : List Byte :=
  [1, BitVec.ofNat 8 op, BitVec.ofNat 8 status, 0] ++ bytesLE 8 seq ++ bytesLE 2 body.length ++ [0, 0] ++ body

/-- The IV of a frame (R348): SEQ then DIR. -/
def creoshIv (seq dir : Nat) : List Byte := bytesLE 8 seq ++ bytesLE 4 dir

/-- Where a frame of LOCAL leaves (R290, R292): the port its request came in by, toward the station of the request's SA when
that port is AIR; in the lame state the host receive ring. MESH and LOCAL bring no request. -/
def Block.creoshCopies (b : Block) (p : RetPath) : List Copy :=
  if b.lame then [.trough 2]
  else match portOf p.src with
  | 0 => [.trough 0] | 1 => [.trough 1] | 2 => [.trough 2] | 5 => [.backhaul]
  | 4 => (match b.staOf ((p.src - 16) / 16) p.sa with | some i => [.sta i none] | none => [])
  | _ => []

/-- A frame of LOCAL enters Carter from source 10 without lookup, in class CART_STEWARD.CLASS (R270, R290, R292). -/
def Block.creoshRoute (b : Block) (p : RetPath) (octets : List Byte) : Block :=
  if !b.runs 3 then b
  else
    let f : EthFrame := { da := p.sa, sa := b.cartMac, etype := b.get F.CART_STEWARD.ETYPE, payload := octets }
    let b := (b.cartCount 6 C.CART.RX_FRAMES).lane 3 0 0
    b.sendOut { src := 10, len := frameLen f, fcs := .good, frame := f } none p.vlan b.stewCls f (b.creoshCopies p)

/-- One frame sent with the next SEQ of the block in use, put out as LOCAL hands it over and queued in Carter (log entry 38);
nothing is sent while the steward key gives no tag (R314). -/
def Block.creoshEmit (b : Block) (f : CreoshOut) : Block :=
  let seq := b.tally 7 * 65536 + b.creosh.txNext
  let h := creoshHead f.op f.status seq f.body
  match b.keyProtect 2 0 with
  | (none, b) => b
  | (some k, b) =>
    let b := ((b.countBlocks 0 10 h.length).updCreosh (fun c => { c with txNext := c.txNext + 1 })).count .host C.HOST.CREOSH_TX
    let octets := h ++ gmac k.key (creoshIv seq 1) h
    (b.emit (.creosh f.back.src f.back.vlan f.back.sa octets)).creoshRoute f.back octets

/-- The tally writes that a reply waits for have completed (R445). -/
def Block.replyFree (b : Block) (f : CreoshOut) : Bool := f.tallies.all b.tallyDone

/-- Frames that wait leave in order while a block serves them; a reply held by a tally write lets others pass. -/
def Block.creoshFlush (b : Block) (kept : List CreoshOut) : List CreoshOut → Block
  | [] => b.updCreosh (fun c => { c with waiting := kept })
  | f :: t =>
    let b := b.creoshBlock
    if b.replyFree f && b.creosh.txReady && decide (b.creosh.txNext < 65536) then (b.creoshEmit f).creoshFlush kept t
    else b.creoshFlush (kept ++ [f]) t

/-- A frame of LOCAL sent, or kept until its block is persistent; none in EXHAUSTED (R451). -/
def Block.creoshSend (b : Block) (f : CreoshOut) : Block :=
  if !b.tallyOk 7 then b else b.creoshFlush [] (b.creosh.waiting ++ [f])

/-- The return path of a request. -/
def reqBack (q : CreoshReq) : RetPath := ⟨q.src, q.vlan, q.sa⟩

/-- The one reply to a request (R349): OP with bit 7 set, STATUS, REQ_SEQ and the body. -/
def Block.creoshReply (b : Block) (q : CreoshReq) (op status : Nat) (body : List Byte := [])
    (tallies : List Nat := []) : Block :=
  b.creoshSend ⟨reqBack q, 128 + op % 128, status, bytesLE 8 q.seq ++ body, tallies⟩

/-- CREOSH_FLOOR_WRITE (R350). -/
def execCreoshFloorWrite (s : State) : Host.Outcome State Fault Refusal := s.next s.blk.creoshFloor

/-- CREOSH_TXBLK_WRITE (R351): what waits for the block, or for its tally writes, leaves. -/
def execCreoshTxblkWrite (s : State) : Host.Outcome State Fault Refusal :=
  let b := s.blk.creoshBlock
  s.next (b.creoshFlush [] b.creosh.waiting)

end Sys2Proof.Machine
end

