-- ==== Sys2Proof/Machine/Update.lean ====
section
/-! DEFINITION. Packhorse and the installation of a staged update (R455 to R465, R470). -/

namespace Sys2Proof.Machine

/-! ### Records, tallies, the staging area -/

/-- b with Ostler changed. -/
def Block.updOst (b : Block) (f : Ostler → Ostler) : Block := { b with ost := f b.ost }

/-- The UPDATE record (R470): UPDATE_ID, or what v says; byte 4 INSTALL, or the sheaf number for KIND 4. -/
def Block.updateRec (b : Block) (kind v byte4 : Nat) : Block := b.event 0 32 kind (bytesLE 4 v ++ bytesLE 1 byte4)

/-- INSTALL of OST_PH_STATUS. -/
def Block.installed (b : Block) : Nat := b.get F.OST_PH_STATUS.INSTALL

/-- The staging area can hold its head, a manifest and payload (R455). -/
def Block.stageUp (b : Block) : Bool := match b.ost.map with | some m => decide (0x10000 ≤ m.stageSize) | none => false

/-- Payload bytes a staging area of this size holds at most (R455). -/
def Block.payloadMax (b : Block) : Nat :=
  match b.ost.map with | some m => min 0x800000 (m.stageSize - 0x10000) | none => 0

/-- Pieces of the payload. -/
def Block.pieceCount (b : Block) : Nat := ceilDiv b.payloadLen 1024

/-- Piece p is stored: its bit in the bitmap (R459). -/
def Block.pieceSet (b : Block) (p : Nat) : Bool := bitOf (b.tally (256 + p / 32)) (p % 32)

/-- Pieces of sheaf k. -/
def Block.sheafPieces (b : Block) (k : Nat) : List Nat := (List.range 64).filterMap (fun i => if 64 * k + i < b.pieceCount then some (64 * k + i) else none)

/-- Every piece of sheaf k is stored. -/
def Block.sheafFull (b : Block) (k : Nat) : Bool := (b.sheafPieces k).all (fun p => b.pieceSet p)

/-- Sheaf k's two bitmap words written 0. -/
def Block.clearSheaf (b : Block) (k : Nat) : Block :=
  [2 * k, 2 * k + 1].foldl (fun b i => if b.tally (256 + i) = 0 then b else b.tallyPut (256 + i) 0) b

/-- Packhorse in IDLE (R462): no update held, the non-zero bitmap words 0, the head sector erased. -/
def Block.phIdle (b : Block) : Block :=
  let b := ((b.tallyPut 17 0).tallyPut 18 0)
  let b := (List.range 256).foldl (fun b i => if b.tally (256 + i) = 0 then b else b.tallyPut (256 + i) 0) b
  let b := if b.stageUp then b.norErase (b.stageAt 0) 4096 else b
  b.updOst (fun o => { o with sheafOk := [], erased := [] })

/-! ### The manifest (R456, R457) -/

/-- MAN_LEN of the manifest as stored. -/
def Block.manLen (b : Block) : Nat := b.nor (b.stageAt 0x101C) 4

/-- The manifest as stored. -/
def Block.manBytes (b : Block) : List Byte := b.norBytes (b.stageAt 0x1000) (min 8192 b.manLen)

/-- SHEAF_DIGEST of sheaf k. -/
def sheafDigest (man : List Byte) (k : Nat) : List Byte := (man.drop (0x60 + 32 * k)).take 32

/-- The payload bytes of sheaf k. -/
def Block.sheafBytes (b : Block) (k : Nat) : List Byte :=
  b.norBytes (b.stageAt (0x10000 + 65536 * k)) (min 65536 (b.payloadLen - 65536 * k))

/-- Sheaf k matches its digest. -/
def Block.sheafGood (b : Block) (k : Nat) : Bool := sha256 (b.sheafBytes k) == sheafDigest b.manBytes k

/-- A manifest meets R457, its BASE_DIGEST apart. -/
def Block.manGood (fu : Fuses) (b : Block) : Bool :=
  let l := b.manBytes
  let pay := leAt l 0x10 4
  let n := ceilDiv pay 65536
  leAt l 0 4 == 0x464D4B50 && leAt l 4 2 == 1 && (leAt l 6 1 == 1 || leAt l 6 1 == 2) && leAt l 8 4 != 0 &&
    b.manLen == 232 + 32 * n && decide (b.manLen ≤ 8192) &&
    leAt l 0x0C 2 == 0x3256 && (leAt l 0x0E 1 == 0xB0 || leAt l 0x0E 1 == 0xFF) &&
    decide (1 ≤ pay ∧ pay ≤ b.payloadMax) &&
    (match b.ost.map with | some m => decide (leAt l 0x14 4 ≤ m.slotSize) | none => false) &&
    decide (fu.rollback ≤ leAt l 0x0F 1) && fu.sigCause l (0x60 + 32 * n) == 0

/-- BASE_DIGEST of a DELTA names the running slot's image (R457). -/
def Block.manBase (b : Block) : Bool :=
  let l := b.manBytes
  leAt l 6 1 == 1 || (match b.ost.img with
    | some i => b.ost.started && i.digest == (l.drop 0x20).take 32
    | none => false)

/-! ### Replies -/

/-- A PIECE reply (R458), held until the writes to the tallies named are persistent (R459). -/
def Block.phReply (b : Block) (q : CreoshReq) (result : Nat) (more : List Byte := []) (tallies : List Nat := []) : Block :=
  b.creoshReply q 5 0 ([BitVec.ofNat 8 result, BitVec.ofNat 8 b.phState, 0, 0] ++ bytesLE 4 (b.tally 18) ++ bytesLE 4 b.phPresent ++ more)
    tallies

/-- The counter of a piece's result (OST_PH_CNT). -/
def pieceCnt (result : Nat) : Nat :=
  match result with
  | 0 => C.PH.PIECE_STORED | 1 => C.PH.PIECE_DUP | 2 => C.PH.PIECE_BUSY | _ => C.PH.PIECE_REFUSED

/-- The result of a piece, counted; tallies: the writes that make a stored piece persistent. -/
def Block.phResult (b : Block) (q : CreoshReq) (result : Nat) (tallies : List Nat := []) : Block :=
  let b := b.count .packhorse (pieceCnt result)
  (if result = 0 then b.lane 0 1 0 else b).phReply q result [] tallies

/-- A NOR failure during reception (R470): a NOTE record, RESULT 2. -/
def Block.phNorFail (b : Block) (q : CreoshReq) : Block := (b.note 0 0).phResult q 2

/-! ### Reception (R459 to R462) -/

/-- A sheaf is checked (R460): whether it passed. -/
def Block.sheafJudge (b : Block) (k : Nat) : Bool × Block :=
  let b := b.hashJob (b.sheafBytes k).length
  if b.sheafGood k then (true, (b.updOst (fun o => { o with sheafOk := o.sheafOk ++ [k] })).count .packhorse C.PH.SHEAF_OK)
  else
    let b := ((b.clearSheaf k).count .packhorse C.PH.SHEAF_BAD).set F.OST_PH_STATUS.LAST_SHEAF_BAD k
    (false, b.updateRec 4 (b.tally 18) k)

/-- A running sheaf check ends; the piece that completed the sheaf is answered. -/
def Block.sheafEnd (b : Block) : Block :=
  match b.ost.sheafCheck with
  | none => b
  | some (k, q) =>
    let (ok, b) := (b.updOst (fun o => { o with sheafCheck := none })).sheafJudge k
    if ok then b.phResult q 0 [256 + 2 * k, 257 + 2 * k] else b.phResult q 6

/-- SHEAF_CHECK (R460): the check of a completed sheaf; on Ostler's return to RUN, of the next complete sheaf not yet checked. -/
def execSheafCheck (s : State) : Host.Outcome State Fault Refusal :=
  let b := s.blk
  s.next (if b.est 0 ≠ stRun then b
  else if b.ost.sheafCheck.isSome then b.sheafEnd
  else if b.phState = 2 then
    (match (List.range (ceilDiv b.pieceCount 64)).find? (fun k => b.sheafFull k && !b.ost.sheafOk.contains k) with
     | some k => (b.sheafJudge k).2
     | none => b)
  else b)

/-- The manifest is complete: valid to RECEIVING, else back to IDLE (R459). -/
def Block.manifestJudge (fu : Fuses) (b : Block) (q : CreoshReq) : Block :=
  let b := b.sigJobs fu b.manBytes (0x60 + 32 * ceilDiv (leAt b.manBytes 0x10 4) 65536)
  if b.manGood fu && b.manBase then (b.tallyPut 17 (2 * 2 ^ 28 + b.tally 17 % 256)).phResult q 0 [17]
  else (b.phIdle.count .packhorse C.PH.MANIFEST_BAD).phResult q 4

/-- A manifest piece (R459). -/
def Block.manifestPiece (fu : Fuses) (b : Block) (q : CreoshReq) (p : PieceReq) : Block :=
  let b := b.sheafEnd
  let st := b.phState
  let map := b.tally 17 % 256
  if b.est 0 ≠ stRun then b.creoshReply q 5 5
  else if st ≠ 0 ∧ p.update % 2 ^ 32 ≠ b.tally 18 then b.phResult q 3
  else if 7 < p.index then b.phResult q 5
  else if st = 0 then
    if !b.stageUp || !p.norOk then b.phNorFail q
    else (((b.norErase (b.stageAt 0) 0x3000).tallyPut 18 p.update).tallyPut 17 (2 ^ 28)).phResult q 2
  else if bitOf map p.index ∧ st < 3 then b.phResult q 1
  else if st ≠ 1 then b.phResult q 7
  else if !p.norOk then b.phNorFail q
  else
    let b := b.norProgram (b.stageAt (0x1000 + 1024 * p.index)) (padTo 1024 p.data)
    let map := setBit map p.index true
    let b := (b.tallyPut 17 (2 ^ 28 + map)).lane 0 1 1
    if bitOf map 0 && (List.range (ceilDiv b.manLen 1024)).all (fun i => bitOf map i) then b.manifestJudge fu q
    else b.phResult q 0 [17]

/-- MANIFEST_PIECE (R459). -/
def execManifestPiece (q : CreoshReq) (p : PieceReq) (s : State) : Host.Outcome State Fault Refusal :=
  s.next (s.blk.manifestPiece s.fuse q p)

/-- The erase of a sheaf for a piece (R459). -/
def Block.sheafErase (b : Block) (k : Nat) : Block :=
  ((b.clearSheaf k).norErase (b.stageAt (0x10000 + 65536 * k)) 65536).updOst (fun o => { o with erased := k :: o.erased.filter (· != k) })

/-- Piece p programmed and its bit set (R459); the last one of its sheaf waits for the check. -/
def Block.pieceStore (b : Block) (q : CreoshReq) (p : PieceReq) : Block :=
  let k := p.index / 64
  let n := min 1024 (b.payloadLen - 1024 * p.index)
  let b := b.norProgram (b.stageAt (0x10000 + 1024 * p.index)) ((padTo 1024 p.data).take n)
  let b := (b.tallyPut (256 + p.index / 32) (setBit (b.tally (256 + p.index / 32)) (p.index % 32) true)).lane 0 1 1
  let b := b.updOst (fun o => { o with erased := o.erased.filter (· != k) })
  if !b.pieceSet p.index then b.phResult q 2
  else if b.sheafFull k then b.updOst (fun o => { o with sheafCheck := some (k, q) })
  else b.phResult q 0 [256 + p.index / 32]

/-- A payload piece (R459): a sheaf of which nothing is stored is erased once, before its first piece. -/
def Block.payloadPiece (b : Block) (q : CreoshReq) (p : PieceReq) : Block :=
  let b := b.sheafEnd
  let st := b.phState
  let k := p.index / 64
  if b.est 0 ≠ stRun then b.creoshReply q 5 5
  else if st ≠ 0 ∧ p.update % 2 ^ 32 ≠ b.tally 18 then b.phResult q 3
  else if st < 2 then b.phResult q 5
  else if st = 3 then b.phResult q 7
  else if b.pieceCount ≤ p.index then b.phResult q 5
  else if b.pieceSet p.index then b.phResult q 1
  else if !p.norOk then b.phNorFail q
  else if b.tally (256 + 2 * k) = 0 ∧ b.tally (257 + 2 * k) = 0 ∧ !b.ost.erased.contains k then (b.sheafErase k).phResult q 2
  else if (b.norBytes (b.stageAt (0x10000 + 1024 * p.index)) 1024).any (· != 0xFF) then (b.sheafErase k).phResult q 2
  else b.pieceStore q p

/-- PAYLOAD_PIECE (R459). -/
def execPayloadPiece (q : CreoshReq) (p : PieceReq) (s : State) : Host.Outcome State Fault Refusal :=
  s.next (s.blk.payloadPiece q p)

/-- The bitmap of 256 pieces (R458). -/
def Block.phQuery (b : Block) (q : CreoshReq) (index : Nat) : Block :=
  let b := b.sheafEnd
  if b.est 0 ≠ stRun then b.creoshReply q 5 5
  else if 32 ≤ index then b.phReply q 5 (List.replicate 32 0)
  else b.phReply q 0 ((List.range 8).flatMap (fun i => bytesLE 4 (b.tally (256 + 8 * index + i))))

/-- QUERY. -/
def execQuery (q : CreoshReq) (index _update : Nat) (s : State) : Host.Outcome State Fault Refusal := s.next (s.blk.phQuery q index)

/-- ABORT over Creosh (R462): by the UPDATE_ID held; in IDLE there is nothing to abort. -/
def Block.phAbort (b : Block) (q : CreoshReq) (update : Nat) : Block :=
  let b := b.sheafEnd
  if b.est 0 ≠ stRun then b.creoshReply q 5 5
  else if b.phState = 0 then b.phReply q 7
  else if update % 2 ^ 32 ≠ b.tally 18 then b.phReply q 3
  else b.phIdle.phReply q 0

/-- ABORT. -/
def execAbort (q : CreoshReq) (update : Nat) (s : State) : Host.Outcome State Fault Refusal := s.next (s.blk.phAbort q update)

/-- OST_PH_CTRL written (R462). -/
def Block.phCtrlWrite (b : Block) (road : Road) (v : Nat) : Block :=
  if v / 2 ^ 16 ≠ 0x5048 then b.noteWrite road R.OST_PH_CTRL v
  else if bitOf v 0 && b.est 0 == stRun then b.sheafEnd.phIdle else b

/-- The staging head (R461). -/
def stagingHead (kind update manLen payLen : Nat) : List Byte :=
  let h := bytesLE 4 0x47534B50 ++ bytesLE 4 kind ++ bytesLE 4 update ++ bytesLE 4 manLen ++ bytesLE 4 payLen ++ List.replicate 40 0
  h ++ bytesLE 4 (crc32 h)

/-- STAGING_COMPLETE (R461). -/
def execStagingComplete (s : State) : Host.Outcome State Fault Refusal :=
  let b := s.blk
  let n := ceilDiv b.pieceCount 64
  s.next (if b.est 0 = stRun ∧ b.phState = 2 ∧ (List.range n).all (fun k => b.sheafFull k && b.ost.sheafOk.contains k) then
    let b := b.norProgram (b.stageAt 0) (stagingHead (leAt b.manBytes 6 1) (leAt b.manBytes 8 4) b.manLen b.payloadLen)
    (b.tallyPut 17 (3 * 2 ^ 28 + b.tally 17 % 256)).updateRec 0 (b.tally 18) b.installed
  else b)

/-! ### Installation (R464, R465) -/

/-- The commands of a delta applied to its base (R465). -/
def deltaRun (base : List Byte) (resultLen : Nat) : Nat → List Byte → List Byte → Option (List Byte)
  | 0, _, _ => none
  | k + 1, l, out =>
    if l.length < 4 then none
    else
      let w := leAt l 0 4
      let n := w % 2 ^ 24
      let t := l.drop 4
      if w / 2 ^ 28 = 15 then (if n = 0 ∧ t.isEmpty ∧ out.length = resultLen then some out else none)
      else if n = 0 ∨ resultLen < out.length + n then none
      else if w / 2 ^ 28 = 1 then
        let src := leAt t 0 4
        if t.length < 4 ∨ base.length < src + n then none
        else deltaRun base resultLen k (t.drop 4) (out ++ (base.drop src).take n)
      else if w / 2 ^ 28 = 2 then
        let m := 4 * ceilDiv n 4
        if t.length < m then none else deltaRun base resultLen k (t.drop m) (out ++ t.take n)
      else none

/-- The result of a delta payload (R465). -/
def deltaApply (base payload : List Byte) (resultLen : Nat) : Option (List Byte) :=
  if leAt payload 0 4 = 0x444C4D52 ∧ leAt payload 4 4 = base.length ∧ leAt payload 8 4 = resultLen then
    deltaRun base resultLen payload.length (payload.drop 16) []
  else none

/-- The plaintext image in a slot, up to the end of its signature block; none when it has no readable header. -/
def Block.slotImage (fu : Fuses) (b : Block) (m : NorMap) (slot : Nat) : Option (List Byte × Nat) :=
  let l := b.slotPlain fu m slot
  if !fu.hasSecret || leAt l 0 4 != 0x4E4C4D52 || !hdrCrcOk l then none
  else match imgSigAt l with
    | some e => some (l.take (e + 136), e)
    | none => none

/-- An image written into a slot (R39): erased, padded with 0xFF, encrypted by data units; its blocks count for the slot key. -/
def Block.slotWrite (fu : Fuses) (b : Block) (m : NorMap) (slot : Nat) (img : List Byte) : Block :=
  let a := m.slotAt slot
  let plain := img ++ List.replicate (4096 * ceilDiv img.length 4096 - img.length) 0xFF
  let b := (b.norErase a m.slotSize).norProgram a (xtsUnits (xtsEnc fu.slotKey) 0 (pieces 4096 plain.length plain))
  ((b.xtsUse 1 (plain.length / 16)).maskUse 17 (plain.length / 16)).lane 0 1 1 (ceilDiv plain.length 1024)

/-- A slot left without a usable image: its contents are open (R464). -/
def Block.slotSpoil (b : Block) (m : NorMap) (slot : Nat) : Block :=
  let bs := (List.range m.slotSize).map (fun i => (Config.freeValue (b.free + i)).truncate 8)
  ({ b with free := b.free + m.slotSize } : Block).norProgram (m.slotAt slot) bs

/-- The outcome of steps 5 to 8 of R464 for a valid head whose image is not yet installed: the outcome and the block after it. -/
def Block.installRun (fu : Fuses) (b : Block) (m : NorMap) (active : Nat) (base : Option (List Byte × Nat)) (norOk : Bool) :
    Nat × Block :=
  let man := b.manBytes
  let pay := b.norBytes (b.stageAt 0x10000) b.payloadLen
  let other := 1 - active
  let delta := leAt man 6 1 = 2
  let baseOk := match base with | some (i, e) => sha256 (i.take e) == (man.drop 0x20).take 32 | none => false
  let b := match (if delta then base else none) with | some (_, e) => b.hashJob e | none => b
  if delta ∧ !baseOk then (4, b)
  else
    let result := if delta then deltaApply ((base.map (fun x => x.1)).getD []) pay (leAt man 0x14 4) else some pay
    match result with
    | none => (5, b)
    | some img =>
      if !norOk then (8, b.slotSpoil m other)
      else if m.slotSize < img.length then (6, b)
      else
        let b := b.slotWrite fu m other img
        let b := b.slotJobs fu m other
        match b.slotCheck fu m other true with
        | (0, some (f, _)) =>
          if f.digest == (man.drop 0x40).take 32 then (1, (b.tallyPut 1 (other + 2)).set F.OST_START_STATUS.INSTALLED 1) else (6, b)
        | _ => (6, b)

/-- The outcome of R464 for the staging head that step 4 finds; 0 when there is none. -/
def Block.installOutcome (fu : Fuses) (b : Block) (m : NorMap) (norOk : Bool) : Nat × Block :=
  let head := b.norBytes (b.stageAt 0) 64
  let active := b.tally 1 % 2
  let kind := leAt head 4 1
  if !b.stageUp || head.all (· == 0xFF) then (0, b)
  else if !(leAt head 0 4 == 0x47534B50 && (kind == 1 || kind == 2) && crc32 (head.take 0x3C) == leAt head 0x3C 4 && b.manGood fu &&
      (List.range (ceilDiv b.payloadLen 65536)).all (fun k => b.sheafGood k)) then (9, b)
  else if bitOf (b.tally 1) 1 then (3, b)
  else
    let base := b.slotImage fu m active
    let same := match base with | some (i, e) => sha256 (i.take e) == (b.manBytes.drop 0x40).take 32 | none => false
    if same then (2, b)
    else if b.xtsLimit ≤ b.lock.slotUses then (7, b)
    else if !b.tallyOk 1 then (0, b)
    else b.installRun fu m active base norOk

/-- The tally queue has room for the writes of OST_BOOT and OST_BOOT_COUNT (R445). -/
def Block.bootRoom (b : Block) : Bool := decide ((b.flash.queue.filter (fun t => t.id != 1 && t.id != 2)).length ≤ 14)

/-- The staging head handled once in a start (R50, R464): outcome, records, and the head erased where the outcome says so, after an
installation only once OST_BOOT is persistent. -/
def Block.install (fu : Fuses) (b : Block) (norOk : Bool) : Block :=
  match b.ost.map with
  | none => b
  | some m =>
    if b.ost.headOwed then (if b.tallyDone 1 then b.phIdle.updOst (fun q => { q with headOwed := false }) else b)
    else if b.ost.headDone || !b.bootRoom then b
    else
      let id := b.tally 18
      let (o, b) := b.installOutcome fu m norOk
      let owed := decide (o = 1) && !b.tallyDone 1
      let b := (b.set F.OST_PH_STATUS.INSTALL o).updOst (fun q => { q with headDone := true, headOwed := owed })
      let b := if o = 0 ∨ o = 3 ∨ o = 7 ∨ owed then b else b.phIdle
      if o = 1 ∨ o = 2 then (if o = 1 then b.count .packhorse C.PH.INSTALLS else b).updateRec 1 id o
      else if 4 ≤ o then
        ((b.count .packhorse C.PH.INSTALL_FAIL).errRecord 0 .contained (0xA0 + o) (bytesLE 4 id ++ bytesLE 1 o)).updateRec 2 id o
      else b

/-- Step 4 of the start sequence is running. -/
def Block.step4 (b : Block) : Bool := b.watch.plan == 6 && b.get F.OST_START_STATUS.STEP == 4

/-- STAGING_INSTALL (R464). -/
def execStagingInstall (norOk : Bool) (s : State) : Host.Outcome State Fault Refusal :=
  s.next (if s.blk.step4 then s.blk.install s.fuse norOk else s.blk)

end Sys2Proof.Machine
end

