-- ==== Sys2Proof/Machine/Ostler.lean ====
section
/-! DEFINITION. The start sequence (R51 to R61): steps 1 to 9, the tally scan (R441, R448), NOR discovery, slot choice, the two
passes, migration (R467 to R469), settling, the lame state, the reapplication of runs (R55), the thermometer burn (R466). -/

namespace Sys2Proof.Machine

/-- STEP of OST_START_STATUS. -/
def Block.ostStep (b : Block) : Nat := b.get F.OST_START_STATUS.STEP

/-- b in step n of the start sequence. -/
def Block.setStep (b : Block) (n : Nat) : Block := b.set F.OST_START_STATUS.STEP n

/-- Step n runs, after the Saddle die has power. -/
def Block.inStep (b : Block) (n : Nat) : Bool := b.watch.plan == 6 && b.ostStep == n

/-! ### Steps 1 and 2 -/

/-- The lifecycle and the debug level as step 2 reads them (R417, R434): POR and BOR end a session. -/
def Block.readLifecycle (fu : Fuses) (b : Block) : Block :=
  let lc := fu.lifecycle
  let b := b.updSec (fun c => { c with lc := lc, failAo := b.ao })
  let b := if b.get F.TOP_RESET_CAUSE.KIND ≤ kindBor then b.endSession else b
  let keep := decide (kindBor < b.get F.TOP_RESET_CAUSE.KIND)
  b.updSec (fun c => { c with level := if keep then max c.level (resetLevel lc) else resetLevel lc })

/-- Steps 1 and 2 (R51, R417), at the release of the reset: Watchman runs (R14), the Pony in HP, the fuses read; RETIRED ends here, in HALT. Held while the debug port holds the
device. -/
def Block.startBegin (fu : Fuses) (b : Block) (vbatMv : Nat) : Block :=
  if b.watch.plan ≠ 7 ∨ b.ostStep ≠ 1 ∨ b.sec.hold then b
  else
    let b := (b.set F.WATCH_POWER_STATUS.PONY_HP 1).set F.WATCH_POWER_STATUS.PONY_READY 1
    let b := if b.est 11 = stReset then b.setEst 11 stRun else b
    let b := (b.vbatRead vbatMv).updOst (fun o => { o with startAo := b.ao })
    let b := (b.setStep 2).readLifecycle fu
    if b.sec.lc = 4 then
      let b := (List.range 11).foldl (fun b e => b.setEst e stOff) b
      ((b.setRails 0).set F.WATCH_POWER_STATUS.PONY_HP 0).set F.WATCH_POWER_STATUS.PONY_READY 0
    else b

/-- START_SEQUENCE. -/
def execStartSequence (vbatMv : Nat) (s : State) : Host.Outcome State Fault Refusal := s.next (s.blk.startBegin s.fuse vbatMv)

/-! ### Step 3: the tally scan -/

/-- A unit of block n can be read. -/
def Block.unitAt (b : Block) (n u : Nat) : Option JUnit := (b.blkAt n).units[u]?

/-- The latest INTENT of block n: its COUNT (R441). -/
def Block.lastIntent (b : Block) (n : Nat) : Option Nat :=
  ((b.flash.state.filter (fun r => r.kind == 1 && r.block == n)).getLast?).map (fun r => r.count)

/-- The recovered count of a half-erased block (R441). -/
def Block.recovered (b : Block) (n : Nat) : Nat :=
  match b.lastIntent n with
  | some c => c + 1
  | none => (b.flash.blks.filter (fun k => k.role == (b.blkAt n).role && k.hdrOk)).foldl (fun m k => max m k.count) 0

/-- Recovery of half-erased blocks (R441): erased again with the recovered count, a NOTE record each; the contents of a scrub rewrite
come back from the buffer (R443). The block whose erase PIN and DEVICE resets have left in progress is none (R453). -/
def Block.recoverBlocks (b : Block) (bad : Option Nat) : Block :=
  let b := match bad with | some n => b.updBlk n (fun k => { k with hdrOk := false }) | none => b
  ((List.range 96).filter (fun n => !(b.blkAt n).hdrOk && b.flash.erase != some n)).foldl (fun b n =>
    let c := b.recovered n
    let b := (b.stateRoom.stateRec 1 n c).count .flash C.FLASH.ERASES
    let b := b.updBlk n (fun k => { k with count := c + 1, hours := b.tally 14, hdrOk := true, ready := true, units := [] })
    let b := if b.flash.scrubBuf = some n then
        (b.updBlk 79 (fun k => { k with ready := false })).updFlash (fun f => { f with scrubBuf := none })
      else b
    b.note 20 2 (bytesLE 2 n ++ [0, 0] ++ bytesLE 4 c)) b

/-- Units that can no longer be read: (block, unit counted from the first unit of contents). -/
def Block.spoilUnits (b : Block) (bad : List (Nat × Nat)) : Block :=
  bad.foldl (fun b x => b.updBlk x.1 (fun k => { k with units := upd k.units x.2 (fun _ => .bad) })) b

/-- Some readable unit holds this record. -/
def Block.hasRecord (b : Block) (u : JUnit) : Bool := b.flash.blks.any (fun k => k.units.contains u)

/-- A record lost (R448, R454): LOST set, a FATAL error, a LOST state record; with a readable duplicate a NOTE record. The last
programmed unit of the head is a torn write. -/
def Block.lostUnit (b : Block) (old : Block) (x : Nat × Nat) : Block :=
  match old.unitAt x.1 x.2 with
  | some (.record i v s) =>
    if x.1 = b.flash.head ∧ x.2 + 1 = (b.blkAt x.1).units.length then b
    else if b.hasRecord (.record i v s) then b.note 20 4 (bytesLE 2 x.1 ++ bytesLE 2 (x.2 + 16))
    else
      let b := (b.stateRoom.stateRec 3 x.1 (x.2 + 16)).set F.FLASH_STATUS.LOST 1
      b.fault 20 .fatal 5 0xFFFF (bytesLE 2 x.1 ++ bytesLE 2 (x.2 + 16))
  | _ => b

/-- SEQs and values of the records of tally 16 in the journal. -/
def Block.spanRecs (b : Block) : List (Nat × Nat) :=
  b.flash.blks.flatMap (fun k => k.units.filterMap (fun u => match u with | .record 16 v s => some (s, v) | _ => none))

/-- The record with this SEQ lies in a void migration span (R469): an OPEN record stands before it with no other record of
tally 16 between, and the next record of tally 16 does not close it. -/
def voidSeq (spans : List (Nat × Nat)) (s : Nat) : Bool :=
  spans.any (fun o => bitOf o.2 31 && decide (o.1 ≤ s) && !spans.any (fun q => decide (o.1 < q.1 ∧ q.1 ≤ s)) &&
    (match (spans.filter (fun q => decide (o.1 < q.1))).foldl (fun (m : Option (Nat × Nat)) q =>
        match m with | some x => if x.1 ≤ q.1 then m else some q | none => some q) none with
     | some q => bitOf q.2 31
     | none => true))

/-- The records of void spans count as no records (R469). -/
def Block.voidSpans (b : Block) : Block :=
  let spans := b.spanRecs
  b.updFlash (fun f => { f with blks := f.blks.map (fun (k : FlashBlk) =>
    { k with units := k.units.map (fun u => match u with | .record _ _ s => if voidSeq spans s then .skip else u | _ => u) }) })

/-- The tally image as the journal gives it (R445, R448). -/
def Block.rebuildImage (b : Block) : Block :=
  let image := (List.range 2048).foldl (fun m id => match b.newest id with | some (_, v) => put m id v 0 | none => m) []
  b.updFlash (fun f => { f with image := image })

/-- FLASH_STATUS and FLASH_WEAR after a start (R449, R451): the stage follows from the blocks retired. EXHAUSTED records its
FATAL error at every start. -/
def Block.stageRead (b : Block) : Block :=
  let live (r : Nat) : Nat := (b.flash.blks.filter (fun k => k.role == r && !k.retired)).length
  let st := if live 3 < 2 then stageExhausted else if live 1 < 64 then stageWorn else 0
  let b := ((b.set F.FLASH_STATUS.STAGE st).set F.FLASH_STATUS.SPARES_LEFT (live 2)).set F.FLASH_STATUS.RESERVE_LEFT (live 3)
  let b := b.wearUpdate
  if st = stageExhausted then b.fault 20 .fatal 9 0xFFFF [] else b

/-- A brown-out counted at the start after it (R414). -/
def Block.countBor (b : Block) : Block :=
  if b.get F.TOP_RESET_CAUSE.KIND = kindBor then
    let n := (b.tally 13 + 1) % 2 ^ 32
    (b.tallyPut 13 n).event 11 34 0 (bytesLE 4 n)
  else b

/-- Power of the Saddle die at step 3 (R51, R402, R404): EN1, EN0, EN4; Ostler and Clerk, which have no run, through START to RUN
(R14); VMAX; the DRBG (R323). -/
def Block.saddleUp (fu : Fuses) (b : Block) : Block :=
  let b := b.setRails (b.get F.WATCH_POWER_STATUS.PMIC_EN ||| 0x13)
  let b := (b.set F.WATCH_POWER_STATUS.AWAKE 1).updWatch (fun w => { w with plan := 6, awakeSince := b.ao })
  let b := [0, 1].foldl (fun b e => ((b.enterStart fu e).setEst e stRun).boundary e) b
  let b := b.avsPut b.avsMax
  let b := b.set F.LOCK_RNG_STATUS.INSTANTIATED 1
  (if b.on F.LOCK_RNG_STATUS.FAILED then b.set F.LOCK_RNG_STATUS.STARVED 1 else b).crossSettle

/-- The tally scan and the power that follows it, the first part of step 3 (R441, R448). After PIN and DEVICE resets the image
and the queue are kept. -/
def Block.tallyScan (fu : Fuses) (b : Block) (badHeader : Option Nat) (badUnits : List (Nat × Nat)) : Block :=
  if b.watch.plan ≠ 7 ∨ b.ostStep ≠ 2 ∨ b.sec.lc = 4 then b
  else
    let b := (b.setStep 3).recoverBlocks badHeader
    let bad := b.spoilUnits badUnits
    let b := (badUnits.foldl (fun c x => c.lostUnit b x) bad).voidSpans
    let b := if b.get F.TOP_RESET_CAUSE.KIND ≤ kindBor then b.rebuildImage else b
    (b.stageRead.countBor).saddleUp fu

/-- TALLY_SCAN. -/
def execTallyScan (badHeader : Option Nat) (badUnits : List (Nat × Nat)) (s : State) : Host.Outcome State Fault Refusal :=
  s.next (s.blk.tallyScan s.fuse badHeader badUnits)

/-! ### Step 3: the NOR -/

/-- FAIL_A or FAIL_B. -/
def failFld (slot : Nat) : Fld := if slot = 0 then F.OST_START_STATUS.FAIL_A else F.OST_START_STATUS.FAIL_B

/-- A slot failed with a cause: the other one is tried next, at step 5, unless it has failed too (R48, R54). -/
def Block.slotFail (b : Block) (slot cause : Nat) : Block :=
  let b := (b.set (failFld slot) cause).updOst (fun o => { o with tried := slot :: o.tried.filter (· != slot), img := none, todo := [], waitLeft := false })
  if b.ost.tried.contains (1 - slot) then b else (b.updOst (fun o => { o with trying := 1 - slot })).setStep 5

/-- The least n with v ≤ 2^n: DENSITY_LOG2 of a total that is no power of two is rounded up, where the spec gives the logarithm only
(DESIGN CHOICE, log entry 147). -/
def clog2 (v : Nat) : Nat := ((List.range 40).find? (fun n => decide (v ≤ 2 ^ n))).getD 40

/-- What discovery by SFDP finds (R36); without SFDP 16 MiB on CS0, 1-1-1. The two chip selects hold at most 64 MiB. The 16 MiB that
"the density" must exceed for 4-byte addressing are those of both chip selects together (DESIGN CHOICE, log entry 148). -/
def Block.norFound (b : Block) (p : NorProbe) : Block :=
  let cs1 := p.sfdp && p.bytes1 != 0
  let size := if p.sfdp then min 0x4000000 (p.bytes0 + (if cs1 then p.bytes1 else 0)) else 0x1000000
  let mode := if !p.sfdp then 0 else if p.fast144 then 1 else if p.fast114 then 2 else 0
  let b := b.updOst (fun o => { o with norBytes := size, norErase4k := p.sfdp && p.erase4k })
  let b := ((b.set F.OST_NOR_INFO.DENSITY_LOG2 (clog2 size)).setB F.OST_NOR_INFO.CS1 cs1).setB F.OST_NOR_INFO.SFDP p.sfdp
  (b.set F.OST_NOR_INFO.MODE mode).setB F.OST_NOR_INFO.ADDR4 (p.sfdp && p.addr4 && decide (0x1000000 < size))

/-- NOR discovery and the map (R36 to R38): the copy at 0, else the one at 0x1000; neither valid fails both slots with cause 12,
when discovery failed or a copy could not be read, else 1. Step 4 follows: PMIC_EN2 rises (R515). -/
def Block.norDiscover (b : Block) (p : NorProbe) : Block :=
  if !b.inStep 3 || b.ost.map.isSome || !b.ost.tried.isEmpty then b
  else
    let b := b.norFound p
    let copy (err : Bool) (a : Nat) : Option NorMap := if err then none else mapOf (b.norBytes a 64) b.ost.norBytes
    let m := match copy p.err0 0 with | some m => some m | none => copy p.err1 0x1000
    match m with
    | some m =>
      let b := (b.updOst (fun o => { o with map := some m })).setStep 4
      b.setRails (b.get F.WATCH_POWER_STATUS.PMIC_EN ||| 4)
    | none =>
      let c := if p.failed || p.err0 || p.err1 then 12 else 1
      ((b.set F.OST_START_STATUS.FAIL_A c).set F.OST_START_STATUS.FAIL_B c).updOst (fun o => { o with tried := [0, 1] })

/-- NOR_DISCOVERY. -/
def execNorDiscovery (probe : NorProbe) (s : State) : Host.Outcome State Fault Refusal := s.next (s.blk.norDiscover probe)

/-! ### Step 4: the slot -/

/-- The slot choice of R47, a staging head handled first (R50); in EXHAUSTED the ACTIVE slot without a write (R451). It waits while
the tally queue has no room for its writes, or the head for its erasure. -/
def Block.slotChoice (fu : Fuses) (b : Block) : Block :=
  let b := if b.step4 then b.install fu true else b
  if !b.step4 || !b.bootRoom || b.ost.headOwed then b
  else
    let v := b.tally 1
    let go (b : Block) (slot : Nat) : Block := (b.updOst (fun o => { o with first := slot, trying := slot })).setStep 5
    if b.stage = stageExhausted then go b (v % 2)
    else
      let n := (b.tally 2 + 1) % 2 ^ 32
      let b := b.tallyPut 2 n
      if !bitOf v 1 then go (b.tallyPut 1 (v % 16)) (v % 2)
      else if bitsOf v 3 2 = 3 then
        let slot := 1 - v % 2
        let b := b.tallyPut 1 slot
        go (b.event 0 16 0 (bytesLE 1 slot ++ [0, 0, 0] ++ bytesLE 4 n)) slot
      else go (b.tallyPut 1 (v % 16 + 4)) (v % 2)

/-- SLOT_CHOICE. -/
def execSlotChoice (s : State) : Host.Outcome State Fault Refusal := s.next (s.blk.slotChoice s.fuse)

/-! ### Step 5: pass 1 -/

/-- SUBSYS_VID and SUBSYS_ID from the first slot whose header CRC is valid (R57). -/
def Block.takeIds (fu : Fuses) (b : Block) (m : NorMap) (slot : Nat) : Block :=
  let h := b.slotBytes fu m slot 0 64
  if b.ost.subsys.isNone && fu.hasSecret && hdrCrcOk h then
    b.updOst (fun o => { o with subsys := some (leAt h 0x24 2, leAt h 0x26 2) })
  else b

/-- Pass 1 on the slot now tried (R52), once OST_BOOT is persistent (R47): the causes in order; the second slot's success is recorded
and settles it (R48). -/
def Block.passOne (fu : Fuses) (b : Block) (hdrOk readOk : Bool) : Block :=
  match b.ost.map with
  | none => b
  | some m =>
    let slot := b.ost.trying
    if !b.inStep 5 || b.ost.tried.contains slot || !b.tallyDone 1 then b
    else
      let b := if hdrOk || readOk then b.takeIds fu m slot else b
      let b := if readOk then b.slotJobs fu m slot else b
      match b.slotCheck fu m slot readOk with
      | (0, some (f, runs)) =>
        let b := if slot = b.ost.first then b
          else
            let b := if b.stage = stageExhausted then b else b.tallyPut 1 slot
            b.errRecord 0 .contained (0x90 + b.get (failFld b.ost.first)) (bytesLE 1 b.ost.first)
        let b := b.updOst (fun o => { o with img := some f, runs := runs, todo := f.records })
        if f.layout = b.tally 0 % 2 ^ 16 then b.setStep 7 else b.setStep 6
      | (c, _) => b.slotFail slot c

/-- PASS_1. hdrOk: the slot's header could be read; readOk: all of it. -/
def execPass1 (rd : SlotRead) (s : State) : Host.Outcome State Fault Refusal := s.next (s.blk.passOne s.fuse rd.hdr rd.all)

/-! ### Step 6: migration -/

/-- A number of 32 bits read as signed. -/
def signed32 (v : Nat) : Int := if v % 2 ^ 32 < 2 ^ 31 then (v % 2 ^ 32 : Nat) else (v % 2 ^ 32 : Nat) - 2 ^ 32

/-- The new value of a conversion record (R467); every old value is that of the tally image before any write. -/
def Block.migValue (b : Block) : MigRec → Nat
  | .move _ s => b.tally s
  | .scale _ sh s m a => (max 0 (min (2 ^ 32 - 1 : Int) (((b.tally s * m) / 2 ^ sh : Nat) + signed32 a))).toNat
  | .dflt _ v => v
  | .drop _ => 0

/-- Units free for the journal now: in the head and the ready blocks (R469). -/
def Block.freeUnits (b : Block) : Nat :=
  (if b.inRotation b.flash.head then blkUnits - (b.blkAt b.flash.head).units.length else 0) + blkUnits * b.readyBlocks.length

/-- Migration in one span (R468, R469): the flash controller reclaims first until the head and the ready blocks hold the whole
span, three class A writes and the results. -/
def Block.migrate (b : Block) : Block :=
  match b.ost.img with
  | none => b
  | some f =>
    if !b.inStep 6 then b
    else match f.migration.find? (fun x => x.1 == b.tally 0 % 2 ^ 16) with
    | none => b.slotFail f.slot 10
    | some (_, rs) =>
      if b.stage ≠ 0 then b.slotFail f.slot 10
      else
        let ws := (rs.map (fun r => (r.dst, b.migValue r))).filter (fun w => b.tally w.1 != w.2)
        if b.freeUnits < 3 * 17 + ws.length + b.flash.queue.length * 17 then
          (match b.oldestBlk with | some n => b.reclaim n | none => b)
        else
          let b := b.tallyPut 16 (2 ^ 31 + f.layout)
          let b := ws.foldl (fun b w => b.tallyPut w.1 w.2) b
          let b := (b.tallyPut 0 f.layout).tallyPut 16 f.layout
          let b := (b.set F.OST_START_STATUS.MIGRATED 1).count .packhorse C.PH.MIGRATIONS
          (b.updateRec 3 (b.tally 18) b.installed).setStep 7

/-- MIGRATION. -/
def execMigration (s : State) : Host.Outcome State Fault Refusal := s.next s.blk.migrate

/-! ### Step 7: pass 2 -/

/-- Engine e is run by the section that gait g runs (R20, R54). -/
def heldAt (g e : Nat) : Bool := (sectionEngines (sectionOf e)).any (fun x => planMode g x != .off)

/-- The GAIT record: its gating, and the engines of the sections that the starting gait runs into START, the others OFF (R54). -/
def Block.gaitRecord (b : Block) (g gate : Nat) : Block :=
  let b := b.set F.TOP_ENG_GATE.GATE (gate / 8)
  (List.range 9).foldl (fun b i =>
    let e := i + 2
    if heldAt g e && !b.gated e then (b.setEst e stStart).settleShadows e else b.enterOff e) b

/-- One record applied (R43, R46). -/
def Block.applyRec (fu : Fuses) (b : Block) (r : ImgRec) : Block :=
  match r with
  | .set a v m => (match Regs.find a with
    | some d => b.regWrite fu .device d (b.readReg fu a &&& (2 ^ 32 - 1 - m % 2 ^ 32) ||| v &&& m)
    | none => b)
  | .fill a d => (match tableAt a with | some t => b.tableWrite t true a d | none => b)
  | .zero a n => (match tableAt a with | some t => b.tableWrite t true a (List.replicate n 0) | none => b)
  | .wait .. => b
  | .gait g x => b.gaitRecord g x

/-- The condition of a WAIT record holds (R43). -/
def Block.waitMet (fu : Fuses) (b : Block) (fl a m v : Nat) : Bool := (b.readReg fu a &&& m == v) != bitOf fl 0

/-- Step 7 ends (R56, R466): the image runs; step 8 begins. -/
def Block.passTwoEnd (b : Block) : Block :=
  match b.ost.img with
  | none => b
  | some f =>
    let b := (b.set F.OST_IMG_VERSION.VERSION f.version).set F.OST_START_STATUS.SLOT_RUN f.slot
    let b := { b with rfc := { b.rfc with femLow := false } }
    let b := b.updOst (fun o => { o with pass2Done := true, started := true, burnWait := o.burnWait || !bitOf (b.tally 1) 1 })
    b.setStep 8

/-- The records applied in order up to the end, or up to a WAIT whose condition is not met yet. -/
def Block.applyAll (fu : Fuses) (b : Block) : List ImgRec → Block
  | [] => (b.updOst (fun o => { o with todo := [], waitLeft := false })).passTwoEnd
  | .wait fl a m v t :: rs =>
    if b.waitMet fu fl a m v then b.applyAll fu rs
    else b.updOst (fun o => { o with todo := .wait fl a m v t :: rs, waitLeft := true })
  | r :: rs => (b.applyRec fu r).applyAll fu rs

/-- A failure in pass 2 (R54): E2 to E10 reset, IMG registers back to their reset values, the other slot next. The gating that the GAIT
record brought goes with them: R54 names only IMG registers, and the next image's GAIT record writes GATE anew (DESIGN CHOICE, log
entry 149). -/
def Block.passTwoFail (b : Block) (slot cause : Nat) : Block :=
  let b := (List.range 9).foldl (fun b i => (b.engReset (i + 2)).setEst (i + 2) stReset) b
  let img (a : Nat) : Bool := match Regs.find a with | some d => d.img | none => false
  let b := b.resetRegs img (fun _ => true)
  (b.set F.TOP_ENG_GATE.GATE 0).slotFail slot cause

/-- Pass 2, from its beginning or from the WAIT record where it stands. -/
def Block.passTwo (fu : Fuses) (b : Block) (readOk : Bool) : Block :=
  match b.ost.img with
  | none => b
  | some f => if !b.inStep 7 then b else if readOk then b.applyAll fu b.ost.todo else b.passTwoFail f.slot 12

/-- PASS_2. -/
def execPass2 (readOk : Bool) (s : State) : Host.Outcome State Fault Refusal := s.next (s.blk.passTwo s.fuse readOk)

/-- The end of a WAIT record's TIMEOUT (R43): the register is read once more. -/
def Block.waitEnd (fu : Fuses) (b : Block) : Block :=
  match b.ost.img, b.ost.todo with
  | some f, .wait fl a m v _ :: rs =>
    if !b.inStep 7 || !b.ost.waitLeft then b
    else if b.waitMet fu fl a m v then b.applyAll fu rs
    else if bitOf fl 1 then b.passTwoFail f.slot 11
    else (b.note 0 0 (bytesLE 4 a)).applyAll fu rs
  | _, _ => b

/-- WAIT_RECORD_TIMEOUT. -/
def execWaitRecordTimeout (s : State) : Host.Outcome State Fault Refusal := s.next (s.blk.waitEnd s.fuse)

/-! ### Steps 8 and 9 -/

/-- Step 8 (R51, R59, R397): REQ, RESUME and the gating from the GAIT record, and the rise to WALK begins. The gaits above it
follow as transitions; with PWR_LOSS_N low the PWR ceiling stops them at WALK. -/
def Block.startRaise (fu : Fuses) (b : Block) : Block :=
  match b.ost.img with
  | none => b
  | some f =>
    if !b.inStep 8 then b
    else
      let b := ((b.set F.WATCH_GAIT_REQ.REQ f.gait).set F.WATCH_GAIT_REQ.RESUME f.gait).set F.WATCH_GAIT_REQ.LMGATE (f.gate / 32)
      let b := (b.set F.WATCH_GAIT_STATUS.BUSY 1).set F.WATCH_GAIT_STATUS.TARGET 3
      let b := b.updWatch (fun w => { w with starting := true, gateAsk := decide (f.gait ≤ 1), move := some ⟨4, 3, 0⟩ })
      let b := (List.range 9).foldl (fun b i => if b.est (i + 2) = stStart then b.engineUp fu (i + 2) else b) b
      b.riseStep fu 3

/-- START_GAIT_RAISE. -/
def execStartGaitRaise (s : State) : Host.Outcome State Fault Refusal := s.next (s.blk.startRaise s.fuse)

/-! ### The lame state -/

/-- The start has failed (R61): both slots failed, or step 3. -/
def Block.startLost (b : Block) : Bool := b.watch.plan == 6 && b.ost.tried.contains 0 && b.ost.tried.contains 1

/-- Entry to the lame state (R61, R292, R515, R536). -/
def Block.lameEnter (fu : Fuses) (b : Block) : Block :=
  if !b.startLost then b
  else
    let pay := bytesLE 1 (b.get F.OST_START_STATUS.FAIL_A) ++ bytesLE 1 (b.get F.OST_START_STATUS.FAIL_B) ++ bytesLE 1 b.ostStep
    let b := (b.set F.OST_START_STATUS.LAME 1).errRecord 0 .fatal 0x84 pay
    let b := b.updOst (fun o => { o with runs := [], img := none, subsys := some (o.subsys.getD (0, 0)) })
    let b := (b.setRails (b.get F.WATCH_POWER_STATUS.PMIC_EN ||| 4)).updWatch (fun w => { w with plan := 5 })
    let b := (List.range 9).foldl (fun b i => if b.want (i + 2) = stOff then b.enterOff (i + 2) else b.enterStart fu (i + 2)) b
    (b.settleAll fu).crossSettle

/-- LAME_STATE_ENTRY. -/
def execLameStateEntry (s : State) : Host.Outcome State Fault Refusal := s.next (s.blk.lameEnter s.fuse)

/-! ### Settling (R49, R466) -/

/-- OST_SETTLE written (R49): settles a trial slot once its starting gait has been reached; no effect while TRIAL is 0. -/
def Block.ostSettle (b : Block) (road : Road) (v : Nat) : Block :=
  if v / 2 ^ 16 ≠ 0x5354 then b.noteWrite road R.OST_SETTLE v
  else if bitOf v 0 && bitOf (b.tally 1) 1 then
    (if b.ostStep = 9 then b.settleSlot else b.updOst (fun o => { o with settleReq := true }))
  else b

/-- OST_SETTLE. -/
def execOstSettle (road : Road) (value : Word) (s : State) : Host.Outcome State Fault Refusal :=
  s.next (s.blk.viaRoad road R.OST_SETTLE value.toNat (fun b => b.ostSettle road value.toNat))

/-- AUTO_SETTLE (R49): 60 s in the starting gait, the FATAL ceiling clear, without a FATAL error. -/
def execAutoSettle (s : State) : Host.Outcome State Fault Refusal :=
  let b := s.blk
  s.next (match b.ost.img, b.ost.settleFrom with
  | some i, some t => if i.autoSettle && b.ostStep == 9 && !b.ceil 1 && decide (t + 60000000000 ≤ b.ao) then b.settleSlot else b
  | _, _ => b)

/-- Fuse bits of the thermometer from bit c to bit n − 1 burned (R466). -/
def burnTherm (m : List (Nat × Nat)) (c n : Nat) : List (Nat × Nat) :=
  (List.range (n - c)).foldl (fun m i => put m (4 + (c + i) / 32) (look m (4 + (c + i) / 32) 0 ||| 2 ^ ((c + i) % 32)) 0) m

/-- ROLLBACK_BURN (R466): the comparison that settling or a settled start has asked for; refused below 3,000 mV, it stays owed. -/
def execRollbackBurn (vbatMv : Nat) (s : State) : Host.Outcome State Fault Refusal :=
  let b := s.blk
  let c := s.fuse.rollback
  match b.ost.img with
  | none => s.next b
  | some i =>
    if !b.ost.burnWait then s.next b
    else if i.rollback ≤ c ∨ !(1 ≤ b.sec.lc ∧ b.sec.lc ≤ 3) then s.next (b.updOst (fun o => { o with burnWait := false }))
    else if vbatMv < 3000 then s.next b
    else
      let b := (b.updOst (fun o => { o with burnWait := false })).updateRec 5 i.rollback b.installed
      .next { s with blk := b, fuse := { s.fuse with sec := burnTherm s.fuse.sec c i.rollback } }

/-! ### Reapplication of a run (R55) -/

/-- Records of a run up to its end. -/
def runParse : Nat → List Nat → List ImgRec
  | 0, _ => []
  | k + 1, ws => match parseRec ws with
    | some (r, n) => r :: runParse k (ws.drop n)
    | none => []

/-- Engine e leaves START with its run reapplied (R14, R55): the run is read from its slot and hashed before anything is written;
a mismatch leaves the engine in START, and so does a NOR read that fails, of which R55 does not speak (DESIGN CHOICE, log entry 151).
Post's hot table is rebuilt first (R218). -/
def Block.runReapply (fu : Fuses) (b : Block) (e : Nat) (readOk : Bool) : Block :=
  if b.est e ≠ stStart ∨ b.startHeld e ∨ (e ≠ 0 ∧ b.est 0 ≠ stRun) then b
  else
    let done (b : Block) : Block := (if e = 10 ∧ b.post.rebuild then b.hotRebuild else b).startDone fu e
    match b.ost.runs.find? (fun r => r.engine == e), b.ost.map, b.ost.img with
    | some r, some m, some f =>
      let l := b.slotBytes fu m f.slot r.off r.len
      let b := if readOk then b.hashJob l.length else b
      if readOk && sha256 l == r.hash then done ((runParse l.length (wordsLE l)).foldl (fun b x => b.applyRec fu x) b)
      else b.errRecord e .sect 0x83 (bytesLE 1 e)
    | _, _, _ => done b

/-- RUN_REAPPLY_COMPLETE. -/
def execRunReapplyComplete (e : Fin 12) (readOk : Bool) (s : State) : Host.Outcome State Fault Refusal :=
  s.next (s.blk.runReapply s.fuse e.val readOk)

end Sys2Proof.Machine
end

