-- ==== Sys2Proof/Machine/Bus.lean ====
section
/-! DEFINITION. A dword written or read over a road (R23, R24, R29, R56, R331, R342, R357, R358, R427, R531 to R533), with what
the access itself changes. -/

namespace Sys2Proof.Machine

/-! ### Writes -/

/-- s with its block changed. -/
def State.onBlk (s : State) (f : Block → Block) : State := { s with blk := f s.blk }

/-- VBAT as last read. -/
def Block.vbat (b : Block) : Nat := b.get F.WATCH_POWER_STATUS.VBAT_MV

/-- Four free values as 256 bits: what the DRBG gives (R421). -/
def Block.draw256 (b : Block) : Nat × Block :=
  (List.range 4).foldl (fun (p : Nat × Block) _ => let (v, c) := p.2.draw; (p.1 * 2 ^ 64 + v, c)) (0, b)

/-- A write to a register of the block, the fuses or the Assay die reached by some. -/
def State.regWrite (s : State) (road : Road) (d : RegDesc) (v : Nat) : State :=
  let a := d.addr
  let b := s.blk
  if a = R.RFC_REG_DATA then s.regFuse road v
  else if a = R.SEC_FUSE_DATA then s.fuseWrite road v b.vbat
  else if a = R.SEC_LC_CMD then
    (let (secret, c) := b.draw256
     ({ s with blk := if v % 16 = 1 then c else b } : State).lcWrite road v b.vbat secret)
  else if a = R.HATCH_CMD then s.onBlk (fun b => b.hatchStart s.assay road v)
  else if 0x1200100 ≤ a ∧ a < 0x1200200 ∧ b.hatch.isSome then s
  else if a = R.OST_SETTLE then s.onBlk (fun b => b.ostSettle road v)
  else if a = R.OST_PH_CTRL then s.onBlk (fun b => b.phCtrlWrite road v)
  else s.onBlk (fun b => b.regWrite s.fuse road d v)

/-- A dword written to BAR0 space, past the limits of its road. A write to an address that is not a multiple of 4, of which the spec
says nothing, is ignored with a NOTE record (DESIGN CHOICE, log entry 167). -/
def State.spaceWrite (s : State) (road : Road) (a v : Nat) : State :=
  if a % 4 ≠ 0 then s.onBlk (fun b => b.noteWrite road a v)
  else if 0x4000000 ≤ a then s
  else if 0x2000000 ≤ a then s.onBlk (fun b => b.windowWrite road a v)
  else match Regs.find a with
    | some d => s.regWrite road d v
    | none => s.onBlk (fun b => b.noteWrite road a v)

/-- A dword written over a road. -/
def State.busWrite (s : State) (road : Road) (a v : Nat) : State := s.viaRoad road a v (fun s => s.spaceWrite road a v)

/-- A write command over a road: one aligned dword. One with partial byte enables, or longer, is ignored with a NOTE record over
PCIe (R331); over the other roads nothing short of a dword is written (R348, R357). -/
def State.writeCmd (s : State) (road : Road) (a v : Nat) (dword : Bool) : State :=
  if dword then s.busWrite road a v
  else if road = .bar0 then s.viaRoad road a v (fun s => s.onBlk (fun b => b.noteWrite road a v))
  else s

/-- REGISTER_WRITE (R6, R331). -/
def execRegisterWrite (road : Road) (addr : Nat) (value : WriteData) (s : State) : Host.Outcome State Fault Refusal :=
  .next (s.writeCmd road addr value.value.toNat value.dword)

/-- TABLE_WINDOW_WRITE (R25, R331). -/
def execTableWindowWrite (road : Road) (addr : Nat) (value : WriteData) (s : State) : Host.Outcome State Fault Refusal :=
  .next (if 0x2000000 ≤ addr then s.writeCmd road addr value.value.toNat value.dword else s)

/-- RING_CTRL_ENABLE (R335): HOST_TXn_CTRL or HOST_RXn_CTRL written. -/
def execRingCtrlEnable (road : Road) (ring : Fin 16) (value : Word) (s : State) : Host.Outcome State Fault Refusal :=
  .next (s.busWrite road (R.HOST_RING_CTRL ring.val) value.toNat)

/-- LEDGER_TAIL_WRITE (R342). -/
def execLedgerTailWrite (road : Road) (value : Word) (s : State) : Host.Outcome State Fault Refusal :=
  .next (s.busWrite road R.CLERK_LEDGER_TAIL value.toNat)

/-- LEDGER_CFG_WRITE (R342). -/
def execLedgerCfgWrite (road : Road) (value : Word) (s : State) : Host.Outcome State Fault Refusal :=
  .next (s.busWrite road R.CLERK_LEDGER_CFG value.toNat)

/-- DONE (R346): CLERK_DONE written. -/
def execDone (road : Road) (value : Word) (s : State) : Host.Outcome State Fault Refusal :=
  .next (s.busWrite road R.CLERK_DONE value.toNat)

/-! ### Reads -/

/-- The radio whose PHY_STATUS stands at address a. -/
def phyStatusAt (a : Nat) : Option Nat := [0, 1, 2].find? (fun r => a == R.PHY_STATUS r)

/-- The radio whose TSF low word stands at address a. -/
def tsfLoAt (a : Nat) : Option Nat := [0, 1, 2].find? (fun r => a == R.LM_TSF_LO r)

/-- A register read, with what the read changes: a high word latched, a FIFO entry taken, the copy index advanced (R344). A
radio that runs has measured a noise floor of which the manual gives no value: a free one. -/
def Block.readTakes (fu : Fuses) (b : Block) (a : Nat) : Nat × Block :=
  let v := b.readReg fu a
  match phyStatusAt a, tsfLoAt a with
  | some r, _ =>
    if b.phyState r ≤ 1 then (v, b) else let (n, c) := b.draw; (v / 256 * 256 + n % 256, c)
  | _, some r => (v, b.updLm r (fun l => { l with tsfHi := l.tsf / 2 ^ 32 }))
  | none, none =>
    if a = R.CART_TIME_LO then (v, b.set F.CART_TIME_HI.TIME (b.now / 2 ^ 32))
    else if a = R.WATCH_PPS_LO then (v, b.updWatch (fun w => { w with ppsHiLatch := b.get F.WATCH_PPS_HI.TIME }))
    else if a = R.CART_TS_HI then (v, b.tsPop)
    else if a = R.LOCK_LIMIT_FIFO then b.limitRead
    else if a = R.CLERK_COPY_DATA7 then (v, b.set F.CLERK_COPY_IDX.IDX (b.get F.CLERK_COPY_IDX.IDX + 1))
    else (v, b)

/-- The road gives the value of a read (R357, R358, R427, R531). -/
def Block.roadReads (b : Block) (road : Road) (a : Nat) : Bool :=
  match road with
  | .hitch => (match Regs.find a with | some d => d.hRead | none => false)
  | .bar0 => !b.pcieDown
  | .creosh => b.creoshUp
  | .dap => decide (2 ≤ b.sec.level) && !hatchBlock a
  | .device => true

/-- A dword read over a road: its value, and the state after. -/
def State.busRead (s : State) (road : Road) (a : Nat) : Nat × State :=
  let a := a / 4 * 4
  if !s.blk.roadReads road a then (0, s)
  else if 0x2000000 ≤ a then (s.blk.readWindow a, s)
  else
    let (v, b) := s.blk.readTakes s.fuse a
    (v, { s with blk := b })

/-- n dwords read from address a on. -/
def State.busReads (s : State) (road : Road) (a : Nat) : Nat → List Nat × State
  | 0 => ([], s)
  | n + 1 =>
    let (v, s) := s.busRead road a
    let (vs, s) := s.busReads road (a + 4) n
    (v :: vs, s)

/-- COPY_DATA_READ (R344): a read of CLERK_COPY_DATA7. -/
def execCopyDataRead (s : State) : Host.Outcome State Fault Refusal := .next (s.busRead .bar0 (R.CLERK_COPY_DATA7)).2

end Sys2Proof.Machine
end

