-- ==== Sys2Proof/Machine/Creosh.lean ====
section
/-! DEFINITION. Creosh: the frames that LOCAL takes, their operations and deliveries (R348 to R354, R358). -/

namespace Sys2Proof.Machine

/-! ### Frames as octets -/

/-- An Ethernet frame read from its octets, from DA on, without FCS (IEEE 802.3, 802.1Q). -/
def ethOf (bs : List Byte) : EthFrame :=
  let w (i : Nat) : Nat := natBE ((bs.drop i).take 2)
  if w 12 = 0x8100 then
    { da := natBE (bs.take 6), sa := natBE ((bs.drop 6).take 6), tag := some (w 14 / 2 ^ 13, w 14 % 2 ^ 12), etype := w 16,
      payload := bs.drop 18 }
  else { da := natBE (bs.take 6), sa := natBE ((bs.drop 6).take 6), etype := w 12, payload := bs.drop 14 }

/-- The send header at the start of a frame for the MESH port (R232), and the body after it. -/
def sendHdrOf (bs : List Byte) : SendHdr × List Byte :=
  let n (i k : Nat) : Nat := natLE ((bs.drop i).take k)
  ({ node := n 0 4 % 2 ^ 17, broadcast := bitOf (n 0 4) 31, level := n 4 1 % 8, report := bitOf (n 4 1) 3,
     eventOnly := bitOf (n 4 1) 4, channel := n 5 1, lifeS := n 6 2, cookie := n 8 4, hyp := n 12 1 % 4,
     pan := n 12 1 / 4 % 4 }, bs.drop 16)

/-! ### Operations (R352) -/

/-- An operation of an accepted request; none while LOCAL takes no frame (R350, R358). -/
def State.creoshOp (s : State) (f : State → State) : State := if s.blk.creoshUp then f s else s

/-- The reply, the block changed alone. -/
def State.reply (s : State) (q : CreoshReq) (op status : Nat) (body : List Byte := []) : State :=
  s.onBlk (fun b => b.creoshReply q op status body)

/-- READ. -/
def State.creoshRead (s : State) (q : CreoshReq) (addr count : Nat) : State :=
  if count = 0 ∨ 256 < count then s.reply q 1 3
  else
    let (vs, s) := s.busReads .creosh addr count
    s.reply q 1 0 (vs.flatMap (bytesLE 4))

/-- The dwords of a WRITE in ascending order, up to the first refused one: how many were applied, the tallies written. -/
def State.creoshDwords (s : State) (a : Nat) : List Word → Nat × List Nat × State
  | [] => (0, [], s)
  | v :: t =>
    let id := s.blk.get F.FLASH_TALLY_IDX.ID
    let s := s.busWrite .creosh a v.toNat
    if creoshRefuses a then (0, [], s)
    else
      let (n, ids, s) := s.creoshDwords ((a + 4) % 2 ^ 32) t
      (n + 1, if a = R.FLASH_TALLY_DATA then id :: ids else ids, s)

/-- WRITE: its reply follows the completion of the tally writes it made (R445). -/
def State.creoshWrite (s : State) (q : CreoshReq) (addr : Nat) (dwords : List Word) : State :=
  let (n, ids, s) := s.creoshDwords addr dwords
  s.onBlk (fun b => b.creoshReply q 2 (if n = dwords.length then 0 else 3) (bytesLE 2 n) ids)

/-- The records of the ledger copy from an index on, zeros where none is written yet (R344). -/
def Block.copyRecs (b : Block) (index : Nat) : Nat → List Byte
  | 0 => []
  | n + 1 => (match b.copyRec index with | some r => r.bytes 0 | none => bytesLE 32 0) ++ b.copyRecs ((index + 1) % 2 ^ 32) n

/-- LEDGER: an index older than COPY_HEAD − 4,096, or ahead of COPY_HEAD, is refused. -/
def Block.creoshLedger (b : Block) (q : CreoshReq) (index count : Nat) : Block :=
  let back := (b.clerk.copyHead + 2 ^ 32 - index % 2 ^ 32) % 2 ^ 32
  if count = 0 ∨ 40 < count ∨ 4096 < back then b.creoshReply q 3 3
  else b.creoshReply q 3 0 (bytesLE 4 b.clerk.copyHead ++ bytesLE 4 0 ++ b.copyRecs index count)

/-- DONE. -/
def Block.creoshDone (b : Block) (q : CreoshReq) (origin src : Nat) : Block :=
  (b.serveDone origin src).creoshReply q 4 0

/-- PIECE: the request of R458 by its body. -/
def Block.creoshPiece (fu : Fuses) (b : Block) (q : CreoshReq) (body : List Byte) : Block :=
  let n (i k : Nat) : Nat := natLE ((body.drop i).take k)
  let p : PieceReq := { update := n 4 4, index := n 2 2, data := body.drop 8 }
  let long := decide (body.length = 1032)
  let short := decide (body.length = 8)
  match n 0 1 with
  | 0 => if long then b.manifestPiece fu q p else b.creoshReply q 5 2
  | 1 => if long then b.payloadPiece q p else b.creoshReply q 5 2
  | 2 => if short then b.phQuery q p.index else b.creoshReply q 5 2
  | 3 => if short then b.phAbort q p.update else b.creoshReply q 5 2
  | _ => b.creoshReply q 5 (if short then 3 else 2)

/-- GAIT (R397): the reply, with what stood before, comes before any fall that the request causes. -/
def Block.creoshGait (b : Block) (q : CreoshReq) (req resume lmgate flags : Nat) : Block :=
  let body := bytesLE 1 b.gait ++ bytesLE 1 (b.get F.WATCH_GAIT_STATUS.TARGET) ++ bytesLE 1 (b.get F.WATCH_GAIT_STATUS.CEIL) ++ [0]
  if (b.gaitRequest req resume lmgate (bitOf flags 0)).isNone then b.creoshReply q 6 3
  else
    let b := b.creoshReply q 6 0 body
    (b.gaitRequest req resume lmgate (bitOf flags 0)).getD b

/-- SOURCE of TOP_RESET_CAUSE for a reset by Creosh: 1 ring, 2 backhaul, 3 host, 4 AIR (R19). -/
def creoshCause (src : Nat) : Nat :=
  match portOf src with
  | 0 => 1 | 1 => 1 | 5 => 2 | 2 => 3 | 4 => 4 | _ => 0

/-- RESET: the reply, then the DEVICE reset. -/
def Block.creoshReset (fu : Fuses) (b : Block) (q : CreoshReq) (key : Nat) : Block :=
  if key ≠ 0x4B47 then b.creoshReply q 7 3
  else (b.creoshReply q 7 0).wideReset fu kindDevice (creoshCause q.src) none

/-- SEND: a DIRECT transmit descriptor's frame (R336), refused outside a descriptor's lengths. -/
def Block.creoshSendOp (b : Block) (q : CreoshReq) (dest cls : Nat) (frame : List Byte) : Block :=
  if frame.length < 60 ∨ b.mtu - 4 < frame.length then b.creoshReply q 8 3
  else
    let mesh := if dest / 4096 = 8 then some (sendHdrOf frame) else none
    let g : Ingress := { src := 10, len := frame.length + 4, fcs := .good, frame := ethOf frame }
    (b.direct g dest cls mesh).creoshReply q 8 0

/-- ARM_KEY (R354). -/
def Block.armKey (b : Block) (q : CreoshReq) : Block :=
  (b.updCreosh (fun c => { c with armed := some (b.ao + 10000000000) })).creoshReply q 9 0

/-- The operation that an accepted frame names (R352): bodies of a wrong length draw LENGTH, other OPs UNKNOWN_OP. -/
def State.creoshRun (s : State) (q : CreoshReq) (op : Nat) (body : List Byte) : State :=
  let n (i k : Nat) : Nat := natLE ((body.drop i).take k)
  let len := body.length
  let upd (ok : Bool) (f : Block → Block) : State := if ok then s.onBlk f else s.reply q op 2
  match op with
  | 1 => if len = 8 then s.creoshRead q (n 0 4) (n 4 2) else s.reply q 1 2
  | 2 => if 8 ≤ len ∧ len = 8 + 4 * n 4 2 then
           s.creoshWrite q (n 0 4) ((List.range (n 4 2)).map (fun i => BitVec.ofNat 32 (n (8 + 4 * i) 4)))
         else s.reply q 2 2
  | 3 => upd (len == 8) (fun b => b.creoshLedger q (n 0 4) (n 4 2))
  | 4 => upd (len == 4) (fun b => b.creoshDone q (n 0 1) (n 1 1))
  | 5 => s.onBlk (fun b => b.creoshPiece s.fuse q body)
  | 6 => upd (len == 4) (fun b => b.creoshGait q (n 0 1) (n 1 1) (n 2 1) (n 3 1))
  | 7 => upd (len == 2) (fun b => b.creoshReset s.fuse q (n 0 2))
  | 8 => upd (decide (4 ≤ len)) (fun b => b.creoshSendOp q (n 0 2) (n 2 1) (body.drop 4))
  | 9 => upd (len == 0) (fun b => b.armKey q)
  | _ => s.reply q op 1

/-! ### Intake (R349) -/

/-- A SEQ against the window of 64 (R349 step 4): accepted, with H and the accepted SEQs after it. -/
def Creosh.window (c : Creosh) (seq : Nat) : Option Creosh :=
  if c.high < seq then some { c with high := seq, seen := seq :: c.seen.filter (fun x => decide (seq ≤ x + 63)) }
  else if c.high ≤ seq + 63 ∧ !c.seen.contains seq then some { c with seen := seq :: c.seen }
  else none

/-- A frame past step 1: its tag, its floor, its window. -/
def State.creoshChecked (s : State) (q : CreoshReq) (op : Nat) (octets : List Byte) (len : Nat) : State :=
  let msg := octets.take (16 + len)
  let (k, b) := s.blk.keyVerify 2 0
  let b := b.countBlocks 0 10 msg.length
  let good := match k with
    | some k => gmac k.key (creoshIv q.seq 0) msg == (octets.drop (16 + len)).take 16
    | none => false
  let s : State := { s with blk := b }
  if !good then
    s.onBlk (fun b => ((if k.isSome then b.count .lock C.LOCK.VERIFY_FAIL_MIC else b).count .host C.HOST.AUTH_FAIL).event 23 17 0 (bytesLE 1 q.src ++ [0] ++ bytesBE 6 q.sa))
  else if q.seq / 2 ^ 32 < b.tally 6 then s.reply q op 4 (bytesLE 4 (b.tally 6))
  else match b.creosh.window q.seq with
  | none => s.onBlk (fun b => b.count .host C.HOST.REPLAY)
  | some c =>
    let b := ({ b with creosh := { c with ret := some (reqBack q) } } : Block).count .host C.HOST.CREOSH_RX
    ({ s with blk := b } : State).creoshRun q op ((octets.drop 16).take len)

/-- A Creosh frame that Carter has handed to LOCAL (R349, R350): octets from VERSION on. In the lame state only the host port
brings any (R358). -/
def State.creoshFrame (s : State) (src vlan sa : Nat) (octets : List Byte) : State :=
  let n (i k : Nat) : Nat := natLE ((octets.drop i).take k)
  let b := s.blk
  if !b.runs 3 || (b.lame && portOf src != 2) then s
  else if decide (octets.length < 32) || n 0 1 != 1 || decide (1400 < n 12 2) || decide (octets.length < 32 + n 12 2) ||
      !b.creosh.floorDone || !b.runs 2 || (b.keyAt 2 0).isNone then
    s.onBlk (fun b => b.count .host C.HOST.CREOSH_BAD)
  else s.creoshChecked ⟨src, vlan, sa, n 4 8⟩ (n 1 1) octets (n 12 2)

/-! ### Deliveries (R353) -/

/-- DELIVERY: a frame of LOCAL's inbox along the return path, its cells returned (R32). One too long for a Creosh body is dropped. -/
def Block.creoshDeliver (b : Block) (d : StewFrame) : Block :=
  match b.cart.inbox.find? (fun x => x.2 == d) with
  | none => b
  | some x =>
    let b := (b.updCart (fun c => { c with inbox := c.inbox.erase x })).poolDrop x.1
    let body := bytesLE 1 d.src ++ bytesLE 1 (d.cls % 8) ++ bytesLE 2 (d.vlan % 4096) ++ bytesLE 4 0 ++ bytesLE 8 d.time ++ d.octets
    match b.creosh.ret with
    | none => b.count .host C.HOST.RETURN_NONE
    | some r => if 1400 < body.length then b else b.creoshSend { back := r, op := 0x40, status := 0, body := body }

/-! ### Meanings -/

/-- CREOSH_FRAME (R349). -/
def execCreoshFrame (src : Fin 64) (vlan : BitVec 12) (sa : BitVec 48) (octets : List Byte) (s : State) :
    Host.Outcome State Fault Refusal :=
  .next (s.creoshFrame src.val vlan.toNat sa.toNat octets)

/-- CREOSH_READ. -/
def execCreoshRead (q : CreoshReq) (addr count : Nat) (s : State) : Host.Outcome State Fault Refusal :=
  .next (s.creoshOp (fun s => s.creoshRead q addr count))

/-- CREOSH_WRITE. -/
def execCreoshWrite (q : CreoshReq) (addr : Nat) (dwords : List Word) (s : State) : Host.Outcome State Fault Refusal :=
  .next (s.creoshOp (fun s => s.creoshWrite q addr dwords))

/-- CREOSH_LEDGER. -/
def execCreoshLedger (q : CreoshReq) (index count : Nat) (s : State) : Host.Outcome State Fault Refusal :=
  .next (s.creoshOp (fun s => s.onBlk (fun b => b.creoshLedger q index count)))

/-- CREOSH_DONE. -/
def execCreoshDone (q : CreoshReq) (origin src : Byte) (s : State) : Host.Outcome State Fault Refusal :=
  .next (s.creoshOp (fun s => s.onBlk (fun b => b.creoshDone q origin.toNat src.toNat)))

/-- CREOSH_PIECE. -/
def execCreoshPiece (q : CreoshReq) (body : List Byte) (s : State) : Host.Outcome State Fault Refusal :=
  .next (s.creoshOp (fun s => s.onBlk (fun b => b.creoshPiece s.fuse q body)))

/-- CREOSH_GAIT. -/
def execCreoshGait (q : CreoshReq) (req resume lmgate flags : Byte) (s : State) : Host.Outcome State Fault Refusal :=
  .next (s.creoshOp (fun s => s.onBlk (fun b => b.creoshGait q req.toNat resume.toNat lmgate.toNat flags.toNat)))

/-- CREOSH_RESET. -/
def execCreoshReset (q : CreoshReq) (key : BitVec 16) (s : State) : Host.Outcome State Fault Refusal :=
  .next (s.creoshOp (fun s => s.onBlk (fun b => b.creoshReset s.fuse q key.toNat)))

/-- CREOSH_SEND. -/
def execCreoshSend (q : CreoshReq) (dest : BitVec 16) (cls : Byte) (frame : List Byte) (s : State) :
    Host.Outcome State Fault Refusal :=
  .next (s.creoshOp (fun s => s.onBlk (fun b => b.creoshSendOp q dest.toNat cls.toNat frame)))

/-- ARM_KEY. -/
def execArmKey (q : CreoshReq) (s : State) : Host.Outcome State Fault Refusal :=
  .next (s.creoshOp (fun s => s.onBlk (fun b => b.armKey q)))

/-- ARM_KEY_EXPIRY (R354): 10 s after the accepted request. -/
def execArmKeyExpiry (s : State) : Host.Outcome State Fault Refusal :=
  s.next (match s.blk.creosh.armed with
  | some t => if t < s.blk.ao then s.blk.updCreosh (fun c => { c with armed := none }) else s.blk
  | none => s.blk)

/-- DELIVERY. -/
def execDelivery (d : StewFrame) (s : State) : Host.Outcome State Fault Refusal := s.next (s.blk.creoshDeliver d)

end Sys2Proof.Machine
end

