-- ==== Sys2Proof/Machine/Hitch.lean ====
section
/-! DEFINITION. The hitching port and accesses through the debug port (R355 to R358, R377, R409, R427). -/

namespace Sys2Proof.Machine

/-! ### The hitching port -/

/-- The port's address: 0x58 and the strap (R355). -/
def Block.hitchAddr (b : Block) : Nat := 0x58 + b.get F.PIN_STRAP.HITCH_ADDR

/-- The Tack die sleeps (R356, R413): the Pony regulator is in LP in WALK or HALT. -/
def Block.tackAsleep (b : Block) : Bool :=
  (b.watch.plan == 3 || b.watch.plan == 4) && !b.on F.WATCH_POWER_STATUS.PONY_READY

/-- HITCH_ADDRESS_MATCH (R356, R409 source 0): inTime: the wake completes within 2 ms. -/
def execHitchAddressMatch (addr : BitVec 7) (inTime : Bool) (s : State) : Host.Outcome State Fault Refusal :=
  let b := s.blk
  s.next (if addr.toNat ≠ b.hitchAddr then b
  else
    let late := b.tackAsleep && !inTime
    let b := b.wakeHit 0
    if late then (b.count .host C.HOST.HITCH_NACK).emit .hitchNack else b)

/-- Whole dwords of a hitching write in ascending order; a dword cut short is discarded (R357). -/
def State.hitchDwords (s : State) (a : Nat) : List Nat → State
  | [] => s
  | v :: t => (s.busWrite .hitch a v).hitchDwords ((a + 4) % 2 ^ 32) t

/-- The whole dwords that data bytes spell. -/
def wholeDwords (data : List Byte) : List Nat := (List.range (data.length / 4)).map (fun i => natLE ((data.drop (4 * i)).take 4))

/-- A transaction counted. -/
def Block.hitchCount (b : Block) : Block := b.count .host C.HOST.HITCH_XFER

/-- A register access (R357): count dwords read, or the dwords of data written. -/
def State.hitchAccess (s : State) : HitchXfer → State
  | .read addr count =>
    let (vs, s) := (s.onBlk Block.hitchCount).busReads .hitch addr count
    s.onBlk (fun b => b.emit (.hitch (vs.flatMap (bytesLE 4))))
  | .write addr data => (s.onBlk Block.hitchCount).hitchDwords addr (wholeDwords data)

/-- REGISTER_ACCESS. -/
def execRegisterAccess (x : HitchXfer) (s : State) : Host.Outcome State Fault Refusal := .next (s.hitchAccess x)

/-- The copy record at an index as 32 bytes; an index without a record reads 0. -/
def Block.copyBytes (b : Block) (index : Nat) : List Byte :=
  match b.copyRec index with | some r => r.bytes 0 | none => List.replicate 32 0

/-- LEDGER_COPY_READ (R344, R357): count records from an index on. -/
def execLedgerCopyRead (index count : Nat) (s : State) : Host.Outcome State Fault Refusal :=
  let b := s.blk.hitchCount
  s.next (b.emit (.hitch ((List.range count).flatMap (fun i => b.copyBytes ((index + i) % 2 ^ 32)))))

/-- HITCH_SCL_TIMEOUT (R377): the transaction is abandoned, counted in TIMEOUT of group 9. -/
def execHitchSclTimeout (s : State) : Host.Outcome State Fault Refusal :=
  s.next (s.blk.count (.clk 9) C.CLK.TIMEOUT)

/-! ### The debug port -/

/-- The DAP instruction is loaded and still allowed: its level, above HALT (R426). -/
def Block.dapUp (b : Block) : Bool := b.sec.ir == 0x20 && decide (2 ≤ b.sec.level) && b.gait != 4

/-- An internal memory at its scan address: the bytes of the table windows as stored, bank 1 from 2^28 on, DRAM's mirror
excepted (R427; log entry 40). -/
def scanReach (a : Nat) : Bool := decide (0x2000000 ≤ a % 2 ^ 28 ∧ a % 2 ^ 28 < 0x4000000 ∧ a < 2 ^ 29)

/-- A DAP access (R427): reads from D2 on, writes and the scan chains at D3. -/
def State.dap (s : State) : DapOp → State
  | .read a =>
    let (v, s) := s.busRead .dap a
    s.onBlk (fun b => b.emit (.tap (bytesLE 4 v)))
  | .write a v => s.busWrite .dap a v.toNat
  | .scanRead a =>
    if s.blk.sec.level = 3 ∧ scanReach a then s.onBlk (fun b => b.emit (.tap [look b.tabs a 0])) else s
  | .scanWrite a v => if s.blk.sec.level = 3 ∧ scanReach a then s.onBlk (fun b => b.setTabBytes a [v]) else s

/-- DAP_ACCESS. -/
def execDapAccess (op : DapOp) (s : State) : Host.Outcome State Fault Refusal :=
  .next (if s.blk.dapUp then s.dap op else s)

end Sys2Proof.Machine
end

