-- ==== Sys2Proof/Machine/Dispatch.lean ====
section
/-! DEFINITION. The arms of exec: one per command, in the order of spec/opcode_table.json. -/

namespace Sys2Proof.Machine

/-- The effect of a command on everything but the queue of those that wait. -/
def exec (i : Instr) (s : State) : Host.Outcome State Fault Refusal :=
  match i with
  | .registerWrite road addr value => Sys2Proof.Machine.execRegisterWrite road addr value s
  | .tableWindowWrite road addr value => Sys2Proof.Machine.execTableWindowWrite road addr value s
  | .topEngGateWrite road value => Sys2Proof.Machine.execTopEngGateWrite road value s
  | .topEngReset road value => Sys2Proof.Machine.execTopEngReset road value s
  | .topSectReset road value => Sys2Proof.Machine.execTopSectReset road value s
  | .topDevReset road value => Sys2Proof.Machine.execTopDevReset road value s
  | .engCtrlStop e stop => Sys2Proof.Machine.execEngCtrlStop e stop s
  | .engCtrlHold e hold => Sys2Proof.Machine.execEngCtrlHold e hold s
  | .cntClear set => Sys2Proof.Machine.execCntClear set s
  | .bankSwitchRequest o tables => Sys2Proof.Machine.execBankSwitchRequest o tables s
  | .bankCopyRequest o tables => Sys2Proof.Machine.execBankCopyRequest o tables s
  | .bankCopyComplete o table => Sys2Proof.Machine.execBankCopyComplete o table s
  | .engineBoundary e => Sys2Proof.Machine.execEngineBoundary e s
  | .drainComplete e => Sys2Proof.Machine.execDrainComplete e s
  | .drainTimeout e => Sys2Proof.Machine.execDrainTimeout e s
  | .engineReset e => Sys2Proof.Machine.execEngineReset e s
  | .sectionReset sct => Sys2Proof.Machine.execSectionReset sct s
  | .resetRelease e => Sys2Proof.Machine.execResetRelease e s
  | .runReapplyComplete e readOk => Sys2Proof.Machine.execRunReapplyComplete e readOk s
  | .powerOnReset strap => Sys2Proof.Machine.execPowerOnReset strap s
  | .brownOut strap => Sys2Proof.Machine.execBrownOut strap s
  | .pinReset strap => Sys2Proof.Machine.execPinReset strap s
  | .startSequence vbatMv => Sys2Proof.Machine.execStartSequence vbatMv s
  | .tallyScan badHeader badUnits => Sys2Proof.Machine.execTallyScan badHeader badUnits s
  | .norDiscovery probe => Sys2Proof.Machine.execNorDiscovery probe s
  | .slotChoice => Sys2Proof.Machine.execSlotChoice s
  | .pass1 rd => Sys2Proof.Machine.execPass1 rd s
  | .migration => Sys2Proof.Machine.execMigration s
  | .pass2 readOk => Sys2Proof.Machine.execPass2 readOk s
  | .waitRecordTimeout => Sys2Proof.Machine.execWaitRecordTimeout s
  | .startGaitRaise => Sys2Proof.Machine.execStartGaitRaise s
  | .lameStateEntry => Sys2Proof.Machine.execLameStateEntry s
  | .ostSettle road value => Sys2Proof.Machine.execOstSettle road value s
  | .autoSettle => Sys2Proof.Machine.execAutoSettle s
  | .rollbackBurn vbatMv => Sys2Proof.Machine.execRollbackBurn vbatMv s
  | .rxDetection r level => Sys2Proof.Machine.execRxDetection r level s
  | .rxFalseRelease r => Sys2Proof.Machine.execRxFalseRelease r s
  | .lsigValid r => Sys2Proof.Machine.execLsigValid r s
  | .signalFieldCrcFail r => Sys2Proof.Machine.execSignalFieldCrcFail r s
  | .rxUnsupported r => Sys2Proof.Machine.execRxUnsupported r s
  | .capturePowerStep r power => Sys2Proof.Machine.execCapturePowerStep r power s
  | .captureRestart r => Sys2Proof.Machine.execCaptureRestart r s
  | .captureRestartFail r => Sys2Proof.Machine.execCaptureRestartFail r s
  | .phyRxend r rssi ownGood ldpcFails tail => Sys2Proof.Machine.execPhyRxend r rssi ownGood ldpcFails tail s
  | .txStartCommand r cca => Sys2Proof.Machine.execTxStartCommand r cca s
  | .obssPdUpdate r => Sys2Proof.Machine.execObssPdUpdate r s
  | .obssPpduIgnored r rssi => Sys2Proof.Machine.execObssPpduIgnored r rssi s
  | .spExpired => Sys2Proof.Machine.execSpExpired s
  | .phyBankSwitch r k => Sys2Proof.Machine.execPhyBankSwitch r k s
  | .mpduProvisional r m => Sys2Proof.Machine.execMpduProvisional r m s
  | .mpduVerdict r id fcs mic => Sys2Proof.Machine.execMpduVerdict r id fcs mic s
  | .responseSend r => Sys2Proof.Machine.execResponseSend r s
  | .reorderRelease r agr moveTo => Sys2Proof.Machine.execReorderRelease r agr moveTo s
  | .reorderTimeout r agr => Sys2Proof.Machine.execReorderTimeout r agr s
  | .agreementValidWrite r agr valid => Sys2Proof.Machine.execAgreementValidWrite r agr valid s
  | .edcaTxopGain r slots draw draws idlePifs => Sys2Proof.Machine.execEdcaTxopGain r slots draw draws idlePifs s
  | .txopLost r cause => Sys2Proof.Machine.execTxopLost r cause s
  | .rtsProtection r toSelf mu dest width => Sys2Proof.Machine.execRtsProtection r toSelf mu dest width s
  | .tbtt r bss => Sys2Proof.Machine.execTbtt r bss s
  | .beaconDropped r bss => Sys2Proof.Machine.execBeaconDropped r bss s
  | .probeRequest r q => Sys2Proof.Machine.execProbeRequest r q s
  | .probeResponseDrop r => Sys2Proof.Machine.execProbeResponseDrop r s
  | .psPoll r sta => Sys2Proof.Machine.execPsPoll r sta s
  | .uapsdTrigger r sta ac eosp => Sys2Proof.Machine.execUapsdTrigger r sta ac eosp s
  | .twtServicePeriodEnd r ni => Sys2Proof.Machine.execTwtServicePeriodEnd r ni s
  | .triggerFrameSend r kind => Sys2Proof.Machine.execTriggerFrameSend r kind s
  | .tbPpduReceive r users => Sys2Proof.Machine.execTbPpduReceive r users s
  | .soundingSequence r => Sys2Proof.Machine.execSoundingSequence r s
  | .beamformingReport r sta seg total last => Sys2Proof.Machine.execBeamformingReport r sta seg total last s
  | .bhBeaconLoss r => Sys2Proof.Machine.execBhBeaconLoss r s
  | .bhBeaconReceived r b => Sys2Proof.Machine.execBhBeaconReceived r b s
  | .placementPeriod u0 u1 u2 => Sys2Proof.Machine.execPlacementPeriod u0 u1 u2 s
  | .airEnqueue r sta bss tid f => Sys2Proof.Machine.execAirEnqueue r sta bss tid f s
  | .queueAgeDrop q => Sys2Proof.Machine.execQueueAgeDrop q s
  | .planMade p => Sys2Proof.Machine.execPlanMade p s
  | .planSwap r ac => Sys2Proof.Machine.execPlanSwap r ac s
  | .planCommit r overrun failed => Sys2Proof.Machine.execPlanCommit r overrun failed s
  | .planSettle r users => Sys2Proof.Machine.execPlanSettle r users s
  | .planUndo r slot user => Sys2Proof.Machine.execPlanUndo r slot user s
  | .soundingDue => Sys2Proof.Machine.execSoundingDue s
  | .precoderReady solver us => Sys2Proof.Machine.execPrecoderReady solver us s
  | .sieveDetection ns ch hyp level others => Sys2Proof.Machine.execSieveDetection ns ch hyp level others s
  | .sfdMatch ns stall found others => Sys2Proof.Machine.execSfdMatch ns stall found others s
  | .preambleTimeout stall => Sys2Proof.Machine.execPreambleTimeout stall s
  | .phrJudgement stall nrnsc rsc metrics => Sys2Proof.Machine.execPhrJudgement stall nrnsc rsc metrics s
  | .meshFrameVerdict stall body fcs => Sys2Proof.Machine.execMeshFrameVerdict stall body fcs s
  | .channelBlanking cal tx => Sys2Proof.Machine.execChannelBlanking cal tx s
  | .nfLoopUpdate samples => Sys2Proof.Machine.execNfLoopUpdate samples s
  | .sieveTxRequest t => Sys2Proof.Machine.execSieveTxRequest t s
  | .sieveTxCommit id => Sys2Proof.Machine.execSieveTxCommit id s
  | .sieveTxEnd id tailOver => Sys2Proof.Machine.execSieveTxEnd id tailOver s
  | .sieveSpanApply => Sys2Proof.Machine.execSieveSpanApply s
  | .postFrameAccept stall => Sys2Proof.Machine.execPostFrameAccept stall s
  | .postFrameUndo stall => Sys2Proof.Machine.execPostFrameUndo stall s
  | .dataRequestPoll node => Sys2Proof.Machine.execDataRequestPoll node s
  | .admitNode node => Sys2Proof.Machine.execAdmitNode node s
  | .forget node => Sys2Proof.Machine.execForget node s
  | .create node => Sys2Proof.Machine.execCreate node s
  | .throw node => Sys2Proof.Machine.execThrow node s
  | .read node => Sys2Proof.Machine.execRead node s
  | .write node => Sys2Proof.Machine.execWrite node s
  | .flush node => Sys2Proof.Machine.execFlush node s
  | .grantAcknowledged node => Sys2Proof.Machine.execGrantAcknowledged node s
  | .grantExpired node => Sys2Proof.Machine.execGrantExpired node s
  | .tetherWindowOpen node => Sys2Proof.Machine.execTetherWindowOpen node s
  | .tetherEventEnd node => Sys2Proof.Machine.execTetherEventEnd node s
  | .meshEnqueue h body => Sys2Proof.Machine.execMeshEnqueue h body s
  | .downlinkSend node => Sys2Proof.Machine.execDownlinkSend node s
  | .downlinkExpired node => Sys2Proof.Machine.execDownlinkExpired node s
  | .meshBroadcast h body => Sys2Proof.Machine.execMeshBroadcast h body s
  | .saddlebagDrain => Sys2Proof.Machine.execSaddlebagDrain s
  | .hotTableRebuild => Sys2Proof.Machine.execHotTableRebuild s
  | .feWarmDone f temp => Sys2Proof.Machine.execFeWarmDone f temp s
  | .feSettleDone f => Sys2Proof.Machine.execFeSettleDone f s
  | .startupCalibrationDone f ok temp => Sys2Proof.Machine.execStartupCalibrationDone f ok temp s
  | .calibrationDue f temp => Sys2Proof.Machine.execCalibrationDue f temp s
  | .inserviceStep f ok temp => Sys2Proof.Machine.execInserviceStep f ok temp s
  | .calStepAbort f => Sys2Proof.Machine.execCalStepAbort f s
  | .txWaitedLate f tx => Sys2Proof.Machine.execTxWaitedLate f tx s
  | .alcUpdate c measured => Sys2Proof.Machine.execAlcUpdate c measured s
  | .alcOvershoot c measured => Sys2Proof.Machine.execAlcOvershoot c measured s
  | .maskViolation c => Sys2Proof.Machine.execMaskViolation c s
  | .chainRevive road value => Sys2Proof.Machine.execChainRevive road value s
  | .dutyTick => Sys2Proof.Machine.execDutyTick s
  | .synthLockLost f => Sys2Proof.Machine.execSynthLockLost f s
  | .regFuseWrite road value => Sys2Proof.Machine.execRegFuseWrite road value s
  | .rfcImgcapWrite road value => Sys2Proof.Machine.execRfcImgcapWrite road value s
  | .frameIngress g => Sys2Proof.Machine.execFrameIngress g s
  | .loftSpill id => Sys2Proof.Machine.execLoftSpill id s
  | .cutThrough g => Sys2Proof.Machine.execCutThrough g s
  | .cutThroughStomp p len cause => Sys2Proof.Machine.execCutThroughStomp p len cause s
  | .egressSchedule p => Sys2Proof.Machine.execEgressSchedule p s
  | .ringLink p up => Sys2Proof.Machine.execRingLink p up s
  | .l2Insert road => Sys2Proof.Machine.execL2Insert road s
  | .l2Delete road => Sys2Proof.Machine.execL2Delete road s
  | .l2Lookup road => Sys2Proof.Machine.execL2Lookup road s
  | .l2Flush road => Sys2Proof.Machine.execL2Flush road s
  | .macAgeing => Sys2Proof.Machine.execMacAgeing s
  | .ptpTimestamp p seqId tx ns => Sys2Proof.Machine.execPtpTimestamp p seqId tx ns s
  | .tsFifoPop => Sys2Proof.Machine.execTsFifoPop s
  | .transparentClock p m => Sys2Proof.Machine.execTransparentClock p m s
  | .servoSample q => Sys2Proof.Machine.execServoSample q s
  | .ptpHoldover => Sys2Proof.Machine.execPtpHoldover s
  | .timeStep road value => Sys2Proof.Machine.execTimeStep road value s
  | .ppsOut high => Sys2Proof.Machine.execPpsOut high s
  | .keeperRelease supplyLost => Sys2Proof.Machine.execKeeperRelease supplyLost s
  | .keeperOpen => Sys2Proof.Machine.execKeeperOpen s
  | .keepRetry => Sys2Proof.Machine.execKeepRetry s
  | .aesRequest core => Sys2Proof.Machine.execAesRequest core s
  | .txCipherLate r frame atStart => Sys2Proof.Machine.execTxCipherLate r frame atStart s
  | .keyInstall road sp h => Sys2Proof.Machine.execKeyInstall road sp h s
  | .keyClear road sp h => Sys2Proof.Machine.execKeyClear road sp h s
  | .keyRead road sp h => Sys2Proof.Machine.execKeyRead road sp h s
  | .keyFetch sp h => Sys2Proof.Machine.execKeyFetch sp h s
  | .limitFifoRead => Sys2Proof.Machine.execLimitFifoRead s
  | .mfcReservationWrite => Sys2Proof.Machine.execMfcReservationWrite s
  | .mfcWrap => Sys2Proof.Machine.execMfcWrap s
  | .mfcResume => Sys2Proof.Machine.execMfcResume s
  | .vaultRecrypt => Sys2Proof.Machine.execVaultRecrypt s
  | .backingRewrite norOk => Sys2Proof.Machine.execBackingRewrite norOk s
  | .vaultRebuild crcBad => Sys2Proof.Machine.execVaultRebuild crcBad s
  | .noiseWindow pass => Sys2Proof.Machine.execNoiseWindow pass s
  | .drbgReseed => Sys2Proof.Machine.execDrbgReseed s
  | .drbgStopped us => Sys2Proof.Machine.execDrbgStopped us s
  | .hostPortReset cause => Sys2Proof.Machine.execHostPortReset cause s
  | .hostPortUp st => Sys2Proof.Machine.execHostPortUp st s
  | .wakeNAssert => Sys2Proof.Machine.execWakeNAssert s
  | .doorbellWrite ring value => Sys2Proof.Machine.execDoorbellWrite ring value s
  | .ringCtrlEnable road ring value => Sys2Proof.Machine.execRingCtrlEnable road ring value s
  | .txDescriptor n d => Sys2Proof.Machine.execTxDescriptor n d s
  | .rxDescriptorFill n ds => Sys2Proof.Machine.execRxDescriptorFill n ds s
  | .dmaFault ring => Sys2Proof.Machine.execDmaFault ring s
  | .ledgerRecord origin src kind payload => Sys2Proof.Machine.execLedgerRecord origin src kind payload s
  | .ledgerFeed => Sys2Proof.Machine.execLedgerFeed s
  | .ledgerTailWrite road value => Sys2Proof.Machine.execLedgerTailWrite road value s
  | .ledgerCfgWrite road value => Sys2Proof.Machine.execLedgerCfgWrite road value s
  | .servedSourceFire origin src payload => Sys2Proof.Machine.execServedSourceFire origin src payload s
  | .done road value => Sys2Proof.Machine.execDone road value s
  | .msixMessage => Sys2Proof.Machine.execMsixMessage s
  | .copyDataRead => Sys2Proof.Machine.execCopyDataRead s
  | .creoshFrame src vlan sa octets => Sys2Proof.Machine.execCreoshFrame src vlan sa octets s
  | .creoshRead q addr count => Sys2Proof.Machine.execCreoshRead q addr count s
  | .creoshWrite q addr dwords => Sys2Proof.Machine.execCreoshWrite q addr dwords s
  | .creoshLedger q index count => Sys2Proof.Machine.execCreoshLedger q index count s
  | .creoshDone q origin src => Sys2Proof.Machine.execCreoshDone q origin src s
  | .creoshPiece q body => Sys2Proof.Machine.execCreoshPiece q body s
  | .creoshGait q req resume lmgate flags => Sys2Proof.Machine.execCreoshGait q req resume lmgate flags s
  | .creoshReset q key => Sys2Proof.Machine.execCreoshReset q key s
  | .creoshSend q dest cls frame => Sys2Proof.Machine.execCreoshSend q dest cls frame s
  | .armKey q => Sys2Proof.Machine.execArmKey q s
  | .armKeyExpiry => Sys2Proof.Machine.execArmKeyExpiry s
  | .creoshFloorWrite => Sys2Proof.Machine.execCreoshFloorWrite s
  | .creoshTxblkWrite => Sys2Proof.Machine.execCreoshTxblkWrite s
  | .delivery d => Sys2Proof.Machine.execDelivery d s
  | .hitchAddressMatch addr inTime => Sys2Proof.Machine.execHitchAddressMatch addr inTime s
  | .registerAccess x => Sys2Proof.Machine.execRegisterAccess x s
  | .ledgerCopyRead index count => Sys2Proof.Machine.execLedgerCopyRead index count s
  | .hitchSclTimeout => Sys2Proof.Machine.execHitchSclTimeout s
  | .paddockStable => Sys2Proof.Machine.execPaddockStable s
  | .paddockLost => Sys2Proof.Machine.execPaddockLost s
  | .groomFailure => Sys2Proof.Machine.execGroomFailure s
  | .groomRecovered => Sys2Proof.Machine.execGroomRecovered s
  | .crossingModeChange g => Sys2Proof.Machine.execCrossingModeChange g s
  | .groupPark g => Sys2Proof.Machine.execGroupPark g s
  | .groupUnpark g => Sys2Proof.Machine.execGroupUnpark g s
  | .stoppedClock g cls dom coreDead => Sys2Proof.Machine.execStoppedClock g cls dom coreDead s
  | .evtHeldSaturated g n => Sys2Proof.Machine.execEvtHeldSaturated g n s
  | .streamFault g r => Sys2Proof.Machine.execStreamFault g r s
  | .avsUpdate readings busOk => Sys2Proof.Machine.execAvsUpdate readings busOk s
  | .avsUrgentRaise monitor slack busOk => Sys2Proof.Machine.execAvsUrgentRaise monitor slack busOk s
  | .droopStretch mv => Sys2Proof.Machine.execDroopStretch mv s
  | .dfeUpdate p accs peaking => Sys2Proof.Machine.execDfeUpdate p accs peaking s
  | .eqAcquisition p ev => Sys2Proof.Machine.execEqAcquisition p ev s
  | .watchGaitReq road value => Sys2Proof.Machine.execWatchGaitReq road value s
  | .gaitTransition => Sys2Proof.Machine.execGaitTransition s
  | .pwrLoss => Sys2Proof.Machine.execPwrLoss s
  | .pwrRestored => Sys2Proof.Machine.execPwrRestored s
  | .fatalLift => Sys2Proof.Machine.execFatalLift s
  | .lowbat vbatMv => Sys2Proof.Machine.execLowbat vbatMv s
  | .lowbatLift vbatMv => Sys2Proof.Machine.execLowbatLift vbatMv s
  | .watchRound hits => Sys2Proof.Machine.execWatchRound hits s
  | .saddleWake => Sys2Proof.Machine.execSaddleWake s
  | .saddleSleep => Sys2Proof.Machine.execSaddleSleep s
  | .wakeSource src => Sys2Proof.Machine.execWakeSource src s
  | .watchTimer => Sys2Proof.Machine.execWatchTimer s
  | .ppsInEdge => Sys2Proof.Machine.execPpsInEdge s
  | .alwaysOnTick => Sys2Proof.Machine.execAlwaysOnTick s
  | .ponyHpRequest => Sys2Proof.Machine.execPonyHpRequest s
  | .ponyLpRelease => Sys2Proof.Machine.execPonyLpRelease s
  | .genSecret road value secret vbatMv => Sys2Proof.Machine.execGenSecret road value secret vbatMv s
  | .toMaker road value vbatMv => Sys2Proof.Machine.execToMaker road value vbatMv s
  | .toField road value vbatMv => Sys2Proof.Machine.execToField road value vbatMv s
  | .toRetired road value vbatMv => Sys2Proof.Machine.execToRetired road value vbatMv s
  | .lifecycleTransition => Sys2Proof.Machine.execLifecycleTransition s
  | .secFuseWrite road value vbatMv => Sys2Proof.Machine.execSecFuseWrite road value vbatMv s
  | .zeroise road value => Sys2Proof.Machine.execZeroise road value s
  | .wipeOverwriteDone bit => Sys2Proof.Machine.execWipeOverwriteDone bit s
  | .tapInstructionLoad code => Sys2Proof.Machine.execTapInstructionLoad code s
  | .dapAccess op => Sys2Proof.Machine.execDapAccess op s
  | .dbgChallenge => Sys2Proof.Machine.execDbgChallenge s
  | .challengeExpiry => Sys2Proof.Machine.execChallengeExpiry s
  | .dbgResponse octets => Sys2Proof.Machine.execDbgResponse octets s
  | .dbgSeal => Sys2Proof.Machine.execDbgSeal s
  | .sessionEnd road value => Sys2Proof.Machine.execSessionEnd road value s
  | .sessionIdleTimeout => Sys2Proof.Machine.execSessionIdleTimeout s
  | .tamper low => Sys2Proof.Machine.execTamper low s
  | .tallyWrite road id value => Sys2Proof.Machine.execTallyWrite road id value s
  | .flashErase blk => Sys2Proof.Machine.execFlashErase blk s
  | .eraseSuspend => Sys2Proof.Machine.execEraseSuspend s
  | .starve ms => Sys2Proof.Machine.execStarve ms s
  | .journalReclaim => Sys2Proof.Machine.execJournalReclaim s
  | .scrubVisit weak => Sys2Proof.Machine.execScrubVisit weak s
  | .scrubRewrite blk => Sys2Proof.Machine.execScrubRewrite blk s
  | .blockRetire blk why => Sys2Proof.Machine.execBlockRetire blk why s
  | .wear => Sys2Proof.Machine.execWear s
  | .lifeHourTick => Sys2Proof.Machine.execLifeHourTick s
  | .manifestPiece q p => Sys2Proof.Machine.execManifestPiece q p s
  | .payloadPiece q p => Sys2Proof.Machine.execPayloadPiece q p s
  | .query q index update => Sys2Proof.Machine.execQuery q index update s
  | .abort q update => Sys2Proof.Machine.execAbort q update s
  | .sheafCheck => Sys2Proof.Machine.execSheafCheck s
  | .stagingComplete => Sys2Proof.Machine.execStagingComplete s
  | .stagingInstall norOk => Sys2Proof.Machine.execStagingInstall norOk s
  | .assaySample codes => Sys2Proof.Machine.execAssaySample codes s
  | .assayPulse => Sys2Proof.Machine.execAssayPulse s
  | .intervalRecord => Sys2Proof.Machine.execIntervalRecord s
  | .sealChange openNow => Sys2Proof.Machine.execSealChange openNow s
  | .assayStatus port => Sys2Proof.Machine.execAssayStatus port s
  | .snapshot port => Sys2Proof.Machine.execSnapshot port s
  | .readRecord port seq => Sys2Proof.Machine.execReadRecord port seq s
  | .readLog port idx => Sys2Proof.Machine.execReadLog port idx s
  | .timeSet port req => Sys2Proof.Machine.execTimeSet port req s
  | .readParam port => Sys2Proof.Machine.execReadParam port s
  | .writeParam port block => Sys2Proof.Machine.execWriteParam port block s
  | .installKey port which key => Sys2Proof.Machine.execInstallKey port which key s
  | .setTime port rtc => Sys2Proof.Machine.execSetTime port rtc s
  | .calibrationFrame octets openThroughout => Sys2Proof.Machine.execCalibrationFrame octets openThroughout s
  | .hatchCmdFailed timeout => Sys2Proof.Machine.execHatchCmdFailed timeout s
  | .assaySupplyFail holdup => Sys2Proof.Machine.execAssaySupplyFail holdup s
  | .assaySupplyReturn => Sys2Proof.Machine.execAssaySupplyReturn s
  | .assayCrystalFault => Sys2Proof.Machine.execAssayCrystalFault s
  | .assayCrystalRecovered => Sys2Proof.Machine.execAssayCrystalRecovered s
  | .alert => Sys2Proof.Machine.execAlert s
  | .errorDetected origin code lane item => Sys2Proof.Machine.execErrorDetected origin code lane item s
  | .errAck road value => Sys2Proof.Machine.execErrAck road value s
  | .muster => Sys2Proof.Machine.execMuster s
  | .bookCapture book inst drift recountOk => Sys2Proof.Machine.execBookCapture book inst drift recountOk s
  | .musterDefer book => Sys2Proof.Machine.execMusterDefer book s
  | .gpio levels => Sys2Proof.Machine.execGpio levels s
  | .therm die temp => Sys2Proof.Machine.execTherm die temp s
  | .overtemperature die temp => Sys2Proof.Machine.execOvertemperature die temp s
  | .supplyUndervoltage io => Sys2Proof.Machine.execSupplyUndervoltage io s
  | .downlinkAckTimeout node => Sys2Proof.Machine.execDownlinkAckTimeout node s
  | .eraseComplete => Sys2Proof.Machine.execEraseComplete s
  | .bsrpDue r => Sys2Proof.Machine.execBsrpDue r s
  | .wakeNTimeout => Sys2Proof.Machine.execWakeNTimeout s

end Sys2Proof.Machine
end

