-- ==== Sys2Proof/WellFormed.lean ====
section
/-! DEFINITION. Well-formed commands: operands within the widths and lengths the manual gives them. The meanings are total; a
command that is not well-formed is one that no sender can spell. -/

namespace Sys2Proof

/-- A road by which something outside the device writes. -/
def Road.outside : Road → Bool
  | .device => false
  | _ => true

/-- An Ethernet frame: 48-bit addresses, priority and VLAN of its tag, EtherType. -/
def EthFrame.wf (f : EthFrame) : Bool :=
  decide (f.da < 2 ^ 48 ∧ f.sa < 2 ^ 48 ∧ f.etype < 2 ^ 16) && f.tag.all (fun t => decide (t.1 < 8 ∧ t.2 < 4096))

/-- An MPDU header (R105, R111): addresses, TID, sequence and fragment numbers, packet number. -/
def MpduHdr.wf (m : MpduHdr) : Bool :=
  decide (m.ta < 2 ^ 48 ∧ m.ra < 2 ^ 48 ∧ m.kind ≤ 6 ∧ m.tid ≤ 8 ∧ m.sn < 4096 ∧ m.fn < 16 ∧ m.pn < 2 ^ 48) && m.frame.wf

/-- A mesh transmission request (R176, R191): channel, hypothesis, preamble of 4 to 1,000 octets, PSDU of at most 2,047. -/
def MeshTx.wf (t : MeshTx) : Bool :=
  decide (t.ch < 256 ∧ t.hyp < 4 ∧ 4 ≤ t.pre ∧ t.pre ≤ 1000 ∧ t.psdu.length < 2048 ∧ t.node < 131072)

/-- What a mesh detector's window shows (R181): a channel, a hypothesis, a correlation in sixteenths. -/
def RoundHit.wf (h : RoundHit) : Bool := decide (h.ch < 256 ∧ h.hyp < 4 ∧ h.corr ≤ 16)

/-- A send header (R232). -/
def SendHdr.wf (h : SendHdr) : Bool :=
  decide (h.node < 131072 ∧ h.level < 8 ∧ h.channel < 256 ∧ h.lifeS < 2 ^ 16 ∧ h.cookie < 2 ^ 32 ∧ h.hyp < 4 ∧ h.pan < 4)

/-- A frame entering Carter (R270): one of the source indices. -/
def Ingress.wf (g : Ingress) : Bool := decide (g.src < 64) && g.frame.wf && g.sta.all (fun n => decide (n < 2048))

/-- A transmit descriptor (R336). -/
def TxDesc.wf (d : TxDesc) : Bool :=
  decide (d.addr < 2 ^ 64 ∧ d.len < 2 ^ 16 ∧ d.cls < 8 ∧ d.dest < 2 ^ 16) && d.frame.wf && d.mesh.all (fun m => m.1.wf)

/-- The sender of a Creosh request (R349, R353). -/
def CreoshReq.wf (q : CreoshReq) : Bool := decide (q.src < 64 ∧ q.vlan < 4096 ∧ q.sa < 2 ^ 48 ∧ q.seq < 2 ^ 64)

/-- A hitching-port transaction (R357): a BAR0 offset, a multiple of 4. -/
def HitchXfer.wf : HitchXfer → Bool
  | .read a _ => decide (a < 2 ^ 32 ∧ a % 4 = 0)
  | .write a _ => decide (a < 2 ^ 32 ∧ a % 4 = 0)

/-- A piece (R458) with an index below n: 1,024 octets. -/
def PieceReq.wf (p : PieceReq) (n : Nat) : Bool := decide (p.update < 2 ^ 32 ∧ p.index < n ∧ p.data.length = 1024)

/-- Every operand is one that a sender can spell. -/
def Instr.wf : Instr → Bool
  | .registerWrite road addr _ => road.outside && decide (addr < 0x4000000)
  | .tableWindowWrite road addr _ => road.outside && decide (0x2000000 ≤ addr ∧ addr < 0x4000000)
  | .topEngGateWrite road _ => road.outside
  | .topEngReset road _ => road.outside
  | .topSectReset road _ => road.outside
  | .topDevReset road _ => road.outside
  | .engCtrlStop _ _ => true
  | .engCtrlHold _ _ => true
  | .cntClear _ => true
  | .bankSwitchRequest _ _ => true
  | .bankCopyRequest _ _ => true
  | .bankCopyComplete _ _ => true
  | .engineBoundary _ => true
  | .drainComplete _ => true
  | .drainTimeout _ => true
  | .engineReset _ => true
  | .sectionReset _ => true
  | .resetRelease _ => true
  | .runReapplyComplete _ _ => true
  | .powerOnReset _ => true
  | .brownOut _ => true
  | .pinReset _ => true
  | .startSequence _ => true
  | .tallyScan h us => (h.all (fun n => decide (n < 96))) && us.all (fun u => decide (u.1 < 96))
  | .norDiscovery p => decide (p.bytes0 < 2 ^ 32 ∧ p.bytes1 < 2 ^ 32)
  | .slotChoice => true
  | .pass1 _ => true
  | .migration => true
  | .pass2 _ => true
  | .waitRecordTimeout => true
  | .startGaitRaise => true
  | .lameStateEntry => true
  | .ostSettle road _ => road.outside
  | .autoSettle => true
  | .rollbackBurn _ => true
  | .rxDetection _ x => decide (x.cca.length ≤ 16)
  | .rxFalseRelease _ => true
  | .lsigValid _ => true
  | .signalFieldCrcFail _ => true
  | .rxUnsupported _ => true
  | .capturePowerStep _ _ => true
  | .captureRestart _ => true
  | .captureRestartFail _ => true
  | .phyRxend _ _ _ _ x => decide (x.chains < 2 ^ 8 ∧ x.cca.length ≤ 16)
  | .txStartCommand _ cca => decide (cca.length ≤ 16)
  | .obssPdUpdate _ => true
  | .obssPpduIgnored _ _ => true
  | .spExpired => true
  | .phyBankSwitch _ _ => true
  | .mpduProvisional _ m => m.wf
  | .mpduVerdict _ _ _ _ => true
  | .responseSend _ => true
  | .reorderRelease _ _ sn => sn.all (fun n => decide (n < 4096))
  | .reorderTimeout _ _ => true
  | .agreementValidWrite _ _ _ => true
  | .edcaTxopGain _ _ _ draws _ => decide (draws.length ≤ 3)
  | .txopLost _ _ => true
  | .rtsProtection _ _ _ dest w => decide (dest.length ≤ 148 ∧ w ≤ 4)
  | .tbtt _ _ => true
  | .beaconDropped _ _ => true
  | .probeRequest _ _ => true
  | .probeResponseDrop _ => true
  | .psPoll _ _ => true
  | .uapsdTrigger _ _ _ _ => true
  | .twtServicePeriodEnd _ _ => true
  | .triggerFrameSend _ k => decide (k < 4)
  | .tbPpduReceive _ _ => true
  | .soundingSequence _ => true
  | .beamformingReport _ _ _ _ _ => true
  | .bhBeaconLoss _ => true
  | .bhBeaconReceived _ b => decide (b.edca.length = 4 ∧ b.tsf < 2 ^ 64)
  | .placementPeriod _ _ _ => true
  | .airEnqueue _ _ _ _ f => f.wf
  | .queueAgeDrop _ => true
  | .planMade p => p.loss.all (fun x => decide (x.1 < 2048))
  | .planSwap _ _ => true
  | .planCommit _ _ l => decide (l.length ≤ 148)
  | .planSettle _ _ => true
  | .planUndo _ _ _ => true
  | .soundingDue => true
  | .precoderReady _ _ => true
  | .sieveDetection _ ch hyp x hits => (⟨ch, hyp, x.power, x.corr, 0⟩ : RoundHit).wf && hits.all (fun h => h.wf)
  | .sfdMatch _ _ _ _ => true
  | .preambleTimeout _ => true
  | .phrJudgement _ p q _ => decide (p.len < 2048) && q.all (fun p => decide (p.len < 2048))
  | .meshFrameVerdict _ body fcs => decide (body.length + fcs.length < 2048)
  | .channelBlanking _ _ => true
  | .nfLoopUpdate _ => true
  | .sieveTxRequest t => t.wf
  | .sieveTxCommit _ => true
  | .sieveTxEnd _ _ => true
  | .sieveSpanApply => true
  | .postFrameAccept _ => true
  | .postFrameUndo _ => true
  | .dataRequestPoll _ => true
  | .admitNode _ => true
  | .forget _ => true
  | .create _ => true
  | .throw _ => true
  | .read _ => true
  | .write _ => true
  | .flush _ => true
  | .grantAcknowledged _ => true
  | .grantExpired _ => true
  | .tetherWindowOpen _ => true
  | .tetherEventEnd _ => true
  | .meshEnqueue h _ => h.wf
  | .downlinkSend _ => true
  | .downlinkExpired _ => true
  | .meshBroadcast h _ => h.wf
  | .saddlebagDrain => true
  | .hotTableRebuild => true
  | .feWarmDone _ _ => true
  | .feSettleDone _ => true
  | .startupCalibrationDone _ _ _ => true
  | .calibrationDue _ _ => true
  | .inserviceStep _ _ _ => true
  | .calStepAbort _ => true
  | .txWaitedLate _ _ => true
  | .alcUpdate _ _ => true
  | .alcOvershoot _ _ => true
  | .maskViolation _ => true
  | .chainRevive road _ => road.outside
  | .dutyTick => true
  | .synthLockLost _ => true
  | .regFuseWrite road _ => road.outside
  | .rfcImgcapWrite road _ => road.outside
  | .frameIngress g => g.wf
  | .loftSpill _ => true
  | .cutThrough g => g.wf && decide (g.src < 2)
  | .cutThroughStomp _ _ _ => true
  | .egressSchedule _ => true
  | .ringLink _ _ => true
  | .l2Insert road => road.outside
  | .l2Delete road => road.outside
  | .l2Lookup road => road.outside
  | .l2Flush road => road.outside
  | .macAgeing => true
  | .ptpTimestamp _ _ _ _ => true
  | .tsFifoPop => true
  | .transparentClock _ _ => true
  | .servoSample _ => true
  | .ptpHoldover => true
  | .timeStep road _ => road.outside
  | .ppsOut _ => true
  | .keeperRelease _ => true
  | .keeperOpen => true
  | .keepRetry => true
  | .aesRequest _ => true
  | .txCipherLate _ _ _ => true
  | .keyInstall road _ _ => road.outside
  | .keyClear road _ _ => road.outside
  | .keyRead road _ _ => road.outside
  | .keyFetch _ _ => true
  | .limitFifoRead => true
  | .mfcReservationWrite => true
  | .mfcWrap => true
  | .mfcResume => true
  | .vaultRecrypt => true
  | .backingRewrite _ => true
  | .vaultRebuild _ => true
  | .noiseWindow _ => true
  | .drbgReseed => true
  | .drbgStopped _ => true
  | .hostPortReset _ => true
  | .hostPortUp _ => true
  | .wakeNAssert => true
  | .doorbellWrite _ _ => true
  | .ringCtrlEnable road _ _ => road.outside
  | .txDescriptor _ d => d.wf
  | .rxDescriptorFill _ ds => ds.all (fun d => decide (256 ≤ d.bufLen ∧ d.bufLen ≤ 16384 ∧ d.bufLen % 64 = 0))
  | .dmaFault _ => true
  | .ledgerRecord _ _ _ p => decide (p.length ≤ 16)
  | .ledgerFeed => true
  | .ledgerTailWrite road _ => road.outside
  | .ledgerCfgWrite road _ => road.outside
  | .servedSourceFire _ _ p => decide (p.length ≤ 16)
  | .done road _ => road.outside
  | .msixMessage => true
  | .copyDataRead => true
  | .creoshFrame _ _ _ octets => decide (octets.length ≤ 16384)
  | .creoshRead q addr count => q.wf && decide (addr < 2 ^ 32 ∧ count < 2 ^ 16)
  | .creoshWrite q addr ds => q.wf && decide (addr < 2 ^ 32 ∧ 8 + 4 * ds.length ≤ 1400)
  | .creoshLedger q index count => q.wf && decide (index < 2 ^ 32 ∧ count < 2 ^ 16)
  | .creoshDone q _ _ => q.wf
  | .creoshPiece q body => q.wf && decide (body.length ≤ 1400)
  | .creoshGait q _ _ _ _ => q.wf
  | .creoshReset q _ => q.wf
  | .creoshSend q _ _ frame => q.wf && decide (4 + frame.length ≤ 1400)
  | .armKey q => q.wf
  | .armKeyExpiry => true
  | .creoshFloorWrite => true
  | .creoshTxblkWrite => true
  | .delivery _ => true
  | .hitchAddressMatch _ _ => true
  | .registerAccess x => x.wf
  | .ledgerCopyRead index _ => decide (index < 2 ^ 32)
  | .hitchSclTimeout => true
  | .paddockStable => true
  | .paddockLost => true
  | .groomFailure => true
  | .groomRecovered => true
  | .crossingModeChange _ => true
  | .groupPark _ => true
  | .groupUnpark _ => true
  | .stoppedClock _ _ _ _ => true
  | .evtHeldSaturated _ _ => true
  | .streamFault _ _ => true
  | .avsUpdate rs _ => rs.all (fun r => decide (r.1 < 24))
  | .avsUrgentRaise _ _ _ => true
  | .droopStretch _ => true
  | .dfeUpdate _ _ _ => true
  | .eqAcquisition _ _ => true
  | .watchGaitReq road _ => road.outside
  | .gaitTransition => true
  | .pwrLoss => true
  | .pwrRestored => true
  | .fatalLift => true
  | .lowbat _ => true
  | .lowbatLift _ => true
  | .watchRound hits => hits.all (fun h => h.wf)
  | .saddleWake => true
  | .saddleSleep => true
  | .wakeSource _ => true
  | .watchTimer => true
  | .ppsInEdge => true
  | .alwaysOnTick => true
  | .ponyHpRequest => true
  | .ponyLpRelease => true
  | .genSecret road _ _ _ => road.outside
  | .toMaker road _ _ => road.outside
  | .toField road _ _ => road.outside
  | .toRetired road _ _ => road.outside
  | .lifecycleTransition => true
  | .secFuseWrite road _ _ => road.outside
  | .zeroise road _ => road.outside
  | .wipeOverwriteDone _ => true
  | .tapInstructionLoad _ => true
  | .dapAccess _ => true
  | .dbgChallenge => true
  | .challengeExpiry => true
  | .dbgResponse octets => decide (octets.length = 132)
  | .dbgSeal => true
  | .sessionEnd road _ => road.outside
  | .sessionIdleTimeout => true
  | .tamper _ => true
  | .tallyWrite road _ _ => road.outside
  | .flashErase _ => true
  | .eraseSuspend => true
  | .starve _ => true
  | .journalReclaim => true
  | .scrubVisit _ => true
  | .scrubRewrite _ => true
  | .blockRetire _ _ => true
  | .wear => true
  | .lifeHourTick => true
  | .manifestPiece q p => q.wf && p.wf 8
  | .payloadPiece q p => q.wf && p.wf 8192
  | .query q index update => q.wf && decide (index < 2 ^ 16 ∧ update < 2 ^ 32)
  | .abort q update => q.wf && decide (update < 2 ^ 32)
  | .sheafCheck => true
  | .stagingComplete => true
  | .stagingInstall _ => true
  | .assaySample cs => decide (cs.length = 8)
  | .assayPulse => true
  | .intervalRecord => true
  | .sealChange _ => true
  | .assayStatus _ => true
  | .snapshot _ => true
  | .readRecord _ _ => true
  | .readLog _ _ => true
  | .timeSet _ _ => true
  | .readParam _ => true
  | .writeParam _ _ => true
  | .installKey _ which key => decide (which < 2 ∧ key.length = 16)
  | .setTime _ _ => true
  | .calibrationFrame _ _ => true
  | .hatchCmdFailed _ => true
  | .assaySupplyFail _ => true
  | .assaySupplyReturn => true
  | .assayCrystalFault => true
  | .assayCrystalRecovered => true
  | .alert => true
  | .errorDetected _ _ _ _ => true
  | .errAck road _ => road.outside
  | .muster => true
  | .bookCapture _ _ _ _ => true
  | .musterDefer _ => true
  | .gpio _ => true
  | .therm _ _ => true
  | .overtemperature _ _ => true
  | .supplyUndervoltage _ => true
  | .downlinkAckTimeout _ => true
  | .eraseComplete => true
  | .bsrpDue _ => true
  | .wakeNTimeout => true

end Sys2Proof
end

