-- ==== Sys2Proof/Safety.lean ====
section
/-! DEFINITION. What a safe run is, in the terms that claims use: no step stops, what the manual keeps for good is kept, and
what a record of the ledger may touch. -/

namespace Sys2Proof.Machine

/-- A step from s goes on. -/
def State.goesOn (s : State) : Prop := ∃ t, step s = .next t

/-- Command c answers at s with a next state that differs from s in the block alone, and P holds of the new block. -/
def blockStep (c : Instr) (s : State) (P : Block → Prop) : Prop := ∃ b : Block, exec c s = s.next b ∧ P b

/-- Every fuse bit of m is set in n: fuses are only ever programmed (R6, R255, R420). -/
def fusesKept (m n : List (Nat × Nat)) : Prop := ∀ w i, bitOf (look m w 0) i = true → bitOf (look n w 0) i = true

/-- The fuses of t hold every bit that those of s hold. -/
def Fuses.grown (s t : Fuses) : Prop := fusesKept s.sec t.sec ∧ fusesKept s.reg t.reg

/-- The commands of the Assay die: its own events and what reaches it through its two inputs (R471). -/
def ofAssayDie : Instr → Bool
  | .assaySample _ => true | .assayPulse => true | .intervalRecord => true | .sealChange _ => true
  | .assayStatus _ => true | .snapshot _ => true | .readRecord _ _ => true | .readLog _ _ => true | .timeSet _ _ => true
  | .readParam _ => true | .writeParam _ _ => true | .installKey _ _ _ => true | .setTime _ _ => true
  | .calibrationFrame _ _ => true | .assaySupplyFail _ => true | .assaySupplyReturn => true
  | .assayCrystalFault => true | .assayCrystalRecovered => true | .errorDetected o _ _ _ => o.val == 22 | _ => false

/-- The commands that reach the Assay die through the Hatch (R487). -/
def throughHatch : Instr → Bool
  | .assayStatus p => p == .hatch | .snapshot p => p == .hatch | .readRecord p _ => p == .hatch | .readLog p _ => p == .hatch
  | .timeSet p _ => p == .hatch | .readParam p => p == .hatch | .writeParam p _ => p == .hatch
  | .installKey p _ _ => p == .hatch | .setTime p _ => p == .hatch | _ => false

/-- The fields that Clerk itself changes when it writes a record: the ring's head and the loss status (R341, R344). -/
def ledgerFields : List Fld := [F.CLERK_LEDGER_HEAD.HEAD, F.CLERK_LEDGER_STATUS.DROPPED, F.CLERK_LEDGER_STATUS.OVERFLOW]

/-- c is b but for Clerk's records, what Clerk sends, and the ledger's own fields. -/
def Block.ledgerOnly (b c : Block) : Prop :=
  c = { b with regs := c.regs, clerk := c.clerk, out := c.out } ∧
    ∀ f : Fld, (∀ g ∈ ledgerFields, f.key ≠ g.key) → c.get f = b.get f

end Sys2Proof.Machine
end

