-- ==== Sys2Proof/Certificates/Slice0/Obligations.lean ====
section
/-! DEFINITION. The statements about the model that the provers prove, from the rules of the spec. -/

open Sys2Proof Sys2Proof.Machine

/-- O1. A step runs the command at the front of the queue on the rest of the queue; with an empty queue the block idles. From
spec/98_reader.md, spec/00_scope.md. That the block idles on an empty queue is the choice of the model (log entry 1). -/
def Obligations.StepRunsFrontOfQueue : Prop :=
  (∀ (s : State) (c : Instr) (rest : List Instr), s.pending = c :: rest → step s = exec c { s with pending := rest }) ∧
  (∀ s : State, s.pending = [] → step s = .next s)

/-- O2. TOP_ENG_GATE, STOP, HOLD, boundaries, drains, starts and the release of Watchman do what the engine rules say. From
R12, R13, R14, R15, R17, R18, R29, R30, R55. -/
def Obligations.EngineControlEffects : Prop :=
  (∀ (s : State) (road : Road) (v : Word), s.blk.roadStops road R.TOP_ENG_GATE = none → gateOffence v.toNat = none →
    ∃ b : Block, exec (.topEngGateWrite road v) s = s.next (b.settleAll s.fuse) ∧ b.get F.TOP_ENG_GATE.GATE = bitsOf v.toNat 10 3) ∧
  (∀ (s : State) (road : Road) (v : Word) (d x : Nat), s.blk.roadStops road R.TOP_ENG_GATE = none →
    gateOffence v.toNat = some (d, x) →
    exec (.topEngGateWrite road v) s = s.next (s.blk.note 16 0 [BitVec.ofNat 8 d, BitVec.ofNat 8 x])) ∧
  (∀ (s : State) (e : Fin 12) (v : Bool), e.val ≠ 3 →
    exec (.engCtrlStop e v) s = s.next ((s.blk.setB (F.ENG_CTRL.STOP e.val) v).settleAll s.fuse)) ∧
  (∀ (s : State) (e : Fin 12) (v : Bool), e.val ≠ 11 → s.blk.busyH e.val = true → v = true ∨ s.blk.idle e.val = false →
    exec (.engCtrlHold e v) s = s.next (s.blk.setB (F.ENG_CTRL.HOLD e.val) v)) ∧
  (∀ (s : State) (e : Fin 12), e.val ≠ 11 → s.blk.runs e.val = true → s.blk.idle e.val = true → s.blk.pends e.val = true →
    exec (.engCtrlHold e false) s = s.next ((s.blk.setB (F.ENG_CTRL.HOLD e.val) false).boundary e.val)) ∧
  (∀ (s : State) (e : Fin 12), ¬ (5 ≤ e.val ∧ e.val ≤ 7) → s.blk.busyH e.val = true → s.blk.hold e.val = true →
    exec (.engineBoundary e) s = s.next (s.blk.wrap (F.ENG_STATUS.BOUNDARY_COUNT e.val) 1)) ∧
  (∀ (s : State) (e : Fin 12), ¬ (5 ≤ e.val ∧ e.val ≤ 7) → s.blk.busyH e.val = true → s.blk.hold e.val = false →
    exec (.engineBoundary e) s = s.next (((s.blk.wrap (F.ENG_STATUS.BOUNDARY_COUNT e.val) 1).takeShadows e.val).switchBanks
      e.val (fun _ => true))) ∧
  (∀ (s : State) (e : Fin 12), 5 ≤ e.val ∧ e.val ≤ 7 → s.blk.busyH e.val = true →
    exec (.engineBoundary e) s = s.next ((s.blk.txEnd (lmRadio e.val)).boundary e.val)) ∧
  (∀ (s : State) (e : Fin 12), s.blk.est e.val ≠ stDrain →
    exec (.drainComplete e) s = s.next s.blk ∧ exec (.drainTimeout e) s = s.next s.blk) ∧
  (∀ (s : State) (e : Fin 12), ¬ (5 ≤ e.val ∧ e.val ≤ 7) → (e.val = 10 → s.blk.post.events = []) →
    exec (.drainComplete e) s = s.next (s.blk.drainDone s.fuse e.val)) ∧
  (∀ s : State, s.blk.post.events ≠ [] → exec (.drainComplete 10) s = s.next s.blk) ∧
  (∀ (s : State) (e : Fin 12), s.blk.est e.val = stDrain → s.blk.drainTo e.val = stRun →
    exec (.drainTimeout e) s =
      s.next (((s.blk.engReset e.val).setB (F.ENG_STATUS.DRAIN_TIMEOUT e.val) true).resetNote (2 ^ e.val) 2)) ∧
  (∀ (s : State) (e : Fin 12) (w : Nat) (b : Block), s.blk.est e.val = stDrain → s.blk.drainTo e.val = w →
    w = stStop ∨ w = stOff → b = (s.blk.engReset e.val).setB (F.ENG_STATUS.DRAIN_TIMEOUT e.val) true →
    exec (.drainTimeout e) s =
      s.next (({ b with eng := { b.eng with r15 := put' b.eng.r15 e.val w } } : Block).resetNote (2 ^ e.val) 2)) ∧
  (∀ (s : State) (b : Block), s.blk.est 11 = stReset → b = { s.blk with eng := { s.blk.eng with
      r15 := s.blk.eng.r15.filter (fun x => x.1 != 11), sect := s.blk.eng.sect.filter (· != sectionOf 11) } } →
    exec (.resetRelease 11) s = s.next (b.setEst 11 stRun)) ∧
  (∀ (s : State) (e : Fin 12), s.blk.est e.val ≠ stReset ∨ s.blk.wideHolds e.val = true →
    exec (.resetRelease e) s = s.next s.blk) ∧
  (∀ (s : State) (e : Fin 12), e.val ≠ 10 → s.blk.est e.val = stStart → s.blk.est 0 = stRun → s.blk.startHeld e.val = false →
    s.blk.ost.runs.find? (fun r => r.engine == e.val) = none →
    ∀ ok, exec (.runReapplyComplete e ok) s = s.next (s.blk.startDone s.fuse e.val))

/-- O3. TOP_ENG_RESET, TOP_SECT_RESET, TOP_DEV_RESET and the reset events reset what their kind covers. From R7, R13, R16,
R19, R321, R359, R521. -/
def Obligations.ResetEffects : Prop :=
  (∀ (s : State) (road : Road) (e : Fin 12), s.blk.roadStops road R.TOP_ENG_RESET = none → s.blk.est e.val ≠ stReset →
    exec (.topEngReset road (BitVec.ofNat 32 (2 ^ e.val))) s = s.next ((s.blk.engReset e.val).resetNote (2 ^ e.val) 0)) ∧
  (∀ (s : State) (road : Road) (n : Fin 6), n.val ≠ 3 → s.blk.roadStops road R.TOP_SECT_RESET = none →
    s.blk.sectBusy n.val = false →
    exec (.topSectReset road (BitVec.ofNat 32 (2 ^ n.val))) s =
      s.next ((s.blk.sectReset n.val).resetNote (2 ^ (16 + n.val)) 1)) ∧
  (∀ (s : State) (road : Road), s.blk.roadStops road R.TOP_DEV_RESET = none →
    s.blk.absorbs kindDevice = false → exec (.topDevReset road 0x4B470001) s = s.next (s.blk.resetWide s.fuse kindDevice 0 none)) ∧
  (∀ (s : State) (road : Road) (v : Word), s.blk.roadStops road R.TOP_DEV_RESET = none → v.toNat / 2 ^ 16 ≠ 0x4B47 →
    exec (.topDevReset road v) s = s.next (s.blk.noteWrite road R.TOP_DEV_RESET v.toNat)) ∧
  (∀ (s : State) (e : Fin 12), blockStep (.engineReset e) s (fun b => b.est e.val = stReset)) ∧
  (∀ (s : State) (n : Fin 6), n.val ≠ 3 → s.blk.sectBusy n.val = false →
    exec (.sectionReset n) s = s.next (s.blk.sectReset n.val)) ∧
  (∀ (s : State) (v : BitVec 2), blockStep (.powerOnReset v) s (fun b =>
    b.get F.TOP_RESET_CAUSE.KIND = 0 ∧ b.get F.PIN_STRAP.HITCH_ADDR = v.toNat ∧ b.watch.plan = 7 ∧ b.lock.vault = [] ∧
      b.clerk.copy = [] ∧ b.counts = [] ∧ b.dram = [] ∧ b.ost.nor = s.blk.ost.nor)) ∧
  (∀ (s : State) (v : BitVec 2), s.blk.absorbs kindBor = false → blockStep (.brownOut v) s (fun b =>
    b.get F.TOP_RESET_CAUSE.KIND = 1 ∧ b.get F.PIN_STRAP.HITCH_ADDR = v.toNat ∧ b.watch.plan = 7 ∧ b.lock.vault = [] ∧
      b.clerk.copy = [] ∧ b.counts = [] ∧ b.dram = [] ∧ b.ost.nor = s.blk.ost.nor)) ∧
  (∀ (s : State) (v : BitVec 2), s.blk.absorbs kindPin = false → blockStep (.pinReset v) s (fun b =>
    b.get F.TOP_RESET_CAUSE.KIND = 2 ∧ b.get F.PIN_STRAP.HITCH_ADDR = v.toNat ∧ b.watch.plan = 7 ∧ b.lock.vault = [] ∧
      b.clerk.copy = s.blk.clerk.copy ∧ b.time = s.blk.time ∧ b.dram = [] ∧ b.ost.nor = s.blk.ost.nor)) ∧
  (∀ (s : State) (v : BitVec 2), s.blk.absorbs kindBor = true → exec (.brownOut v) s = s.next s.blk) ∧
  (∀ (s : State) (v : BitVec 2), s.blk.absorbs kindPin = true → exec (.pinReset v) s = s.next s.blk)

/-- O4. A register write acts by its type, an unassigned address reads 0 and ignores writes, a live table stores, a clear
zeroes one counter set. From R6, R13, R23, R24, R25, R27, R31, R529, R535. -/
def Obligations.RegisterAndTableWrites : Prop :=
  (
  (∀ (s : State) (road : Road) (v : Word), s.blk.roadStops road R.CLERK_COALESCE = none →
    exec (.registerWrite road R.CLERK_COALESCE { value := v }) s =
      s.next ((s.blk.set F.CLERK_COALESCE.COUNT (v.toNat / 2 ^ 16 % 2 ^ 11)).set F.CLERK_COALESCE.TIME_US (v.toNat % 2 ^ 16))) ∧
  (∀ (s : State) (road : Road) (v : Word), s.blk.roadStops road R.DROV_QCFG = none → s.blk.busyH 4 = true →
    s.blk.reaches 4 = false →
    blockStep (.registerWrite road R.DROV_QCFG { value := v }) s (fun b =>
      b = { s.blk with shadows := b.shadows } ∧ b.shadow? F.DROV_QCFG.AGE_MS = some (v.toNat / 2 ^ 16) ∧
        b.shadow? F.DROV_QCFG.MAX_PPDU_US = some (v.toNat % 2 ^ 13))) ∧
  (∀ (s : State) (road : Road) (v : Word), s.blk.roadStops road R.CART_LOFT = none → s.blk.busyH 3 = true →
    exec (.registerWrite road R.CART_LOFT { value := v }) s = s.next (s.blk.noteWrite road R.CART_LOFT v.toNat)) ∧
  (∀ (s : State) (road : Road) (v : Word), s.blk.roadStops road R.CART_LOFT = none → s.blk.busyH 3 = false →
    exec (.registerWrite road R.CART_LOFT { value := v }) s = s.next (s.blk.set F.CART_LOFT.SIZE_MIB (v.toNat % 2 ^ 10))) ∧
  (∀ (s : State) (road : Road) (v : Word), s.blk.roadStops road R.TOP_ID = none →
    exec (.registerWrite road R.TOP_ID { value := v }) s = s.next s.blk) ∧
  (∀ (s : State) (a : Nat) (v : Word), s.blk.roadStops .bar0 a = none →
    exec (.registerWrite .bar0 a { value := v, dword := false }) s = s.next (s.blk.noteWrite .bar0 a v.toNat)) ∧
  (∀ (s : State) (a : Nat) (v : Word), s.blk.roadStops .bar0 a = none → 0x2000000 ≤ a →
    exec (.tableWindowWrite .bar0 a { value := v, dword := false }) s = s.next (s.blk.noteWrite .bar0 a v.toNat))
  ) ∧
  (
  (∀ (s : State) (road : Road) (a : Nat) (v : Word), s.blk.roadStops road a = none → a % 4 = 0 → a < 0x2000000 →
    Regs.find a = none → exec (.registerWrite road a { value := v }) s = s.next (s.blk.noteWrite road a v.toNat)) ∧
  (∀ (s : State) (a : Nat), a % 4 = 0 → a < 0x2000000 → Regs.find a = none → s.busRead .device a = (0, s))
  ) ∧
  (
  ∀ (s : State) (road : Road) (i : Fin 8192) (v : Word), s.blk.roadStops road (0x21E0000 + 4 * i.val) = none →
    s.blk.windowOpen 3 = true →
    blockStep (.tableWindowWrite road (0x21E0000 + 4 * i.val) { value := v }) s (fun b =>
      b = { s.blk with tabs := b.tabs } ∧ b.tab (0x21E0000 + 4 * i.val) 4 = v.toNat ∧
      ∀ a, a < 0x21E0000 + 4 * i.val ∨ 0x21E0000 + 4 * i.val + 4 ≤ a → look b.tabs a 0 = look s.blk.tabs a 0)
  ) ∧
  (
  ∀ (s : State) (c : CntSet), blockStep (.cntClear c) s (fun b =>
    b = { s.blk with counts := b.counts } ∧ (∀ n < 65536, b.cnt c n = 0) ∧
    ∀ d, cntBase d ≠ cntBase c → ∀ n < 65536, b.cnt d n = s.blk.cnt d n)
  )

/-- O5. Bank switches and copies are requested, completed and held as the banked-table rules say. From R26, R27, R29, R30,
R88. -/
def Obligations.BankOperations : Prop :=
  (∀ (s : State) (o : BankOwner) (n : Fin 16), (bankedTable (bankOwner o) n.val).isSome = true →
    s.blk.bankOp (bankOwner o) n.val = none → s.blk.bankAtOnce (bankOwner o) n.val = false →
    exec (.bankSwitchRequest o (BitVec.ofNat 16 (2 ^ n.val))) s = s.next (s.blk.setBankOp (bankOwner o) n.val
      (some { owner := bankOwner o, table := n.val, switch := true }))) ∧
  (∀ (s : State) (e : Fin 12) (n : Fin 16) (b : Block), (bankedTable e.val n.val).isSome = true →
    s.blk.bankOp e.val n.val = none → s.blk.reaches e.val = true →
    b = s.blk.setBankOp e.val n.val (some { owner := e.val, table := n.val, switch := true }) →
    exec (.bankSwitchRequest (.eng e) (BitVec.ofNat 16 (2 ^ n.val))) s = s.next (b.boundary e.val)) ∧
  (∀ (s : State) (o : BankOwner) (n : Fin 16), (bankedTable (bankOwner o) n.val).isSome = true →
    s.blk.bankOp (bankOwner o) n.val = none →
    exec (.bankCopyRequest o (BitVec.ofNat 16 (2 ^ n.val))) s = s.next ((s.blk.copyBank (bankOwner o) n.val).setBankOp
      (bankOwner o) n.val (some { owner := bankOwner o, table := n.val, copy := true }))) ∧
  (∀ (s : State) (o : BankOwner) (n : Fin 16) (q : BankOp), s.blk.bankOp (bankOwner o) n.val = some q → q.copy = true →
    q.switch = false → exec (.bankCopyComplete o n) s = s.next (s.blk.setBankOp (bankOwner o) n.val none)) ∧
  (∀ (s : State) (e : Fin 12), s.blk.busyH e.val = true → (e.val < 5 ∨ 7 < e.val) →
    exec (.engineBoundary e) s = s.next (s.blk.boundary e.val)) ∧
  (∀ (s : State) (r k : Fin 3), s.blk.hold (lmEngine r.val) = true → exec (.phyBankSwitch r k) s = s.next s.blk) ∧
  (∀ (s : State) (r k : Fin 3) (q : BankOp), s.blk.hold (lmEngine r.val) = false →
    s.blk.bankOp 12 (4 * r.val + k.val) = some q → q.switch = true →
    exec (.phyBankSwitch r k) s = s.next (s.blk.switchBank 12 (4 * r.val + k.val)))

/-- O6. A bank switch swaps the banks of one table and loses nothing; a bank copy makes the inactive bank equal to the active
one. From R26, R27. -/
def Obligations.BankSwitchAndCopyContents : Prop :=
  (
  ∀ (b : Block) (o : BankOwner) (n : Fin 16) (q : BankOp), o ≠ .phy → b.bankOp (bankOwner o) n.val = some q →
    q.switch = true → q.copy = false →
    (b.switchBank (bankOwner o) n.val).active (bankOwner o) n.val = 1 - b.active (bankOwner o) n.val ∧
    (∀ m : Fin 16, m ≠ n → (b.switchBank (bankOwner o) n.val).active (bankOwner o) m.val = b.active (bankOwner o) m.val) ∧
    (b.switchBank (bankOwner o) n.val).tabs = b.tabs ∧
    (b.switchBank (bankOwner o) n.val).bankOp (bankOwner o) n.val = none
  ) ∧
  (
  ∀ (b : Block) (owner n : Nat) (t : TableDesc), Memory.wf b.tabs 0 = true → bankedTable owner n = some t →
    (∀ i < t.size, look (b.copyBank owner n).tabs (t.base + bankOff (1 - b.active owner n) + i) 0 =
      look b.tabs (t.base + bankOff (b.active owner n) + i) 0) ∧
    (∀ a, a < t.base + bankOff (1 - b.active owner n) ∨ t.base + bankOff (1 - b.active owner n) + t.size ≤ a →
      look (b.copyBank owner n).tabs a 0 = look b.tabs a 0) ∧
    Memory.wf (b.copyBank owner n).tabs 0 = true
  )

/-- O7. Each step of the start sequence does what its rule says and leads to the next step or to the other slot. From R36,
R37, R43, R47, R48, R51, R52, R53, R54, R61, R468, R469. -/
def Obligations.StartSequenceSteps : Prop :=
  (∀ (s : State) (mv : Nat), s.blk.watch.plan = 7 → s.blk.ostStep = 1 → s.blk.sec.hold = false → s.fuse.lifecycle ≠ 4 →
    ∃ b : Block, exec (.startSequence mv) s = s.next (b.readLifecycle s.fuse) ∧ b.ostStep = 2 ∧
      b.get F.WATCH_POWER_STATUS.PONY_HP = 1) ∧
  (∀ (s : State) (b : Block), s.blk.watch.plan = 7 → s.blk.ostStep = 2 → s.blk.sec.lc ≠ 4 →
    b = (((s.blk.setStep 3).recoverBlocks none).spoilUnits []).voidSpans → exec (.tallyScan none []) s =
      s.next (((if b.get F.TOP_RESET_CAUSE.KIND ≤ kindBor then b.rebuildImage else b).stageRead.countBor).saddleUp s.fuse)) ∧
  (∀ (s : State) (p : NorProbe), s.blk.inStep 3 = true → s.blk.ost.map = none → s.blk.ost.tried = [] →
    mapOf ((s.blk.norFound p).norBytes 0 64) (s.blk.norFound p).ost.norBytes = none →
    mapOf ((s.blk.norFound p).norBytes 0x1000 64) (s.blk.norFound p).ost.norBytes = none →
    blockStep (.norDiscovery p) s (fun b =>
      b.get F.OST_START_STATUS.FAIL_A = (if p.failed || p.err0 || p.err1 then 12 else 1) ∧
      b.get F.OST_START_STATUS.FAIL_B = (if p.failed || p.err0 || p.err1 then 12 else 1) ∧ b.ost.tried = [0, 1])) ∧
  (∀ (s : State) (p : NorProbe) (m : NorMap), s.blk.inStep 3 = true → s.blk.ost.map = none → s.blk.ost.tried = [] →
    p.err0 = false → mapOf ((s.blk.norFound p).norBytes 0 64) (s.blk.norFound p).ost.norBytes = some m →
    blockStep (.norDiscovery p) s (fun b => b.ostStep = 4 ∧ b.ost.map = some m)) ∧
  (∀ s : State, s.blk.step4 = true → s.blk.ost.headDone = true → s.blk.ost.headOwed = false → s.blk.bootRoom = true →
    blockStep .slotChoice s (fun b => b.ostStep = 5 ∧ b.ost.trying = b.ost.first ∧ b.ost.first =
      (if s.blk.stage ≠ stageExhausted ∧ bitOf (s.blk.tally 1) 1 = true ∧ bitsOf (s.blk.tally 1) 3 2 = 3 then 1 - s.blk.tally 1 % 2
       else s.blk.tally 1 % 2))) ∧
  (∀ (s : State) (m : NorMap) (c : Nat), s.blk.ost.map = some m → s.blk.inStep 5 = true →
    s.blk.ost.tried.contains s.blk.ost.trying = false → s.blk.tallyDone 1 = true →
    s.blk.slotCheck s.fuse m s.blk.ost.trying false = (c, none) → exec (.pass1 { hdr := false, all := false }) s = s.next (s.blk.slotFail s.blk.ost.trying c)) ∧
  (∀ (s : State) (m : NorMap) (b : Block), s.blk.ost.map = some m → s.blk.inStep 5 = true →
    s.blk.ost.tried.contains s.blk.ost.trying = false → s.blk.tallyDone 1 = true → s.blk.ost.trying = s.blk.ost.first →
    b = (s.blk.takeIds s.fuse m s.blk.ost.trying).slotJobs s.fuse m s.blk.ost.trying → exec (.pass1 { hdr := true, all := true }) s = s.next ((b.slotCheck s.fuse m s.blk.ost.trying true).2.elim
      (b.slotFail s.blk.ost.trying (b.slotCheck s.fuse m s.blk.ost.trying true).1)
      (fun x => (b.updOst (fun o => { o with img := some x.1, runs := x.2, todo := x.1.records })).setStep
        (if x.1.layout = b.tally 0 % 2 ^ 16 then 7 else 6)))) ∧
  (∀ (s : State) (f : ImgFacts) (old : Nat) (rs : List MigRec), s.blk.ost.img = some f → s.blk.inStep 6 = true →
    f.migration.find? (fun x => x.1 == s.blk.tally 0 % 2 ^ 16) = some (old, rs) → s.blk.stage = 0 →
    3 * 17 + rs.length + s.blk.flash.queue.length * 17 ≤ s.blk.freeUnits →
    ∃ b : Block, exec .migration s = s.next ((b.updateRec 3 (b.tally 18) b.installed).setStep 7) ∧
      b.get F.OST_START_STATUS.MIGRATED = 1) ∧
  (∀ (s : State) (f : ImgFacts), s.blk.ost.img = some f → s.blk.inStep 6 = true →
    f.migration.find? (fun x => x.1 == s.blk.tally 0 % 2 ^ 16) = none →
    exec .migration s = s.next (s.blk.slotFail f.slot 10)) ∧
  (∀ (s : State) (f : ImgFacts), s.blk.ost.img = some f → s.blk.inStep 7 = true →
    exec (.pass2 true) s = s.next (s.blk.applyAll s.fuse s.blk.ost.todo) ∧
    exec (.pass2 false) s = s.next (s.blk.passTwoFail f.slot 12)) ∧
  (∀ (s : State) (f : ImgFacts) (fl a m v t : Nat) (rs : List ImgRec), s.blk.ost.img = some f →
    s.blk.ost.todo = .wait fl a m v t :: rs → s.blk.inStep 7 = true → s.blk.ost.waitLeft = true →
    exec .waitRecordTimeout s = s.next (if s.blk.waitMet s.fuse fl a m v then s.blk.applyAll s.fuse rs
      else if bitOf fl 1 then s.blk.passTwoFail f.slot 11 else (s.blk.note 0 0 (bytesLE 4 a)).applyAll s.fuse rs)) ∧
  (∀ (s : State) (f : ImgFacts) (b c : Block), s.blk.ost.img = some f → s.blk.inStep 8 = true →
    b = ((((s.blk.set F.WATCH_GAIT_REQ.REQ f.gait).set F.WATCH_GAIT_REQ.RESUME f.gait).set F.WATCH_GAIT_REQ.LMGATE (f.gate / 32)).set
      F.WATCH_GAIT_STATUS.BUSY 1).set F.WATCH_GAIT_STATUS.TARGET 3 →
    c = b.updWatch (fun w => { w with starting := true, gateAsk := decide (f.gait ≤ 1), move := some ⟨4, 3, 0⟩ }) →
    exec .startGaitRaise s = s.next (((List.range 9).foldl (fun b i => if b.est (i + 2) = stStart then b.engineUp s.fuse (i + 2)
      else b) c).riseStep s.fuse 3)) ∧
  (∀ (s : State) (b c : Block), s.blk.startLost = true →
    b = ((s.blk.set F.OST_START_STATUS.LAME 1).errRecord 0 .fatal 0x84 (bytesLE 1 (s.blk.get F.OST_START_STATUS.FAIL_A) ++
      bytesLE 1 (s.blk.get F.OST_START_STATUS.FAIL_B) ++ bytesLE 1 s.blk.ostStep)).updOst (fun o =>
        { o with runs := [], img := none, subsys := some (o.subsys.getD (0, 0)) }) →
    c = (b.setRails (b.get F.WATCH_POWER_STATUS.PMIC_EN ||| 4)).updWatch (fun w => { w with plan := 5 }) →
    exec .lameStateEntry s = s.next ((((List.range 9).foldl (fun b i => if b.want (i + 2) = stOff then b.enterOff (i + 2)
      else b.enterStart s.fuse (i + 2)) c).settleAll s.fuse).crossSettle))

/-- O8. A trial slot settles by OST_SETTLE or by the automatic settling, and the rollback thermometer is programmed bit by
bit. From R49, R421, R466. -/
def Obligations.SettlingAndRollback : Prop :=
  (∀ (s : State) (road : Road) (v : Word), s.blk.roadStops road R.OST_SETTLE = none → v.toNat / 2 ^ 16 = 0x5354 →
    bitOf v.toNat 0 = true → bitOf (s.blk.tally 1) 1 = true →
    exec (.ostSettle road v) s = s.next (if s.blk.ostStep = 9 then s.blk.settleSlot
      else { s.blk with ost := { s.blk.ost with settleReq := true } })) ∧
  (∀ (s : State) (road : Road) (v : Word), s.blk.roadStops road R.OST_SETTLE = none → v.toNat / 2 ^ 16 = 0x5354 →
    bitOf (s.blk.tally 1) 1 = false → exec (.ostSettle road v) s = s.next s.blk) ∧
  (∀ (s : State) (i : ImgFacts) (t : Nat), s.blk.ost.img = some i → s.blk.ost.settleFrom = some t → i.autoSettle = true →
    s.blk.ostStep = 9 → s.blk.ceil 1 = false → exec .autoSettle s =
      s.next (if t + 60000000000 ≤ s.blk.ao then s.blk.settleSlot else s.blk)) ∧
  (∀ s : State, s.blk.ceil 1 = true → exec .autoSettle s = s.next s.blk) ∧
  (∀ (s : State) (i : ImgFacts) (mv : Nat), s.blk.ost.img = some i → s.blk.ost.burnWait = true →
    s.fuse.rollback < i.rollback → 1 ≤ s.blk.sec.lc → s.blk.sec.lc ≤ 3 → 3000 ≤ mv →
    ∃ (b : Block) (f : Fuses), exec (.rollbackBurn mv) s = .next { s with blk := b, fuse := f } ∧ f.reg = s.fuse.reg ∧
      (∀ k, s.fuse.rollback ≤ k → k < i.rollback → bitOf (look f.sec (4 + k / 32) 0) (k % 32) = true) ∧
      (∀ w k, k < 32 → ¬ (s.fuse.rollback ≤ 32 * w + k ∧ 32 * w + k < i.rollback) →
        bitOf (look f.sec (4 + w) 0) k = bitOf (look s.fuse.sec (4 + w) 0) k)) ∧
  (∀ (s : State) (i : ImgFacts) (mv : Nat), s.blk.ost.img = some i → s.blk.ost.burnWait = true →
    s.fuse.rollback < i.rollback → 1 ≤ s.blk.sec.lc → s.blk.sec.lc ≤ 3 → mv < 3000 →
    exec (.rollbackBurn mv) s = s.next s.blk)

/-- O9. PHY reception events, transmission starts and spatial reuse act as the PHY rules say. From R68, R74, R75, R77, R78,
R79, R80, R81, R83, R84, R91, R251. -/
def Obligations.PhyReceptionAndSpatialReuse : Prop :=
  (
  (∀ (s : State) (r : Fin 3) (p : Int) (cca : List (Int × Int)) (b : Block), b = s.blk.measure r.val cca →
    p < b.ccaPd r.val → exec (.rxDetection r { power := p, cca := cca }) s = s.next b) ∧
  (∀ (s : State) (r : Fin 3) (p : Int) (cca : List (Int × Int)) (b : Block), b = s.blk.measure r.val cca →
    b.ccaPd r.val ≤ p → b.yokeBlanked r.val = false → b.fe r.val = feReady →
    exec (.rxDetection r { power := p, cca := cca }) s =
      s.next (((b.count (.phy r) C.PHY.RX_DETECT).setFe r.val feRx).setRx r.val (some { power := p }))) ∧
  (∀ (s : State) (r : Fin 3) (p : Int) (cca : List (Int × Int)) (x : PhyRx) (b : Block), b = s.blk.measure r.val cca →
    b.ccaPd r.val ≤ p → b.yokeBlanked r.val = false → b.fe r.val = feRx →
    (b.phyAt r.val).rx = some x → x.valid = false → x.power ≤ p →
    exec (.rxDetection r { power := p, cca := cca }) s = s.next
      (((b.count (.phy r) C.PHY.RX_DETECT).count (.phy r) C.PHY.RX_FALSE).setRx r.val (some { power := p }))) ∧
  (∀ (s : State) (r : Fin 3) (x : PhyRx), (s.blk.phyAt r.val).rx = some x → x.valid = false →
    exec (.rxFalseRelease r) s = s.next ((s.blk.count (.phy r) C.PHY.RX_FALSE).setRx r.val none)) ∧
  (∀ (s : State) (r : Fin 3) (x : PhyRx), (s.blk.phyAt r.val).rx = some x → s.blk.phy.length = 3 →
    blockStep (.lsigValid r) s (fun b => (b.phyAt r.val).rx = some { x with valid := true } ∧
      b = { s.blk with phy := b.phy } ∧ ∀ q : Fin 3, q ≠ r → b.phyAt q.val = s.blk.phyAt q.val)) ∧
  (∀ (s : State) (r : Fin 3) (x : PhyRx), (s.blk.phyAt r.val).rx = some x → x.valid = true → x.defer = false →
    exec (.signalFieldCrcFail r) s = s.next ((s.blk.count (.phy r) C.PHY.RX_HDR_ERR).updPhy r.val
      (fun p => { p with rx := some { x with defer := true }, search := none })) ∧
    exec (.rxUnsupported r) s = s.next ((s.blk.count (.phy r) C.PHY.RX_UNSUPP).updPhy r.val
      (fun p => { p with rx := some { x with defer := true }, search := none }))) ∧
  (∀ (s : State) (r : Fin 3) (x : PhyRx) (p : Int), (s.blk.phyAt r.val).rx = some x → x.valid = true → x.defer = false →
    (s.blk.phyAt r.val).search = none → s.blk.on (F.PHY_CAPTURE.EN r.val) = true →
    s.blk.on (F.PHY_CAPTURE.RESTART_EN r.val) = true →
    exec (.capturePowerStep r p) s = s.next
      (if x.power + (clampTo 3 12 (s.blk.get (F.PHY_CAPTURE.MARGIN r.val)) : Nat) ≤ p then
        s.blk.updPhy r.val (fun q => { q with search := some p }) else s.blk)) ∧
  (∀ (s : State) (r : Fin 3) (p : Int), (s.blk.phyAt r.val).search = some p →
    (∃ b : Block, b = (s.blk.count (.phy r) C.PHY.RX_DISPLACED).undoRx r.val ∧
      exec (.captureRestart r) s = s.next ((b.updLm r.val (fun l => { l with resp := none })).setRx r.val
        (some { power := p, valid := true }))) ∧
    exec (.captureRestartFail r) s = s.next
      ((s.blk.count (.phy r) C.PHY.RX_RESTART_FAIL).updPhy r.val (fun q => { q with search := none }))) ∧
  (∀ (s : State) (r : Fin 3) (rssi : Int) (own : Bool) (n ch : Nat) (cca : List (Int × Int)) (x : PhyRx) (b : Block),
    b = s.blk.measure r.val cca → (b.phyAt r.val).rx = some x → x.valid = true → x.defer = true →
    exec (.phyRxend r rssi own n { chains := ch, cca := cca }) s =
      s.next (b.setRx r.val ((b.phyAt r.val).search.map (fun p => ({ power := p } : PhyRx))))) ∧
  (∀ (s : State) (r : Fin 3) (rssi : Int) (n : Nat) (cca : List (Int × Int)) (x : PhyRx) (m b : Block),
    m = s.blk.measure r.val cca → (m.phyAt r.val).rx = some x → x.valid = true →
    x.defer = false → b = ((m.count (.phy r) C.PHY.RX_PPDU).count (.phy r) C.PHY.RX_LDPC_FAIL n).set (F.PHY_STATUS.LAST_RSSI r.val)
      (unsignedOf 8 rssi) → exec (.phyRxend r rssi true n { chains := 0, cca := cca }) s = s.next ((b.updPhy r.val (fun p => { p with rssi := rssi :: p.rssi })).setRx
        r.val ((m.phyAt r.val).search.map (fun p => ({ power := p } : PhyRx))))) ∧
  (∀ (s : State) (r : Fin 3) (rssi : Int) (x : PhyRx), (s.blk.phyAt r.val).rx = some x → x.valid = true → x.defer = false →
    s.blk.on (F.PHY_OBSS_LOOP.EN r.val) = true → 2 * rssi < (s.blk.phyAt r.val).obssHalf →
    exec (.obssPpduIgnored r rssi) s = s.next (((s.blk.count (.phy r) C.PHY.OBSS_IGNORED).setRx r.val none).updPhy r.val
      (fun p => { p with obssTxop := some (s.blk.phyAt r.val).obssHalf })))
  ) ∧
  (
  (∀ (s : State) (r : Fin 3) (cca : List (Int × Int)) (p : Plan) (b : Block), b = s.blk.measure r.val cca →
    b.committedPlan r.val = some p → p.form ≠ .trigger → p.form ≠ .sounding → b.runs (lmEngine r.val) = true →
    b.fe r.val = feSettle → exec (.txStartCommand r cca) s = s.next ((b.count (.rfc (Fin.ofNat 4 r.val)) C.RFC.TX_WAITED).updFe r.val
      (fun e => { e with wifi := some (b.planJob p) }))) ∧
  (∀ (s : State) (r : Fin 3) (cca : List (Int × Int)) (p : Plan) (b : Block), b = s.blk.measure r.val cca →
    b.committedPlan r.val = some p → p.form ≠ .trigger → p.form ≠ .sounding → b.runs (lmEngine r.val) = true →
    b.fe r.val = feReady → exec (.txStartCommand r cca) s = s.next (b.sendPpdu s.fuse r.val (b.planJob p))) ∧
  (∀ (s : State) (r : Fin 3) (cca : List (Int × Int)) (b : Block), b = s.blk.measure r.val cca →
    b.committedPlan r.val = none → exec (.txStartCommand r cca) s = s.next b) ∧
  (∀ (s : State) (r : Fin 3), s.blk.on (F.PHY_OBSS_LOOP.EN r.val) = false →
    exec (.obssPdUpdate r) s = s.next (s.blk.updPhy r.val (fun p => { p with rssi := [] }))) ∧
  (∀ (s : State) (r : Fin 3), s.blk.phy.length = 3 → s.blk.on (F.PHY_OBSS_LOOP.EN r.val) = true →
    blockStep (.obssPdUpdate r) s (fun b => (b.phyAt r.val).rssi = [] ∧
      2 * s.blk.obssMin r.val ≤ (b.phyAt r.val).obssHalf ∧ (b.phyAt r.val).obssHalf ≤ 2 * s.blk.obssMax r.val)) ∧
  (∀ s : State, s.blk.on F.PHY_SP_CTRL.EN = true → s.blk.btab 12 2 0x3402000 8 ≤ s.blk.now →
    s.blk.on F.PHY_SP_STATUS.EXPIRED = false →
    exec .spExpired s = s.next ((s.blk.set F.PHY_SP_STATUS.EXPIRED 1).fire 7 19 (bytesLE 8 (s.blk.btab 12 2 0x3402000 8))))
  )

/-- O10. Provisional MPDUs, their verdicts, responses and the reorder window act as the link MAC rules say. From R97, R102,
R109, R110, R111, R112, R113. -/
def Obligations.MpduAndReorderEffects : Prop :=
  (∀ (s : State) (r : Fin 3) (m : MpduHdr) (x : PhyRx) (b : Block), (s.blk.phyAt r.val).rx = some x → x.valid = true →
    x.defer = false → s.blk.runs (lmEngine r.val) = true → m.prot = false → m.kind ≠ 0 →
    s.blk.takeCells (cellsFor m.octets) = some b →
    exec (.mpduProvisional r m) s = s.next (b.updLm r.val (fun l => { l with prov := l.prov ++ [{ id := (b.lmAt r.val).nextId, ppdu := (b.phyAt r.val).rxNo, hdr := m, sta := b.staOf r.val m.ta, agr := none, cells := cellsFor m.octets }], nextId := (b.lmAt r.val).nextId + 1 }))) ∧
  (∀ (s : State) (r : Fin 3) (id : Nat) (mic : Bool) (p : ProvMpdu),
    (s.blk.lmAt r.val).prov.find? (fun p => p.id == id) = some p →
    exec (.mpduVerdict r id false mic) s =
      s.next ((s.blk.undoMpdu r.val p).count (.lm (Fin.ofNat 3 r.val)) C.LM.RX_FCS_FAIL)) ∧
  (∀ (s : State) (r : Fin 3) (id : Nat) (p : ProvMpdu), (s.blk.lmAt r.val).prov.find? (fun p => p.id == id) = some p →
    p.hdr.prot = false → p.sta = none → p.hdr.bss = none → p.hdr.kind ≠ 2 → ∃ b : Block,
      b = (s.blk.updLm r.val (fun l => { l with prov := l.prov.filter (fun q => q.id != id) })).count
        (.lm (Fin.ofNat 3 r.val)) C.LM.RX_MPDU_OK ∧
      exec (.mpduVerdict r id true true) s = s.next (((b.navUpdate r.val p.hdr).freeCells p.cells).count (.lm (Fin.ofNat 3 r.val)) C.LM.RX_UNKNOWN_TA)) ∧
  (∀ (s : State) (r : Fin 3) (x : RespOwed) (b : Block), (s.blk.lmAt r.val).resp = some x → (s.blk.lmAt r.val).prov = [] →
    s.blk.lm.length = 3 → s.blk.runs (lmEngine r.val) = true →
    b = (s.blk.updLm r.val (fun l => { l with resp := none })).count (.lm (Fin.ofNat 3 r.val)) C.LM.RESP_SENT →
    exec (.responseSend r) s = s.next (b.sendOwn s.fuse r.val x.airKind
      (if x.airKind = 2 then 2 ^ 48 - 1 else (x.parts.head?.map (fun p => p.dst)).getD (2 ^ 48 - 1)) (bitsOf x.rate 9 7)
      (b.respRate r.val x.bss x.rate)
      (if x.airKind = 3 ∨ x.airKind = 0 then .plain else .blockAck (x.parts.map (fun p => s.blk.baPart r.val p))))) ∧
  (∀ (s : State) (r : Fin 3) (i : Fin 1024), s.blk.tab (agrAddr r.val i.val + 3) 1 = 1 →
    exec (.reorderRelease r i none) s = s.next ((s.blk.releaseRun r.val i.val 1024).heldCount r.val i.val) ∧
    ∀ sn, 0 < snDist (s.blk.winStart r.val i.val) sn → snDist (s.blk.winStart r.val i.val) sn < 2048 →
      exec (.reorderRelease r i (some sn)) s = s.next (s.blk.moveWindow r.val i.val sn)) ∧
  (∀ (s : State) (r : Fin 3) (i : Fin 1024) (h : HeldMpdu) (t : List HeldMpdu), s.blk.heldOf r.val i.val = h :: t →
    h.arrival + 1000000 * clampTo 1 1000 (s.blk.tab (agrAddr r.val i.val + 0xA) 2) ≤ s.blk.ao →
    exec (.reorderTimeout r i) s = s.next ((s.blk.moveWindow r.val i.val h.sn).count
      (.lm (Fin.ofNat 3 r.val)) C.LM.RX_REORDER_TIMEOUT)) ∧
  (∀ (s : State) (r : Fin 3) (i : Fin 1024) (v : Bool), s.blk.runs (lmEngine r.val) = true →
    ∃ b : Block, b = s.blk.setTab (agrAddr r.val i.val) 2 (s.blk.tab (agrAddr r.val i.val) 2 % 2 ^ 15 + b2n v * 2 ^ 15) ∧
      exec (.agreementValidWrite r i v) s =
        s.next (b.agrWritten r.val i.val (bitOf (s.blk.tab (agrAddr r.val i.val) 2) 15)))

/-- O11. TXOP gain and loss, RTS, triggers, TB PPDUs, sounding and beamforming reports act as the medium access rules say. From
R99, R100, R101, R103, R128, R129, R130, R131. -/
def Obligations.MediumAccessEffects : Prop :=
  (∀ (s : State) (r : Fin 3) (slots : Nat) (draws : List Nat) (pifs : Bool), s.blk.est (lmEngine r.val) = stRun →
    s.blk.mediumFree r.val = true → s.blk.mateBusy r.val = false → (s.blk.lmAt r.val).beacons = [] → s.blk.est 4 = stRun →
    (s.blk.lmAt r.val).groups = [] → s.blk.contenders r.val = [] →
    exec (.edcaTxopGain r slots (draws.headD 0) (draws.drop 1) pifs) s = s.next (s.blk.idleSlots r.val slots)) ∧
  (∀ (s : State) (r : Fin 3) (slots d ac : Nat) (draws : List Nat) (b : Block), s.blk.est (lmEngine r.val) = stRun →
    s.blk.mediumFree r.val = true → s.blk.mateBusy r.val = false → (s.blk.lmAt r.val).beacons = [] → s.blk.est 4 = stRun →
    (s.blk.lmAt r.val).groups = [] → s.blk.contenders r.val = [ac] → ac ≠ 3 → s.blk.slotsLeft r.val ac ≤ slots →
    b = (s.blk.idleSlots r.val (s.blk.slotsLeft r.val ac)).setEdca r.val ac (fun e => { e with backoff := d % (e.cw + 1) }) →
    exec (.edcaTxopGain r slots d draws false) s = s.next (b.txopBegin r.val ac)) ∧
  (∀ (s : State) (r : Fin 3) (slots : Nat) (draws : List Nat) (pifs : Bool), s.blk.mediumFree r.val = false →
    exec (.edcaTxopGain r slots (draws.headD 0) (draws.drop 1) pifs) s = s.next s.blk) ∧
  (∀ (s : State) (r : Fin 3), s.blk.runs (lmEngine r.val) = true → (s.blk.lmAt r.val).txop.isSome = true →
    exec (.txopLost r .cca) s = s.next (((s.blk.undoAhead r.val).endTxop r.val).soundingEnd r.val) ∧
    exec (.txopLost r .refused) s = s.next (((s.blk.undoLive r.val).endTxop r.val).soundingEnd r.val)) ∧
  (∀ (s : State) (r : Fin 3) (t : Txop), s.blk.runs (lmEngine r.val) = true → (s.blk.lmAt r.val).txop = some t →
    exec (.txopLost r .noCts) s = s.next ((((({ s.blk with free := s.blk.free + 1 } : Block).cwDouble r.val t.ac
      (Config.freeValue s.blk.free).toNat).count (.lm (Fin.ofNat 3 r.val)) C.LM.RESP_TIMEOUT).loseTxop r.val).soundingEnd r.val)) ∧
  (∀ (s : State) (r : Fin 3) (p : Plan) (t : Txop) (u : PlanUser),
    s.blk.runs (lmEngine r.val) = true → s.blk.planAt r.val 0 = some p → (s.blk.lmAt r.val).txop = some t →
    p.committed = false → p.protect = true → p.guarded = false → r.val ≠ 2 → s.blk.rtsDue r.val p.ac p.first p.users = true →
    p.users = [u] → u.empty = false → s.blk.isEmlsr u.sta = false →
    exec (.rtsProtection r false false [u.sta] p.width) s = s.next ((s.blk.guardSent r.val true).sendOwn s.fuse r.val 8 u.sta p.width 12)) ∧
  (∀ (s : State) (r : Fin 3) (p : Plan) (t : Txop), s.blk.runs (lmEngine r.val) = true → s.blk.planAt r.val 0 = some p →
    (s.blk.lmAt r.val).txop = some t → p.committed = false → p.protect = true → p.guarded = false →
    s.blk.rtsDue r.val p.ac p.first p.users = false →
    (s.blk.erpDue r.val = true → p.selfCts = false → exec (.rtsProtection r true false [] 0) s =
      s.next ((s.blk.guardSent r.val true).sendOwn s.fuse r.val 3 0 0 2)) ∧
    (s.blk.erpDue r.val = false ∨ p.selfCts = true → exec (.rtsProtection r false false [] p.width) s =
      s.next (s.blk.guardSent r.val true))) ∧
  (∀ (s : State) (r : Fin 3) (p : Plan), s.blk.runs (lmEngine r.val) = true → s.blk.committedPlan r.val = some p →
    p.form = .trigger → exec (.triggerFrameSend r p.trig) s = s.next
      (if bitOf (s.blk.trigField p.radio p.trig 0 1) 0 then
        (s.blk.count (.lm (Fin.ofNat 3 p.radio)) C.LM.TRIG_SENT).sendOwn s.fuse p.radio 9 p.trig p.width
          (rateCode p.radio (s.blk.trigField p.radio p.trig 1 1)) (.trigger (s.blk.trigFrame p p.trig p.dur 0))
      else (s.blk.undoLive p.radio).endTxop p.radio)) ∧
  (∀ (s : State) (r : Fin 3) (u v : TbUser), s.blk.runs (lmEngine r.val) = true → u.decoded = true → v.decoded = true →
    u.bsr = none → v.bsr = none → (s.blk.lmAt r.val).resp = none → exec (.tbPpduReceive r [u, v]) s =
      s.next (s.blk.updLm r.val (fun l => { l with resp := some { kind := 0, parts :=
        [{ dst := s.blk.macTab (staAddr r.val u.sta), sta := some u.sta }, { dst := s.blk.macTab (staAddr r.val v.sta), sta := some v.sta }], bss := s.blk.staBss r.val u.sta } }))) ∧
  (∀ (s : State) (r : Fin 3), s.blk.runs (lmEngine r.val) = true → exec (.tbPpduReceive r []) s =
    s.next (s.blk.txopLost r.val .noResponse)) ∧
  (∀ (s : State) (r : Fin 3) (p : Plan) (u : PlanUser), s.blk.committedPlan r.val = some p → p.form = .sounding →
    s.blk.runs (lmEngine r.val) = true → p.users = [u] → u.empty = false → 3 ≤ s.blk.staMode r.val u.sta →
    (s.blk.lmAt r.val).sound = none →
    exec (.soundingSequence r) s = s.next (((s.blk.updLm r.val (fun l => { l with reports := [] })).updLm r.val
      (fun l => { l with sound := some ⟨1, [u.sta], []⟩ })).sendOwn s.fuse r.val 10 (2 ^ 48 - 1) p.width 48 (.ndpAnnounce [u.sta]))) ∧
  (∀ (s : State) (r : Fin 3) (p : Plan) (u : PlanUser) (x : SoundSeq), s.blk.committedPlan r.val = some p → p.form = .sounding →
    s.blk.runs (lmEngine r.val) = true → p.users = [u] → u.empty = false → 3 ≤ s.blk.staMode r.val u.sta →
    (s.blk.lmAt r.val).sound = some x → x.stas = [u.sta] → x.next = 1 →
    exec (.soundingSequence r) s = s.next ((s.blk.updLm r.val (fun l => { l with sound := some { x with next := 2 } })).sendOwn
      s.fuse r.val 10 (2 ^ 48 - 1) p.width 0 .ndp)) ∧
  (∀ (s : State) (r : Fin 3) (sta : Fin 2048), s.blk.runs (lmEngine r.val) = true →
    (s.blk.lmAt r.val).reports = [] → s.blk.lm.length = 3 → ∃ new : BfReport, new = ⟨sta.val, 2, [0]⟩ ∧
    exec (.beamformingReport r sta 0 2 false) s =
      s.next (s.blk.updLm r.val (fun l => { l with reports := l.reports.filter (fun x => x.sta != sta.val) ++ [new] })))

/-- O12. Beacons, probe responses, power save, target wake times and the backhaul link act as their rules say. From R120, R122,
R123, R125, R126, R132, R133, R134. -/
def Obligations.BeaconAndPowerSaveEffects : Prop :=
  (∀ (s : State) (r : Fin 3) (i : Fin 16), s.blk.runs (lmEngine r.val) = true → s.blk.beaconing r.val i.val = true →
    ((s.blk.lmAt r.val).tsf / 1024 + s.blk.bss r.val i.val 6 2 * 65536 - s.blk.bss r.val i.val 0xA 2) %
      s.blk.bss r.val i.val 6 2 = 0 →
    look (s.blk.lmAt r.val).tbttAt i.val 0 ≠ (s.blk.lmAt r.val).tsf / 1024 + 1 → s.blk.mediumFree r.val = false →
    (s.blk.lmAt r.val).beacons = [] → s.blk.lm.length = 3 →
    blockStep (.tbtt r i) s (fun b => b = { s.blk with lm := b.lm } ∧ (b.lmAt r.val).beacons =
      if s.blk.templateLen r.val 1 i.val = 0 then [] else [(i.val, (s.blk.lmAt r.val).tsf / 1024 * 1024)])) ∧
  (∀ (s : State) (r : Fin 3) (i : Fin 16) (t : Nat), (i.val, t) ∈ (s.blk.lmAt r.val).beacons →
    s.blk.get (F.LM_BCN_CTRL.LATE_MAX r.val) ≠ 0 →
    t + 1024 * s.blk.get (F.LM_BCN_CTRL.LATE_MAX r.val) ≤ (s.blk.lmAt r.val).tsf →
    exec (.beaconDropped r i) s = s.next ((s.blk.updLm r.val (fun l => { l with beacons := l.beacons.filter (fun x => x.1 != i.val) })).count (.lm (Fin.ofNat 3 r.val)) C.LM.BCN_DROPPED)) ∧
  (∀ (s : State) (r : Fin 3) (q : ProbeReq), s.blk.runs (lmEngine r.val) = true → s.blk.probeMatch r.val q = true →
    s.blk.templateLen r.val 2 (s.blk.txBss r.val) ≠ 0 → (s.blk.lmAt r.val).probes = [] →
    exec (.probeRequest r q) s = s.next (s.blk.updLm r.val (fun l => { l with probes := l.probes ++ [⟨if r.val = 0 ∧ q.bcast then none else some q.ta, s.blk.mono⟩] }))) ∧
  (∀ (s : State) (r : Fin 3), exec (.probeResponseDrop r) s =
    s.next (s.blk.updLm r.val (fun l => { l with probes := l.probes.filter (fun p => decide (s.blk.mono < p.ns + 20000000)) }))) ∧
  (∀ (s : State) (r : Fin 3) (sta : Fin 2048), s.blk.runs (lmEngine r.val) = true → s.blk.staValid r.val sta.val = true →
    s.blk.lm.length = 3 → blockStep (.psPoll r sta) s (fun b => b = { s.blk with lm := b.lm } ∧
      (b.lmAt r.val).resp = some { kind := 0, parts := [{ dst := s.blk.macTab (staAddr r.val sta.val), sta := some sta.val }], bss := s.blk.staBss r.val sta.val } ∧
      (bitOf (s.blk.psBits r.val sta.val) 0 = true → sta.val ∈ (b.lmAt r.val).polls))) ∧
  (∀ (s : State) (r : Fin 3) (sta : Fin 2048) (ac : Fin 4), s.blk.runs (lmEngine r.val) = true →
    s.blk.staValid r.val sta.val = true → bitOf (s.blk.psBits r.val sta.val) 0 = true →
    bitOf (s.blk.staFlags r.val sta.val) (18 + ac.val) = true →
    exec (.uapsdTrigger r sta ac false) s = s.next (s.blk.setTab (staAddr r.val sta.val + 0x34) 1 3)) ∧
  (∀ (s : State) (r : Fin 3) (i : Fin 256) (a dur nxt : Nat), a = lmWin r.val + 0x12000 + 32 * i.val →
    dur = 256 * s.blk.tab (a + 4) 1 → nxt = s.blk.tab (a + 0x10) 8 → bitOf (s.blk.tab a 2) 15 = true →
    s.blk.runs (lmEngine r.val) = true → nxt + dur ≤ (s.blk.lmAt r.val).tsf →
    exec (.twtServicePeriodEnd r i) s = s.next (s.blk.setTab (a + 0x10) 8 (nxt + max dur (s.blk.tab (a + 8) 4)))) ∧
  (∀ (s : State) (r : Fin 3), s.blk.bhRadio = some r.val →
    s.blk.get (F.LM_BH_STATUS.MISSED r.val) + 1 < s.blk.get (F.LM_BH_CTRL.BCN_LOSS r.val) →
    s.blk.get (F.LM_BH_STATUS.MISSED r.val) < 2 ^ 16 - 1 →
    exec (.bhBeaconLoss r) s = s.next (s.blk.set (F.LM_BH_STATUS.MISSED r.val) (s.blk.get (F.LM_BH_STATUS.MISSED r.val) + 1))) ∧
  (∀ (s : State) (r : Fin 3) (x : BhBeacon), s.blk.bhRadio = some r.val → exec (.bhBeaconReceived r x) s =
    s.next (((s.blk.set (F.LM_BH_STATUS.MISSED r.val) 0).setB (F.LM_BH_STATUS.LINKED r.val) true).updLm r.val
      (fun l => { l with bhEdca := some x.edca, bhTsf := (x.tsf : Int) - (l.tsf : Int) })))

/-- O13. Drover plans, commits, settles, swaps and undoes; queues take and drop frames; sounding, precoders and the placement
loop run. From R146, R149, R150, R155, R162, R163, R164, R166, R167, R169, R281. -/
def Obligations.PlanQueueAndLoopEffects : Prop :=
  (
  (∀ (s : State) (p : PlanInput) (c : Block) (r ac key : Nat) (room : Nat × Nat) (fs : List QFrame), r = p.radio.val → s.blk.est 4 = stRun →
    s.blk.upRadio r = true → s.blk.slotFree r p.slot.val = true → s.blk.txopRoom r p.slot.val = none → ac = s.blk.contendAc r →
    c = s.blk.countNoLink ac → c.drov.soundDue = [] → c.groupReady r = some key → room = c.planRoom r p.slot.val ac →
    fs = fitFrames (ppduOctets 0 600 (min (min c.maxPpdu room.2) room.1)) ((c.queue key).filter (fun f => f.reserved.isNone)) →
    fs ≠ [] → exec (.planMade p) s = s.next (c.putPlan { radio := r, slot := p.slot.val, ac := ac, form := .group, users := [{ sta := key, tones := 48, frames := fs.map (fun f => f.id) }], dur := ppduUs 0 600 (psduLen fs), total := ppduUs 0 600 (psduLen fs), first := (c.txopRoom r p.slot.val).isNone || p.slot.val == 0 })) ∧
  (∀ (s : State) (p : PlanInput), s.blk.est 4 ≠ stRun ∨ s.blk.slotFree p.radio.val p.slot.val = false →
    exec (.planMade p) s = s.next s.blk) ∧
  (∀ (s : State) (r : Fin 3) (p : Plan), s.blk.drov.plans = [p] → p.radio = r.val → p.slot = 0 → p.committed = false →
    s.blk.est 4 = stRun → p.protect = false ∨ p.guarded = true → s.blk.pairWaits r.val = false →
    (s.blk.overruns p = true → exec (.planCommit r true (s.blk.failing p)) s = s.next (s.blk.undoFrom r.val 0)) ∧
    (s.blk.overruns p = false → p.form = .group → p.first = false → p.users = [] → exec (.planCommit r false []) s =
      s.next ((((((s.blk.updDrov (fun d => { d with plans := [{ p with committed := true, stop := s.blk.mono + 1000 * p.total }] })).yokeAlign
        r.val p.dur).updLm r.val (fun l => { l with txop := l.txop.map (fun (t : Txop) => { t with ppdus := t.ppdus + 1 }) })).drovCount
          r.val C.DROV.PLAN_COMMIT).drovCount r.val C.DROV.GROUP_US p.dur).boundary 4))) ∧
  (∀ (s : State) (r : Fin 3) (p : Plan) (us : List SettleUser) (c : Block), s.blk.committedPlan r.val = some p →
    p.form ≠ .sounding → us.any (fun u => u.heard) = false →
    c = (((p.users.foldl (fun b u => b.settleUser p us u) s.blk).dropPlan r.val p.slot).refill r.val p.ac).groupsGone r.val →
    c.txopLimit r.val p.ac = 0 → exec (.planSettle r us) s = s.next (c.endTxop r.val)) ∧
  (∀ (s : State) (r : Fin 3) (p : Plan) (ac : Fin 4), s.blk.planAt r.val 0 = some p → p.committed = false → p.ac ≠ ac.val →
    exec (.planSwap r ac) s = s.next ((s.blk.undoFrom r.val 0).drovCount r.val C.DROV.PLAN_SWAP)) ∧
  (∀ (s : State) (r : Fin 3) (k : Fin 2) (p : Plan), s.blk.planAt r.val k.val = some p → p.committed = false →
    exec (.planUndo r k none) s = s.next (s.blk.undoFrom r.val k.val) ∧
    ∀ sta, exec (.planUndo r k (some sta)) s = s.next
      (if (p.form == .su) = true then s.blk.undoFrom r.val k.val else s.blk.removeUser p sta))
  ) ∧
  (
  (∀ (s : State) (r : Fin 3) (sta : Fin 2048) (bss : Fin 16) (tid : Fin 8) (f : EthFrame) (n key : Nat) (b : Block),
    n = cellsFor (frameLen f) → key = 4 * sta.val + acOf tid.val → n ≤ s.blk.cart.cellar →
    b = s.blk.updCart (fun c => { c with cellar := c.cellar - n }) → b.drovValid sta.val = true → b.runs 4 = true →
    sumNat ((b.queue key).map (fun y => y.len)) + frameLen f ≤ b.queueLimit key →
    exec (.airEnqueue r (some sta) bss tid f) s = s.next (({ b with drov := { b.drov with nextId := b.drov.nextId + 1 } } : Block).setQueue
      key (b.queue key ++ [({ id := b.drov.nextId, tid := tid.val, len := frameLen f, cells := n, pool := 0, arrival := b.ao / 1000000, frame := f } : QFrame)]))) ∧
  (∀ (s : State) (r : Fin 3) (sta : Option (Fin 2048)) (bss : Fin 16) (tid : Fin 8) (f : EthFrame), s.blk.cart.cellar < cellsFor (frameLen f) →
    exec (.airEnqueue r sta bss tid f) s = s.next (s.blk.cartCount 4 C.CART.NOCELL_DROP)) ∧
  (∀ (s : State) (q : Nat) (f : QFrame) (rest : List QFrame), s.blk.queue q = f :: rest → s.blk.get F.DROV_QCFG.AGE_MS ≠ 0 →
    f.reserved = none → f.head ≠ 0 → f.head + s.blk.get F.DROV_QCFG.AGE_MS ≤ s.blk.ao / 1000000 + 1 → s.blk.runs 4 = true → ∃ b : Block,
    b = (s.blk.setQueue q rest).dropFrame f ∧ exec (.queueAgeDrop q) s = s.next (b.drovCount (s.blk.queueRadio q) C.DROV.AGED)) ∧
  (∀ (s : State), s.blk.est 4 = stRun → s.blk.get F.DROV_SOUND.SOUND_MS ≠ 0 →
    exec .soundingDue s = s.next (s.blk.updDrov (fun d => { d with soundDue := [0, 1, 2] }))) ∧
  (∀ (s : State) (r : Fin 3), s.blk.est 4 = stRun → s.blk.get F.DROV_UL.BSRP_MS ≠ 0 → s.blk.on F.DROV_UL.UL_EN = true →
    r.val ∉ s.blk.drov.bsrpDue → exec (.bsrpDue r) s = s.next (s.blk.updDrov (fun d => { d with bsrpDue := d.bsrpDue ++ [r.val] }))) ∧
  (∀ (s : State) (k : Fin 2) (us : Nat) (g : Precoder), s.blk.drov.solving = [(k.val, g)] → s.blk.drov.ready = [] →
    blockStep (.precoderReady k us) s (fun b => b = { s.blk with drov := b.drov, counts := b.counts } ∧
      b.drov = { s.blk.drov with solving := [], ready := [g] })) ∧
  (∀ (s : State) (u0 u1 u2 : BitVec 8), s.blk.est 8 = stRun → s.blk.on F.MARS_LOOP.FREEZE = true →
    (∀ i, s.blk.mlValid i = false) → ∃ b : Block,
    b = (((((s.blk.set F.MARS_UTIL.U0 u0.toNat).set F.MARS_UTIL.U1 u1.toNat).set F.MARS_UTIL.U2 u2.toNat).set
      F.MARS_STATUS.MOVED 0).wrap F.MARS_STATUS.PERIODS 1).updMars
        (fun m => { m with carried := [], counted := [] }) ∧
    exec (.placementPeriod u0 u1 u2) s = s.next ((b.count .mars C.MARS.LOOP_PERIODS).boundary 8))
  )

/-- O14. Sieve detections, stalls, headers, verdicts and noise-floor updates act as the mesh receiver rules say. From R181,
R183, R184, R185, R186, R188, R190. -/
def Obligations.MeshReceptionEffects : Prop :=
  (∀ (s : State) (ns : Nat) (h : RoundHit) (b : Block), s.blk.hitDeclared ns h = true →
    b = ((s.blk.count .sieve C.SIEVE.DETECT).chCount h.ch 4).lane 9 (128 + h.hyp) 0 →
    exec (.sieveDetection ns h.ch h.hyp { corr := h.corr, power := h.power } []) s = s.next (({ b with sieve := { b.sieve with recent := b.sieve.recent.filter (fun d =>
      decide (ns ≤ d.ns + b.h2Ns 8)) ++ [⟨h.ch, h.hyp, h.power, ns⟩] } } : Block).seat h.ch h.hyp h.power ns)) ∧
  (∀ (s : State) (ns : Nat) (h : RoundHit), s.blk.hitDeclared ns h = false →
    exec (.sieveDetection ns h.ch h.hyp { corr := h.corr, power := h.power } []) s = s.next { s.blk with sieve := { s.blk.sieve with recent := s.blk.sieve.recent.filter (fun d => decide (ns ≤ d.ns + s.blk.h2Ns 8)) } }) ∧
  (∀ (s : State) (ns : Nat) (h : SfdHit) (coded : Bool) (x : Stall) (b : Block), s.blk.sieve.stalls = [x] →
    x.idx = h.stall.val → x.st = .hunt → ns ≤ s.blk.preDeadline x →
    sfdCoded (s.blk.on F.SIEVE_RXCFG.SFD_SET) x.hyp h.sfd.toNat = some coded → s.blk.est 10 = stRun →
    b = (s.blk.lane 9 (128 + x.hyp) 1).setStall { x with st := .header, cand := false, sfd := ns, coded := coded, cfo := h.cfo } →
    exec (.sfdMatch ns h.stall h.toSfdFound []) s = s.next { b with post := { b.post with streams := b.post.streams ++ [⟨x.idx, 0, 0⟩] } }) ∧
  (∀ (s : State) (ns : Nat) (h : SfdHit) (x : Stall), s.blk.stallAt h.stall.val = some x → x.st = .hunt → s.blk.preDeadline x < ns →
    exec (.sfdMatch ns h.stall h.toSfdFound []) s = s.next (s.blk.preTimeout x)) ∧
  (∀ (s : State) (i : Fin 128) (x : Stall), s.blk.stallAt i.val = some x → x.st = .hunt →
    exec (.preambleTimeout i) s = s.next (if s.blk.reached (s.blk.preDeadline x) = true then
      s.blk.releaseStall x.idx (if x.cand = true then C.SIEVE.RESTART_FAIL else C.SIEVE.FALSE) else s.blk)) ∧
  (∀ (s : State) (i : Fin 128) (x : Stall) (p : PhrRead), s.blk.stallAt i.val = some x → x.st = .header →
    (p.ms = true → ∀ m, exec (.phrJudgement i p none m) s = s.next (s.blk.releaseStall x.idx C.SIEVE.UNSUPP)) ∧
    (p.ms = false → p.len < (if p.fcs4 = true then 5 else 3) →
      ∀ m, exec (.phrJudgement i p none m) s = s.next (s.blk.releaseStall x.idx C.SIEVE.PHR_ERR)) ∧
    (p.ms = false → (if p.fcs4 = true then 5 else 3) ≤ p.len → ∀ m, exec (.phrJudgement i p none m) s = s.next
      ((s.blk.setStall { x with st := .body, len := p.len, fcs4 := p.fcs4, dw := p.dw, rsc := false }).reserveFor x.idx
        (p.len - (if p.fcs4 = true then 4 else 2))))) ∧
  (∀ (s : State) (i : Fin 128) (x : Stall) (psdu t : List Byte) (b : Block), s.blk.stallAt i.val = some x → x.st = .body →
    b = { s.blk with sieve := { s.blk.sieve with stalls := s.blk.sieve.stalls.filter (fun q => q.idx != x.idx) } } →
    ((psdu ++ t).length ≠ x.len ∨ meshChecked x.fcs4 (psdu ++ t) = none → exec (.meshFrameVerdict i psdu t) s =
      s.next (((b.count .sieve C.SIEVE.FCS_FAIL).chCount x.ch 0xC).undoStream x.idx).sieveIdle) ∧
    ∀ (body : List Byte) (c : Block), (psdu ++ t).length = x.len → meshChecked x.fcs4 (psdu ++ t) = some body →
      c = (((b.count .sieve C.SIEVE.FRAME_OK).chCount x.ch 8).lane 9 x.idx 0).setTab (chState x.ch + 3) 1
        (unsignedOf 8 (x.power / 2) ^^^ 0x80) →
      exec (.meshFrameVerdict i psdu t) s = s.next ({ c with post := { c.post with good := c.post.good ++ (c.post.streams.filter (fun (q : PostStream) => q.stall == x.idx)).map (c.goodFrame x body), streams := c.post.streams.filter (fun q => q.stall != x.idx) } } : Block).sieveIdle) ∧
  (∀ (s : State) (k : Nat) (xs : List Int), s.blk.runs 9 = true → s.blk.on F.SIEVE_NF_LOOP.EN = true →
    (List.range s.blk.meshChannels).filter (fun k => bitOf (s.blk.chEntry k) 0) = [k] → exec (.nfLoopUpdate [(k, xs)]) s =
      s.next (s.blk.nfChannel k xs))

/-- O15. Mesh transmissions are requested, judged, committed, blanked and ended as the mesh transmit rules say. From R174,
R175, R191, R192, R193, R194, R195, R199, R259, R264, R265. -/
def Obligations.MeshTransmissionEffects : Prop :=
  (∀ (s : State), s.blk.fe 3 = feCal → exec (.channelBlanking true 0) s = s.next (s.blk.feBlank 3)) ∧
  (∀ (s : State) (n : Nat) (t : SieveTx) (b : Block), s.blk.sieve.txs.find? (fun t => t.id == n && t.committed && !t.air) = some t →
    s.blk.reached (t.req.start - 1000 * s.blk.rampUs) = true → feReady ≤ s.blk.fe 3 → s.blk.fe 3 ≠ feCal → s.blk.sieveWalk = false →
    b = { s.blk with sieve := { s.blk.sieve with txs := s.blk.sieve.txs.map (fun (q : SieveTx) => if q.id = n then { q with air := true } else q) } } → ∃ c d : Block,
    c = ((b.setFe 3 feTx).updChain 16 (fun c => { c with target := some b.target16, viol := false })).releaseStalls
      (fun q => ((b.setFe 3 feTx).updChain 16 (fun c => { c with target := some b.target16, viol := false })).blanks
        t.req.ch q.ch) C.SIEVE.BLINKED ∧ d = (c.count .sieve C.SIEVE.TX_FRAME).lane 9 132 0 ∧
    exec (.channelBlanking false n) s = s.next ((d.emit (.mesh { t.req with power := t.power } (d.meshAir t.req t.power))).meshSent t.req)) ∧
  (∀ (s : State) (n : Nat) (t : SieveTx), s.blk.sieve.txs.find? (fun t => t.id == n && t.committed && !t.air) = some t →
    s.blk.reached (t.req.start - 1000 * s.blk.rampUs) = false → exec (.channelBlanking false n) s = s.next s.blk) ∧
  (∀ (s : State) (t u : MeshTx), s.blk.sieveSends = true → u = { t with pre := clampTo 4 1000 t.pre } →
    ((s.blk.meshJudge s.fuse t.ch ≠ .ok → exec (.sieveTxRequest t) s =
      s.next (s.blk.meshRefuse u (s.blk.meshJudge s.fuse t.ch))) ∧
    (s.blk.meshJudge s.fuse t.ch = .ok → t.start < s.blk.now + s.blk.leadNs → exec (.sieveTxRequest t) s =
      s.next ((s.blk.count .sieve C.SIEVE.TX_LATE).meshUnsent u)))) ∧
  (∀ (s : State) (t u : MeshTx) (b : Block), s.blk.sieveSends = true → u = { t with pre := clampTo 4 1000 t.pre } →
    s.blk.meshJudge s.fuse t.ch = .ok →
    s.blk.now + s.blk.leadNs ≤ t.start → b = ({ s.blk with sieve := { s.blk.sieve with nextTx := s.blk.sieve.nextTx + 1, txs := s.blk.sieve.txs ++ [({ id := s.blk.sieve.nextTx, req := u, power := t.power } : SieveTx)] } } : Block).calAbort 3 →
    b.fe 3 = feReady → exec (.sieveTxRequest t) s = s.next b) ∧
  (∀ (s : State) (n : Nat) (t : SieveTx), s.blk.sieve.txs.find? (fun t => t.id == n && !t.committed) = some t →
    s.blk.reached (s.blk.commitNs t.req) = true → s.blk.now ≤ t.req.start →
    feReady ≤ s.blk.fe 3 → s.blk.fe 3 ≠ feCal → s.blk.sieveSends = true → s.blk.meshJudge s.fuse t.req.ch = .ok →
    s.blk.onAirAt t.req.start = [] → ∀ (p : Int) (u : Nat), p = s.blk.capPower s.fuse t.req.ch (clampInt (-40) 28 t.req.power) →
    clampInt (-40) 28 t.req.power ≤ p → leastCut [] p = 0 → u = (s.blk.meshSub s.fuse t.req.ch).getD 0 →
    s.blk.dutyGrants s.fuse u (s.blk.airUnits t.req) = true → ∃ b : Block,
    b = (s.blk.dutyCharge s.fuse u (s.blk.airUnits t.req)).updFe 3 (fun e => { e with waiting := e.waiting.filter (· != n) }) ∧
    exec (.sieveTxCommit n) s = s.next { b with sieve := { b.sieve with txs := b.sieve.txs.map (fun (q : SieveTx) => if q.id = n then { q with committed := true, power := p } else q) } }) ∧
  (∀ (s : State) (n : Nat) (t : SieveTx), s.blk.sieve.txs.find? (fun t => t.id == n && !t.committed) = some t →
    s.blk.reached (s.blk.commitNs t.req) = false → exec (.sieveTxCommit n) s = s.next s.blk) ∧
  (∀ (s : State) (n : Nat), exec (.sieveTxEnd n true) s =
    s.next { s.blk with sieve := { s.blk.sieve with tails := s.blk.sieve.tails.filter (fun t => t.1 != n || !s.blk.reached t.2.2) } }) ∧
  (∀ (s : State) (t : SieveTx) (u : Nat) (b : Block), s.blk.sieve.txs = [t] → t.air = true →
    u = s.blk.sieve.airRem + s.blk.airUnits t.req → s.blk.fe 3 = feTx → s.blk.sieve.stalls = [] →
    b = { s.blk with sieve := { s.blk.sieve with txs := [], tails := s.blk.sieve.tails ++ [(t.id, t.req.ch, s.blk.tailEnd)], airRem := u % 100 } } →
    exec (.sieveTxEnd t.id false) s = s.next (((if u / 100 = 0 then b else b.lane 9 132 1 (u / 100)).setFe 3 feReady).feBoundary 3)) ∧
  (∀ (s : State), s.blk.runs 9 = true → s.blk.sieve.span = none → exec .sieveSpanApply s = s.next s.blk.sieveStart)

/-- O16. Post node commands move nodes between their states as commanded, and tether events open, end, tether and expire. From
R215, R216, R217, R223, R226, R228, R230, R231, R232, R233, R235, R240. -/
def Obligations.NodeAndTetherEffects : Prop :=
  (
  ∀ (s : State) (n : Fin 131072), s.blk.runs 10 = true → s.blk.postWalk = false → s.blk.get F.POST_TCMD_STATUS.STATE ≠ 1 →
    s.blk.eventOf n.val = none →
    ((s.blk.hot n.val).st = stFree → exec (.admitNode { node := n, recErr := false }) s = s.next ((((((({ s.blk with dram := clearRange s.blk.dram (recAddr n.val + 10) 0x76 } : Block).bufToRec n.val).setHot n.val { st := stKnown }).fixPend
        n.val)).saveHot n.val).tcmdStatus 2 0 n.val)) ∧
    ((s.blk.hot n.val).st = stFree → exec (.admitNode { node := n, recErr := true }) s =
      s.next (((s.blk.recordLost n.val true).note 10 3).tcmdStatus 3 4 n.val)) ∧
    ((s.blk.hot n.val).st ≠ stFree → ∀ err, exec (.admitNode { node := n, recErr := err }) s = s.next (s.blk.tcmdStatus 3 1 n.val)) ∧
    ((s.blk.hot n.val).st ≠ stKnown → exec (.create n) s = s.next (s.blk.tcmdStatus 3 1 n.val)) ∧
    ((s.blk.hot n.val).st = stKnown →
      (s.blk.profValid (s.blk.get F.POST_TARG0.PROFILE) = false → exec (.create n) s = s.next (s.blk.tcmdStatus 3 2 n.val)) ∧
      (s.blk.profValid (s.blk.get F.POST_TARG0.PROFILE) = true → s.blk.effMap (s.blk.get F.POST_TARG0.MAP) ≠ 0 → ∃ g : Grant,
        g = { node := n.val, profile := s.blk.get F.POST_TARG0.PROFILE, map := s.blk.get F.POST_TARG0.MAP, first := s.blk.get F.POST_TARG2.FIRST_LO + 2 ^ 32 * s.blk.get F.POST_TARG3.FIRST_HI, expiry := s.blk.ao + s.blk.lifeNs (s.blk.get F.POST_TARG0.GRANT_LIFE_S) } ∧
        exec (.create n) s = s.next (((((s.blk.setHot n.val { st := stGranting, profile := g.profile, map := g.map, counter := s.blk.get F.POST_TARG1.COUNTER0 }).updPost (fun p => { p with grants := p.grants ++ [g] })).fixPend n.val).saveHot n.val).tcmdStatus
            2 0 n.val))) ∧
    ((s.blk.hot n.val).st = stTethered → exec (.throw n) s = s.next ((s.blk.throwTether n.val 2).tcmdStatus 2 0 n.val)) ∧
    ((s.blk.hot n.val).st = stGranting → exec (.throw n) s =
      s.next ((((s.blk.setHot n.val { s.blk.hot n.val with st := stKnown }).dropGrant n.val).saveHot n.val).tcmdStatus 2 0 n.val)) ∧
    ((s.blk.hot n.val).st ≠ stFree →
      exec (.read { node := n, recErr := false }) s = s.next ((s.blk.setTabBytes recBuf (readBytes s.blk.dram 0 (recAddr n.val) 256)).tcmdStatus
        2 0 n.val) ∧
      exec (.write { node := n, recErr := false }) s = s.next ((s.blk.bufToRec n.val).tcmdStatus 2 0 n.val) ∧
      exec (.read { node := n, recErr := true }) s = s.next (((s.blk.recordLost n.val true).note 10 3).tcmdStatus 3 4 n.val) ∧
      exec (.write { node := n, recErr := true }) s = s.next (((s.blk.recordLost n.val true).note 10 3).tcmdStatus 3 4 n.val) ∧
      exec (.flush n) s = s.next ((s.blk.dlFlush n.val).tcmdStatus 2 0 n.val) ∧
      (s.blk.post.held = [] → ∃ b : Block, b = ((((s.blk.dlFlush n.val).dropGrant n.val).dropTether n.val).exchEnd n.val).updPost (fun p => { p with await := p.await.filter (fun a => a.node != n.val), held := p.held.filter (fun f => f.node != n.val) }) ∧
        exec (.forget n) s = s.next ((((b.dropWindows n.val).setHot n.val {}).saveHot n.val).tcmdStatus 2 0 n.val)))
  ) ∧
  (
  (∀ (s : State) (n : Fin 131072) (w : Nat) (e : TetherEvent), (s.blk.hot n.val).st = stTethered → s.blk.eventOf n.val = none →
    s.blk.est 10 = stRun → w = s.blk.widening (s.blk.hot n.val) → n.val ∉ s.blk.post.outReach →
    w ≤ s.blk.guardUs (s.blk.hot n.val).profile → s.blk.effMap (s.blk.hot n.val).map ≠ 0 → e = s.blk.newEvent n.val false →
    ∃ b : Block, b = (s.blk.updPost (fun p => { p with events := p.events ++ [e] })).lane 10 2 0 ∧
      exec (.tetherWindowOpen n) s = s.next (({ b with sieve := { b.sieve with windows := b.sieve.windows ++ [(⟨n.val, e.ch, e.hyp, e.anchor - 1000 * w - s.blk.tshrNs (s.blk.hot n.val).profile, e.anchor + 1000 * w⟩ : RxWindow)] } } : Block).calAbort 3)) ∧
  (∀ (s : State) (n : Fin 131072) (e : TetherEvent) (b : Block), s.blk.eventOf n.val = some e → e.deferred = none → e.hit = true →
    b = (((((s.blk.updPost (fun p => { p with events := p.events.filter (fun q => q.node != n.val) })).dropWindows n.val).exchEnd
      n.val).count .post C.POST.EVT_HIT).recCount n.val 3) →
    ((b.hot n.val).st ≠ stTethered → exec (.tetherEventEnd n) s = s.next b) ∧
    ((b.hot n.val).st = stTethered → exec (.tetherEventEnd n) s =
      s.next (((b.advance n.val e.interval false).keepHot n.val).supervise n.val e.interval e.sup))) ∧
  (∀ (s : State) (n : Fin 131072) (a : Await) (g : Grant) (b : Block), s.blk.post.await.find? (fun a => a.node == n.val && a.grant) = some a →
    a.node = n.val → a.grant = true → s.blk.est 10 = stRun →
    b = (s.blk.updPost (fun p => { p with await := p.await.erase a })).dropWindows n.val → b.grantFor n.val = some g →
    exec (.grantAcknowledged n) s = s.next (((((b.setHot n.val { b.hot n.val with st := stTethered, anchor := g.sentA / 2000, counter := g.sentC, miss := 0, anchN := 0, drift := 0 }).dropTether n.val).dropGrant n.val).keepHot n.val).postEvent 17 n.val 0)) ∧
  (∀ (s : State) (n : Fin 131072) (g : Grant), s.blk.grantFor n.val = some g → s.blk.runs 10 = true → g.expiry ≤ s.blk.ao →
    exec (.grantExpired n) s = s.next ((((s.blk.setHot n.val { s.blk.hot n.val with st := stKnown }).dropGrant n.val).keepHot n.val).postEvent 18
      n.val 0))
  ) ∧
  (
  (∀ (s : State) (n : Fin 131072) (x : Exch) (f : DlFrame) (b : Block),
    s.blk.post.exch.find? (fun x => x.node == n.val && !x.event) = some x → x.event = false → x.node = n.val →
    s.blk.eventOf n.val = none → s.blk.est 10 = stRun → x.more = false → s.blk.post.await = [] →
    b = (s.blk.dlAge n.val (s.blk.dlQueue n.val).length).exchEnd n.val → b.grantFor n.val = none →
    (sendable false (b.dlQueue n.val) = some f → exec (.dataRequestPoll n) s = s.next (b.sendFrame s.fuse x f)) ∧
    (sendable false (b.dlQueue n.val) = none → exec (.dataRequestPoll n) s = s.next (b.exchEnd n.val))) ∧
  (∀ (s : State) (n : Fin 131072) (x : Exch) (e : TetherEvent), s.blk.post.exch.find? (fun x => x.node == n.val && x.event) = some x →
    x.event = true → x.node = n.val → s.blk.eventOf n.val = some e → e.maxDl ≤ e.dlSent →
    exec (.downlinkSend n) s = s.next s.blk) ∧
  (∀ (s : State) (h : SendHdr) (body : List Byte), s.blk.est 10 = stRun → h.broadcast = false → (s.blk.hot h.node).st ≠ stFree →
    s.blk.post.freeQ < dlCells body → exec (.meshEnqueue h body) s = s.next ((s.blk.count .post C.POST.DL_FULL_DROP).confirm h 5)) ∧
  (∀ (s : State) (h : SendHdr) (body : List Byte), h.broadcast = true → exec (.meshEnqueue h body) s = exec (.meshBroadcast h body) s) ∧
  (∀ (s : State) (n : Fin 131072) (f : DlFrame) (t : List DlFrame), s.blk.dlQueue n.val = f :: t → s.blk.dlLate f = false →
    exec (.downlinkExpired n) s = s.next s.blk) ∧
  (∀ (s : State) (i : Fin 128) (g : GoodFrame), s.blk.post.good.find? (fun g => g.stall == i.val) = some g →
    s.blk.est 10 = stStop → exec (.postFrameAccept i) s =
      s.next ((s.blk.updPost (fun p => { p with good := p.good.erase g })).freeCells g.cells)) ∧
  (∀ s : State, s.blk.bagDue = false → exec .saddlebagDrain s = s.next s.blk) ∧
  (∀ s : State, s.blk.post.rebuild = false → exec .hotTableRebuild s = s.next s.blk)
  )

/-- O17. Mesh downlink queues, polls, acknowledgements and retries, and received mesh frames, act as the Post rules say. From
R203, R204, R206, R213, R218, R222, R232, R233, R234, R235, R237, R238. -/
def Obligations.MeshDownlinkAndDelivery : Prop :=
  (
  (∀ (s : State) (n : Fin 131072) (x : Exch) (g : Grant) (b : Block), s.blk.post.exch.find? (fun x => x.node == n.val && !x.event) = some x →
    x.event = false → x.node = n.val → s.blk.eventOf n.val = none → s.blk.est 10 = stRun → x.more = false →
    s.blk.post.await = [] → b = (s.blk.dlAge n.val (s.blk.dlQueue n.val).length).exchEnd n.val → b.grantFor n.val = some g →
    exec (.dataRequestPoll n) s = s.next (b.sendGrant s.fuse x g)) ∧
  (∀ (s : State) (n : Fin 131072) (x : Exch) (e : TetherEvent) (f : DlFrame) (b : Block),
    s.blk.post.exch.find? (fun x => x.node == n.val && x.event) = some x → x.event = true → x.node = n.val →
    s.blk.eventOf n.val = some e → e.dlSent < e.maxDl → x.next ≤ e.anchor + 500000 * e.interval → s.blk.est 10 = stRun →
    x.more = false → s.blk.post.await = [] → b = s.blk.dlAge n.val (s.blk.dlQueue n.val).length → b.grantFor n.val = none →
    sendable true (b.dlQueue n.val) = some f → exec (.downlinkSend n) s = s.next (b.sendFrame s.fuse x f)) ∧
  (∀ (s : State) (h : SendHdr) (body : List Byte), s.blk.est 10 = stRun → h.broadcast = false →
    (s.blk.hot h.node).st ≠ stFree → (s.blk.dlQueue h.node).length < max 1 (s.blk.get F.POST_DLQ.MAX_FRAMES) →
    dlCells body ≤ s.blk.post.freeQ → exec (.meshEnqueue h body) s =
      s.next (((s.blk.updPost (fun p => { p with freeQ := p.freeQ - dlCells body })).setDlQueue h.node
        (s.blk.dlQueue h.node ++ [({ hdr := h, body := body, ns := s.blk.ao } : DlFrame)])).lane 10 3 0)) ∧
  (∀ (s : State) (h : SendHdr) (body : List Byte), s.blk.est 10 = stRun → h.broadcast = false →
    (s.blk.hot h.node).st = stFree → exec (.meshEnqueue h body) s = s.next ((s.blk.count .post C.POST.DL_FULL_DROP).confirm h 5)) ∧
  (∀ (s : State) (h : SendHdr) (body bs : List Byte) (v p : Nat) (b : Block), s.blk.est 10 = stRun → s.blk.draw.1 = v →
    b = s.blk.draw.2.draw.2 → s.blk.draw.2.draw.1 = p → bs = frameControl 1 false false false true false 2 1 2 ++ bytesLE 1 v ++
      bytesLE 2 (b.pan h.pan 0 2) ++ bytesLE 2 0xFFFF ++ bytesLE 2 (b.pan h.pan 2 2) ++ body →
    exec (.meshBroadcast h body) s = s.next (b.meshRequest s.fuse { ch := h.channel, hyp := h.hyp, pre := b.preOct, coded := bitOf v 9, il := bitOf v 10, dw := bitOf v 11, fcs4 := bitOf v 8, psdu := bs ++ meshFcs (bitOf v 8) bs, power := signedOf 8 p, start := b.now + b.leadNs, role := 2, node := 131072 })) ∧
  (∀ (s : State) (n : Fin 131072) (f : DlFrame) (t : List DlFrame), s.blk.est 10 = stRun → s.blk.dlQueue n.val = f :: t →
    s.blk.dlLate f = true → exec (.downlinkExpired n) s =
      s.next (((s.blk.count .post C.POST.DL_EXPIRED).recCount n.val 7).dlDrop n.val f 2)) ∧
  (∀ (s : State) (n : Fin 131072) (a : Await) (b : Block), s.blk.post.await.find? (fun a => a.node == n.val) = some a → a.node = n.val →
    b = ((s.blk.updPost (fun p => { p with await := p.await.erase a })).dropWindows n.val).exchEnd n.val →
    (a.grant = true → exec (.downlinkAckTimeout n) s = s.next b) ∧
    ∀ f, a.grant = false → (b.dlQueue n.val).find? (fun f => f.dsn == some a.seq) = some f →
      (max 1 (b.get F.POST_EVT.DL_RETRY) ≤ f.retry + 1 → exec (.downlinkAckTimeout n) s =
        s.next (((b.count .post C.POST.DL_RETRY_DROP).recCount n.val 7).dlDrop n.val f 3)) ∧
      (f.retry + 1 < max 1 (b.get F.POST_EVT.DL_RETRY) → exec (.downlinkAckTimeout n) s =
        s.next (b.setDlQueue n.val ((b.dlQueue n.val).map (fun (q : DlFrame) => if q = f then { q with retry := q.retry + 1 } else q)))))
  ) ∧
  (
  (∀ (s : State) (i : Fin 128) (g : GoodFrame) (b : Block), s.blk.post.good.find? (fun g => g.stall == i.val) = some g →
    s.blk.runs 10 = true → s.blk.bagDue = false →
    b = ((s.blk.updPost (fun p => { p with good := p.good.erase g })).count .post C.POST.RX_FRAME).lane 10 0 0 →
    (parseMhr g = none → exec (.postFrameAccept i) s = s.next (b.frameDrop g C.POST.RX_FILTERED)) ∧
    ∀ f, parseMhr g = some f →
      (f.kind = .ack → exec (.postFrameAccept i) s = s.next ((b.freeCells g.cells).ackIn f)) ∧
      (f.kind ≠ .ack → b.panOf f = none → exec (.postFrameAccept i) s = s.next (b.frameDrop g C.POST.RX_FILTERED)) ∧
      ∀ p, f.kind ≠ .ack → b.panOf f = some p →
        (b.srcOk p f = false → exec (.postFrameAccept i) s = s.next (b.frameDrop g C.POST.UNKNOWN_SRC)) ∧
        (b.srcOk p f = true → f.kind = .data → exec (.postFrameAccept i) s =
          s.next ((b.lane 10 0 1).accepted s.fuse f p g.cells g.bag))) ∧
  (∀ (b : Block) (f : MeshFrame) (p n : Nat), f.secLevel = 0 → bitOf (b.pan p 0x10 1) 2 = true →
    b.takeIn f p (some n) 0 none = (b.count .post C.POST.SEC_FAIL).recCount n 2) ∧
  (∀ (s : State) (i : Fin 128) (q : PostStream), s.blk.post.streams.find? (fun q => q.stall == i.val) = some q →
    exec (.postFrameUndo i) s = s.next (({ s.blk.freeCells q.cells with post := { (s.blk.freeCells q.cells).post with streams := (s.blk.freeCells q.cells).post.streams.filter (fun q => q.stall != i.val) } } : Block).count
      .post C.POST.UNDONE)) ∧
  (∀ (s : State) (i : Fin 128), s.blk.post.streams.find? (fun q => q.stall == i.val) = none → exec (.postFrameUndo i) s = s.next s.blk) ∧
  (∀ (s : State) (e : BagEntry), s.blk.bagDue = true → s.blk.post.bag = [e] → e.node ≠ 0x1FFFF → (s.blk.hot e.node).st ≠ stFree →
    exec .saddlebagDrain s = s.next (((s.blk.takeIn e.frame e.pan (some e.node) 2 e.event).updPost (fun p => { p with bag := [] })).bagStatus)) ∧
  (∀ (s : State) (n : Nat) (b : Block), s.blk.est 10 = stStart → s.blk.post.rebuild = true → s.blk.recNodes = [n] →
    b = (s.blk.setTabBytes (hotAddr n) (readBytes s.blk.dram 0 (recAddr n + 0x1C) 16)).fixPend n → exec .hotTableRebuild s =
    s.next ((b.hotNodes.foldl (fun b n => b.saveHot n) b).updPost (fun p => { p with rebuild := false })))
  )

/-- O18. Front ends warm, settle and calibrate, and chain power control and the mask monitor act, as the front-end rules say.
From R244, R246, R247, R248, R249, R250, R251, R260, R261, R262, R263, R269. -/
def Obligations.FrontEndAndChainEffects : Prop :=
  (
  (∀ (s : State) (f : Fin 4) (temp : Int), s.blk.fe f.val = feWarm →
    ((s.blk.setFeTemp f.val temp).calValid f.val = true → exec (.feWarmDone f temp) s =
      s.next ((s.blk.setFeTemp f.val temp).setFe f.val feSettle)) ∧
    ((s.blk.setFeTemp f.val temp).calValid f.val = false → exec (.feWarmDone f temp) s =
      s.next (((s.blk.setFeTemp f.val temp).setFe f.val feCal).updFe f.val (fun e => { e with startup := true, steps := 0 })))) ∧
  (∀ (s : State) (f : Fin 4), s.blk.fe f.val = feSettle → (s.blk.feAt f.val).wifi = none → exec (.feSettleDone f) s =
    s.next (((s.blk.setFe f.val feReady).updFe f.val (fun e => { e with readyAo := s.blk.ao, waiting := [], wifi := none })).wakeReady f.val)) ∧
  (∀ (s : State) (f : Fin 4) (temp : Int), s.blk.fe f.val = feCal → (s.blk.feAt f.val).startup = true → ∃ b : Block,
    b = ((s.blk.setFe f.val feSettle).setFeTemp f.val temp).updFe f.val (fun e => { e with startup := false }) ∧
    exec (.startupCalibrationDone f true temp) s = s.next (((b.calStore f.val [0, 1, 2, 3] temp).setB (F.RFC_FE_STATUS.DEGRADED
      f.val) false).count (.rfc f) C.RFC.CAL_STARTUP) ∧
    exec (.startupCalibrationDone f false temp) s = s.next (((b.setB (F.RFC_FE_STATUS.DEGRADED f.val) true).count (.rfc f)
      C.RFC.CAL_FAIL).feNote f.val 4)) ∧
  (∀ (s : State) (f : Fin 4) (temp : Int), s.blk.fe f.val ≠ feOff → (s.blk.feAt f.val).steps = 0 →
    ((s.blk.setFeTemp f.val temp).feAt f.val).steps = 0 → exec (.calibrationDue f temp) s = s.next (s.blk.setFeTemp f.val temp)) ∧
  (∀ (s : State) (f : Fin 4) (ok : Bool) (temp : Int) (k : Nat) (b : Block), b = s.blk.setFeTemp f.val temp →
    b.fe f.val = feReady → (b.feAt f.val).readyAo + 200000 ≤ b.ao → b.calGap f.val = true → (b.feAt f.val).steps = 0 →
    (List.range 4).find? (fun k => b.calDue f.val k) = some k → exec (.inserviceStep f ok temp) s =
      s.next ((((b.feBlank f.val).setFe f.val feCal).set (F.RFC_FE_STATUS.CAL_RUN f.val) k).updFe f.val
        (fun e => { e with steps := 0 }))) ∧
  (∀ (s : State) (f : Fin 4) (ok : Bool) (temp : Int) (k : Nat) (b q : Block), b = s.blk.setFeTemp f.val temp →
    b.fe f.val = feCal → (b.feAt f.val).startup = false → k = b.get (F.RFC_FE_STATUS.CAL_RUN f.val) →
    q = (b.setFe f.val feSettle).updFe f.val (fun e => { e with steps := e.steps + 1 }) → q.calDue f.val k = true →
    ((b.feAt f.val).steps + 1 < calSteps f.val k → exec (.inserviceStep f ok temp) s = s.next q) ∧
    (calSteps f.val k ≤ (b.feAt f.val).steps + 1 → exec (.inserviceStep f ok temp) s = s.next (q.calEnd f.val k ok temp))) ∧
  (∀ (s : State) (f : Fin 4), exec (.calStepAbort f) s = s.next (s.blk.calAbort f.val)) ∧
  (∀ (s : State) (f : Fin 4) (j : TxJob), f.val ≠ 3 → (s.blk.feAt f.val).wifi = some j → exec (.txWaitedLate f none) s =
    s.next ((s.blk.updFe f.val (fun e => { e with wifi := none })).refuseTx f.val j.kind (.rfc f) C.RFC.TX_LATE)) ∧
  (∀ (s : State) (f : Fin 4) (b : Block), s.blk.fe f.val = feSettle → (s.blk.feAt f.val).losses = [] →
    (f.val < 3 → (s.blk.lmAt f.val).resp = none) → b = (s.blk.count (.rfc f) C.RFC.LOCK_LOSS).feNote f.val 1 →
    (b.feAt f.val).losses = [] → (f.val < 3 → (b.lmAt f.val).resp = none) → exec (.synthLockLost f) s =
      s.next (b.updFe f.val (fun e => { e with losses := [b.ao] })))
  ) ∧
  (
  (∀ (s : State) (c : Fin 17) (m t : Int) (f : Nat) (i : Int), f = chainFe c.val → (s.blk.chainAt c.val).target = some t →
    s.blk.on (F.RFC_ALC.FREEZE f) = false → i = clampInt 0 127 ((s.blk.chainAt c.val).idx +
      loopStep (t - m) (s.blk.get (F.RFC_ALC.GAIN_SHIFT f)) (max 1 (s.blk.get (F.RFC_ALC.STEP f)))) → i < 127 →
    exec (.alcUpdate c m) s = s.next ((s.blk.updChain c.val (fun x => { x with idx := i.toNat })).updChain c.val (fun x =>
      if x.viol = true then { x with target := none, viol := false, clean := 0 }
      else if max 1 (s.blk.get (F.RFC_MON.RECOVER f)) ≤ x.clean + 1 then { x with target := none, clean := 0, strikes := 0, backoff := x.backoff - max 1 (s.blk.get (F.RFC_MON.STEP f)) }
      else { x with target := none, clean := x.clean + 1, strikes := 0 }))) ∧
  (∀ (s : State) (c : Fin 17) (m t : Int), (s.blk.chainAt c.val).target = some t →
    10 * (s.blk.get (F.RFC_ALC.OVER (chainFe c.val)) : Int) < 25 * (m - t) → exec (.alcOvershoot c m) s =
      s.next ((s.blk.updChain c.val (fun x => { x with idx := x.idx - (m - t).toNat })).count
        (.rfc (Fin.ofNat 4 (chainFe c.val))) C.RFC.ALC_OVERSHOOT)) ∧
  (∀ (s : State) (c : Fin 17) (sp : List (Int × Int)), s.blk.maskBroken (chainFe c.val) sp = false →
    exec (.maskViolation { chain := c, spectrum := sp }) s = s.next s.blk) ∧
  (∀ (s : State) (c : Fin 17) (sp : List (Int × Int)) (f n : Nat), s.blk.maskBroken f sp = true → f = chainFe c.val → n = 2 * s.blk.get (F.RFC_MON.MAX f) →
    s.blk.on (F.RFC_MON.EN f) = true → (s.blk.chainAt c.val).target.isSome = true → (s.blk.chainAt c.val).viol = false →
    (s.blk.chainAt c.val).backoff < n → ∃ b : Block, b = s.blk.count (.rfc (Fin.ofNat 4 f)) C.RFC.MON_VIOLATION ∧
    exec (.maskViolation { chain := c, spectrum := sp }) s = s.next (b.updChain c.val (fun x => { x with viol := true, clean := 0, strikes := 0, backoff := min n (x.backoff + max 1 (b.get (F.RFC_MON.STEP f))) }))) ∧
  (∀ (s : State) (road : Road) (v : Word), s.blk.roadStops road R.RFC_CHAIN_REVIVE = none → exec (.chainRevive road v) s =
    s.next ((bitsSet 17 v.toNat).foldl (fun b c =>
      if bitOf (b.get F.RFC_CHAIN_STATE.SHUT) c = true then (b.set F.RFC_CHAIN_STATE.SHUT (setBit (b.get F.RFC_CHAIN_STATE.SHUT) c
        false)).updChain c (fun x => { x with backoff := 0, strikes := 0, clean := 0 }) else b) s.blk))
  )

/-- O19. The duty window rolls and is never overcharged; regulatory fuses and image caps are written only when allowed. From
R255, R257, R264, R265, R266. -/
def Obligations.DutyAndRegulatoryEffects : Prop :=
  (
  (∀ (s : State), exec .dutyTick s = s.next (((List.range 8).filter (keepsDuty s.fuse)).foldl
    (fun b n => b.setDuty n (takeBins 3600 (pushBin 0 (b.dutyWin n)))) s.blk)) ∧
  (∀ (b : Block) (fu : Fuses) (n u : Nat), keepsDuty fu n = true → b.dutyGrants fu n u = true →
    (∀ p ∈ b.dutyWin n, 1 ≤ p.1) → binSum ((b.dutyCharge fu n u).dutyWin n) ≤ (subBand fu n).duty * 360000) ∧
  (∀ l : List (Nat × Nat), binSum (takeBins 3600 (pushBin 0 l)) ≤ binSum l)
  ) ∧
  (
  (∀ (s : State) (road : Road) (v : Word), s.blk.roadStops road R.RFC_REG_DATA = none → s.blk.sec.lc < 2 →
    s.fuse.regLock = false → ∃ w : Nat, w = s.blk.get F.RFC_REG_IDX.WORD ∧ exec (.regFuseWrite road v) s =
      .next { s with fuse := { s.fuse with reg := put s.fuse.reg w (look s.fuse.reg w 0 ||| (v.toNat &&& regFuseMask w)) 0 } }) ∧
  (∀ (s : State) (road : Road) (v : Word), s.blk.roadStops road R.RFC_REG_DATA = none →
    (2 ≤ s.blk.sec.lc ∨ s.fuse.regLock = true) → exec (.regFuseWrite road v) s =
      s.next (s.blk.noteWrite road R.RFC_REG_DATA v.toNat)) ∧
  (∀ (s : State) (road : Road) (v : Word), s.blk.roadStops road R.RFC_IMGCAP = none → s.blk.ost.pass2Done = false →
    blockStep (.rfcImgcapWrite road v) s (fun b => b.get F.RFC_IMGCAP.CAP0 = v.toNat % 256 ∧
      b.get F.RFC_IMGCAP.CAP1 = v.toNat / 2 ^ 8 % 256 ∧ b.get F.RFC_IMGCAP.CAP2 = v.toNat / 2 ^ 16 % 256 ∧
      b.get F.RFC_IMGCAP.CAP3 = v.toNat / 2 ^ 24)) ∧
  (∀ (s : State) (road : Road) (v : Word), s.blk.roadStops road R.RFC_IMGCAP = none → s.blk.ost.pass2Done = true →
    s.blk.get F.RFC_IMGCAP.CAP0 < v.toNat % 256 → exec (.rfcImgcapWrite road v) s =
      s.next (s.blk.noteWrite road R.RFC_IMGCAP v.toNat))
  )

/-- O20. Carter frames pass the pipe in the order of the rule, blocked ports drop, cuts are stomped, the Loft takes spills,
ports schedule. From R279, R281, R282, R283, R284, R285, R287, R298. -/
def Obligations.ForwardingEffects : Prop :=
  (∀ (s : State) (g : Ingress) (b : Block), s.blk.runs 3 = true → s.blk.lame = false → 2 ≤ g.src → g.fcs = .good → g.rsLost = 0 →
    b = (s.blk.cartCount (portOf g.src) C.CART.RX_FRAMES).lane 3 (pipeOf g.src) 0 → 64 ≤ g.len → g.len ≤ b.mtu →
    g.frame.etype ≠ b.get F.CART_STEWARD.ETYPE → b.lame = false →
    (bitOf (b.srcFlags g.src) 0 = false → exec (.frameIngress g) s = s.next (b.pipeDrop g.src C.CART.VLAN_DROP) ∧
      exec (.cutThrough g) s = s.next (b.pipeDrop g.src C.CART.VLAN_DROP)) ∧
    (bitOf (b.srcFlags g.src) 0 = true → g.frame.tag = none → bitOf (b.vlanByte (b.pvid g.src) 2) 0 = true →
      bitOf (b.vlanByte (b.pvid g.src) 0) (memberBit (portOf g.src)) = true →
      exec (.frameIngress g) s = s.next (b.pipeline g none (b.pvid g.src)) ∧
      exec (.cutThrough g) s = s.next (b.pipeline g none (b.pvid g.src)))) ∧
  (∀ (s : State) (g : Ingress) (b : Block), s.blk.runs 3 = true → g.src ≤ 1 → s.blk.portHears g.src = true → g.rsLost = 0 → g.fcs = .good →
    b = (s.blk.cartCount (portOf g.src) C.CART.RX_FRAMES).lane 3 (pipeOf g.src) 0 → b.lame = false → b.cart.keeper.isOpen = true →
    64 ≤ g.len → g.len ≤ b.mtu → g.frame.etype ≠ b.get F.CART_STEWARD.ETYPE → g.frame.etype ≠ 0x8808 →
    bitOf (b.srcFlags g.src) 0 = true → g.frame.tag = none → bitOf (b.vlanByte (b.pvid g.src) 2) 0 = true →
    bitOf (b.vlanByte (b.pvid g.src) 0) (memberBit (portOf g.src)) = true →
    (b.on (ringBlockFld g.src) = true → exec (.cutThrough g) s = s.next (b.pipeDrop g.src C.CART.BLOCKED_DROP)) ∧
    (b.on (ringBlockFld g.src) = false → exec (.cutThrough g) s = s.next (b.pipeline g none (b.pvid g.src)))) ∧
  (∀ (s : State) (g : Ingress), s.blk.portHears g.src = false → exec (.frameIngress g) s = s.next s.blk) ∧
  (∀ (s : State) (g : Ingress), s.blk.runs 3 = true → s.blk.portHears g.src = true → g.rsLost = 0 → g.src ≤ 1 → ∃ b : Block,
    b = (s.blk.cartCount (portOf g.src) C.CART.RX_FRAMES).lane 3 (pipeOf g.src) 0 ∧ (b.lame = false → b.cart.keeper.isOpen = false →
      exec (.frameIngress g) s = s.next (b.pipeDrop g.src C.CART.BLOCKED_DROP))) ∧
  (∀ (s : State) (p : Fin 2) (n : Nat) (c : CutFlight), s.blk.cart.cut.find? (fun c => c.ingress == p.val) = some c →
    exec (.cutThroughStomp p n .bad) s = s.next ((s.blk.cartCount p.val C.CART.RX_FCS_ERR).stomp { c with frame := { c.frame with payload := c.frame.payload.take (min n s.blk.mtu - (18 + (if c.frame.tag.isSome then 4 else 0))) } })) ∧
  (∀ (s : State) (n : Nat) (u : CellUse) (b : Block), s.blk.poolAt n = some u → u.loft = false →
    s.blk.cart.troughs.any (fun t => t.frames.any (fun f => f.pool == n)) = true → s.blk.runs 3 = true →
    s.blk.on F.CART_BUF.LOFT_EN = true → s.blk.get F.CART_LOFT.SIZE_MIB ≠ 0 → s.blk.cart.cellar < s.blk.get F.CART_BUF.SPILL_AT →
    u.cells ≤ s.blk.cart.loft → s.blk.loftLimit = false → b = (s.blk.loftMove u.cells).updCart (fun c => { c with loft := c.loft - u.cells, pool := c.pool.map (fun (q : CellUse) => if q.id = n then { q with loft := true } else q) }) →
    exec (.loftSpill n) s = s.next ((b.freeCells u.cells).cartCount 7 C.CART.SPILLED)) ∧
  (∀ (s : State) (b c : Block) (t : Nat) (f : CartFrame), s.blk.runs 3 = true → s.blk.lame = false →
    s.blk.on (ringLinkFld 0) = true → s.blk.ringOn 0 = true → s.blk.cart.keeper.isOpen = true → s.blk.cart.cut = [] → s.blk.pickTrough 0 = some (t, b) →
    b.takeHead t = some (f, c) → f.oneStep = false → exec (.egressSchedule 0) s =
      s.next ((((c.emit (.ring 0 f.vlan (c.airFrame 0 f.vlan (t % 8) f.frame none) false)).cartCount 0 C.CART.TX_FRAMES).poolDrop f.pool).stampOwe 0 f)) ∧
  (∀ (s : State) (p : Fin 2), s.blk.ringOn p.val = true → s.blk.est 3 = stRun → s.blk.on (ringLinkFld p.val) = false →
    ∀ b : Block, b = ((s.blk.set (ringLinkFld p.val) 1).note 3 5 (bytesLE 2 (2 + p.val))).fire 3 16 →
    (b.on F.CART_STATUS.LINK_A = false ∨ b.on F.CART_STATUS.LINK_B = false → exec (.ringLink p true) s = s.next b) ∧
    (b.on F.CART_STATUS.LINK_A = true → b.on F.CART_STATUS.LINK_B = true → exec (.ringLink p true) s =
      s.next (b.updCart (fun c => { c with keeper := { c.keeper with openedAo := none } })))) ∧
  (∀ (s : State) (p : Fin 2), exec (.ringLink p false) s = s.next (s.blk.ringDown p.val))

/-- O21. The MAC table is inserted into, deleted from, looked up, flushed and aged as its rules say. From R272, R274, R275. -/
def Obligations.MacTableEffects : Prop :=
  (∀ (s : State) (road : Road), s.blk.roadStops road R.CART_L2CMD = none → s.blk.runs 3 = true →
    (∀ b, s.blk.macPut s.blk.l2Key.1 s.blk.l2Key.2 (s.blk.get F.CART_L2ARG2.DEST) true = some b →
      exec (.l2Insert road) s = s.next (b.l2Status 2 0 none)) ∧
    (s.blk.macPut s.blk.l2Key.1 s.blk.l2Key.2 (s.blk.get F.CART_L2ARG2.DEST) true = none →
      exec (.l2Insert road) s = s.next (s.blk.l2Status 3 1 none)) ∧
    (s.blk.macAt s.blk.l2Key.1 s.blk.l2Key.2 = none → exec (.l2Delete road) s = s.next (s.blk.l2Status 3 2 none) ∧
      exec (.l2Lookup road) s = s.next (s.blk.l2Status 3 2 none)) ∧
    (∀ m, s.blk.macAt s.blk.l2Key.1 s.blk.l2Key.2 = some m → exec (.l2Lookup road) s = s.next (s.blk.l2Status 2 0 (some m)) ∧
      exec (.l2Delete road) s = s.next ((s.blk.updCart (fun c => { c with macs := c.macs.filter (fun m => !(m.mac == s.blk.l2Key.1 && m.vlan == s.blk.l2Key.2)) })).l2Status 2 0 none)) ∧
    (s.blk.on F.CART_L2ARG2.ANY_DEST = true → s.blk.on F.CART_L2ARG2.ANY_VLAN = true → exec (.l2Flush road) s =
      s.next ((s.blk.updCart (fun c => { c with macs := c.macs.filter (fun m => m.static) })).l2Status 2 0 none))) ∧
  (∀ (s : State), s.blk.runs 3 = true → s.blk.get F.CART_L2.AGE_S ≠ 0 →
    max s.blk.cart.agedAt s.blk.cart.runSince + 1000000000 * s.blk.get F.CART_L2.AGE_S ≤ s.blk.mono + tickNs →
    exec .macAgeing s = s.next (s.blk.updCart (fun c => { c with agedAt := s.blk.mono, macs := (s.blk.cart.macs.filter (fun m => m.static || m.age == 0)).map (fun (m : MacEntry) => if m.static then m else { m with age := m.age + 1 }) }))) ∧
  (∀ (b : Block) (d : Nat) (mac vlan : Nat) (st : Bool) (c : Block), b.macPut mac vlan d st = some c →
    ∃ m : MacEntry, m ∈ c.cart.macs ∧ m.mac = mac ∧ m.vlan = vlan ∧ m.dest = d ∧ m.static = st ∧ m.age = 0)

/-- O22. PTP timestamps, corrections, the servo, holdover and steps of device time, and the ring keeper, act as their rules
say. From R293, R294, R295, R296, R297, R298, R299. -/
def Obligations.TimeAndKeeperEffects : Prop :=
  (
  (∀ (s : State) (p : Fin 2) (q : BitVec 16), s.blk.est 3 = stRun → s.blk.cart.stamps.length < 64 → (p.val, q.toNat) ∈ s.blk.cart.stampDue →
    ∀ ns, exec (.ptpTimestamp p q true ns) s =
      s.next (s.blk.updCart (fun c => { c with stampDue := c.stampDue.erase (p.val, q.toNat), stamps := c.stamps ++ [(⟨p.val, q.toNat, (s.blk.now + ns.val) % 2 ^ 64⟩ : TxStamp)] }))) ∧
  (∀ (s : State), exec .tsFifoPop s = s.next (s.blk.updCart (fun c => { c with stamps := c.stamps.drop 1 }))) ∧
  (∀ (s : State) (p : Fin 2) (m : PtpMsg), s.blk.est 3 = stRun → s.blk.on F.CART_PTP.TC_EN = true → m.transport ≠ 6 →
    m.kind.val = 1 → exec (.transparentClock p m) s =
      s.next ((s.blk.emit (.tc p.val (m.corr + 65536 * m.residence) (m.transport == 4))).cartCount p.val C.CART.TC_CORRECTED)) ∧
  (∀ (s : State) (p n t o : Nat) (c : Int), s.blk.on F.CART_PTP.EN = true → s.blk.est 3 = stRun → s.blk.get F.CART_PTP.SRC = 1 →
    p = s.blk.get F.CART_PTP.SLAVE_PORT → n = s.blk.get F.CART_PTP.DOMAIN → exec (.servoSample (.sync p n t o c)) s =
      s.next (s.blk.servoRun ((t : Int) - (o + c + s.blk.get F.CART_PTP_DELAY.DELAY_NS)) t)) ∧
  (∀ (s : State), s.blk.on F.CART_PTP.EN = true → s.blk.est 3 = stRun →
    max (s.blk.cart.servo.seen.getD 0) s.blk.cart.runSince + 8000000000 ≤ s.blk.mono → exec .ptpHoldover s =
      s.next (((s.blk.set F.CART_PTP_STATUS.LOCKED 0).set F.CART_PTP_STATUS.HOLDOVER 1).updCart (fun c =>
        { c with servo := { c.servo with last := none, good := 0 } }))) ∧
  (∀ (s : State) (road : Road) (v : Word) (b : Block), s.blk.roadStops road R.CART_TIME_ADJ = none →
    b = ({ s.blk with time := { s.blk.time with device := (((s.blk.time.device : Int) + signedOf 32 v.toNat) % 2 ^ 64).toNat, stepped := s.blk.time.stepped + signedOf 32 v.toNat } } : Block) →
    exec (.timeStep road v) s = s.next (((b.set F.CART_PTP_STATUS.LOCKED 0).updCart (fun c =>
      { c with servo := { c.servo with last := none } })).stepAnchors (signedOf 32 v.toNat))) ∧
  (∀ (s : State), s.blk.on F.CART_PTP.PPS_OUT_EN = true → s.blk.est 3 = stRun → ∀ v, v = decide ((s.blk.now + tickNs) % 1000000000 < 100000000) →
    exec (.ppsOut v) s = s.next (s.blk.updCart (fun c => { c with ppsHigh := v })))
  ) ∧
  (
  (∀ (s : State), exec (.keeperRelease true) s = s.next s.blk.keeperClose) ∧
  (∀ (s : State), s.blk.keeperTrigger = false → exec (.keeperRelease false) s = .next s) ∧
  (∀ (s : State), s.blk.keeperTrigger = false → s.blk.on F.CART_STATUS.LINK_A = true → s.blk.on F.CART_STATUS.LINK_B = true →
    s.blk.cart.keeper.isOpen = false → s.blk.cart.keeper.holdTo ≤ s.blk.ao → exec .keeperOpen s =
      s.next (((s.blk.updCart (fun c => { c with keeper := { c.keeper with isOpen := true, openedAo := some s.blk.ao } })).ringDown
        0).ringDown 1)) ∧
  (∀ (s : State) (t : Nat) (b : Block), s.blk.cart.keeper.openedAo = some t → s.blk.cart.keeper.isOpen = true →
    t + 500000000 ≤ s.blk.ao → b = s.blk.keeperClose.cartCount 7 C.CART.KEEP_RETRY → b.ao = s.blk.ao → exec .keepRetry s =
      s.next (b.updCart (fun c => { c with keeper := { c.keeper with holdTo := s.blk.ao + 10000000000 } })))
  )

/-- O23. Key INSTALL, CLEAR and READ answer the reason the rule gives, and install, clear or show the key. From R307, R309,
R312, R320, R352, R354. -/
def Obligations.KeyCommandEffects : Prop :=
  (∀ (s : State) (road : Road) (sp : Fin 4) (h : Fin 131072),
    s.blk.roadStops road R.LOCK_KCMD = none → keyNamed sp.val h.val = false →
    exec (.keyInstall road sp h) s = s.next (s.blk.keyDone 1) ∧ exec (.keyClear road sp h) s = s.next (s.blk.keyDone 1) ∧
    exec (.keyRead road sp h) s = s.next (s.blk.keyDone 1)) ∧
  (∀ (s : State) (road : Road) (h : Fin 131072), s.blk.roadStops road R.LOCK_KCMD = none → s.blk.get F.LOCK_KARG.MODE = 9 →
    s.blk.lock.staged = true → s.fuse.hasSecret = true → s.blk.vaultUp = true → ∃ b : Block,
    b = (({ s.blk with lock := { s.blk.lock with cache := dropKey s.blk.lock.cache 1 h.val } } : Block).vaultWrite (s.blk.newKey 1 h.val)) ∧
    exec (.keyInstall road 1 h) s = s.next ((b.markDirty h.val).keyDone 0)) ∧
  (∀ (s : State), s.blk.roadStops .bar0 R.LOCK_KCMD = none → s.blk.get F.LOCK_KARG.MODE = 10 → s.blk.lock.staged = true →
    s.fuse.hasSecret = true → s.blk.lock.steward = none → exec (.keyInstall .bar0 2 0) s =
      s.next (({ s.blk with lock := { s.blk.lock with steward := some (s.blk.newKey 2 0) }, creosh := { s.blk.creosh with armed := none } } : Block).keyDone 0)) ∧
  (∀ (s : State) (k : KeyRec), s.blk.roadStops .bar0 R.LOCK_KCMD = none → s.blk.get F.LOCK_KARG.MODE = 10 →
    s.blk.lock.steward = some k → s.blk.creosh.armed = none → exec (.keyInstall .bar0 2 0) s = s.next (s.blk.keyDone 5)) ∧
  (∀ (s : State), s.blk.roadStops .creosh R.LOCK_KCMD = none → exec (.keyClear .creosh 2 0) s = s.next (s.blk.keyDone 5)) ∧
  (∀ (s : State) (road : Road) (sp : Fin 4) (h : Fin 131072), sp.val < 2 → s.blk.roadStops road R.LOCK_KCMD = none →
    keyNamed sp.val h.val = true → s.blk.vaultUp = true → ∃ b : Block, b = (({ s.blk with lock := { s.blk.lock with cache := dropKey s.blk.lock.cache sp.val h.val, vault := dropKey s.blk.lock.vault sp.val h.val } } : Block).discardCipher sp.val h.val) ∧
    exec (.keyClear road sp h) s = s.next ((if sp.val = 1 then b.markDirty h.val else b).keyDone 0)) ∧
  (∀ (s : State) (road : Road) (sp : Fin 4) (h : Fin 131072), s.blk.roadStops road R.LOCK_KCMD = none →
    keyNamed sp.val h.val = true → s.blk.keyAt sp.val h.val = none → exec (.keyRead road sp h) s = s.next (s.blk.keyDone 6)) ∧
  (∀ (s : State) (road : Road) (sp : Fin 4) (h : Fin 131072) (k : KeyRec), s.blk.roadStops road R.LOCK_KCMD = none →
    keyNamed sp.val h.val = true → s.blk.keyAt sp.val h.val = some k → blockStep (.keyRead road sp h) s (fun b =>
      b = { s.blk with regs := b.regs, lock := { s.blk.lock with staging := [], staged := false } } ∧ b.get F.LOCK_KSTATUS.STATE = 2 ∧
      b.get F.LOCK_KSTATUS.VALID = 1 ∧ b.get F.LOCK_KSTATUS.MODE = k.mode % 2 ^ F.LOCK_KSTATUS.MODE.width ∧
      b.get F.LOCK_KUSES_LO.USES_LO = k.uses % 2 ^ 32 ∧ (k.mode ≠ 9 → b.get F.LOCK_KPN_LO.PN_LO = k.pn % 2 ^ 32))) ∧
  (∀ (b : Block) (n : Nat), (b.keyDone n).lock.staging = [] ∧ (b.keyDone n).lock.staged = false ∧
    (b.keyDone n).get F.LOCK_KSTATUS.REASON = n % 2 ^ F.LOCK_KSTATUS.REASON.width)

/-- O24. Keys are fetched, used, limited, recrypted, backed up and rebuilt as the Locksmith rules say. From R305, R308, R310,
R315, R319, R320, R321, R424, R425. -/
def Obligations.KeyUseEffects : Prop :=
  (∀ (s : State) (sp : Fin 2) (h : Fin 131072) (k : KeyRec), s.blk.runs 2 = true → findKey s.blk.lock.cache sp.val h.val = some k →
    exec (.keyFetch sp h) s = s.next ((s.blk.updLock (fun l => { l with cache := k :: dropKey l.cache sp.val h.val })).count .lock C.LOCK.CACHE_HIT)) ∧
  (∀ (s : State) (core : Fin 16) (q : AesReq) (k : KeyRec) (b c : Block), s.blk.lock.queue = [q] → q.cls = 2 → q.protect = true →
    s.blk.coreOk core.val = true → (∀ n, s.blk.maskRoom core.val n = true) → b = s.blk.updLock (fun l => { l with queue := [] }) → b.keyProtect q.space q.handle = (some k, c) →
    exec (.aesRequest core) s =
      s.next (((c.countBlocks core.val k.mode q.octets).count .lock C.LOCK.TX_ENCRYPT).markEnc q.frame true)) ∧
  (∀ (s : State) (r : Fin 3) (n : Nat) (p : Plan) (b : Block), s.blk.latePlan r.val n = some p →
    b = (s.blk.markLate n).updLock (fun l => { l with queue := l.queue.filter (fun q => !(q.cls == 2 && q.frame == n)) }) →
    ((b.phyAt r.val).tx = none → p.users.any (fun u => u.frames.head? == some n) = true → exec (.txCipherLate r n true) s = s.next (b.dropTxop r.val)) ∧
    ((b.phyAt r.val).tx.isSome = true ∨ p.users.any (fun u => u.frames.head? == some n) = false →
      exec (.txCipherLate r n (s.blk.phyAt r.val).tx.isNone) s = s.next (b.count .lock C.LOCK.TX_CIPHER_LATE))) ∧
  (∀ (s : State), s.blk.lock.fifo = [] → exec .limitFifoRead s = s.next (s.blk.updLock (fun l => { l with fifoOvf := false }))) ∧
  (∀ (s : State) (e : LimitEntry) (t : List LimitEntry), s.blk.lock.fifo = e :: t →
    exec .limitFifoRead s = s.next (s.blk.updLock (fun l => { l with fifo := t }))) ∧
  (∀ (s : State) (b : Block), s.blk.vaultUp = true → s.blk.xtsLimit - s.blk.xtsLimit / 10 ≤ s.blk.lock.vaultUses →
    s.blk.tallyOk 5 = true → b = (s.blk.tallyPut 5 ((s.blk.tally 5 + 1) % 2 ^ 32)).updLock (fun l => { l with vaultUses := 2176 * 256 }) →
    exec .vaultRecrypt s = s.next (((b.set F.LOCK_VSTATUS.PTR 2176).lane 2 16 0 (2176 * 128)).lane 2 17 0 (2176 * 128))) ∧
  (∀ (s : State) (u : Nat), s.blk.lock.dirty = [u] → s.blk.vaultUp = true → s.blk.backing = true →
    s.blk.on F.LOCK_VSTATUS.BACK_FAIL = false → s.blk.xtsLimit ≤ s.blk.lock.backUses → ∀ ok, exec (.backingRewrite ok) s =
      s.next (s.blk.set F.LOCK_VSTATUS.BACK_FAIL 1)) ∧
  (∀ (s : State) (u a : Nat) (b c : Block), s.blk.lock.dirty = [u] → s.blk.vaultUp = true → s.blk.backing = true →
    s.blk.on F.LOCK_VSTATUS.BACK_FAIL = false → s.blk.lock.backUses < s.blk.xtsLimit → a = s.blk.backBase + 4096 * u →
    b = s.blk.norErase a 4096 → c = b.norProgram a (xtsEnc (b.backKey s.fuse) u ((List.range 128).map (fun i => backBytes
      (s.blk.keyAt 1 (128 * u + i)))).flatten) → exec (.backingRewrite true) s = s.next ((((c.updLock (fun l => { l with dirty := l.dirty.filter (· != u), vault := l.vault.map (fun (k : KeyRec) => if k.space = 1 ∧ k.handle / 128 = u then { k with backed := true } else k), cache := l.cache.map (fun (k : KeyRec) => if k.space = 1 ∧ k.handle / 128 = u then { k with backed := true } else k) })).xtsUse 2 256).maskUse 16 256).count .lock C.LOCK.BACK_WRITE)) ∧
  (∀ (s : State) (l : List Nat) (b : Block), s.blk.rebuilding = true → b = (s.blk.rebuildVault s.fuse l).wipeClear 28 →
    b.post.held = [] → exec (.vaultRebuild l) s = s.next (b.updPost (fun p => { p with held := [] })))

/-- O25. The mesh frame counter reserves, wraps and resumes, and the noise source and DRBG report, as their rules say. From
R316, R317, R318, R322, R323, R324. -/
def Obligations.CounterAndRandomEffects : Prop :=
  (
  (∀ (s : State) (n : Nat), n = s.blk.get F.LOCK_MFC.N → s.blk.runs 2 = true → s.blk.lock.mfcOwed = false →
    s.blk.tallyDone 3 = true → s.blk.tally 3 ≤ n + 16384 → s.blk.tally 3 < min (n + 65536) 0xFFFFFFFF →
    exec .mfcReservationWrite s = s.next ((s.blk.updLock (fun l => { l with resvOld := s.blk.tally 3 })).tallyPut 3
      (min (n + 65536) 0xFFFFFFFF))) ∧
  (∀ (s : State) (b : Block), s.blk.runs 2 = true → s.blk.lock.mfcOwed = false → s.blk.get F.LOCK_MFC.N = 0xFFFFFFFF →
    s.blk.tallyOk 4 = true → b = s.blk.tallyPut 4 ((s.blk.tally 4 + 1) % 2 ^ 32) → exec .mfcWrap s =
      s.next ((((b.updLock (fun l => { l with resvOld := 0 })).tallyPut 3 65536).set F.LOCK_MFC.N 0).updLock
        (fun l => { l with mfcSoft := false }))) ∧
  (∀ (s : State) (b : Block), s.blk.runs 2 = true → s.blk.lock.mfcOwed = true → s.blk.tallyOk 3 = true →
    s.blk.tally 3 < 0xFFFFFFFF → b = (s.blk.set F.LOCK_MFC.N (s.blk.tally 3)).updLock (fun l => { l with mfcOwed := false, mfcSoft := false }) →
    exec .mfcResume s = s.next ((b.updLock (fun l => { l with resvOld := s.blk.tally 3 })).tallyPut 3
      (min (s.blk.tally 3 + 65536) 0xFFFFFFFF))) ∧
  (∀ (s : State), bitOf (s.blk.get F.CLK_XSTATUS.PARKED) 7 = false → ∃ b : Block,
    b = (s.blk.count (.clk 7) C.CLK.EVT_SENT).count (.clk 7) C.CLK.EVT_RECEIVED ∧ exec (.noiseWindow true) s = s.next b.noisePass ∧
    exec (.noiseWindow false) s = s.next (((s.blk.set F.LOCK_RNG_STATUS.FAILED 1).count .lock C.LOCK.RNG_HEALTH_FAIL).note 2 0)) ∧
  (∀ (s : State), s.blk.on F.LOCK_RNG_STATUS.INSTANTIATED = true → s.blk.lock.seed = true → s.blk.reseedDue = true →
    exec .drbgReseed s = s.next (((((s.blk.updLock (fun l => { l with seed := false, gens := 0 })).wrap F.LOCK_RNG_STATUS.RESEEDS 1).set
      F.LOCK_RNG_STATUS.STARVED 0).updLock (fun l => { l with masks := [] })).lane 2 20 1)) ∧
  (∀ (s : State), s.blk.reseedDue = false → exec .drbgReseed s = s.next s.blk) ∧
  (∀ (s : State) (us : Nat), s.blk.lock.seed = false → s.blk.runs 2 = true → s.blk.lock.drbgSect = none → s.blk.reseedDue = true → ∃ b : Block,
    b = (s.blk.set F.LOCK_RNG_STATUS.STARVED 1).count .lock C.LOCK.MASK_STALL_US us ∧ (us ≤ 100000 →
    b.lock.drbgSect = none → exec (.drbgStopped us) s = s.next b))
  ) ∧
  (
  (∀ (s : State) (sp : Fin 2) (h : Fin 131072) (k : KeyRec) (b : Block), s.blk.runs 2 = true → s.blk.fetchKey sp.val h.val = some (k, b) →
    exec (.keyFetch sp h) s = s.next b) ∧
  (∀ (s : State) (sp : Fin 2) (h : Fin 131072), s.blk.est 2 = stReduced → s.blk.fetchKey sp.val h.val = none →
    exec (.keyFetch sp h) s = s.next (s.blk.count .lock C.LOCK.CACHE_REFUSED)) ∧
  (∀ (s : State) (core : Fin 16) (q : AesReq) (b c : Block), s.blk.lock.queue = [q] → 1 ≤ q.cls → q.cls ≤ 4 → q.protect = false →
    s.blk.coreOk core.val = true → (∀ n, s.blk.maskRoom core.val n = true) → b = s.blk.updLock (fun l => { l with queue := [] }) →
    (b.keyVerify q.space q.handle = (none, c) → q.cls ≠ 1 → exec (.aesRequest core) s = s.next c) ∧
    (b.keyVerify q.space q.handle = (none, c) → q.cls = 1 → exec (.aesRequest core) s = s.next (c.noKey q.frame)) ∧
    (∀ k, b.keyVerify q.space q.handle = (some k, c) → q.cls = 1 → exec (.aesRequest core) s =
      s.next ((c.countBlocks core.val k.mode q.octets).count .lock C.LOCK.RX_DECRYPT)) ∧
    (∀ k, b.keyVerify q.space q.handle = (some k, c) → q.cls = 3 → exec (.aesRequest core) s =
      s.next ((c.countBlocks core.val k.mode q.octets).count .lock C.LOCK.MESH_CCM))) ∧
  (∀ (s : State) (e : LimitEntry), s.blk.lock.fifo = [e] → blockStep .limitFifoRead s (fun b => b.lock.fifo = [] ∧
    b.lock.fifoOvf = s.blk.lock.fifoOvf ∧ b.regs = s.blk.regs ∧ b.counts = s.blk.counts)) ∧
  (∀ s : State, s.blk.vaultUp = true → s.blk.xtsSoft ≤ s.blk.lock.vaultUses → s.blk.tallyOk 5 = true →
    blockStep .vaultRecrypt s (fun b => b.lock.vaultUses = 2176 * 256 ∧ b.get F.LOCK_VSTATUS.PTR = 2176)) ∧
  (∀ (s : State) (l : List Nat) (b : Block), s.blk.rebuilding = true → b = (s.blk.rebuildVault s.fuse l).wipeClear 28 →
    exec (.vaultRebuild l) s = s.next (b.post.held.foldl (fun b h => (b.freeCells h.cells).takeIn h.frame h.pan (some h.node) 0 h.event)
      (b.updPost (fun p => { p with held := [] })))) ∧
  (∀ (s : State) (u : Nat) (b : Block), s.blk.lock.dirty = [u] → s.blk.vaultUp = true → s.blk.backing = true →
    s.blk.on F.LOCK_VSTATUS.BACK_FAIL = false → s.blk.lock.backUses < s.blk.xtsLimit → b = { s.blk with free := s.blk.free + 4096 } →
    exec (.backingRewrite false) s = s.next (((b.norProgram (s.blk.backBase + 4096 * u) ((List.range 4096).map (fun i => (Config.freeValue (s.blk.free + i)).truncate 8))).set
      F.LOCK_VSTATUS.BACK_FAIL 1).fault 2 .note 7 0xFFFF []))
  )

/-- O26. No key protects beyond its limit or repeats a packet number, and no mesh counter value is given beyond its
reservation. From R313, R314, R316, R317. -/
def Obligations.KeyLimitsHold : Prop :=
  (∀ (b c : Block) (sp h : Nat) (k : KeyRec), b.keyProtect sp h = (some k, c) →
    ∃ j : KeyRec, j.uses < j.limit ∧ (1 ≤ j.mode → j.mode ≤ 4 → j.pn < 2 ^ 48 - 1 ∧ k.pn = j.pn + 1) ∧ k.uses = j.uses + 1 ∧
      k.key = j.key ∧ k.mode = j.mode ∧ k.space = j.space ∧ k.handle = j.handle) ∧
  (∀ (b c : Block) (n : Nat), b.mfcTake = (some n, c) → n = b.get F.LOCK_MFC.N ∧ n < b.mfcResv ∧ n < 0xFFFFFFFF ∧
    b.lock.mfcOwed = false)

/-- O27. Host-port resets, the link, WAKE_N, ring enables, descriptors and DMA errors act as the host-port rules say. From
R332, R333, R334, R336, R337, R338. -/
def Obligations.HostPortEffects : Prop :=
  (∀ (s : State), exec (.hostPortReset .perst) s = s.next s.blk.hostReset ∧ exec (.hostPortReset .hotReset) s = s.next s.blk.hostReset ∧
    exec (.hostPortReset .linkLoss) s = s.next s.blk.hostReset ∧ exec (.hostPortReset .flr) s = s.next (s.blk.hostReset.hostLink
      ⟨s.blk.host.linkUp, s.blk.get F.HOST_STATUS.GEN, s.blk.get F.HOST_STATUS.WIDTH, false, false, false⟩)) ∧
  (∀ (s : State) (x : LinkFacts) (b : Block), s.blk.runs 3 = true → b = s.blk.hostLink x →
    (s.blk.host.linkUp = false ∨ x.l0 = true → exec (.hostPortUp x) s =
      s.next ({ b with clerk := { b.clerk with msixMask := x.mask } } : Block).feedAll.msix) ∧
    (s.blk.host.linkUp = true → x.l0 = false → exec (.hostPortUp x) s = s.next s.blk.hostReset)) ∧
  (∀ (s : State), s.blk.host.wakeOwed = true → exec .wakeNAssert s =
    s.next { s.blk with host := { s.blk.host with wakeOwed := false, wakeN := true, wakeAo := s.blk.ao } }) ∧
  (∀ (s : State), s.blk.host.wakeAo + 1000000000 ≤ s.blk.ao + tickNs → exec .wakeNTimeout s = s.next { s.blk with host := { s.blk.host with wakeN := false } }) ∧
  (∀ (s : State) (road : Road) (v : Word) (b : Block), s.blk.roadStops road (R.HOST_RING_CTRL 0) = none →
    s.blk.on (F.HOST_RING_CTRL.EN 0) = false → bitOf v.toNat 31 = true →
    b = (s.blk.setB (F.HOST_RING_CTRL.EN 0) true).set (F.HOST_RING_CTRL.SIZE_LOG2 0) v.toNat →
    exec (.ringCtrlEnable road 0 v) s = s.next (((b.set (F.HOST_RING_PROD.PROD 0) 0).set (F.HOST_RING_CONS.CONS 0) 0).set
      F.HOST_STATUS.TX_STOPPED (setBit (b.get F.HOST_STATUS.TX_STOPPED) 0 false))) ∧
  (∀ (s : State) (n : Fin 8) (d : TxDesc), s.blk.ringRuns n.val = true → s.blk.ringPosted n.val ≠ 0 → d.dmaOk = true →
    (d.len < 60 ∨ s.blk.mtu - 4 < d.len → exec (.txDescriptor n d) s = s.next (s.blk.txDone n.val 3)) ∧
    (60 ≤ d.len → d.len ≤ s.blk.mtu - 4 → s.blk.txRefused n.val d = false → exec (.txDescriptor n d) s =
      s.next ((s.blk.txFrame n.val d).txDone n.val 1))) ∧
  (∀ (s : State) (n : Fin 8) (l : List RxDesc) (f : CartFrame), s.blk.ringRuns (8 + n.val) = true →
    s.blk.headOf (16 + n.val) = some f → s.blk.ringPosted (8 + n.val) = 0 → s.blk.rxOctets n.val f ≠ [] →
    f.waited = false → exec (.rxDescriptorFill n l) s = s.next ((s.blk.setTrough { s.blk.trough (16 + n.val) with frames := { f with waited := true } :: (s.blk.trough (16 + n.val)).frames.drop 1 }).lane 3 4 1)) ∧
  (∀ (s : State) (n : Fin 8) (d : RxDesc) (f : CartFrame) (b c : Block), s.blk.ringRuns (8 + n.val) = true →
    s.blk.headOf (16 + n.val) = some f → 1 ≤ s.blk.ringPosted (8 + n.val) → (s.blk.rxOctets n.val f).length ≤ d.bufLen →
    s.blk.rxFill (8 + n.val) f (s.blk.rxOctets n.val f) true [d] = (b, true) → b.takeHead (16 + n.val) = some (f, c) →
    exec (.rxDescriptorFill n [d]) s = s.next ((c.poolDrop f.pool).cartCount 2 C.CART.TX_FRAMES)) ∧
  (∀ (s : State) (n : Fin 16) (b : Block), n.val < 8 → s.blk.ringRuns n.val = true → b = s.blk.count .host C.HOST.DMA_ERR →
    b.ringPosted n.val ≠ 0 → exec (.dmaFault n) s = s.next (((b.txDone n.val 4).ringStop n.val).note 23 1))

/-- O28. Ring indices count modulo 2^16, ring position is the index modulo the ring size, a doorbell too far ahead stops the
ring. Formalises R335. -/
def Obligations.DoorbellsAndIndices : Prop :=
  (∀ (b : Block) (q : Fin 16), (b.ringConsume q.val).get (F.HOST_RING_CONS.CONS q.val) =
    (b.get (F.HOST_RING_CONS.CONS q.val) + 1) % 2 ^ 16) ∧
  (∀ (b : Block) (q size : Nat), b.descAddr q size = b.ringBase q + size * (b.get (F.HOST_RING_CONS.CONS q) % b.ringSize q)) ∧
  (∀ (s : State) (q : Fin 16) (v : BitVec 16) (b : Block), s.blk.host.linkUp = true → s.blk.startIgnores .bar0 (R.HOST_RING_PROD q.val) = false →
    s.blk.parked 6 = false → s.blk.clk.values = [] → b = (s.blk.count (.clk 6) C.CLK.XFER).set (F.HOST_RING_PROD.PROD q.val) v.toNat →
    (b.on (F.HOST_RING_CTRL.EN q.val) = false → exec (.doorbellWrite q v) s = s.next b) ∧
    (b.ringPosted q.val ≤ b.ringSize q.val → exec (.doorbellWrite q v) s = s.next b) ∧
    (b.on (F.HOST_RING_CTRL.EN q.val) = true → b.ringSize q.val < b.ringPosted q.val → blockStep (.doorbellWrite q v) s (fun c =>
      c = b.ringStop q.val ∧ c.on (F.HOST_RING_CTRL.EN q.val) = false ∧ c.servedActive 23 18 = true))) ∧
  (∀ (s : State) (q : Fin 16) (v : BitVec 16), s.blk.host.linkUp = true → s.blk.startIgnores .bar0 (R.HOST_RING_PROD q.val) = true →
    exec (.doorbellWrite q v) s = s.next (s.blk.noteWrite .bar0 (R.HOST_RING_PROD q.val) v.toNat)) ∧
  (∀ (s : State) (q : Fin 16) (v : BitVec 16) (x : ValueX), s.blk.host.linkUp = true → s.blk.startIgnores .bar0 (R.HOST_RING_PROD q.val) = false →
    s.blk.parked 6 = true →
    (s.blk.clk.values = [] → exec (.doorbellWrite q v) s = s.next { s.blk with clk := { s.blk.clk with values := [{ g := 6, k := q.val, pub := v.toNat }] } }) ∧
    (s.blk.clk.values = [x] → x.g = 6 → x.k = q.val → x.held = none →
      exec (.doorbellWrite q v) s = s.next { s.blk with clk := { s.blk.clk with values := [{ x with held := some v.toNat }] } }) ∧
    (s.blk.clk.values = [x] → x.g = 6 → x.k = q.val → x.held.isSome = true → ∃ b : Block, b = s.blk.count (.clk 6) C.CLK.SUPERSEDED ∧
      exec (.doorbellWrite q v) s = s.next { b with clk := { b.clk with values := [{ x with held := some v.toNat }] } }))

/-- O29. Records, feeding, tail and configuration writes, served sources, MSI-X and the ledger copy act as the ledger rules
say. From R339, R341, R343, R344, R345, R346, R347. -/
def Obligations.LedgerEffects : Prop :=
  (∀ (s : State) (o : Fin 25) (n k : BitVec 8) (p : List Byte), s.blk.clerk.latest o.val n.toNat = none →
    exec (.ledgerRecord o n k p) s = s.next (s.blk.writeRec { sev := .event, origin := o.val, src := n.toNat, kind := k.toNat, time := s.blk.now, payload := padTo 16 p })) ∧
  (∀ (s : State), exec .ledgerFeed s = s.next (s.blk.feed s.blk.clerk.waiting)) ∧
  (∀ (s : State) (road : Road) (v : Word) (n : Nat), s.blk.roadStops road R.CLERK_LEDGER_TAIL = none → n = v.toNat % 2 ^ 17 →
    ((n + 2 ^ 17 - s.blk.get F.CLERK_LEDGER_TAIL.TAIL) % 2 ^ 17 ≤ s.blk.ledgerUsed →
      exec (.ledgerTailWrite road v) s = s.next (s.blk.set F.CLERK_LEDGER_TAIL.TAIL n).feedAll) ∧
    (s.blk.ledgerUsed < (n + 2 ^ 17 - s.blk.get F.CLERK_LEDGER_TAIL.TAIL) % 2 ^ 17 →
      exec (.ledgerTailWrite road v) s = s.next (s.blk.noteWrite road R.CLERK_LEDGER_TAIL v.toNat))) ∧
  (∀ (s : State) (road : Road) (v : Word), s.blk.roadStops road R.CLERK_LEDGER_CFG = none →
    s.blk.on F.CLERK_LEDGER_CFG.EN = false → bitOf v.toNat 31 = true → exec (.ledgerCfgWrite road v) s =
      s.next ((((s.blk.set F.CLERK_LEDGER_CFG.SIZE_LOG2 (v.toNat % 32)).set F.CLERK_LEDGER_CFG.EN 1).set F.CLERK_LEDGER_HEAD.HEAD
        0).set F.CLERK_LEDGER_TAIL.TAIL 0)) ∧
  (∀ (s : State) (o : Fin 25) (n : BitVec 8) (p : List Byte) (x : ServedSrc),
    s.blk.clerk.served.findIdx? (fun q => q.origin == o.val && q.src == n.toNat) = none → x = { origin := o.val, src := n.toNat, arg := p } →
    exec (.servedSourceFire o n p) s = s.next (({ s.blk with clerk := { s.blk.clerk with served := s.blk.clerk.served ++ [x] } } : Block).writeRec
      (s.blk.servedRec x 1))) ∧
  (∀ (s : State) (road : Road) (v : Word), s.blk.roadStops road R.CLERK_DONE = none → exec (.done road v) s =
    s.next (s.blk.serveDone (bitsOf v.toNat 12 8) (v.toNat % 256))) ∧
  (∀ (s : State), s.blk.portUp = true → s.blk.clerk.msixUrgent = true → 0 < s.blk.clerk.msixSince →
    (s.blk.clerk.msixMask = true → exec .msixMessage s = s.next { s.blk with clerk := { s.blk.clerk with msixPend := true } }) ∧
    (s.blk.clerk.msixMask = false → ∃ b : Block, b = s.blk.emit .msix ∧ exec .msixMessage s = s.next { b with clerk := { b.clerk with msixSince := 0, msixFirst := 0, msixUrgent := false, msixPend := false } })) ∧
  (∀ (s : State), s.blk.pcieDown = false → exec .copyDataRead s =
    s.next (s.blk.set F.CLERK_COPY_IDX.IDX (s.blk.get F.CLERK_COPY_IDX.IDX + 1))) ∧
  (∀ (s : State) (n : Nat), ∃ b : Block, b = s.blk.count .host C.HOST.HITCH_XFER ∧
    exec (.ledgerCopyRead n 1) s = s.next (b.emit (.hitch (b.copyBytes (n % 2 ^ 32)))))

/-- O30. A fired served source is active, fires again without a second entry, and the ledger copy keeps the newest 4,096
records. From R341, R344, R346. -/
def Obligations.ServedSourcesAndLedgerCopy : Prop :=
  (
  ∀ (b : Block) (o n : Nat) (p : List Byte),
    ((b.fire o n p).servedActive o n = true) ∧
    (b.servedActive o n = false → (b.fire o n p).clerk.served = b.clerk.served ++ [{ origin := o, src := n, arg := p }]) ∧
    (b.servedActive o n = true → b.fire o n p = { b with clerk := { b.clerk with served := (b.fire o n p).clerk.served } } ∧
      ((b.fire o n p).clerk.served.map (fun x => (x.origin, x.src)) = b.clerk.served.map (fun x => (x.origin, x.src)))) ∧
    (b.servedActive o n = false → b.serveDone o n = b)
  ) ∧
  (
  ∀ (b : Block) (r : LedgerRec), b.clerk.copy.length ≤ 4096 →
    (b.writeRec r).clerk.copy.length = min (b.clerk.copy.length + 1) 4096 ∧
    (b.writeRec r).clerk.copyHead = (b.clerk.copyHead + 1) % 2 ^ 32 ∧
    (∃ q : LedgerRec, (b.writeRec r).clerk.copy[0]? = some q ∧ { q with ovfl := r.ovfl } = r)
  )

/-- O31. Each Creosh operation does what the table of operations says and draws its reply. From R349, R352, R353, R354, R358,
R397, R458. -/
def Obligations.CreoshRequestEffects : Prop :=
  ∀ (s : State) (q : CreoshReq), s.blk.creoshUp = true →
    (∀ a n, 1 ≤ n → n ≤ 256 → exec (.creoshRead q a n) s =
      .next (({ s with blk := (s.busReads .creosh a n).2.blk } : State).onBlk (fun b =>
        b.creoshReply q 1 0 ((s.busReads .creosh a n).1.flatMap (bytesLE 4))))) ∧
    (∀ a n, (n = 0 ∨ 256 < n) → exec (.creoshRead q a n) s = s.next (s.blk.creoshReply q 1 3)) ∧
    (∀ a v, creoshRefuses a = false → a ≠ R.FLASH_TALLY_DATA → exec (.creoshWrite q a [v]) s =
      .next ((s.busWrite .creosh a v.toNat).onBlk (fun b => b.creoshReply q 2 0 (bytesLE 2 1)))) ∧
    (∀ a v, creoshRefuses a = true → exec (.creoshWrite q a [v]) s =
      .next ((s.busWrite .creosh a v.toNat).onBlk (fun b => b.creoshReply q 2 3 (bytesLE 2 0)))) ∧
    (∀ i n, 1 ≤ n → n ≤ 40 → (s.blk.clerk.copyHead + 2 ^ 32 - i % 2 ^ 32) % 2 ^ 32 ≤ 4096 → exec (.creoshLedger q i n) s =
      s.next (s.blk.creoshReply q 3 0 (bytesLE 4 s.blk.clerk.copyHead ++ bytesLE 4 0 ++ s.blk.copyRecs i n))) ∧
    (∀ o n, exec (.creoshDone q o n) s = s.next ((s.blk.serveDone o.toNat n.toNat).creoshReply q 4 0)) ∧
    (∀ body, body.length ≠ 1032 → natLE (body.take 1) ≤ 1 → exec (.creoshPiece q body) s = s.next (s.blk.creoshReply q 5 2)) ∧
    (∀ body, body.length = 1032 → natLE (body.take 1) = 0 → exec (.creoshPiece q body) s = s.next (s.blk.manifestPiece s.fuse q
      { update := natLE ((body.drop 4).take 4), index := natLE ((body.drop 2).take 2), data := body.drop 8 })) ∧
    (∀ body, body.length = 8 → natLE (body.take 1) = 2 → exec (.creoshPiece q body) s =
      s.next (s.blk.phQuery q (natLE ((body.drop 2).take 2)))) ∧
    (∀ r u l f, s.blk.gaitRequest r.toNat u.toNat l.toNat (bitOf f.toNat 0) = none → exec (.creoshGait q r u l f) s =
      s.next (s.blk.creoshReply q 6 3)) ∧
    (∀ r u l f (b c : Block), s.blk.gaitRequest r.toNat u.toNat l.toNat (bitOf f.toNat 0) ≠ none → b = s.blk.creoshReply q 6 0
      (bytesLE 1 s.blk.gait ++ bytesLE 1 (s.blk.get F.WATCH_GAIT_STATUS.TARGET) ++ bytesLE 1 (s.blk.get F.WATCH_GAIT_STATUS.CEIL) ++ [0]) →
      b.gaitRequest r.toNat u.toNat l.toNat (bitOf f.toNat 0) = some c → exec (.creoshGait q r u l f) s = s.next c) ∧
    (exec (.creoshReset q 0x4B47) s = s.next ((s.blk.creoshReply q 7 0).wideReset s.fuse kindDevice (creoshCause q.src) none)) ∧
    (∀ k, k ≠ 0x4B47#16 → exec (.creoshReset q k) s = s.next (s.blk.creoshReply q 7 3)) ∧
    (∀ d c x, x.length < 60 ∨ s.blk.mtu - 4 < x.length → exec (.creoshSend q d c x) s = s.next (s.blk.creoshReply q 8 3)) ∧
    (∀ (d : BitVec 16) (c : Byte) (x : List Byte), 60 ≤ x.length → x.length ≤ s.blk.mtu - 4 → d.toNat / 4096 ≠ 8 →
      exec (.creoshSend q d c x) s = s.next ((s.blk.direct { src := 10, len := x.length + 4, fcs := .good, frame := ethOf x } d.toNat
        c.toNat none).creoshReply q 8 0)) ∧
    (exec (.armKey q) s = s.next (({ s.blk with creosh := { s.blk.creosh with armed := some (s.blk.ao + 10000000000) } } : Block).creoshReply
      q 9 0))

/-- O32. Creosh frames are checked in order, blocks and floors are reserved, deliveries return; the hitching port and the DAP
access registers. From R349, R350, R351, R353, R354, R355, R356, R357, R427, R433. -/
def Obligations.CreoshTransportAndPorts : Prop :=
  (
  (∀ (s : State) (i : Fin 64) (v : BitVec 12) (a : BitVec 48) (o : List Byte), s.blk.runs 3 = true → s.blk.lame = false →
    (o.length < 32 ∨ natLE (o.take 1) ≠ 1 ∨ s.blk.creosh.floorDone = false ∨ s.blk.runs 2 = false) →
    exec (.creoshFrame i v a o) s = s.next (s.blk.count .host C.HOST.CREOSH_BAD)) ∧
  (∀ (s : State) (i : Fin 64) (v : BitVec 12) (a : BitVec 48) (o : List Byte) (n : Nat), s.blk.runs 3 = true → s.blk.lame = false →
    n = natLE ((o.drop 12).take 2) → 32 + n ≤ o.length → n ≤ 1400 → natLE (o.take 1) = 1 → s.blk.creosh.floorDone = true →
    s.blk.runs 2 = true → (s.blk.keyAt 2 0).isSome = true → exec (.creoshFrame i v a o) s = .next (s.creoshChecked
      ⟨i.val, v.toNat, a.toNat, natLE ((o.drop 4).take 8)⟩ (natLE ((o.drop 1).take 1)) o n)) ∧
  (∀ (s : State) (q : CreoshReq) (op n : Nat) (o : List Byte) (k : KeyRec) (b x : Block), s.blk.keyVerify 2 0 = (some k, b) →
    x = b.countBlocks 0 10 (o.take (16 + n)).length → s.creoshChecked q op o n =
      if gmac k.key (creoshIv q.seq 0) (o.take (16 + n)) ≠ (o.drop (16 + n)).take 16 then s.onBlk (fun _ => ((x.count .lock C.LOCK.VERIFY_FAIL_MIC).count .host C.HOST.AUTH_FAIL).event
        23 17 0 (bytesLE 1 q.src ++ [0] ++ bytesBE 6 q.sa))
      else if q.seq / 2 ^ 32 < x.tally 6 then s.onBlk (fun _ => x.creoshReply q op 4 (bytesLE 4 (x.tally 6)))
      else (x.creosh.window q.seq).elim (s.onBlk (fun _ => x.count .host C.HOST.REPLAY)) (fun c =>
        ({ s with blk := ({ x with creosh := { c with ret := some (reqBack q) } } : Block).count .host C.HOST.CREOSH_RX } : State).creoshRun q
          op ((o.drop 16).take n))) ∧
  (∀ (s : State) (q : CreoshReq) (op n : Nat) (o : List Byte) (b : Block), s.blk.keyVerify 2 0 = (none, b) →
    s.creoshChecked q op o n = s.onBlk (fun _ => ((b.countBlocks 0 10 (o.take (16 + n)).length).count .host C.HOST.AUTH_FAIL).event
      23 17 0 (bytesLE 1 q.src ++ [0] ++ bytesBE 6 q.sa))) ∧
  (∀ (s : State), s.blk.creosh.floorDone = false → s.blk.runs 1 = true → s.blk.tallyOk 6 = true → s.blk.creosh.floorAsked = false →
    ∃ b : Block, b = (s.blk.tallyPut 6 (s.blk.tally 6 + 1)).updCreosh (fun c => { c with floorAsked := true }) ∧
      exec .creoshFloorWrite s = s.next (if b.tallyDone 6 then b.updCreosh (fun c => { c with floorDone := true, high := 0, seen := [] }) else b)) ∧
  (∀ (s : State), s.blk.creosh.waiting = [] → s.blk.creosh.txReady = false → s.blk.tallyOk 7 = true → s.blk.creosh.txAsked = false →
    ∃ b : Block, b = (s.blk.tallyPut 7 (s.blk.tally 7 + 1)).updCreosh (fun c => { c with txAsked := true, txReady := false }) ∧
      exec .creoshTxblkWrite s = s.next (if b.tallyDone 7 then b.updCreosh (fun c => { c with waiting := [], txReady := true, txAsked := false, txNext := 0 })
        else b.updCreosh (fun c => { c with waiting := [] }))) ∧
  (∀ (s : State) (n : Nat) (d : StewFrame), s.blk.cart.inbox.find? (fun x => x.2 == d) = some (n, d) → ∃ b : Block,
    b = (s.blk.updCart (fun c => { c with inbox := c.inbox.erase (n, d) })).poolDrop n ∧ (b.creosh.ret = none →
    exec (.delivery d) s = s.next (b.count .host C.HOST.RETURN_NONE))) ∧
  (∀ (s : State) (n : Nat) (d : StewFrame) (r : RetPath) (x : List Byte) (b : Block), s.blk.cart.inbox.find? (fun x => x.2 == d) = some (n, d) →
    b = (s.blk.updCart (fun c => { c with inbox := c.inbox.erase (n, d) })).poolDrop n → b.creosh.ret = some r →
    x = bytesLE 1 d.src ++ bytesLE 1 (d.cls % 8) ++ bytesLE 2 (d.vlan % 4096) ++ bytesLE 4 0 ++ bytesLE 8 d.time ++ d.octets →
    x.length ≤ 1400 → exec (.delivery d) s = s.next (b.creoshSend { back := r, op := 0x40, status := 0, body := x })) ∧
  (∀ (s : State) (t : Nat), s.blk.creosh.armed = some t → t < s.blk.ao → exec .armKeyExpiry s =
    s.next (s.blk.updCreosh (fun c => { c with armed := none })))
  ) ∧
  (
  (∀ (s : State) (a : BitVec 7), a.toNat = s.blk.hitchAddr → s.blk.tackAsleep = false → ∀ x, exec (.hitchAddressMatch a x) s =
    s.next (s.blk.wakeHit 0)) ∧
  (∀ (s : State) (a : BitVec 7), a.toNat = s.blk.hitchAddr → s.blk.tackAsleep = true → exec (.hitchAddressMatch a false) s =
    s.next (((s.blk.wakeHit 0).count .host C.HOST.HITCH_NACK).emit .hitchNack)) ∧
  (∀ (s : State) (a : Nat), exec (.registerAccess (.read a 1)) s = .next ((({ s with blk := s.blk.hitchCount } : State).busRead .hitch a).2.onBlk
    (fun b => b.emit (.hitch (bytesLE 4 (({ s with blk := s.blk.hitchCount } : State).busRead .hitch a).1))))) ∧
  (∀ (s : State) (a : Nat) (x : List Byte), x.length = 4 → exec (.registerAccess (.write a x)) s =
    .next (({ s with blk := s.blk.hitchCount } : State).busWrite .hitch a (natLE x))) ∧
  (∀ (s : State), exec .hitchSclTimeout s = s.next (s.blk.count (.clk 9) C.CLK.TIMEOUT)) ∧
  (∀ (s : State) (a : Nat), s.blk.dapUp = true → exec (.dapAccess (.read a)) s = .next ((s.busRead .dap a).2.onBlk (fun b =>
    b.emit (.tap (bytesLE 4 (s.busRead .dap a).1))))) ∧
  (∀ (s : State) (op : DapOp), s.blk.dapUp = false → exec (.dapAccess op) s = .next s) ∧
  (∀ (s : State) (a : Nat) (v : Word), s.blk.dapUp = true → s.blk.sec.level = 2 → exec (.dapAccess (.write a v)) s = .next s)
  )

/-- O33. Over any sequence of SEQ values the Creosh window accepts no value twice and none that was already seen. From R349. -/
def Obligations.CreoshSeqTakenOnce : Prop :=
  ∀ (l : List Nat) (c : Creosh), (∀ x ∈ c.seen, x ≤ c.high) → ∀ acc : List Nat,
    acc = (l.foldl (fun (p : Creosh × List Nat) q => ((p.1.window q).map (fun d => (d, q :: p.2))).getD p) (c, [])).2 →
    acc.Nodup ∧ ∀ x ∈ acc, x ∉ c.seen

/-- O34. PADDOCK and GROOM events, crossing modes, parking, stopped clocks and stream faults act as the clock rules say. From
R362, R363, R369, R370, R371, R372, R374, R375, R377, R396. -/
def Obligations.ClockAndCrossingEffects : Prop :=
  (∀ (s : State), s.blk.on F.CLK_STATUS.PADDOCK_LOST = false → exec .paddockStable s = s.next (s.blk.set F.CLK_STATUS.PADDOCK_OK 1)) ∧
  (∀ (s : State), s.blk.on F.CLK_STATUS.PADDOCK_LOST = true → exec .paddockStable s = .next s ∧ exec .paddockLost s = .next s) ∧
  (∀ (s : State), s.blk.on F.CLK_STATUS.PADDOCK_LOST = false → s.blk.watch.plan ≠ 4 → exec .paddockLost s =
    s.next ((((s.blk.set F.CLK_STATUS.PADDOCK_OK 0).set F.CLK_STATUS.PADDOCK_LOST 1).note 19 0).crossSettle)) ∧
  (∀ (s : State), s.blk.watch.plan = 0 → ∃ b : Block, b = s.blk.keeperClose.setCeil 3 ∧ (b.watch.plan = 0 → exec .groomFailure s =
    s.next { (b.haltNow s.fuse).fault 19 .fatal 1 0xFFFF [] with clk := { (b.haltNow s.fuse).clk with groomAo := 0 } })) ∧
  (∀ (s : State), s.blk.ceil 3 = false → exec .groomRecovered s = .next s) ∧
  (∀ (s : State), s.blk.ceil 3 = true → s.blk.on F.OST_START_STATUS.LAME = false → ∃ b : Block,
    b = s.blk.set F.WATCH_GAIT_STATUS.CEIL (setBit (s.blk.get F.WATCH_GAIT_STATUS.CEIL) 3 false) ∧
    (b.on F.OST_START_STATUS.LAME = false → exec .groomRecovered s = s.next { b with watch := { b.watch with liftCause := true } })) ∧
  (∀ (s : State) (g : Fin 11), exec (.crossingModeChange g) s = s.next (s.blk.xmode g.val) ∧ ∀ b : Block,
    b = s.blk.set F.CLK_XSTATUS.PARKED (setBit (s.blk.get F.CLK_XSTATUS.PARKED) g.val true) →
    (g.val ≠ 10 ∨ b.hatch = none → exec (.groupPark g) s = s.next (b.xmode g.val)) ∧
    (g.val = 10 → b.hatch.isSome = true → exec (.groupPark g) s = s.next ((b.hatchEnd .timeout []).xmode g.val)) ∧
    (s.blk.groupRuns g.val = true → exec (.groupUnpark g) s = s.next ((s.blk.unpark g.val).xmode g.val)) ∧
    (s.blk.groupRuns g.val = false → exec (.groupUnpark g) s = .next s)) ∧
  (∀ (s : State) (g : Fin 11) (c : Fin 5) (d : Fin 8) (x : Bool), s.blk.parked g.val = true → exec (.stoppedClock g c d x) s = .next s) ∧
  (∀ (s : State) (c : Fin 5) (d : Fin 8) (x : Bool), s.blk.parked 10 = false → ∃ b : Block,
    b = ((s.blk.set F.CLK_XFAULT.TIMEOUT (setBit (s.blk.get F.CLK_XFAULT.TIMEOUT) 10 true)).count (.clk 10) C.CLK.TIMEOUT).park 10 ∧
    exec (.stoppedClock 10 c d x) s = s.next (b.pulse { sev := .note, origin := 19, src := 0, kind := 2, time := b.now, payload := padTo 16 (bytesLE 1 10 ++ bytesLE 1 c.val ++ bytesLE 1 d.val ++ [0] ++ bytesLE 4 (2 ^ clampTo 8 16 (s.blk.get F.CLK_XTIMEOUT.LOG2))) })) ∧
  (∀ (s : State) (g : Fin 11) (n : Nat), exec (.evtHeldSaturated g n) s =
    s.next ((s.blk.count (.clk g) C.CLK.EVT_HELD_SAT n).note 19 0 (bytesLE 1 g.val))) ∧
  (∀ (s : State) (r : Fin 3), exec (.streamFault 4 r) s =
    s.next ((s.blk.count (.clk 4) C.CLK.STREAM_FAULT).cartCount 0 C.CART.RX_FCS_ERR) ∧
    exec (.streamFault 0 r) s = s.next ((s.blk.count (.clk 0) C.CLK.STREAM_FAULT).bridleCrc r.val 3))

/-- O35. The AVS loop, its urgent raise, the droop stretch and the ring equaliser update as the loop rules say. From R379,
R380, R381, R384, R385, R386, R389, R391, R392. -/
def Obligations.AdaptiveLoopEffects : Prop :=
  (∀ (s : State), s.blk.coreFast = false → ∀ l x, exec (.avsUpdate l x) s = .next s) ∧
  (∀ (s : State) (l : List (Nat × Nat)) (n : Nat) (b c w : Block), s.blk.coreFast = true →
    b = (s.blk.takeShadows 20).avsMonitors l → b.avs.excluded = [] → b.avs.stretch = 0 → b.avs.hold = 0 →
    (∀ x ∈ l, x.2 ≤ 63) → 16 ≤ l.length → n = l.foldl (fun m x => min m x.2) 63 →
    c = (b.set F.TOP_AVS_STATUS.SLACK n).updAvs (fun a => { a with stretch := 0 }) → c.on F.TOP_AVS_CTRL.FREEZE = false →
    c.on F.TOP_AVS_STATUS.AVS_FAULT = false → c.avsMin ≤ c.get F.TOP_AVS_STATUS.V → c.get F.TOP_AVS_STATUS.V ≤ c.avsMax →
    w = c.avsWrite (clampInt c.avsMin c.avsMax (c.get F.TOP_AVS_STATUS.V - loopStep ((n : Int) - c.get F.TOP_AVS_CTRL.TARGET)
      (c.get F.TOP_AVS_CTRL.GAIN_SHIFT) c.avsStep)).toNat n true →
    exec (.avsUpdate l true) s = s.next ((w.setB F.TOP_AVS_STATUS.AT_BOUND (w.get F.TOP_AVS_STATUS.V == c.avsMin ||
      w.get F.TOP_AVS_STATUS.V == c.avsMax)).updAvs (fun a => { a with hold := a.hold - 1 }))) ∧
  (∀ (s : State) (m : Fin 24) (n : Nat) (b : Block), s.blk.coreFast = true → s.blk.avs.wroteAo = none →
    m.val ∉ s.blk.avs.excluded → n < s.blk.get F.TOP_AVS_CTRL.URGENT →
    b = (s.blk.updAvs (fun a => { a with hold := s.blk.get F.TOP_AVS_BOUND.DROOP_HOLD })).sat F.TOP_AVS_STATUS.URGENT_CNT 1 →
    exec (.avsUrgentRaise m n true) s = s.next (b.avsWrite (max (b.get F.TOP_AVS_STATUS.V) (min b.avsMax
      (b.get F.TOP_AVS_STATUS.V + b.avsStep))) n true)) ∧
  (∀ (s : State) (mv : Nat), s.blk.coreFast = true → s.blk.on F.TOP_DROOP_CTRL.EN = true →
    clampTo 20 60 (s.blk.get F.TOP_DROOP_CTRL.THRESH_MV) < mv → exec (.droopStretch mv) s =
      s.next ((s.blk.wrap F.TOP_DROOP_STATUS.STRETCHES 1).updAvs (fun a => { a with stretch := a.stretch + 1 }))) ∧
  (∀ (s : State) (p : Fin 2) (l : List Int) (k : Int), s.blk.ringRx p.val = true →
    s.blk.on (if p.val = 0 then F.CART_EQ_CTRL.FREEZE_A else F.CART_EQ_CTRL.FREEZE_B) = true → exec (.dfeUpdate p l k) s =
      s.next (s.blk.updEq p.val (fun e => { e with periods := ((nth s.blk.eq p.val {}).periods + 1) % 16 }))) ∧
  (∀ (s : State) (p : Fin 2) (l : List Int) (k : Int) (n : Nat), s.blk.ringRx p.val = true →
    s.blk.on (if p.val = 0 then F.CART_EQ_CTRL.FREEZE_A else F.CART_EQ_CTRL.FREEZE_B) = false → s.blk.get (eqFld p.val 0) ≤ 15 →
    n = (if s.blk.on (eqFld p.val 2) then s.blk.get F.CART_EQ_CTRL.ACQ_SHIFT else s.blk.get F.CART_EQ_CTRL.GAIN_SHIFT) →
    blockStep (.dfeUpdate p l k) s (fun b =>
      (∀ x ∈ (eqTaps p.val).zip (l ++ List.replicate 5 0), b.getS x.1 = clampInt (-(tapMax x.1 : Int)) (tapMax x.1) (s.blk.getS x.1 +
        loopStep x.2 n (max 1 (s.blk.get F.CART_EQ_CTRL.STEP)))) ∧
      b.get (eqFld p.val 0) = if (nth s.blk.eq p.val {}).periods ≠ 15 ∨ k = 0 then s.blk.get (eqFld p.val 0)
        else if 0 < k then min 15 (s.blk.get (eqFld p.val 0) + 1) else s.blk.get (eqFld p.val 0) - 1)) ∧
  (∀ (s : State) (p : Fin 2), s.blk.ringRx p.val = true → exec (.eqAcquisition p .signal) s = s.next (s.blk.eqStart p.val false) ∧
    exec (.eqAcquisition p .relock) s = s.next (s.blk.eqStart p.val false) ∧
    exec (.eqAcquisition p .speedChange) s = s.next ((s.blk.eqDefaults p.val).eqStart p.val false) ∧
    exec (.eqAcquisition p .tracking) s = s.next (s.blk.setB (eqFld p.val 2) false) ∧
    ((nth s.blk.eq p.val {}).restarted = false → exec (.eqAcquisition p .lockFail) s =
      s.next ((s.blk.eqDefaults p.val).eqStart p.val true)))

/-- O36. Noise floors, the AVS set point and the equaliser coefficients stay between their bounds. From R190, R381, R384, R391. -/
def Obligations.LoopValuesStayInBounds : Prop :=
  (
  ∀ (b : Block) (k : Nat) (xs : List Int), k < 256 → -32768 ≤ b.nfMin → b.nfMax ≤ 32767 →
    b.nfMin ≤ (b.nfChannel k xs).noiseFloor k ∧ (b.nfChannel k xs).noiseFloor k ≤ b.nfMax
  ) ∧
  (
  ∀ (b : Block) (v n : Nat), b.avsMin ≤ v → v ≤ b.avsMax → b.avsMin ≤ b.get F.TOP_AVS_STATUS.V →
    b.get F.TOP_AVS_STATUS.V ≤ b.avsMax → (b.avsWrite v n true).avsMin = b.avsMin ∧ (b.avsWrite v n true).avsMax = b.avsMax ∧
      (b.avsWrite v n true).get F.TOP_AVS_STATUS.V = v ∧ 130 ≤ b.avsMin ∧ b.avsMax ≤ 170
  ) ∧
  (
  ∀ (s t : State) (p : Fin 2) (l : List Int) (k : Int), s.blk.ringRx p.val = true →
    s.blk.on (if p.val = 0 then F.CART_EQ_CTRL.FREEZE_A else F.CART_EQ_CTRL.FREEZE_B) = false →
    s.blk.get (eqFld p.val 0) ≤ 15 → exec (.dfeUpdate p l k) s = .next t →
    t.blk.get (eqFld p.val 0) ≤ 15 ∧ ∀ f ∈ eqTaps p.val, (t.blk.getS f).natAbs ≤ tapMax f
  )

/-- O37. Gait requests and ceilings set the target, and transitions move one gait at a time toward it. From R395, R396, R397,
R399, R400, R401. -/
def Obligations.GaitEffects : Prop :=
  (
  (∀ (s : State) (road : Road) (v : Word), s.blk.roadStops road R.WATCH_GAIT_REQ = none →
    (v.toNat / 2 ^ 16 ≠ 0x4741 → exec (.watchGaitReq road v) s = s.next (s.blk.noteWrite road R.WATCH_GAIT_REQ v.toNat)) ∧
    (v.toNat / 2 ^ 16 = 0x4741 → s.blk.sec.lc ≠ 4 → bitsOf v.toNat 2 0 ≤ 4 → bitsOf v.toNat 6 4 ≤ 4 → bitOf v.toNat 15 = false →
      ((bitsOf v.toNat 2 0 = 1 ∨ bitsOf v.toNat 6 4 = 1) ↔ bitsOf v.toNat 10 8 ≠ 0) → ∃ b : Block,
      b = ((s.blk.set F.WATCH_GAIT_REQ.REQ (bitsOf v.toNat 2 0)).set F.WATCH_GAIT_REQ.RESUME (bitsOf v.toNat 6 4)).set
        F.WATCH_GAIT_REQ.LMGATE (bitsOf v.toNat 10 8) ∧
      exec (.watchGaitReq road v) s = s.next (b.updWatch (fun w => { w with gateAsk := decide (bitsOf v.toNat 2 0 ≤ 1), riseWake := false })).keeperFall)) ∧
  (∀ (s : State) (b : Block), b = s.blk.updWatch (fun w => { w with pwrLow := true }) → s.blk.ceil 0 = false → exec .pwrLoss s =
    s.next (b.set F.WATCH_GAIT_STATUS.CEIL (setBit (s.blk.get F.WATCH_GAIT_STATUS.CEIL) 0 true)).keeperFall) ∧
  (∀ (s : State) (b : Block), b = s.blk.updWatch (fun w => { w with pwrLow := false }) → s.blk.ceil 0 = true →
    s.blk.wakeRaises 5 = false → exec .pwrRestored s = s.next ((b.set F.WATCH_GAIT_STATUS.CEIL (setBit
      (s.blk.get F.WATCH_GAIT_STATUS.CEIL) 0 false)).updWatch (fun w => { w with liftCause := true })).liftLowbat) ∧
  (∀ (s : State), s.blk.fatalDue = true → exec .fatalLift s =
    s.next ((s.blk.updWatch (fun w => { w with lifts := s.blk.ao :: s.blk.recentLifts })).count .watch C.WATCH.FATAL_LIFT).liftFatal) ∧
  (∀ (s : State) (mv : Nat), s.blk.ceil 0 = true → s.blk.get F.WATCH_BATT.HALT_MV ≠ 0 → 2000 ≤ mv → mv ≤ 6000 → mv < s.blk.haltMv →
    exec (.lowbat mv) s = s.next ((s.blk.vbatRead mv).setCeil 2)) ∧
  (∀ (s : State) (mv : Nat), s.blk.haltMv + 200 ≤ mv → exec (.lowbatLift mv) s = s.next (s.blk.vbatRead mv).liftLowbat) ∧
  (∀ (b : Block), b.target = max (min 4 (b.get F.WATCH_GAIT_REQ.REQ)) b.ceilGait)
  ) ∧
  (
  (∀ (s : State) (d : Nat), s.blk.watch.move = none → s.blk.nextMove = some d → exec .gaitTransition s =
    s.next (s.blk.moveBegin s.fuse d)) ∧
  (∀ (s : State) (m : GaitMove), s.blk.watch.move = some m → s.blk.stepSettled = true →
    (max 1 s.blk.watch.plan = max 1 m.dst → exec .gaitTransition s = s.next (s.blk.moveEnd m)) ∧
    (max 1 s.blk.watch.plan ≠ max 1 m.dst → exec .gaitTransition s = s.next (s.blk.stepDone.fallStep s.fuse m.dst))) ∧
  (∀ (b : Block) (d : Nat), b.nextMove = some d → b.watch.plan ≤ 4 ∧ b.gait ≠ b.target ∧ (b.gait < d → d = b.target) ∧
    (1 < b.gait → d < b.gait → d = b.target ∨ d + 1 = b.gait))
  )

/-- O38. The Saddle die wakes and sleeps, watch rounds, wake sources, timers and the Pony regulator act as the power rules say.
From R407, R408, R409, R410, R411, R412, R413. -/
def Obligations.SaddleWakeAndRoundEffects : Prop :=
  (∀ (s : State), s.blk.walking = true → s.blk.on F.WATCH_POWER_STATUS.AWAKE = false → ∃ b : Block, b = s.blk.wakeSaddle ∧
    exec .saddleWake s = s.next (if b.watch.wakesDue.any (fun t => decide (t ≤ b.now + b.wakeLead)) then b.wakeMark 3 else b)) ∧
  (∀ (s : State) (b : Block), s.blk.walking = true → s.blk.on F.WATCH_POWER_STATUS.AWAKE = true → s.blk.awakeHeld = false →
    b = (s.blk.awakeSum.feDown 3).set F.WATCH_POWER_STATUS.AWAKE 0 →
    (s.blk.wakeSoon = true → exec .saddleSleep s = s.next (s.blk.count .watch C.WATCH.MERGED)) ∧
    (s.blk.wakeSoon = false → exec .saddleSleep s = s.next (b.updWatch (fun w => { w with wakesDue := w.wakesDue.filter (fun t => decide (b.now ≤ t)) })).crossSettle.lpRelease)) ∧
  (∀ (s : State), s.blk.walking = true → s.blk.roundsRun = true → s.blk.on F.WATCH_POWER_STATUS.AWAKE = true → s.blk.fe 3 ≠ feWarm →
    exec (.watchRound []) s = s.next (((s.blk.count .watch C.WATCH.ROUNDS).lane 11 0 0).boundary 11)) ∧
  (∀ (s : State) (l : List RoundHit) (b : Block), s.blk.walking = true → s.blk.roundsRun = true → s.blk.on F.WATCH_POWER_STATUS.AWAKE = true →
    s.blk.fe 3 ≠ feWarm → b = (s.blk.count .watch C.WATCH.ROUNDS).lane 11 0 0 → b.dwellWin = 1 → b.roundHits l 0 ≠ [] →
    exec (.watchRound l) s = s.next (((((b.detectAll b.now (b.roundHits l 0)).count .watch C.WATCH.ROUND_DETECT).lane 11 0 1).wakeMark 2).boundary 11)) ∧
  (∀ (s : State), exec (.wakeSource 5) s = s.next ((s.blk.updWatch (fun w => { w with pwrLow := false })).wakeHit 5)) ∧
  (∀ (s : State) (i : Fin 8), i.val ≠ 5 → (i.val = 1 → s.blk.est 3 ≠ stRun) → exec (.wakeSource i) s =
    s.next (if s.blk.wakeEn i.val then s.blk.hpReq.wakeMark i.val else s.blk)) ∧
  (∀ (s : State) (b : Block), s.blk.timerAt ≠ 0 → s.blk.timerAt ≤ s.blk.now → b = (s.blk.set F.WATCH_TIMER_LO.TIME 0).set F.WATCH_TIMER_HI.TIME 0 →
    exec .watchTimer s = s.next ((b.updWatch (fun w => { w with timerLo := 0 })).wakeHit 4)) ∧
  (∀ (s : State) (b : Block), s.blk.est 3 ≠ stRun → s.blk.wakeEn 1 = true → s.blk.parked 8 = false → s.blk.clk.values = [] →
    b = ((s.blk.set F.WATCH_PPS_LO.TIME s.blk.now).set F.WATCH_PPS_HI.TIME (s.blk.now / 2 ^ 32)).count (.clk 8) C.CLK.XFER →
    exec .ppsInEdge s = s.next ((b.updWatch (fun w => { w with ppsSample := some s.blk.now })).wakeHit 1)) ∧
  (∀ (s : State), exec .ponyHpRequest s = s.next ((((s.blk.set F.WATCH_POWER_STATUS.PONY_HP 1).set F.WATCH_POWER_STATUS.PONY_READY 1).count
    .watch C.WATCH.HP_REQ).lane 11 1 1)) ∧
  (∀ (s : State), s.blk.lpFree = true → exec .ponyLpRelease s = s.next ((s.blk.set F.WATCH_POWER_STATUS.PONY_HP 0).set
    F.WATCH_POWER_STATUS.PONY_READY 0))

/-- O39. An always-on tick advances always-on and device time by exactly its fraction, carrying the remainder, and nothing else
of these. From R295, R411. -/
def Obligations.TickAdvancesTimeExactly : Prop :=
  ∀ (s : State), s.blk.time.aoFrac < 64 → s.blk.time.deviceFrac < nsUnits →
    ∃ b : Block, exec .alwaysOnTick s = s.next b ∧
    b.time.ao * 64 + b.time.aoFrac ≡ s.blk.time.ao * 64 + s.blk.time.aoFrac + 1953125 [MOD 2 ^ 70] ∧
    b.time.device * nsUnits + b.time.deviceFrac ≡ s.blk.time.device * nsUnits + s.blk.time.deviceFrac + s.blk.deviceStep [MOD 2 ^ 64 * nsUnits] ∧
    (s.blk.cart.servo.trim = 0 → b.time.deviceFrac = (s.blk.time.deviceFrac + 1953125 * 1000000000) % nsUnits) ∧
    b.time.aoFrac < 64 ∧ b.time.deviceFrac < nsUnits ∧ b.regs = s.blk.regs ∧ b.watch = { s.blk.watch with awakeRem := b.watch.awakeRem, awakeSince := b.watch.awakeSince } ∧ b.flash = s.blk.flash

/-- O40. Lifecycle commands, transitions and security fuse writes are accepted and carried out as the lifecycle rules say. From
R418, R419, R420, R421, R424, R428, R429. -/
def Obligations.LifecycleEffects : Prop :=
  (
  ∀ (s : State) (road : Road) (v : Word), s.blk.roadStops road R.SEC_LC_CMD = none → s.blk.sec.move = none →
    (∀ (x : BitVec 256) (mv : Nat), s.lcRefusal road (v.toNat / 2 ^ 16) 1 mv = none → exec (.genSecret road v x mv) s =
      .next { s with fuse := { s.fuse with sec := burnWords s.fuse.sec 56 ((List.range 8).map (fun i => x.toNat / 2 ^ (32 * i) % 2 ^ 32)) }, blk := (s.blk.drbgGet 1).lcStatus 2 0 }) ∧
    (∀ mv, s.lcRefusal road (v.toNat / 2 ^ 16) 2 mv = none → exec (.toMaker road v mv) s = s.next
      ((s.blk.lcStatus 1 0).updSec (fun c => { c with move := some 1 }))) ∧
    (∀ mv, s.lcRefusal road (v.toNat / 2 ^ 16) 3 mv = none → exec (.toField road v mv) s = s.next
      ((s.blk.lcStatus 1 0).updSec (fun c => { c with move := some 2 }))) ∧
    (∀ mv, s.lcRefusal road (v.toNat / 2 ^ 16) 4 mv = none → exec (.toRetired road v mv) s = s.next
      ((s.blk.lcStatus 1 0).updSec (fun c => { c with move := some 4 }))) ∧
    (∀ mv r, road ≠ .hitch → s.lcRefusal road (v.toNat / 2 ^ 16) 2 mv = some r → exec (.toMaker road v mv) s = s.next (s.blk.lcStatus 3 r)) ∧
    (lcRoad road = true → v.toNat / 2 ^ 16 = 0x4C43 → s.fuse.lifecycle = 1 → s.blk.stage ≠ stageExhausted →
      (∀ mv, 3000 ≤ mv → s.fuse.regLock = true → s.fuse.rootUsable 0 = true → s.lcRefusal road (v.toNat / 2 ^ 16) 3 mv = none) ∧
      (∀ mv, mv < 3000 → s.lcRefusal road (v.toNat / 2 ^ 16) 4 mv = some 4))
  ) ∧
  (
  (∀ (s : State) (t : Nat) (b c : Block) (fu : Fuses), (t = 1 ∨ t = 2) → s.blk.sec.move = some t →
    b = (s.blk.updSec (fun c => { c with move := none, moveWiped := false })).sealSession → fu = { s.fuse with sec := burnWords s.fuse.sec 0 [lcBit t] } →
    c = b.event 21 35 0 (bytesLE 1 s.fuse.lifecycle ++ bytesLE 1 fu.lifecycle) → exec .lifecycleTransition s = .next { s with fuse := fu, blk := (c.updSec (fun c => { c with lc := fu.lifecycle, level := resetLevel fu.lifecycle, chal := none })).wideReset fu kindDevice 0 none }) ∧
  (∀ (s : State), s.blk.sec.move = some 4 → s.blk.sec.moveWiped = false → s.blk.wipeRefused = true → exec .lifecycleTransition s =
    s.next ((s.blk.updSec (fun c => { c with move := none, moveWiped := false })).lcStatus 3 3)) ∧
  (∀ (s : State) (t : Nat) (b : Block), (t = 3 ∨ t = 4) → s.blk.sec.move = some t → s.blk.sec.moveWiped = false → s.blk.wipeRefused = false →
    b = s.blk.zeroise.updSec (fun c => { c with moveWiped := true }) → b.sec.wipeWait = true → exec .lifecycleTransition s = s.next b) ∧
  (∀ (s : State) (t : Nat) (b c : Block) (fu : Fuses), (t = 3 ∨ t = 4) → s.blk.sec.move = some t → s.blk.sec.moveWiped = true →
    s.blk.sec.wipeWait = false → b = (s.blk.updSec (fun c => { c with move := none, moveWiped := false })).sealSession →
    fu = { s.fuse with sec := burnWords s.fuse.sec 0 [lcBit t] } → c = b.event 21 35 0 (bytesLE 1 s.fuse.lifecycle ++ bytesLE 1 fu.lifecycle) →
    exec .lifecycleTransition s = .next { s with fuse := fu, blk := (c.updSec (fun c => { c with lc := fu.lifecycle, level := resetLevel fu.lifecycle, chal := none })).wideReset fu kindDevice 0 none }) ∧
  (∀ (s : State) (road : Road) (v : Word) (mv : Nat), s.blk.roadStops road R.SEC_FUSE_DATA = none → 3000 ≤ mv → s.fuse.lifecycle ≤ 1 →
    8 ≤ s.blk.get F.SEC_FUSE_IDX.WORD → s.blk.get F.SEC_FUSE_IDX.WORD < 56 → exec (.secFuseWrite road v mv) s = .next { s with fuse := { s.fuse with sec := burnWords s.fuse.sec (s.blk.get F.SEC_FUSE_IDX.WORD) [v.toNat &&& 0xFFFFFFFF] } }) ∧
  (∀ (s : State) (road : Road) (v : Word) (mv : Nat), s.blk.roadStops road R.SEC_FUSE_DATA = none → mv < 3000 →
    exec (.secFuseWrite road v mv) s = s.next (s.blk.noteWrite road R.SEC_FUSE_DATA v.toNat)) ∧
  (∀ (s : State), 56 ≤ s.blk.get F.SEC_FUSE_IDX.WORD → s.fuseRead = 0)
  ) ∧
  (
  (∀ (s : State), blockStep .dbgSeal s (fun b => b.sec.level = min s.blk.sec.level (resetLevel s.blk.sec.lc) ∧ b.sec.openStep = 0 ∧
    (resetLevel s.blk.sec.lc < s.blk.sec.level → b.sec.chal = none))) ∧
  (∀ (s : State), s.blk.get F.SEC_DBG_CFG.IDLE_S ≠ 0 → blockStep .sessionIdleTimeout s (fun b =>
    b.sec.level = min s.blk.sec.level (resetLevel s.blk.sec.lc) ∧ b.sec.openStep = 0)) ∧
  (∀ (s : State) (v : Word), s.blk.roadStops .creosh R.SEC_DBG_CTRL = none → v.toNat / 2 ^ 16 = 0x4442 → bitOf v.toNat 0 = true →
    blockStep (.sessionEnd .creosh v) s (fun b => b.sec.level = min s.blk.sec.level (resetLevel s.blk.sec.lc) ∧ b.sec.openStep = 0)) ∧
  (∀ (s : State) (c : BitVec 8) (lv : Nat) (up : Bool), tapRule c.toNat = some (lv, up) → lv ≤ s.blk.sec.level → up = false ∨ s.blk.gait ≠ 4 →
    s.blk.sec.hold = false → c.toNat ≠ 1 →
    (tapHolds c.toNat = false → exec (.tapInstructionLoad c) s = s.next (s.blk.updSec (fun x => { x with ir := c.toNat, hold := false }))) ∧
    (tapHolds c.toNat = true → exec (.tapInstructionLoad c) s =
      s.next ((s.blk.updSec (fun x => { x with ir := c.toNat, hold := true })).keeperClose.wideReset s.fuse kindPin 0 none))) ∧
  (∀ (s : State) (b : Block), s.blk.gait ≠ 4 → s.blk.sec.lc = 4 ∨ s.blk.sec.tamperLow = true ∨ s.blk.tallyOk 10 = false →
    b = s.blk.updSec (fun c => { c with status := 3 }) → exec .dbgChallenge s = s.next (b.emit (.tap (b.chalRecord s.fuse)))) ∧
  (∀ (s : State) (t n : Nat), s.blk.sec.chal = some (t, n) → t + 60000000000 ≤ s.blk.ao → blockStep .challengeExpiry s (fun b =>
    b.challenge = none ∧ b = { s.blk with sec := b.sec })) ∧
  (∀ (s : State) (o : List Byte) (c : Nat), s.blk.challenge = some c → o.length ≠ 132 →
    exec (.dbgResponse o) s = s.next (s.blk.dbgReject (o.getD 0 0).toNat))
  )

/-- O41. Zeroisation destroys every key at once and its overwrites finish later; tampering zeroises where configured. From
R328, R424, R425, R435. -/
def Obligations.ZeroisationEffects : Prop :=
  (
  (∀ (s : State) (road : Road) (v : Word), s.blk.roadStops road R.SEC_ZEROISE = none → s.blk.wipeRefused = false →
    (v.toNat / 2 ^ 16 = 0x5A45 → bitOf v.toNat 0 = true → 1 ≤ s.fuse.lifecycle → s.fuse.lifecycle ≤ 3 →
      exec (.zeroise road v) s = s.next s.blk.zeroise) ∧
    (v.toNat / 2 ^ 16 ≠ 0x5A45 → exec (.zeroise road v) s = .next s)) ∧
  (∀ (s : State), bitOf (s.blk.tally 8) 30 = true → s.blk.sec.wipeWait = false → exec (.wipeOverwriteDone 2) s = s.next (s.blk.wipeClear 30)) ∧
  (∀ (s : State), bitOf (s.blk.tally 8) 28 = true → s.blk.sec.wipeWait = false → s.blk.lockDram = true → exec (.wipeOverwriteDone 0) s =
    s.next (((s.blk.rebuildVault s.fuse []).updLock (fun l => { l with vault := [] })).wipeClear 28)) ∧
  (∀ (s : State), s.blk.sec.lc ≠ 2 → s.blk.sec.lc ≠ 3 → ∃ b : Block, b = s.blk.updSec (fun c => { c with tamperLow := true }) ∧
    exec (.tamper true) s = s.next ((b.wakeHit 6).fire 21 32)) ∧
  (∀ (s : State) (b c d : Block), b = (s.blk.updSec (fun c => { c with tamperLow := true })).wakeHit 6 → b.sec.lc = 2 ∨ b.sec.lc = 3 →
    c = b.sealSession.updSec (fun c => { c with chal := none }) → d = (c.tallyPut 12 (c.tally 12 + 1)).fire 21 32 →
    exec (.tamper true) s = s.next (if bitOf (fuseByte s.fuse.sec 1) 0 || d.on F.SEC_TAMPER_CFG.WIPE then d.zeroise else d)) ∧
  (∀ (s : State), exec (.tamper false) s = s.next (s.blk.updSec (fun c => { c with tamperLow := false })))
  ) ∧
  (
  (∀ (b : Block), b.wipeRefused = false → b.zeroise.sec.wipeWait = false → b.zeroise.lock.vault = [] ∧ b.zeroise.lock.cache = [] ∧ b.zeroise.lock.staging = [] ∧
    b.zeroise.lock.steward = none ∧ ∀ sp h, b.zeroise.keyAt sp h = none) ∧
  (∀ (b : Block), b.sec.wipeWait = true → b.tallyDone 8 = true → b.secSettle.lock.vault = [] ∧ b.secSettle.lock.cache = [] ∧
    b.secSettle.lock.staging = [] ∧ b.secSettle.lock.steward = none ∧ ∀ sp h, b.secSettle.keyAt sp h = none)
  )

/-- O42. TAP instructions, challenges, responses and sessions act as the debug rules say. From R426, R428, R429, R430, R434. -/
def Obligations.DebugPortEffects : Prop :=
  (∀ (s : State) (c : BitVec 8), s.blk.sec.hold = false → (tapRule c.toNat = none ∨ ∃ lv up, tapRule c.toNat = some (lv, up) ∧ s.blk.sec.level < lv) →
    exec (.tapInstructionLoad c) s = s.next (s.blk.updSec (fun c => { c with ir := 0xFF, hold := false }))) ∧
  (∀ (s : State), s.blk.sec.hold = false → exec (.tapInstructionLoad 1) s =
    s.next ((s.blk.updSec (fun c => { c with ir := 1, hold := false })).emit (.tap (bytesLE 4 0x132568BD)))) ∧
  (∀ (s : State) (n : Nat) (b : Block), s.blk.gait ≠ 4 → s.blk.sec.lc ≠ 4 → s.blk.sec.tamperLow = false → s.blk.tallyOk 10 = true → s.blk.lockoutS = 0 →
    n = (s.blk.tally 10 + 1) % 2 ^ 32 → b = (s.blk.tallyPut 10 n).updSec (fun c => { c with status := 0, counter := n, chal := some (s.blk.ao, n) }) →
    exec .dbgChallenge s = s.next (b.emit (.tap (b.chalRecord s.fuse)))) ∧
  (∀ (s : State) (t n : Nat), s.blk.sec.chal = some (t, n) → t + 60000000000 ≤ s.blk.ao →
    exec .challengeExpiry s = s.next (s.blk.updSec (fun c => { c with chal := none }))) ∧
  (∀ (s : State) (o : List Byte), s.blk.challenge = none → exec (.dbgResponse o) s = s.next (s.blk.dbgReject (o.getD 0 0).toNat)) ∧
  (∀ (s : State) (o : List Byte) (c : Nat) (b : Block), s.blk.challenge = some c → o.length = 132 → b = s.blk.respJobs s.fuse s.blk.sec.lc c o → b.gait ≠ 4 → s.fuse.reqAllowed s.blk.sec.lc (o.getD 0 0).toNat = true →
    s.fuse.signedOk s.blk.sec.lc c o = true → b.wipeRefused = false → exec (.dbgResponse o) s = s.next (b.dbgGrant s.blk.sec.lc (o.getD 0 0).toNat)) ∧
  (∀ (s : State), exec .dbgSeal s = s.next s.blk.sealSession) ∧
  (∀ (s : State) (v : Word), s.blk.roadStops .bar0 R.SEC_DBG_CTRL = none → v.toNat / 2 ^ 16 = 0x4442 → bitOf v.toNat 0 = true →
    exec (.sessionEnd .bar0 v) s = s.next s.blk.sealSession) ∧
  (∀ (s : State), s.blk.get F.SEC_DBG_CFG.IDLE_S ≠ 0 → exec .sessionIdleTimeout s = s.next s.blk.sealSession) ∧
  (∀ (b : Block), b.endSession.sec.level = min b.sec.level (resetLevel b.sec.lc))

/-- O43. Erases, suspensions, reclaim, scrub, retirement, wear and tally writes act as the flash rules say. From R440, R442,
R443, R444, R446, R447, R449, R450, R458, R459, R461. -/
def Obligations.FlashEraseAndScrubEffects : Prop :=
  (
  (∀ (s : State) (n : Fin 96), s.blk.liveIn n.val = [] → s.blk.flashBg = true ∨ n.val = 78 → exec (.flashErase n) s = s.next (s.blk.eraseStart n.val)) ∧
  (∀ (s : State) (b : Block), s.blk.flash.erase ≠ none → b = (s.blk.sat F.FLASH_SUSPENDS.CUR 1).count .flash C.FLASH.SUSPENDS →
    b.get F.FLASH_CFG.STARVE_N = 0 → exec .eraseSuspend s = s.next (b.set F.FLASH_SUSPENDS.MAX (max (b.get F.FLASH_SUSPENDS.CUR)
      (b.get F.FLASH_SUSPENDS.MAX)))) ∧
  (∀ (s : State) (ms : Nat), s.blk.get F.FLASH_CFG.STARVE_MS ≠ 0 → s.blk.get F.FLASH_CFG.STARVE_MS < ms → s.blk.flash.erase ≠ none →
    s.blk.on F.FLASH_STATUS.STARVED = false → exec (.starve ms) s =
      s.next (((s.blk.set F.FLASH_STATUS.STARVED 1).count .flash C.FLASH.STARVE).fire 20 33)) ∧
  (∀ (s : State) (n : Nat) (b c : Block), s.blk.flash.erase = some n → n ≠ 78 → s.blk.flash.scrubBuf = none →
    b = ((s.blk.updBlk n (fun k => { k with count := k.count + 1, hours := s.blk.tally 14, hdrOk := true, ready := true, marked := false })).updFlash
      (fun f => { f with erase := none })).count .flash C.FLASH.ERASES →
    c = (((((b.set F.FLASH_STATUS.ERASING 0).set F.FLASH_STATUS.SUSPENDED 0).set F.FLASH_STATUS.STARVED 0).wearUpdate).flushTallies 17).secSettle →
    (c.blkAt n).count < 100000 → exec .eraseComplete s = s.next c.lpRelease) ∧
  (∀ (s : State) (n : Nat), s.blk.readyBlocks.length < 2 → s.blk.flashBg = true → s.blk.oldestBlk = some n → exec .journalReclaim s =
    s.next (s.blk.reclaim n)) ∧
  (∀ (s : State) (b : Block), s.blk.on F.FLASH_SCRUB.EN = true → s.blk.flashBg = true → b = (s.blk.count .flash C.FLASH.SCRUB_READ).updFlash
      (fun f => { f with scrubPos := (s.blk.flash.scrubPos % 96 + 1) % 96 }) →
    (b.blkAt (s.blk.flash.scrubPos % 96)).retired = false → exec (.scrubVisit true) s = s.next (b.scrubMark (s.blk.flash.scrubPos % 96))) ∧
  (∀ (s : State) (n : Fin 96), (s.blk.blkAt n.val).marked = true → s.blk.flash.erase = none → s.blk.flashBg = true →
    s.blk.inRotation n.val = true → n.val ≠ s.blk.flash.head → (s.blk.reclaim n.val).flash.erase = some n.val → exec (.scrubRewrite n) s =
      s.next (((s.blk.reclaim n.val).updBlk n.val (fun k => { k with scrubAo := s.blk.ao + 1 })).count .flash C.FLASH.SCRUB_REWRITE)) ∧
  (∀ (s : State) (n : Fin 96), exec (.blockRetire n .eraseFail) s = s.next (s.blk.retire n.val 6) ∧
    exec (.blockRetire n .programFail) s = s.next (s.blk.retire n.val 6)) ∧
  (∀ (s : State), 80 ≤ s.blk.get F.FLASH_WEAR.TALLY_WEAR → s.blk.flash.wearFired = false → exec .wear s =
    s.next (((s.blk.set F.FLASH_STATUS.WARN 1).updFlash (fun f => { f with wearFired := true })).fire 20 32)) ∧
  (∀ (s : State), exec .lifeHourTick s = s.next (s.blk.tallyPut 14 (s.blk.tally 14 + 1))) ∧
  (∀ (s : State) (road : Road) (n : Fin 2048) (v : Word), s.blk.roadStops road R.FLASH_TALLY_DATA = none →
    (n.val < 512 → exec (.tallyWrite road n v) s = s.next (s.blk.noteWrite road R.FLASH_TALLY_DATA v.toNat)) ∧
    (512 ≤ n.val → exec (.tallyWrite road n v) s = s.next (s.blk.tallyPut n.val v.toNat)))
  ) ∧
  (
  (∀ (s : State) (q : CreoshReq) (p : PieceReq) (m : Nat) (b : Block), s.blk.ost.sheafCheck = none → s.blk.est 0 = stRun → s.blk.phState = 1 →
    p.update % 2 ^ 32 = s.blk.tally 18 → p.index ≤ 7 → p.norOk = true → bitOf (s.blk.tally 17 % 256) p.index = false →
    b = s.blk.norProgram (s.blk.stageAt (0x1000 + 1024 * p.index)) (padTo 1024 p.data) → m = setBit (s.blk.tally 17 % 256) p.index true →
    bitOf m 0 = false → exec (.manifestPiece q p) s = s.next (((b.tallyPut 17 (2 ^ 28 + m)).lane 0 1 1).phResult q 0 [17])) ∧
  (∀ (s : State) (q : CreoshReq) (p : PieceReq), s.blk.ost.sheafCheck = none → s.blk.est 0 = stRun → s.blk.phState = 2 →
    p.update % 2 ^ 32 = s.blk.tally 18 → p.index < s.blk.pieceCount → s.blk.pieceSet p.index = false → p.norOk = true →
    s.blk.tally (256 + 2 * (p.index / 64)) = 0 → s.blk.tally (257 + 2 * (p.index / 64)) = 0 → s.blk.ost.erased.contains (p.index / 64) = false →
    exec (.payloadPiece q p) s = s.next ((s.blk.sheafErase (p.index / 64)).phResult q 2)) ∧
  (∀ (s : State) (q : CreoshReq) (i u : Nat), s.blk.ost.sheafCheck = none → s.blk.est 0 = stRun →
    (32 ≤ i → exec (.query q i u) s = s.next (s.blk.phReply q 5 (List.replicate 32 0))) ∧
    (s.blk.phState ≠ 0 → u % 2 ^ 32 ≠ s.blk.tally 18 → exec (.abort q u) s = s.next (s.blk.phReply q 3))) ∧
  (∀ (s : State) (k : Nat), s.blk.est 0 = stRun → s.blk.ost.sheafCheck = none → s.blk.phState = 2 →
    (List.range (ceilDiv s.blk.pieceCount 64)).find? (fun k => s.blk.sheafFull k && !s.blk.ost.sheafOk.contains k) = some k →
    exec .sheafCheck s = s.next (s.blk.sheafJudge k).2) ∧
  (∀ (s : State), s.blk.est 0 = stRun → s.blk.phState = 2 → (List.range (ceilDiv s.blk.pieceCount 64)).all (fun k => s.blk.sheafFull k &&
      s.blk.ost.sheafOk.contains k) = true → blockStep .stagingComplete s (fun b => ∀ n, n ≠ 17 → b.tally n = s.blk.tally n)) ∧
  (∀ (s : State) (m : NorMap) (ok : Bool), s.blk.step4 = true → s.blk.ost.map = some m → s.blk.ost.headOwed = true → s.blk.tallyDone 1 = true →
    exec (.stagingInstall ok) s = s.next (s.blk.phIdle.updOst (fun q => { q with headOwed := false })))
  )

/-- O44. A tally write reads back modulo 2^32 and changes no other tally; a class A write in stage EXHAUSTED changes none. From
R445, R451. -/
def Obligations.TallyReadsBackAndOthersStay : Prop :=
  ∀ (b : Block) (id v : Nat),
    (b.clk.cmds = [] → (b.flash.queue.filter (fun t => t.id != id)).length < 16 → (tallyClassA id = true → b.stage ≠ stageExhausted) →
      (b.tallyPut id v).tally id = v % 2 ^ 32) ∧
    (∀ n, n ≠ id → (b.tallyPut id v).tally n = b.tally n) ∧
    (b.clk.cmds ≠ [] → b.tallyPut id v = ({ b with clk := { b.clk with cmds := b.clk.cmds ++ [(id, v % 2 ^ 32)] } } : Block) ∨
      ∃ c : Block, c = b.count (.clk 7) C.CLK.CMD_STALL ∧ b.tallyPut id v = { c with clk := { c.clk with cmds := c.clk.cmds ++ [(id, v % 2 ^ 32)] } }) ∧
    (tallyClassA id = true → b.stage = stageExhausted → ∀ n, (b.tallyPut id v).tally n = b.tally n)

/-- O45. Manifest and payload pieces, queries, aborts, sheaf checks, staging and installation act as the update rules say. From
R458, R459, R460, R461, R462, R463, R464, R470. -/
def Obligations.PackhorseEffects : Prop :=
  (∀ (s : State) (q : CreoshReq) (p : PieceReq), s.blk.ost.sheafCheck = none → s.blk.est 0 = stRun →
    (s.blk.phState = 0 → p.index ≤ 7 → s.blk.stageUp = true → p.norOk = true → exec (.manifestPiece q p) s =
      s.next ((((s.blk.norErase (s.blk.stageAt 0) 0x3000).tallyPut 18 p.update).tallyPut 17 (2 ^ 28)).phResult q 2)) ∧
    (s.blk.phState ≠ 0 → p.update % 2 ^ 32 ≠ s.blk.tally 18 → exec (.manifestPiece q p) s = s.next (s.blk.phResult q 3) ∧
      exec (.payloadPiece q p) s = s.next (s.blk.phResult q 3)) ∧
    (s.blk.phState = 2 → p.update % 2 ^ 32 = s.blk.tally 18 → p.index < s.blk.pieceCount → s.blk.pieceSet p.index = true →
      exec (.payloadPiece q p) s = s.next (s.blk.phResult q 1)) ∧
    (s.blk.phState = 2 → p.update % 2 ^ 32 = s.blk.tally 18 → p.index < s.blk.pieceCount → s.blk.pieceSet p.index = false → p.norOk = true →
      s.blk.ost.erased.contains (p.index / 64) = true →
      (s.blk.norBytes (s.blk.stageAt (0x10000 + 1024 * p.index)) 1024).any (· != 0xFF) = false →
      exec (.payloadPiece q p) s = s.next (s.blk.pieceStore q p)) ∧
    (∀ i u, i < 32 → exec (.query q i u) s = s.next (s.blk.phReply q 0 ((List.range 8).flatMap (fun k => bytesLE 4 (s.blk.tally (256 + 8 * i + k)))))) ∧
    (∀ u, s.blk.phState ≠ 0 → u % 2 ^ 32 = s.blk.tally 18 → exec (.abort q u) s = s.next (s.blk.phIdle.phReply q 0)) ∧
    (∀ u, s.blk.phState = 0 → exec (.abort q u) s = s.next (s.blk.phReply q 7))) ∧
  (∀ (s : State) (q : CreoshReq) (p : PieceReq), s.blk.ost.sheafCheck = none → s.blk.est 0 ≠ stRun → exec (.manifestPiece q p) s =
    s.next (s.blk.creoshReply q 5 5) ∧ exec (.payloadPiece q p) s = s.next (s.blk.creoshReply q 5 5)) ∧
  (∀ (s : State) (k : Nat) (q : CreoshReq), s.blk.est 0 = stRun → s.blk.ost.sheafCheck = some (k, q) → ∃ a b : Block,
    a = s.blk.updOst (fun o => { o with sheafCheck := none }) ∧ b = a.hashJob (a.sheafBytes k).length ∧
    (b.sheafGood k = true → exec .sheafCheck s = s.next (((b.updOst (fun o => { o with sheafOk := o.sheafOk ++ [k] })).count .packhorse C.PH.SHEAF_OK).phResult q 0 [256 + 2 * k, 257 + 2 * k])) ∧
    (∀ c : Block, b.sheafGood k = false → c = ((b.clearSheaf k).count .packhorse C.PH.SHEAF_BAD).set F.OST_PH_STATUS.LAST_SHEAF_BAD k →
      exec .sheafCheck s = s.next ((c.updateRec 4 (c.tally 18) k).phResult q 6))) ∧
  (∀ (s : State) (b c : Block), s.blk.est 0 = stRun → s.blk.phState = 2 → (List.range (ceilDiv s.blk.pieceCount 64)).all (fun k => s.blk.sheafFull k &&
      s.blk.ost.sheafOk.contains k) = true → b = s.blk.norProgram (s.blk.stageAt 0) (stagingHead (leAt s.blk.manBytes 6 1) (leAt s.blk.manBytes 8 4)
        s.blk.manLen s.blk.payloadLen) → c = b.tallyPut 17 (3 * 2 ^ 28 + b.tally 17 % 256) →
    exec .stagingComplete s = s.next (c.updateRec 0 (b.tally 18) b.installed)) ∧
  (∀ (s : State) (ok : Bool), s.blk.step4 = true → exec (.stagingInstall ok) s = s.next (s.blk.install s.fuse ok))

/-- O46. A delta payload yields an image of exactly the declared length, and its output never passes it. From R465. -/
def Obligations.DeltaStaysInsideItsLengths : Prop :=
  (∀ (base payload img : List Byte) (n : Nat), deltaApply base payload n = some img → img.length = n) ∧
  (∀ (base l out img : List Byte) (n k : Nat), deltaRun base n k l out = some img → out.length ≤ n ∧ out = img.take out.length)

/-- O47. The events of the Assay die act on it alone and its mirrors follow while the Hatch group is unparked. From R472, R474,
R475, R479, R484, R485, R487, R490. -/
def Obligations.AssayEventEffects : Prop :=
  (∀ (s : State), exec .alert s = .next s.mirror) ∧
  (∀ (s : State), (s.blk.parked 10 = true → s.mirror = s) ∧ s.mirror.assay = s.assay ∧ s.mirror.fuse = s.fuse ∧ s.mirror.pending = s.pending) ∧
  (∀ (s : State) (f : Assay → Assay), s.onAssay f = ({ s with assay := f s.assay } : State).mirror) ∧
  (∀ (s : State), s.assay.up = true →
    (∀ codes, exec (.assaySample codes) s = .next (s.onAssay (fun a => a.sample codes))) ∧
    (0 < s.assay.pulseOwed → exec .assayPulse s = .next { s with assay := { s.assay with pulseOwed := s.assay.pulseOwed - 1, pulses := s.assay.pulses + 1 }, blk := s.blk.emit .pulse }) ∧
    (s.assay.recDue = true → exec .intervalRecord s = .next (s.onAssay Assay.interval)) ∧
    (∀ v, s.assay.sealOpen = !v → exec (.sealChange v) s = .next (s.onAssay (fun a => ({ a with sealOpen := v }).logAdd (if v then 3 else 4)))) ∧
    (exec (.assaySupplyFail false) s = .next (s.onAssay (fun a => { a with up := false }))) ∧
    (∀ c, c = s.assay.settleDue.logAdd 2 → exec (.assaySupplyFail true) s = .next (s.onAssay (fun _ => { c with up := false, check := some ⟨c.eIn, c.eOut, c.rtc, c.sets, c.run, c.pulseAcc, c.seq⟩ }))) ∧
    (s.assay.clockFault = false → exec .assayCrystalFault s = .next (s.onAssay (fun a => ({ a with clockFault := true, sawClock := true }).logAdd 11))) ∧
    (s.assay.clockFault = true → exec .assayCrystalRecovered s = .next (s.onAssay (fun a => ({ a with clockFault := false }).logAdd 12)))) ∧
  (∀ (s : State), s.assay.up = false → exec .assaySupplyReturn s = .next (s.onAssay Assay.supplyReturn) ∧
    s.assay.supplyReturn.up = true ∧ s.assay.supplyReturn.timeLost = true ∧ s.assay.supplyReturn.sawPower = true)

/-- O48. The nine Assay commands are answered through the calibration port while the seal is open and through the Hatch as its
rules say. From R471, R475, R487, R488, R489. -/
def Obligations.AssayCommandEffects : Prop :=
  (∀ (s : State), s.assay.up = true → s.assay.sealOpen = true → ∃ reply : Nat → Nat → List Byte → AssayReply → State,
    (∀ cmd arg data r, reply cmd arg data r = ({ s with assay := r.die, blk := s.blk.emit (.cal (calReply cmd arg r)) } : State).mirror) ∧
    exec (.assayStatus .cal) s = .next (reply 1 0 [] s.assay.settleDue.cmdStatus) ∧ exec (.snapshot .cal) s = .next (reply 2 0 [] s.assay.settleDue.cmdSnapshot) ∧
    (∀ n, exec (.readRecord .cal n) s = .next (reply 3 n [] (s.assay.settleDue.cmdReadRecord n))) ∧
    (∀ n, exec (.readLog .cal n) s = .next (reply 4 n [] (s.assay.settleDue.cmdReadLog n))) ∧
    (∀ x, exec (.timeSet .cal x) s = .next (reply 5 0 x (s.assay.settleDue.cmdTimeSet x))) ∧
    (exec (.readParam .cal) s = .next (reply 16 0 [] { result := .ok, data := s.assay.settleDue.params.bytes, die := s.assay.settleDue })) ∧
    (∀ x, exec (.writeParam .cal x) s = .next (reply 17 0 x (s.assay.settleDue.cmdWriteParam .cal x))) ∧
    (∀ n x, exec (.installKey .cal n x) s = .next (reply 18 n x (s.assay.settleDue.cmdInstallKey .cal n x))) ∧
    (∀ t : Word, exec (.setTime .cal t) s = .next (reply 19 t.toNat [] (s.assay.settleDue.cmdSetTime .cal t.toNat)))) ∧
  (∀ (s : State), s.assay.up = false → s.blk.hatch = none → exec (.assayStatus .hatch) s =
    s.next ((s.blk.set F.HATCH_ARG0.ARG0 0).hatchEnd .down [])) ∧
  (∀ (s : State), s.assay.up = true → s.blk.hatch = none → s.blk.parked 10 = true → exec (.assayStatus .hatch) s =
    s.next ((s.blk.set F.HATCH_ARG0.ARG0 0).hatchEnd .timeout [])) ∧
  (∀ (s : State) (b : Block), s.assay.up = true → s.blk.hatch = none → s.blk.parked 10 = false →
    b = ((s.blk.set F.HATCH_ARG0.ARG0 0).hatchStatus 1 0 0).count (.clk 10) C.CLK.XFER →
    exec (.assayStatus .hatch) s = .next (({ s with blk := { b with hatch := some 1 } } : State).hatchRun 1)) ∧
  (∀ (s : State) (c k : Nat), s.blk.hatch = some c → c ≠ k → s.hatchDo k 0 [] = { s with blk := s.blk.noteWrite .bar0 R.HATCH_CMD k }) ∧
  (∀ (s : State) (c : Nat), s.blk.hatch = some c → (c = 1 → exec (.assayStatus .hatch) s = .next (s.hatchRun 1)) ∧
    (c = 2 → exec (.snapshot .hatch) s = .next (s.hatchRun 2)) ∧ (∀ n, c = 3 → exec (.readRecord .hatch n) s = .next (s.hatchRun 3)) ∧
    (∀ n, c = 4 → exec (.readLog .hatch n) s = .next (s.hatchRun 4)) ∧ (∀ x, c = 5 → exec (.timeSet .hatch x) s = .next (s.hatchRun 5)) ∧
    (c = 16 → exec (.readParam .hatch) s = .next (s.hatchRun 16)) ∧ (∀ x, c = 17 → exec (.writeParam .hatch x) s = .next (s.hatchRun 17)) ∧
    (∀ n x, c = 18 → exec (.installKey .hatch n x) s = .next (s.hatchRun 18)) ∧ (∀ t, c = 19 → exec (.setTime .hatch t) s = .next (s.hatchRun 19))) ∧
  (∀ (s : State) (c : Nat), s.blk.hatch = some c → exec (.hatchCmdFailed true) s = s.next (s.blk.hatchEnd .timeout []) ∧
    exec (.hatchCmdFailed false) s = s.next (s.blk.hatchEnd .down [])) ∧
  (∀ (s : State) (f : List Byte), s.assay.up = true → s.assay.sealOpen = true → f.length = numAt f 2 2 + 10 → numAt f 0 1 = 0xA5 →
    crc16 ((f.drop 1).take (numAt f 2 2 + 7)) = numAt f (8 + numAt f 2 2) 2 →
    exec (.calibrationFrame f true) s = .next (s.calDo (numAt f 1 1) (numAt f 4 4) ((f.drop 8).take (numAt f 2 2)))) ∧
  (∀ (a : Assay) (x : List Byte) (n : Nat), (a.cmdWriteParam .hatch x).result = .refused ∧ (a.cmdInstallKey .hatch n x).result = .refused ∧
    (a.cmdSetTime .hatch n).result = .refused ∧ (a.cmdReadParam .hatch).result = .refused ∧
    (a.cmdWriteParam .hatch x).die = a ∧ (a.cmdInstallKey .hatch n x).die = a ∧ (a.cmdSetTime .hatch n).die = a)

/-- O49. No command changes parameters, keys or energy while sealed or through the Hatch, and energy is added without loss.
From R471, R472, R475. -/
def Obligations.SealAndEnergyHold : Prop :=
  (
  ∀ (a : Assay) (p : AssayIn) (cmd arg : Nat) (x : List Byte), (a.sealOpen = false ∨ p = .hatch) →
    ∀ d : Assay, (d = (a.hatchCmd cmd arg x).die ∨ p = .cal ∧ d = (a.calCmd cmd arg x).die) →
    d.params = a.params ∧ d.next = a.next ∧ d.kRec = a.kRec ∧ d.kTime = a.kTime ∧ d.seals = a.seals ∧ d.eIn = a.eIn ∧ d.eOut = a.eOut
  ) ∧
  (
  (∀ (r : Energy) (e : Nat), (r.add e).mwh * mwhUnits + (r.add e).res = r.mwh * mwhUnits + r.res + e ∧ (r.add e).res < mwhUnits) ∧
  (∀ (a : Assay) (codes : List (Int × Int)) (c : Fin 8) (p : AssayParam), p = a.next.getD a.params → ∃ b : Assay,
    b = a.sample codes ∧ b.params = p ∧
    nth b.eIn c.val {} = (nth a.eIn c.val {}).add (p.energy c.val (nth codes c.val (0, 0))).toNat ∧
    nth b.eOut c.val {} = (nth a.eOut c.val {}).add (-(p.energy c.val (nth codes c.val (0, 0)))).toNat ∧
    b.present = (List.range 8).map (fun k => nth codes k (0, 0)))
  )

/-- O50. A detected error takes the severity and the action of its row, and the error book keeps primary and count. From R491,
R493, R494, R525. -/
def Obligations.DetectedErrorEffects : Prop :=
  (∀ (s : State) (o : Fin 25) (code : BitVec 8) (lane : BitVec 16) (n : Nat) (v : Sev), faultSev o.val code.toNat = some v →
    (o.val, code.toNat) ∉ [(5, 3), (6, 3), (7, 3), (9, 4)] →
    exec (.errorDetected o code lane n) s = s.next ((s.blk.faultSide s.fuse o.val code.toNat n).fault o.val v code.toNat lane.toNat (bytesLE 2 lane.toNat))) ∧
  (∀ (s : State) (lane : BitVec 16) (n : Nat), exec (.errorDetected 9 4 lane n) s = s.next (s.blk.tackCrc 4) ∧
    exec (.errorDetected 5 3 lane n) s = s.next (s.blk.bridleCrc (lmRadio 5) 3) ∧
    exec (.errorDetected 6 3 lane n) s = s.next (s.blk.bridleCrc (lmRadio 6) 3) ∧
    exec (.errorDetected 7 3 lane n) s = s.next (s.blk.bridleCrc (lmRadio 7) 3)) ∧
  (∀ (s : State) (code : BitVec 8) (lane : BitVec 16) (n : Nat), s.assay.up = true →
    exec (.errorDetected 22 code lane n) s = .next (s.onAssay (fun a => a.flashError code.toNat n))) ∧
  (∀ (s : State) (road : Road) (v : Word), s.blk.roadStops road R.CLERK_ERR_ACK = none → exec (.errAck road v) s =
    s.next { s.blk with clerk := { s.blk.clerk with errs := s.blk.clerk.errs.filter (fun e => e.origin != bitsOf v.toNat 12 8) } }) ∧
  (∀ (b : Block) (o kind lane : Nat) (v w : Sev) (p : List Byte), v.code ≤ 3 → w.code ≤ v.code → (b.errBook o).valid = false →
    ((b.latch o v false kind lane p).errBook o).valid = true ∧ ((b.latch o v false kind lane p).errBook o).sev = v ∧
    ((b.latch o v false kind lane p).errBook o).kind = kind ∧
    (((b.latch o v false kind lane p).latch o w false kind lane p).errBook o).count = min ((b.errBook o).count + 1) (2 ^ 28 - 1) ∧
    (((b.latch o v false kind lane p).latch o w false kind lane p).errBook o).sev = v)

/-- O51. Musters, book captures and deferrals, GPIO, temperature and supply monitors act as their rules say. From R499, R500,
R501, R524, R525. -/
def Obligations.MusterAndPinEffects : Prop :=
  (
  (∀ (s : State), s.blk.on F.CLERK_MUSTER_CFG.EN = true → s.blk.runs 1 = true → exec .muster s =
    s.next (s.blk.wrap F.CLERK_MUSTER_STATUS.AUDITS 1)) ∧
  (∀ (s : State) (k : Fin 8), s.blk.audited k.val = true → ∃ b : Block, b = s.blk.set F.CLERK_MUSTER_STATUS.DEFERRED (setBit
      (s.blk.get F.CLERK_MUSTER_STATUS.DEFERRED) k.val false) ∧
    (∀ i ok, exec (.bookCapture k i 0 ok) s = s.next (b.setDefers k.val 0)) ∧
    (∀ i d ok, d ≠ 0 → exec (.bookCapture k i d ok) s = s.next ((b.setDefers k.val 0).mismatch s.fuse k.val i d ok))) ∧
  (∀ (s : State) (k : Fin 8) (n : Nat), s.blk.audited k.val = true → n = look s.blk.clerk.defers k.val 0 + 1 → ∃ b : Block,
    b = s.blk.set F.CLERK_MUSTER_STATUS.DEFERRED (setBit (s.blk.get F.CLERK_MUSTER_STATUS.DEFERRED) k.val true) ∧
    (n ≠ 8 → exec (.musterDefer k) s = s.next (b.setDefers k.val n)) ∧
    (n = 8 → exec (.musterDefer k) s = s.next ((b.setDefers k.val 0).note (bookOwner k.val) 0 (bytesLE 1 k.val)))) ∧
  (∀ (s : State) (k : Fin 8), s.blk.audited k.val = false → exec (.musterDefer k) s = .next s)
  ) ∧
  (
  (∀ (s : State) (v : BitVec 24), s.blk.gpioOn = true → s.blk.get F.PIN_GPIO_OE.OE = 0 → s.blk.get F.PIN_GPIO_RISE.RISE = 0 →
    s.blk.get F.PIN_GPIO_FALL.FALL = 0 → exec (.gpio v) s = s.next (s.blk.set F.PIN_GPIO_IN.IN v.toNat)) ∧
  (∀ (s : State) (v : BitVec 24) (b : Block), s.blk.gpioOn = true → s.blk.get F.PIN_GPIO_OE.OE = 0 → s.blk.get F.PIN_GPIO_IN.IN = 0 →
    v.toNat &&& s.blk.get F.PIN_GPIO_RISE.RISE ≠ 0 → b = s.blk.set F.PIN_GPIO_IN.IN v.toNat → exec (.gpio v) s =
      s.next ((b.set F.PIN_GPIO_EVT.EVT (b.get F.PIN_GPIO_EVT.EVT ||| (v.toNat &&& s.blk.get F.PIN_GPIO_RISE.RISE))).fire 24 32)) ∧
  (∀ (s : State) (d : Fin 3) (t : Int) (b : Block), b = s.blk.setS (tempFld d.val) t →
    ((clampTo 70 110 (b.get F.PIN_THERM.WARN_C) : Int) ≤ t → exec (.therm d t) s = s.next ((b.note 24 1).fire 24 33)) ∧
    (t < (clampTo 70 110 (b.get F.PIN_THERM.WARN_C) : Int) → exec (.therm d t) s = s.next b) ∧
    (115 ≤ t → b.pinExcl.contains d.val = false → exec (.overtemperature d t) s = s.next (b.fault 24 .fatal 2 0xFFFF [])) ∧
    (t < 115 → exec (.overtemperature d t) s = s.next b)) ∧
  (∀ (s : State), (bitOf (s.blk.get F.WATCH_POWER_STATUS.PMIC_EN) 1 = true → exec (.supplyUndervoltage true) s =
      s.next (s.blk.fault 24 .fatal 3 0xFFFF [])) ∧
    (bitOf (s.blk.get F.WATCH_POWER_STATUS.PMIC_EN) 0 = true → exec (.supplyUndervoltage false) s = s.next (s.blk.fault 24 .fatal 3 0xFFFF [])))
  )

/-- O52. Every command answers a next state in every state and leaves the queue as it is; n steps take n commands in order.
From spec/98_reader.md, spec/95_what_each_step_holds.md. -/
def Obligations.EveryCommandAnswersAndQueueDrains : Prop :=
  (
  ∀ (c : Instr) (s : State), ∃ t, exec c s = .next t ∧ t.pending = s.pending
  ) ∧
  (
  ∀ (l rest : List Instr) (s : State), s.pending = l ++ rest → ∃ t : State, Sys2Proof.core.run l.length s = .next t ∧ t.pending = rest
  )

/-- O53. No step clears a fuse bit, and every step keeps the canonical form of the fuse storage. From R6, R255, R420, R421. -/
def Obligations.FuseStorageInvariant : Prop :=
  (
  ∀ s t : State, step s = .next t → Fuses.grown s.fuse t.fuse
  ) ∧
  (
  ∀ s t : State, step s = .next t → mapWf s.fuse.sec 0 = true → mapWf s.fuse.reg 0 = true →
    mapWf t.fuse.sec 0 = true ∧ mapWf t.fuse.reg 0 = true
  )

/-- O54. Once the regulatory lock is set, no step changes any regulatory fuse. From R255. -/
def Obligations.RegulatoryLockHolds : Prop :=
  ∀ s t : State, step s = .next t → s.fuse.regLock = true → t.fuse.reg = s.fuse.reg ∧ t.fuse.regLock = true

/-- O55. No step leads to an earlier lifecycle state. From R417, R418. -/
def Obligations.LifecycleNeverGoesBack : Prop :=
  ∀ s t : State, step s = .next t → fuseByte s.fuse.sec 0 % 16 ∈ [0, 1, 3, 7, 8, 9, 10, 11, 12, 13, 14, 15] →
    s.fuse.lifecycle ≤ t.fuse.lifecycle

/-- O56. The state after reset: every field at its reset value, no commands, blank fuses, canonical empty memories, HALT with
nothing running. From R7, R14, R395, R420, R529. Values that the spec leaves open are the choice of the model (log
entries 3 to 9). -/
def Obligations.ResetState : Prop :=
  (∀ f : Fld, State.reset.blk.get f = f.reset) ∧ State.reset.pending = [] ∧ State.reset.fuse = { sec := [], reg := [] } ∧
  State.reset.fuse.lifecycle = 0 ∧ mapWf State.reset.fuse.sec 0 = true ∧ mapWf State.reset.fuse.reg 0 = true ∧
  Memory.wf State.reset.blk.tabs 0 = true ∧ Memory.wf State.reset.blk.dram 0 = true ∧ Memory.wf State.reset.blk.ost.nor 0xFF = true ∧
  State.reset.blk.gait = 4 ∧ State.reset.blk.get F.TOP_ENG_GATE.GATE = 0 ∧
  (∀ e : Fin 11, State.reset.blk.est e.val = stOff ∨ State.reset.blk.est e.val = stReset) ∧ State.reset.blk.lock.vault = []

/-- O57. No reset kind alters tallies, fuses or anything on the Assay die. Formalises R8. -/
def Obligations.ResetsKeepFusesTalliesAndAssay : Prop :=
  ∀ (s : State) (c : Instr), (c ∈ [Instr.topDevReset .bar0 0x4B470001] ∨ (∃ v, c = .powerOnReset v) ∨ (∃ v, c = .brownOut v) ∨
      (∃ v, c = .pinReset v) ∨ (∃ n, c = .sectionReset n) ∨ ∃ e, c = .engineReset e) → s.blk.roadStops .bar0 R.TOP_DEV_RESET = none →
    ∃ t : State, exec c s = .next t ∧ t.fuse = s.fuse ∧ t.assay = s.assay ∧ t.blk.flash.blks = s.blk.flash.blks ∧
      (∀ id, t.blk.newest id = s.blk.newest id) ∧
      ((∀ v, c ≠ .powerOnReset v ∧ c ≠ .brownOut v) → ∀ id, t.blk.tally id = s.blk.tally id)

/-- O58. SET_TIME through the calibration port sets the RTC and increments the seal counter, only while the seal is open.
Formalises R482. -/
def Obligations.CalibrationPortSetsTime : Prop :=
  ∀ (s : State) (v : Word),
    (s.assay.up = true → s.assay.sealOpen = true → s.assay.seals < 4096 → s.assay.flashFault = false → ∃ t : State,
      exec (.setTime .cal v) s = .next t ∧ t.assay.rtc = v.toNat ∧ t.assay.seals = s.assay.seals + 1 ∧ t.assay.tsSeq = s.assay.tsSeq ∧
      t.assay.sets = s.assay.sets ∧ t.assay.kTime = s.assay.kTime ∧ t.assay.eIn = s.assay.eIn ∧ t.assay.eOut = s.assay.eOut) ∧
    (s.assay.sealOpen = false → exec (.setTime .cal v) s = .next s)

/-- O59. A write to CLERK_ERR_ACK clears the primary error and the secondary count of its origin, and the next error latches
afresh. Formalises R494. -/
def Obligations.AcknowledgementClearsErrors : Prop :=
  ∀ (s : State) (road : Road) (v : Word), s.blk.roadStops road R.CLERK_ERR_ACK = none → ∃ b : Block,
    exec (.errAck road v) s = s.next b ∧ (b.errBook (bitsOf v.toNat 12 8)).primary = 0 ∧ (b.errBook (bitsOf v.toNat 12 8)).secondary = 0 ∧
    (∀ o, o ≠ bitsOf v.toNat 12 8 → b.errBook o = s.blk.errBook o) ∧
    ((∀ e ∈ s.blk.clerk.errs, e.origin ≠ bitsOf v.toNat 12 8) → b = s.blk) ∧
    (∀ (w : Sev) (kind lane : Nat) (p : List Byte), w.code ≤ 3 → b.latch (bitsOf v.toNat 12 8) w false kind lane p =
      (b.setErr { origin := bitsOf v.toNat 12 8, valid := true, sev := w, kind := kind, lane := lane }).pulse { sev := w, origin := bitsOf v.toNat 12 8, src := 0, kind := kind, time := b.now, payload := padTo 16 p }) ∧
    (s.blk.roadStops .hitch R.CLERK_ERR_ACK = none) ∧ (s.blk.creoshUp = true → s.blk.roadStops .creosh R.CLERK_ERR_ACK = none) ∧
    (s.blk.pcieDown = false → s.blk.roadStops .bar0 R.CLERK_ERR_ACK = none)

/-- O60. No command outside the Assay die changes it, and what a command does to it depends on it and not on the rest of the
device. From R10, R471, R487. -/
def Obligations.AssayDieIsItsOwn : Prop :=
  (∀ (c : Instr) (s t : State), ofAssayDie c = false → exec c s = .next t → t.assay = s.assay) ∧
  (∀ (c : Instr) (s s' t t' : State), throughHatch c = false → s.assay = s'.assay → exec c s = .next t → exec c s' = .next t' →
    t.assay = t'.assay)
end

