-- ==== Sys2Proof/Laws/Maps.lean ====
section
/-! SUPPORT. Sparse maps and byte memories: what put, del and writeBytes do to a read, and that they keep the canonical form. -/

namespace Sys2Proof.Machine

variable {α : Type}

theorem look_del_same (m : List (Nat × α)) (k : Nat) (d : α) : look (del m k) k d = d := by
  induction m with
  | nil => rfl
  | cons p t ih =>
    obtain ⟨k', v⟩ := p
    by_cases h : k' = k <;> simp [del, look, h, ih]

theorem look_del_other (m : List (Nat × α)) {k j : Nat} (d : α) (h : j ≠ k) : look (del m k) j d = look m j d := by
  induction m with
  | nil => rfl
  | cons p t ih =>
    obtain ⟨k', v⟩ := p
    by_cases hk : k' = k
    · subst hk; simp [del, look, ih, Ne.symm h]
    · by_cases hj : k' = j
      · subst hj; simp [del, look, hk]
      · simp [del, look, hk, hj, ih]

theorem look_ins_same (m : List (Nat × α)) (k : Nat) (v d : α) (h : ∀ p ∈ m, p.1 ≠ k) : look (ins m k v) k d = v := by
  induction m with
  | nil => simp [ins, look]
  | cons p t ih =>
    obtain ⟨k', v'⟩ := p
    have h1 : k' ≠ k := h (k', v') (by simp)
    by_cases hk : k < k'
    · simp [ins, look, hk]
    · simp [ins, look, hk, h1, ih (fun q hq => h q (by simp [hq]))]

theorem look_ins_other (m : List (Nat × α)) {k j : Nat} (v d : α) (h : j ≠ k) : look (ins m k v) j d = look m j d := by
  induction m with
  | nil => simp [ins, look, Ne.symm h]
  | cons p t ih =>
    obtain ⟨k', v'⟩ := p
    by_cases hk : k < k'
    · simp [ins, look, hk, Ne.symm h]
    · by_cases hj : k' = j
      · subst hj; simp [ins, look, hk]
      · simp [ins, look, hk, hj, ih]

theorem del_no_key (m : List (Nat × α)) (k : Nat) : ∀ p ∈ del m k, p.1 ≠ k := by
  induction m with
  | nil => simp [del]
  | cons p t ih =>
    obtain ⟨k', v⟩ := p
    by_cases h : k' = k
    · simpa [del, h] using ih
    · intro q hq
      simp only [del, h, if_false, List.mem_cons] at hq
      rcases hq with rfl | hq
      · exact h
      · exact ih q hq

/-- A read at the key just written. -/
@[simp] theorem look_put_same [DecidableEq α] (m : List (Nat × α)) (k : Nat) (v d : α) : look (put m k v d) k d = v := by
  unfold put
  split
  · rename_i h; subst h; exact look_del_same ..
  · exact look_ins_same _ _ _ _ (del_no_key m k)

/-- A read at another key. -/
theorem look_put_other [DecidableEq α] (m : List (Nat × α)) {k j : Nat} (v d e : α) (h : j ≠ k) : look (put m k v d) j e = look m j e := by
  unfold put
  split
  · exact look_del_other m e h
  · rw [look_ins_other _ _ _ h, look_del_other m e h]

/-- Every key of the map lies at or above k. -/
def keysFrom (m : List (Nat × α)) (k : Nat) : Prop := ∀ p ∈ m, k ≤ p.1

theorem mapWf_cons [DecidableEq α] (k : Nat) (v d : α) (t : List (Nat × α)) :
    mapWf ((k, v) :: t) d = true ↔ v ≠ d ∧ keysFrom t (k + 1) ∧ mapWf t d = true := by
  induction t generalizing k v with
  | nil => simp [mapWf, keysFrom]
  | cons p t ih =>
    obtain ⟨k', v'⟩ := p
    constructor
    · intro h
      simp only [mapWf, Bool.and_eq_true, decide_eq_true_eq] at h
      refine ⟨h.1.1, ?_, by simp only [mapWf, Bool.and_eq_true, decide_eq_true_eq]; exact h.2⟩
      have h2 : mapWf ((k', v') :: t) d = true := by simp only [mapWf, Bool.and_eq_true, decide_eq_true_eq]; exact h.2
      have h3 := ((ih k' v').1 h2).2.1
      intro q hq
      rcases List.mem_cons.1 hq with rfl | hq
      · exact h.1.2
      · exact Nat.le_trans (by omega) (h3 q hq)
    · rintro ⟨h1, h2, h3⟩
      simp only [mapWf, Bool.and_eq_true, decide_eq_true_eq] at h3 ⊢
      exact ⟨⟨h1, h2 (k', v') (by simp)⟩, h3⟩

theorem keysFrom_del (m : List (Nat × α)) (k j : Nat) (h : keysFrom m j) : keysFrom (del m k) j := by
  induction m with
  | nil => simp [del, keysFrom]
  | cons p t ih =>
    obtain ⟨k', v⟩ := p
    have ht : keysFrom t j := fun q hq => h q (by simp [hq])
    by_cases hk : k' = k
    · simpa [del, hk] using ih ht
    · intro q hq
      simp only [del, hk, if_false, List.mem_cons] at hq
      rcases hq with rfl | hq
      · exact h (k', v) (by simp)
      · exact ih ht q hq

theorem keysFrom_ins (m : List (Nat × α)) (k : Nat) (v : α) (j : Nat) (h : keysFrom m j) (hk : j ≤ k) :
    keysFrom (ins m k v) j := by
  induction m with
  | nil => simpa [ins, keysFrom] using hk
  | cons p t ih =>
    obtain ⟨k', v'⟩ := p
    have ht : keysFrom t j := fun q hq => h q (by simp [hq])
    by_cases hl : k < k'
    · intro q hq
      simp only [ins, hl, if_true, List.mem_cons] at hq
      rcases hq with rfl | hq
      · exact hk
      · exact h q (by simpa using hq)
    · intro q hq
      simp only [ins, hl, if_false, List.mem_cons] at hq
      rcases hq with rfl | hq
      · exact h (k', v') (by simp)
      · exact ih ht q hq

theorem mapWf_del [DecidableEq α] (m : List (Nat × α)) (k : Nat) (d : α) (h : mapWf m d = true) : mapWf (del m k) d = true := by
  induction m with
  | nil => rfl
  | cons p t ih =>
    obtain ⟨k', v⟩ := p
    have h' := (mapWf_cons k' v d t).1 h
    by_cases hk : k' = k
    · simpa [del, hk] using ih h'.2.2
    · simp only [del, hk, if_false]
      exact (mapWf_cons ..).2 ⟨h'.1, keysFrom_del t k _ h'.2.1, ih h'.2.2⟩

theorem mapWf_ins [DecidableEq α] (m : List (Nat × α)) (k : Nat) (v d : α) (h : mapWf m d = true) (hv : v ≠ d) (hk : ∀ p ∈ m, p.1 ≠ k) :
    mapWf (ins m k v) d = true := by
  induction m with
  | nil => simp [ins, mapWf, hv]
  | cons p t ih =>
    obtain ⟨k', v'⟩ := p
    have h' := (mapWf_cons k' v' d t).1 h
    have hne : k' ≠ k := hk (k', v') (by simp)
    by_cases hl : k < k'
    · simp only [ins, hl, if_true]
      refine (mapWf_cons ..).2 ⟨hv, ?_, h⟩
      intro q hq
      rcases List.mem_cons.1 hq with rfl | hq
      · exact hl
      · have := h'.2.1 q hq; omega
    · simp only [ins, hl, if_false]
      exact (mapWf_cons ..).2 ⟨h'.1, keysFrom_ins t k v _ h'.2.1 (by omega), ih h'.2.2 (fun q hq => hk q (by simp [hq]))⟩

/-- A write keeps the canonical form. -/
theorem mapWf_put [DecidableEq α] (m : List (Nat × α)) (k : Nat) (v d : α) (h : mapWf m d = true) : mapWf (put m k v d) d = true := by
  unfold put
  split
  · exact mapWf_del m k d h
  · rename_i hv; exact mapWf_ins _ _ _ _ (mapWf_del m k d h) hv (del_no_key m k)

theorem mapWf_filter [DecidableEq α] (m : List (Nat × α)) (p : Nat × α → Bool) (d : α) (h : mapWf m d = true) : mapWf (m.filter p) d = true := by
  induction m with
  | nil => rfl
  | cons q t ih =>
    obtain ⟨k, v⟩ := q
    have h' := (mapWf_cons k v d t).1 h
    by_cases hp : p (k, v)
    · rw [List.filter_cons_of_pos hp]
      exact (mapWf_cons ..).2 ⟨h'.1, fun q hq => h'.2.1 q (List.mem_of_mem_filter hq), ih h'.2.2⟩
    · rw [List.filter_cons_of_neg hp]; exact ih h'.2.2

theorem look_filter (m : List (Nat × α)) (p : Nat → Bool) (k : Nat) (d : α) :
    look (m.filter (fun q => p q.1)) k d = if p k then look m k d else d := by
  induction m with
  | nil => simp [look]
  | cons q t ih =>
    obtain ⟨k', v⟩ := q
    by_cases hp : p k'
    · rw [List.filter_cons_of_pos (by simpa using hp)]
      by_cases hk : k' = k
      · subst hk; simp [look, hp]
      · simp [look, hk, ih]
    · rw [List.filter_cons_of_neg (by simpa using hp)]
      by_cases hk : k' = k
      · subst hk; simp [hp, ih]
      · simp [look, hk, ih]

/-! ### Byte memories -/

/-- A byte outside those written reads as before. -/
theorem look_writeBytes_other (m : List Host.Cell) (d : Byte) (a : Nat) (bs : List Byte) (j : Nat)
    (h : j < a ∨ a + bs.length ≤ j) : look (writeBytes m d a bs) j d = look m j d := by
  induction bs generalizing m a with
  | nil => rfl
  | cons v t ih =>
    simp only [List.length_cons] at h
    rw [writeBytes, ih _ _ (by omega), look_put_other _ _ _ _ (by omega)]

/-- The bytes written read back. -/
theorem readBytes_writeBytes (m : List Host.Cell) (d : Byte) (a : Nat) (bs : List Byte) :
    readBytes (writeBytes m d a bs) d a bs.length = bs := by
  induction bs generalizing m a with
  | nil => rfl
  | cons v t ih =>
    simp only [List.length_cons, readBytes, writeBytes]
    rw [look_writeBytes_other _ _ _ _ _ (by omega), look_put_same, ih]

theorem readLE_eq (m : List Host.Cell) (d : Byte) (a n : Nat) : readLE m d a n = natLE (readBytes m d a n) := by
  induction n generalizing a with
  | zero => rfl
  | succ n ih => simp [readLE, readBytes, natLE, ih]

theorem natLE_bytesLE (n v : Nat) : natLE (bytesLE n v) = v % 2 ^ (8 * n) := by
  induction n generalizing v with
  | zero => simp [bytesLE, natLE, Nat.mod_one]
  | succ n ih =>
    rw [bytesLE, natLE, ih, BitVec.toNat_ofNat, show 8 * (n + 1) = 8 + 8 * n by omega, Nat.pow_add, Nat.mod_mul]

theorem length_bytesLE (n v : Nat) : (bytesLE n v).length = n := by
  induction n generalizing v with
  | zero => rfl
  | succ n ih => simp [bytesLE, ih]

/-- A number written little-endian reads back, cut to its width. -/
theorem readLE_writeBytes (m : List Host.Cell) (d : Byte) (a n v : Nat) :
    readLE (writeBytes m d a (bytesLE n v)) d a n = v % 2 ^ (8 * n) := by
  have h := readBytes_writeBytes m d a (bytesLE n v)
  rw [length_bytesLE] at h
  rw [readLE_eq, h, natLE_bytesLE]

/-- A number read outside the bytes written is as before. -/
theorem readLE_writeBytes_other (m : List Host.Cell) (d : Byte) (a : Nat) (bs : List Byte) (j n : Nat)
    (h : j + n ≤ a ∨ a + bs.length ≤ j) : readLE (writeBytes m d a bs) d j n = readLE m d j n := by
  induction n generalizing j with
  | zero => rfl
  | succ n ih => rw [readLE, readLE, look_writeBytes_other _ _ _ _ _ (by omega), ih _ (by omega)]

/-- Every memory operation keeps the canonical form. -/
theorem Memory.wf_writeBytes (m : List Host.Cell) (d : Byte) (a : Nat) (bs : List Byte) (h : Memory.wf m d = true) :
    Memory.wf (writeBytes m d a bs) d = true := by
  induction bs generalizing m a with
  | nil => exact h
  | cons v t ih => exact ih _ _ (mapWf_put m a v d h)

theorem Memory.wf_clearRange (m : List Host.Cell) (d : Byte) (a n : Nat) (h : Memory.wf m d = true) :
    Memory.wf (clearRange m a n) d = true := mapWf_filter _ _ _ h

theorem Memory.wf_setTab (b : Block) (a n v : Nat) (h : Memory.wf b.tabs 0 = true) : Memory.wf (b.setTab a n v).tabs 0 = true :=
  Memory.wf_writeBytes _ _ _ _ h

theorem Memory.wf_setTabBytes (b : Block) (a : Nat) (bs : List Byte) (h : Memory.wf b.tabs 0 = true) :
    Memory.wf (b.setTabBytes a bs).tabs 0 = true := Memory.wf_writeBytes _ _ _ _ h

theorem Memory.wf_setRam (b : Block) (a n v : Nat) (h : Memory.wf b.dram 0 = true) : Memory.wf (b.setRam a n v).dram 0 = true :=
  Memory.wf_writeBytes _ _ _ _ h

theorem Memory.wf_norProgram (b : Block) (a : Nat) (bs : List Byte) (h : Memory.wf b.ost.nor 0xFF = true) :
    Memory.wf (b.norProgram a bs).ost.nor 0xFF = true := Memory.wf_writeBytes _ _ _ _ h

theorem Memory.wf_norErase (b : Block) (a n : Nat) (h : Memory.wf b.ost.nor 0xFF = true) :
    Memory.wf (b.norErase a n).ost.nor 0xFF = true := Memory.wf_clearRange _ _ _ _ h

/-- The memories of the reset state are canonical. -/
theorem Memory.wf_reset : Memory.wf State.reset.blk.tabs 0 = true ∧ Memory.wf State.reset.blk.dram 0 = true ∧
    Memory.wf State.reset.blk.ost.nor 0xFF = true := by decide

end Sys2Proof.Machine
end

