-- ==== Sys2Proof/Laws/State.lean ====
section
/-! SUPPORT. One lemma per field per update of the state, so that no proof unfolds a record update. -/

namespace Sys2Proof.Machine

variable (b : Block) (s : State)

/-! ### State -/

@[simp] theorem State.next_eq : s.next b = .next { s with blk := b } := rfl
@[simp] theorem State.onBlk_blk (f : Block → Block) : (s.onBlk f).blk = f s.blk := rfl
@[simp] theorem State.onBlk_fuse (f : Block → Block) : (s.onBlk f).fuse = s.fuse := rfl
@[simp] theorem State.onBlk_assay (f : Block → Block) : (s.onBlk f).assay = s.assay := rfl
@[simp] theorem State.onBlk_pending (f : Block → Block) : (s.onBlk f).pending = s.pending := rfl

/-! ### Parts of the block -/

@[simp] theorem Block.updCart_cart (f : Carter → Carter) : (b.updCart f).cart = f b.cart := rfl
@[simp] theorem Block.updCart_regs (f : Carter → Carter) : (b.updCart f).regs = b.regs := rfl
@[simp] theorem Block.updCart_counts (f : Carter → Carter) : (b.updCart f).counts = b.counts := rfl
@[simp] theorem Block.updCart_tabs (f : Carter → Carter) : (b.updCart f).tabs = b.tabs := rfl
@[simp] theorem Block.updCart_dram (f : Carter → Carter) : (b.updCart f).dram = b.dram := rfl
@[simp] theorem Block.updCart_time (f : Carter → Carter) : (b.updCart f).time = b.time := rfl
@[simp] theorem Block.updCart_clerk (f : Carter → Carter) : (b.updCart f).clerk = b.clerk := rfl
@[simp] theorem Block.updCart_ost (f : Carter → Carter) : (b.updCart f).ost = b.ost := rfl
@[simp] theorem Block.updCart_lock (f : Carter → Carter) : (b.updCart f).lock = b.lock := rfl
@[simp] theorem Block.updCart_host (f : Carter → Carter) : (b.updCart f).host = b.host := rfl
@[simp] theorem Block.updCart_creosh (f : Carter → Carter) : (b.updCart f).creosh = b.creosh := rfl
@[simp] theorem Block.updCart_watch (f : Carter → Carter) : (b.updCart f).watch = b.watch := rfl
@[simp] theorem Block.updCart_sec (f : Carter → Carter) : (b.updCart f).sec = b.sec := rfl
@[simp] theorem Block.updCart_flash (f : Carter → Carter) : (b.updCart f).flash = b.flash := rfl
@[simp] theorem Block.updCart_out (f : Carter → Carter) : (b.updCart f).out = b.out := rfl
@[simp] theorem Block.updCart_free (f : Carter → Carter) : (b.updCart f).free = b.free := rfl
@[simp] theorem Block.updFlash_flash (f : Flash → Flash) : (b.updFlash f).flash = f b.flash := rfl
@[simp] theorem Block.updFlash_regs (f : Flash → Flash) : (b.updFlash f).regs = b.regs := rfl
@[simp] theorem Block.updFlash_counts (f : Flash → Flash) : (b.updFlash f).counts = b.counts := rfl
@[simp] theorem Block.updFlash_tabs (f : Flash → Flash) : (b.updFlash f).tabs = b.tabs := rfl
@[simp] theorem Block.updFlash_dram (f : Flash → Flash) : (b.updFlash f).dram = b.dram := rfl
@[simp] theorem Block.updFlash_time (f : Flash → Flash) : (b.updFlash f).time = b.time := rfl
@[simp] theorem Block.updFlash_clerk (f : Flash → Flash) : (b.updFlash f).clerk = b.clerk := rfl
@[simp] theorem Block.updFlash_ost (f : Flash → Flash) : (b.updFlash f).ost = b.ost := rfl
@[simp] theorem Block.updFlash_cart (f : Flash → Flash) : (b.updFlash f).cart = b.cart := rfl
@[simp] theorem Block.updFlash_lock (f : Flash → Flash) : (b.updFlash f).lock = b.lock := rfl
@[simp] theorem Block.updFlash_host (f : Flash → Flash) : (b.updFlash f).host = b.host := rfl
@[simp] theorem Block.updFlash_creosh (f : Flash → Flash) : (b.updFlash f).creosh = b.creosh := rfl
@[simp] theorem Block.updFlash_watch (f : Flash → Flash) : (b.updFlash f).watch = b.watch := rfl
@[simp] theorem Block.updFlash_sec (f : Flash → Flash) : (b.updFlash f).sec = b.sec := rfl
@[simp] theorem Block.updFlash_out (f : Flash → Flash) : (b.updFlash f).out = b.out := rfl
@[simp] theorem Block.updFlash_free (f : Flash → Flash) : (b.updFlash f).free = b.free := rfl
@[simp] theorem Block.updLock_lock (f : Lock → Lock) : (b.updLock f).lock = f b.lock := rfl
@[simp] theorem Block.updLock_regs (f : Lock → Lock) : (b.updLock f).regs = b.regs := rfl
@[simp] theorem Block.updLock_counts (f : Lock → Lock) : (b.updLock f).counts = b.counts := rfl
@[simp] theorem Block.updLock_tabs (f : Lock → Lock) : (b.updLock f).tabs = b.tabs := rfl
@[simp] theorem Block.updLock_dram (f : Lock → Lock) : (b.updLock f).dram = b.dram := rfl
@[simp] theorem Block.updLock_time (f : Lock → Lock) : (b.updLock f).time = b.time := rfl
@[simp] theorem Block.updLock_clerk (f : Lock → Lock) : (b.updLock f).clerk = b.clerk := rfl
@[simp] theorem Block.updLock_ost (f : Lock → Lock) : (b.updLock f).ost = b.ost := rfl
@[simp] theorem Block.updLock_cart (f : Lock → Lock) : (b.updLock f).cart = b.cart := rfl
@[simp] theorem Block.updLock_host (f : Lock → Lock) : (b.updLock f).host = b.host := rfl
@[simp] theorem Block.updLock_creosh (f : Lock → Lock) : (b.updLock f).creosh = b.creosh := rfl
@[simp] theorem Block.updLock_watch (f : Lock → Lock) : (b.updLock f).watch = b.watch := rfl
@[simp] theorem Block.updLock_sec (f : Lock → Lock) : (b.updLock f).sec = b.sec := rfl
@[simp] theorem Block.updLock_flash (f : Lock → Lock) : (b.updLock f).flash = b.flash := rfl
@[simp] theorem Block.updLock_out (f : Lock → Lock) : (b.updLock f).out = b.out := rfl
@[simp] theorem Block.updLock_free (f : Lock → Lock) : (b.updLock f).free = b.free := rfl
@[simp] theorem Block.updPost_post (f : Post → Post) : (b.updPost f).post = f b.post := rfl
@[simp] theorem Block.updPost_regs (f : Post → Post) : (b.updPost f).regs = b.regs := rfl
@[simp] theorem Block.updPost_counts (f : Post → Post) : (b.updPost f).counts = b.counts := rfl
@[simp] theorem Block.updPost_tabs (f : Post → Post) : (b.updPost f).tabs = b.tabs := rfl
@[simp] theorem Block.updPost_dram (f : Post → Post) : (b.updPost f).dram = b.dram := rfl
@[simp] theorem Block.updPost_time (f : Post → Post) : (b.updPost f).time = b.time := rfl
@[simp] theorem Block.updPost_clerk (f : Post → Post) : (b.updPost f).clerk = b.clerk := rfl
@[simp] theorem Block.updPost_ost (f : Post → Post) : (b.updPost f).ost = b.ost := rfl
@[simp] theorem Block.updPost_cart (f : Post → Post) : (b.updPost f).cart = b.cart := rfl
@[simp] theorem Block.updPost_lock (f : Post → Post) : (b.updPost f).lock = b.lock := rfl
@[simp] theorem Block.updPost_host (f : Post → Post) : (b.updPost f).host = b.host := rfl
@[simp] theorem Block.updPost_creosh (f : Post → Post) : (b.updPost f).creosh = b.creosh := rfl
@[simp] theorem Block.updPost_watch (f : Post → Post) : (b.updPost f).watch = b.watch := rfl
@[simp] theorem Block.updPost_sec (f : Post → Post) : (b.updPost f).sec = b.sec := rfl
@[simp] theorem Block.updPost_flash (f : Post → Post) : (b.updPost f).flash = b.flash := rfl
@[simp] theorem Block.updPost_out (f : Post → Post) : (b.updPost f).out = b.out := rfl
@[simp] theorem Block.updPost_free (f : Post → Post) : (b.updPost f).free = b.free := rfl
@[simp] theorem Block.updSec_sec (f : Sec → Sec) : (b.updSec f).sec = f b.sec := rfl
@[simp] theorem Block.updSec_regs (f : Sec → Sec) : (b.updSec f).regs = b.regs := rfl
@[simp] theorem Block.updSec_counts (f : Sec → Sec) : (b.updSec f).counts = b.counts := rfl
@[simp] theorem Block.updSec_tabs (f : Sec → Sec) : (b.updSec f).tabs = b.tabs := rfl
@[simp] theorem Block.updSec_dram (f : Sec → Sec) : (b.updSec f).dram = b.dram := rfl
@[simp] theorem Block.updSec_time (f : Sec → Sec) : (b.updSec f).time = b.time := rfl
@[simp] theorem Block.updSec_clerk (f : Sec → Sec) : (b.updSec f).clerk = b.clerk := rfl
@[simp] theorem Block.updSec_ost (f : Sec → Sec) : (b.updSec f).ost = b.ost := rfl
@[simp] theorem Block.updSec_cart (f : Sec → Sec) : (b.updSec f).cart = b.cart := rfl
@[simp] theorem Block.updSec_lock (f : Sec → Sec) : (b.updSec f).lock = b.lock := rfl
@[simp] theorem Block.updSec_host (f : Sec → Sec) : (b.updSec f).host = b.host := rfl
@[simp] theorem Block.updSec_creosh (f : Sec → Sec) : (b.updSec f).creosh = b.creosh := rfl
@[simp] theorem Block.updSec_watch (f : Sec → Sec) : (b.updSec f).watch = b.watch := rfl
@[simp] theorem Block.updSec_flash (f : Sec → Sec) : (b.updSec f).flash = b.flash := rfl
@[simp] theorem Block.updSec_out (f : Sec → Sec) : (b.updSec f).out = b.out := rfl
@[simp] theorem Block.updSec_free (f : Sec → Sec) : (b.updSec f).free = b.free := rfl
@[simp] theorem Block.updCreosh_creosh (f : Creosh → Creosh) : (b.updCreosh f).creosh = f b.creosh := rfl
@[simp] theorem Block.updCreosh_regs (f : Creosh → Creosh) : (b.updCreosh f).regs = b.regs := rfl
@[simp] theorem Block.updCreosh_counts (f : Creosh → Creosh) : (b.updCreosh f).counts = b.counts := rfl
@[simp] theorem Block.updCreosh_tabs (f : Creosh → Creosh) : (b.updCreosh f).tabs = b.tabs := rfl
@[simp] theorem Block.updCreosh_dram (f : Creosh → Creosh) : (b.updCreosh f).dram = b.dram := rfl
@[simp] theorem Block.updCreosh_time (f : Creosh → Creosh) : (b.updCreosh f).time = b.time := rfl
@[simp] theorem Block.updCreosh_clerk (f : Creosh → Creosh) : (b.updCreosh f).clerk = b.clerk := rfl
@[simp] theorem Block.updCreosh_ost (f : Creosh → Creosh) : (b.updCreosh f).ost = b.ost := rfl
@[simp] theorem Block.updCreosh_cart (f : Creosh → Creosh) : (b.updCreosh f).cart = b.cart := rfl
@[simp] theorem Block.updCreosh_lock (f : Creosh → Creosh) : (b.updCreosh f).lock = b.lock := rfl
@[simp] theorem Block.updCreosh_host (f : Creosh → Creosh) : (b.updCreosh f).host = b.host := rfl
@[simp] theorem Block.updCreosh_watch (f : Creosh → Creosh) : (b.updCreosh f).watch = b.watch := rfl
@[simp] theorem Block.updCreosh_sec (f : Creosh → Creosh) : (b.updCreosh f).sec = b.sec := rfl
@[simp] theorem Block.updCreosh_flash (f : Creosh → Creosh) : (b.updCreosh f).flash = b.flash := rfl
@[simp] theorem Block.updCreosh_out (f : Creosh → Creosh) : (b.updCreosh f).out = b.out := rfl
@[simp] theorem Block.updCreosh_free (f : Creosh → Creosh) : (b.updCreosh f).free = b.free := rfl
@[simp] theorem Block.updOst_ost (f : Ostler → Ostler) : (b.updOst f).ost = f b.ost := rfl
@[simp] theorem Block.updOst_regs (f : Ostler → Ostler) : (b.updOst f).regs = b.regs := rfl
@[simp] theorem Block.updOst_counts (f : Ostler → Ostler) : (b.updOst f).counts = b.counts := rfl
@[simp] theorem Block.updOst_tabs (f : Ostler → Ostler) : (b.updOst f).tabs = b.tabs := rfl
@[simp] theorem Block.updOst_dram (f : Ostler → Ostler) : (b.updOst f).dram = b.dram := rfl
@[simp] theorem Block.updOst_time (f : Ostler → Ostler) : (b.updOst f).time = b.time := rfl
@[simp] theorem Block.updOst_clerk (f : Ostler → Ostler) : (b.updOst f).clerk = b.clerk := rfl
@[simp] theorem Block.updOst_cart (f : Ostler → Ostler) : (b.updOst f).cart = b.cart := rfl
@[simp] theorem Block.updOst_lock (f : Ostler → Ostler) : (b.updOst f).lock = b.lock := rfl
@[simp] theorem Block.updOst_host (f : Ostler → Ostler) : (b.updOst f).host = b.host := rfl
@[simp] theorem Block.updOst_creosh (f : Ostler → Ostler) : (b.updOst f).creosh = b.creosh := rfl
@[simp] theorem Block.updOst_watch (f : Ostler → Ostler) : (b.updOst f).watch = b.watch := rfl
@[simp] theorem Block.updOst_sec (f : Ostler → Ostler) : (b.updOst f).sec = b.sec := rfl
@[simp] theorem Block.updOst_flash (f : Ostler → Ostler) : (b.updOst f).flash = b.flash := rfl
@[simp] theorem Block.updOst_out (f : Ostler → Ostler) : (b.updOst f).out = b.out := rfl
@[simp] theorem Block.updOst_free (f : Ostler → Ostler) : (b.updOst f).free = b.free := rfl
@[simp] theorem Block.updWatch_watch (f : Watch → Watch) : (b.updWatch f).watch = f b.watch := rfl
@[simp] theorem Block.updWatch_regs (f : Watch → Watch) : (b.updWatch f).regs = b.regs := rfl
@[simp] theorem Block.updWatch_counts (f : Watch → Watch) : (b.updWatch f).counts = b.counts := rfl
@[simp] theorem Block.updWatch_tabs (f : Watch → Watch) : (b.updWatch f).tabs = b.tabs := rfl
@[simp] theorem Block.updWatch_dram (f : Watch → Watch) : (b.updWatch f).dram = b.dram := rfl
@[simp] theorem Block.updWatch_time (f : Watch → Watch) : (b.updWatch f).time = b.time := rfl
@[simp] theorem Block.updWatch_clerk (f : Watch → Watch) : (b.updWatch f).clerk = b.clerk := rfl
@[simp] theorem Block.updWatch_ost (f : Watch → Watch) : (b.updWatch f).ost = b.ost := rfl
@[simp] theorem Block.updWatch_cart (f : Watch → Watch) : (b.updWatch f).cart = b.cart := rfl
@[simp] theorem Block.updWatch_lock (f : Watch → Watch) : (b.updWatch f).lock = b.lock := rfl
@[simp] theorem Block.updWatch_host (f : Watch → Watch) : (b.updWatch f).host = b.host := rfl
@[simp] theorem Block.updWatch_creosh (f : Watch → Watch) : (b.updWatch f).creosh = b.creosh := rfl
@[simp] theorem Block.updWatch_sec (f : Watch → Watch) : (b.updWatch f).sec = b.sec := rfl
@[simp] theorem Block.updWatch_flash (f : Watch → Watch) : (b.updWatch f).flash = b.flash := rfl
@[simp] theorem Block.updWatch_out (f : Watch → Watch) : (b.updWatch f).out = b.out := rfl
@[simp] theorem Block.updWatch_free (f : Watch → Watch) : (b.updWatch f).free = b.free := rfl
@[simp] theorem Block.updAvs_avs (f : Avs → Avs) : (b.updAvs f).avs = f b.avs := rfl
@[simp] theorem Block.updAvs_regs (f : Avs → Avs) : (b.updAvs f).regs = b.regs := rfl
@[simp] theorem Block.updAvs_counts (f : Avs → Avs) : (b.updAvs f).counts = b.counts := rfl
@[simp] theorem Block.updAvs_tabs (f : Avs → Avs) : (b.updAvs f).tabs = b.tabs := rfl
@[simp] theorem Block.updAvs_dram (f : Avs → Avs) : (b.updAvs f).dram = b.dram := rfl
@[simp] theorem Block.updAvs_time (f : Avs → Avs) : (b.updAvs f).time = b.time := rfl
@[simp] theorem Block.updAvs_clerk (f : Avs → Avs) : (b.updAvs f).clerk = b.clerk := rfl
@[simp] theorem Block.updAvs_ost (f : Avs → Avs) : (b.updAvs f).ost = b.ost := rfl
@[simp] theorem Block.updAvs_cart (f : Avs → Avs) : (b.updAvs f).cart = b.cart := rfl
@[simp] theorem Block.updAvs_lock (f : Avs → Avs) : (b.updAvs f).lock = b.lock := rfl
@[simp] theorem Block.updAvs_host (f : Avs → Avs) : (b.updAvs f).host = b.host := rfl
@[simp] theorem Block.updAvs_creosh (f : Avs → Avs) : (b.updAvs f).creosh = b.creosh := rfl
@[simp] theorem Block.updAvs_watch (f : Avs → Avs) : (b.updAvs f).watch = b.watch := rfl
@[simp] theorem Block.updAvs_sec (f : Avs → Avs) : (b.updAvs f).sec = b.sec := rfl
@[simp] theorem Block.updAvs_flash (f : Avs → Avs) : (b.updAvs f).flash = b.flash := rfl
@[simp] theorem Block.updAvs_out (f : Avs → Avs) : (b.updAvs f).out = b.out := rfl
@[simp] theorem Block.updAvs_free (f : Avs → Avs) : (b.updAvs f).free = b.free := rfl
@[simp] theorem Block.updDrov_drov (f : Drover → Drover) : (b.updDrov f).drov = f b.drov := rfl
@[simp] theorem Block.updDrov_regs (f : Drover → Drover) : (b.updDrov f).regs = b.regs := rfl
@[simp] theorem Block.updDrov_counts (f : Drover → Drover) : (b.updDrov f).counts = b.counts := rfl
@[simp] theorem Block.updDrov_tabs (f : Drover → Drover) : (b.updDrov f).tabs = b.tabs := rfl
@[simp] theorem Block.updDrov_dram (f : Drover → Drover) : (b.updDrov f).dram = b.dram := rfl
@[simp] theorem Block.updDrov_time (f : Drover → Drover) : (b.updDrov f).time = b.time := rfl
@[simp] theorem Block.updDrov_clerk (f : Drover → Drover) : (b.updDrov f).clerk = b.clerk := rfl
@[simp] theorem Block.updDrov_ost (f : Drover → Drover) : (b.updDrov f).ost = b.ost := rfl
@[simp] theorem Block.updDrov_cart (f : Drover → Drover) : (b.updDrov f).cart = b.cart := rfl
@[simp] theorem Block.updDrov_lock (f : Drover → Drover) : (b.updDrov f).lock = b.lock := rfl
@[simp] theorem Block.updDrov_host (f : Drover → Drover) : (b.updDrov f).host = b.host := rfl
@[simp] theorem Block.updDrov_creosh (f : Drover → Drover) : (b.updDrov f).creosh = b.creosh := rfl
@[simp] theorem Block.updDrov_watch (f : Drover → Drover) : (b.updDrov f).watch = b.watch := rfl
@[simp] theorem Block.updDrov_sec (f : Drover → Drover) : (b.updDrov f).sec = b.sec := rfl
@[simp] theorem Block.updDrov_flash (f : Drover → Drover) : (b.updDrov f).flash = b.flash := rfl
@[simp] theorem Block.updDrov_out (f : Drover → Drover) : (b.updDrov f).out = b.out := rfl
@[simp] theorem Block.updDrov_free (f : Drover → Drover) : (b.updDrov f).free = b.free := rfl
@[simp] theorem Block.updMars_marshal (f : Marshal → Marshal) : (b.updMars f).marshal = f b.marshal := rfl
@[simp] theorem Block.updMars_regs (f : Marshal → Marshal) : (b.updMars f).regs = b.regs := rfl
@[simp] theorem Block.updMars_counts (f : Marshal → Marshal) : (b.updMars f).counts = b.counts := rfl
@[simp] theorem Block.updMars_tabs (f : Marshal → Marshal) : (b.updMars f).tabs = b.tabs := rfl
@[simp] theorem Block.updMars_dram (f : Marshal → Marshal) : (b.updMars f).dram = b.dram := rfl
@[simp] theorem Block.updMars_time (f : Marshal → Marshal) : (b.updMars f).time = b.time := rfl
@[simp] theorem Block.updMars_clerk (f : Marshal → Marshal) : (b.updMars f).clerk = b.clerk := rfl
@[simp] theorem Block.updMars_ost (f : Marshal → Marshal) : (b.updMars f).ost = b.ost := rfl
@[simp] theorem Block.updMars_cart (f : Marshal → Marshal) : (b.updMars f).cart = b.cart := rfl
@[simp] theorem Block.updMars_lock (f : Marshal → Marshal) : (b.updMars f).lock = b.lock := rfl
@[simp] theorem Block.updMars_host (f : Marshal → Marshal) : (b.updMars f).host = b.host := rfl
@[simp] theorem Block.updMars_creosh (f : Marshal → Marshal) : (b.updMars f).creosh = b.creosh := rfl
@[simp] theorem Block.updMars_watch (f : Marshal → Marshal) : (b.updMars f).watch = b.watch := rfl
@[simp] theorem Block.updMars_sec (f : Marshal → Marshal) : (b.updMars f).sec = b.sec := rfl
@[simp] theorem Block.updMars_flash (f : Marshal → Marshal) : (b.updMars f).flash = b.flash := rfl
@[simp] theorem Block.updMars_out (f : Marshal → Marshal) : (b.updMars f).out = b.out := rfl
@[simp] theorem Block.updMars_free (f : Marshal → Marshal) : (b.updMars f).free = b.free := rfl

/-! ### Registers, tables, DRAM, outputs, free values -/

@[simp] theorem Block.setTab_regs (a n v : Nat) : (b.setTab a n v).regs = b.regs := rfl
@[simp] theorem Block.setRam_regs (a n v : Nat) : (b.setRam a n v).regs = b.regs := rfl
@[simp] theorem Block.emit_regs (o : Output) : (b.emit o).regs = b.regs := rfl
@[simp] theorem Block.draw_regs : b.draw.2.regs = b.regs := rfl
@[simp] theorem Block.count_regs (c : CntSet) (n k : Nat) : (b.count c n k).regs = b.regs := by unfold Block.count; split <;> rfl
@[simp] theorem Block.set_counts (f : Fld) (v : Nat) : (b.set f v).counts = b.counts := rfl
@[simp] theorem Block.setB_counts (f : Fld) (v : Bool) : (b.setB f v).counts = b.counts := rfl
@[simp] theorem Block.setTab_counts (a n v : Nat) : (b.setTab a n v).counts = b.counts := rfl
@[simp] theorem Block.setRam_counts (a n v : Nat) : (b.setRam a n v).counts = b.counts := rfl
@[simp] theorem Block.emit_counts (o : Output) : (b.emit o).counts = b.counts := rfl
@[simp] theorem Block.draw_counts : b.draw.2.counts = b.counts := rfl
@[simp] theorem Block.set_tabs (f : Fld) (v : Nat) : (b.set f v).tabs = b.tabs := rfl
@[simp] theorem Block.setB_tabs (f : Fld) (v : Bool) : (b.setB f v).tabs = b.tabs := rfl
@[simp] theorem Block.setRam_tabs (a n v : Nat) : (b.setRam a n v).tabs = b.tabs := rfl
@[simp] theorem Block.emit_tabs (o : Output) : (b.emit o).tabs = b.tabs := rfl
@[simp] theorem Block.draw_tabs : b.draw.2.tabs = b.tabs := rfl
@[simp] theorem Block.count_tabs (c : CntSet) (n k : Nat) : (b.count c n k).tabs = b.tabs := by unfold Block.count; split <;> rfl
@[simp] theorem Block.set_dram (f : Fld) (v : Nat) : (b.set f v).dram = b.dram := rfl
@[simp] theorem Block.setB_dram (f : Fld) (v : Bool) : (b.setB f v).dram = b.dram := rfl
@[simp] theorem Block.setTab_dram (a n v : Nat) : (b.setTab a n v).dram = b.dram := rfl
@[simp] theorem Block.emit_dram (o : Output) : (b.emit o).dram = b.dram := rfl
@[simp] theorem Block.draw_dram : b.draw.2.dram = b.dram := rfl
@[simp] theorem Block.count_dram (c : CntSet) (n k : Nat) : (b.count c n k).dram = b.dram := by unfold Block.count; split <;> rfl
@[simp] theorem Block.set_time (f : Fld) (v : Nat) : (b.set f v).time = b.time := rfl
@[simp] theorem Block.setB_time (f : Fld) (v : Bool) : (b.setB f v).time = b.time := rfl
@[simp] theorem Block.setTab_time (a n v : Nat) : (b.setTab a n v).time = b.time := rfl
@[simp] theorem Block.setRam_time (a n v : Nat) : (b.setRam a n v).time = b.time := rfl
@[simp] theorem Block.emit_time (o : Output) : (b.emit o).time = b.time := rfl
@[simp] theorem Block.draw_time : b.draw.2.time = b.time := rfl
@[simp] theorem Block.count_time (c : CntSet) (n k : Nat) : (b.count c n k).time = b.time := by unfold Block.count; split <;> rfl
@[simp] theorem Block.set_clerk (f : Fld) (v : Nat) : (b.set f v).clerk = b.clerk := rfl
@[simp] theorem Block.setB_clerk (f : Fld) (v : Bool) : (b.setB f v).clerk = b.clerk := rfl
@[simp] theorem Block.setTab_clerk (a n v : Nat) : (b.setTab a n v).clerk = b.clerk := rfl
@[simp] theorem Block.setRam_clerk (a n v : Nat) : (b.setRam a n v).clerk = b.clerk := rfl
@[simp] theorem Block.emit_clerk (o : Output) : (b.emit o).clerk = b.clerk := rfl
@[simp] theorem Block.draw_clerk : b.draw.2.clerk = b.clerk := rfl
@[simp] theorem Block.count_clerk (c : CntSet) (n k : Nat) : (b.count c n k).clerk = b.clerk := by unfold Block.count; split <;> rfl
@[simp] theorem Block.set_ost (f : Fld) (v : Nat) : (b.set f v).ost = b.ost := rfl
@[simp] theorem Block.setB_ost (f : Fld) (v : Bool) : (b.setB f v).ost = b.ost := rfl
@[simp] theorem Block.setTab_ost (a n v : Nat) : (b.setTab a n v).ost = b.ost := rfl
@[simp] theorem Block.setRam_ost (a n v : Nat) : (b.setRam a n v).ost = b.ost := rfl
@[simp] theorem Block.emit_ost (o : Output) : (b.emit o).ost = b.ost := rfl
@[simp] theorem Block.draw_ost : b.draw.2.ost = b.ost := rfl
@[simp] theorem Block.count_ost (c : CntSet) (n k : Nat) : (b.count c n k).ost = b.ost := by unfold Block.count; split <;> rfl
@[simp] theorem Block.set_cart (f : Fld) (v : Nat) : (b.set f v).cart = b.cart := rfl
@[simp] theorem Block.setB_cart (f : Fld) (v : Bool) : (b.setB f v).cart = b.cart := rfl
@[simp] theorem Block.setTab_cart (a n v : Nat) : (b.setTab a n v).cart = b.cart := rfl
@[simp] theorem Block.setRam_cart (a n v : Nat) : (b.setRam a n v).cart = b.cart := rfl
@[simp] theorem Block.emit_cart (o : Output) : (b.emit o).cart = b.cart := rfl
@[simp] theorem Block.draw_cart : b.draw.2.cart = b.cart := rfl
@[simp] theorem Block.count_cart (c : CntSet) (n k : Nat) : (b.count c n k).cart = b.cart := by unfold Block.count; split <;> rfl
@[simp] theorem Block.set_lock (f : Fld) (v : Nat) : (b.set f v).lock = b.lock := rfl
@[simp] theorem Block.setB_lock (f : Fld) (v : Bool) : (b.setB f v).lock = b.lock := rfl
@[simp] theorem Block.setTab_lock (a n v : Nat) : (b.setTab a n v).lock = b.lock := rfl
@[simp] theorem Block.setRam_lock (a n v : Nat) : (b.setRam a n v).lock = b.lock := rfl
@[simp] theorem Block.emit_lock (o : Output) : (b.emit o).lock = b.lock := rfl
@[simp] theorem Block.draw_lock : b.draw.2.lock = b.lock := rfl
@[simp] theorem Block.count_lock (c : CntSet) (n k : Nat) : (b.count c n k).lock = b.lock := by unfold Block.count; split <;> rfl
@[simp] theorem Block.set_host (f : Fld) (v : Nat) : (b.set f v).host = b.host := rfl
@[simp] theorem Block.setB_host (f : Fld) (v : Bool) : (b.setB f v).host = b.host := rfl
@[simp] theorem Block.setTab_host (a n v : Nat) : (b.setTab a n v).host = b.host := rfl
@[simp] theorem Block.setRam_host (a n v : Nat) : (b.setRam a n v).host = b.host := rfl
@[simp] theorem Block.emit_host (o : Output) : (b.emit o).host = b.host := rfl
@[simp] theorem Block.draw_host : b.draw.2.host = b.host := rfl
@[simp] theorem Block.count_host (c : CntSet) (n k : Nat) : (b.count c n k).host = b.host := by unfold Block.count; split <;> rfl
@[simp] theorem Block.set_creosh (f : Fld) (v : Nat) : (b.set f v).creosh = b.creosh := rfl
@[simp] theorem Block.setB_creosh (f : Fld) (v : Bool) : (b.setB f v).creosh = b.creosh := rfl
@[simp] theorem Block.setTab_creosh (a n v : Nat) : (b.setTab a n v).creosh = b.creosh := rfl
@[simp] theorem Block.setRam_creosh (a n v : Nat) : (b.setRam a n v).creosh = b.creosh := rfl
@[simp] theorem Block.emit_creosh (o : Output) : (b.emit o).creosh = b.creosh := rfl
@[simp] theorem Block.draw_creosh : b.draw.2.creosh = b.creosh := rfl
@[simp] theorem Block.count_creosh (c : CntSet) (n k : Nat) : (b.count c n k).creosh = b.creosh := by unfold Block.count; split <;> rfl
@[simp] theorem Block.set_watch (f : Fld) (v : Nat) : (b.set f v).watch = b.watch := rfl
@[simp] theorem Block.setB_watch (f : Fld) (v : Bool) : (b.setB f v).watch = b.watch := rfl
@[simp] theorem Block.setTab_watch (a n v : Nat) : (b.setTab a n v).watch = b.watch := rfl
@[simp] theorem Block.setRam_watch (a n v : Nat) : (b.setRam a n v).watch = b.watch := rfl
@[simp] theorem Block.emit_watch (o : Output) : (b.emit o).watch = b.watch := rfl
@[simp] theorem Block.draw_watch : b.draw.2.watch = b.watch := rfl
@[simp] theorem Block.count_watch (c : CntSet) (n k : Nat) : (b.count c n k).watch = b.watch := by unfold Block.count; split <;> rfl
@[simp] theorem Block.set_sec (f : Fld) (v : Nat) : (b.set f v).sec = b.sec := rfl
@[simp] theorem Block.setB_sec (f : Fld) (v : Bool) : (b.setB f v).sec = b.sec := rfl
@[simp] theorem Block.setTab_sec (a n v : Nat) : (b.setTab a n v).sec = b.sec := rfl
@[simp] theorem Block.setRam_sec (a n v : Nat) : (b.setRam a n v).sec = b.sec := rfl
@[simp] theorem Block.emit_sec (o : Output) : (b.emit o).sec = b.sec := rfl
@[simp] theorem Block.draw_sec : b.draw.2.sec = b.sec := rfl
@[simp] theorem Block.count_sec (c : CntSet) (n k : Nat) : (b.count c n k).sec = b.sec := by unfold Block.count; split <;> rfl
@[simp] theorem Block.set_flash (f : Fld) (v : Nat) : (b.set f v).flash = b.flash := rfl
@[simp] theorem Block.setB_flash (f : Fld) (v : Bool) : (b.setB f v).flash = b.flash := rfl
@[simp] theorem Block.setTab_flash (a n v : Nat) : (b.setTab a n v).flash = b.flash := rfl
@[simp] theorem Block.setRam_flash (a n v : Nat) : (b.setRam a n v).flash = b.flash := rfl
@[simp] theorem Block.emit_flash (o : Output) : (b.emit o).flash = b.flash := rfl
@[simp] theorem Block.draw_flash : b.draw.2.flash = b.flash := rfl
@[simp] theorem Block.count_flash (c : CntSet) (n k : Nat) : (b.count c n k).flash = b.flash := by unfold Block.count; split <;> rfl
@[simp] theorem Block.set_out (f : Fld) (v : Nat) : (b.set f v).out = b.out := rfl
@[simp] theorem Block.setB_out (f : Fld) (v : Bool) : (b.setB f v).out = b.out := rfl
@[simp] theorem Block.setTab_out (a n v : Nat) : (b.setTab a n v).out = b.out := rfl
@[simp] theorem Block.setRam_out (a n v : Nat) : (b.setRam a n v).out = b.out := rfl
@[simp] theorem Block.draw_out : b.draw.2.out = b.out := rfl
@[simp] theorem Block.count_out (c : CntSet) (n k : Nat) : (b.count c n k).out = b.out := by unfold Block.count; split <;> rfl
@[simp] theorem Block.set_free (f : Fld) (v : Nat) : (b.set f v).free = b.free := rfl
@[simp] theorem Block.setB_free (f : Fld) (v : Bool) : (b.setB f v).free = b.free := rfl
@[simp] theorem Block.setTab_free (a n v : Nat) : (b.setTab a n v).free = b.free := rfl
@[simp] theorem Block.setRam_free (a n v : Nat) : (b.setRam a n v).free = b.free := rfl
@[simp] theorem Block.emit_free (o : Output) : (b.emit o).free = b.free := rfl
@[simp] theorem Block.count_free (c : CntSet) (n k : Nat) : (b.count c n k).free = b.free := by unfold Block.count; split <;> rfl
@[simp] theorem Block.emit_out (o : Output) : (b.emit o).out = o :: b.out := rfl

end Sys2Proof.Machine
end

