-- ==== Sys2Proof/Laws/Ops.lean ====
section
/-! SUPPORT. What the shared operations over registers, counters and roads can do. -/

namespace Sys2Proof.Machine

/-! ### Register fields -/

/-- A field reads back what was stored, cut to its width. -/
@[simp] theorem Block.get_set_same (b : Block) (f : Fld) (v : Nat) : (b.set f v).get f = v % 2 ^ f.width := by
  simp [Block.get, Block.set]

/-- Another field is unchanged. -/
theorem Block.get_set_other (b : Block) {f g : Fld} (v : Nat) (h : g.key ≠ f.key) : (b.set f v).get g = b.get g := by
  simp [Block.get, Block.set, look_put_other _ _ _ _ h]

/-- Fields depend on the registers alone. -/
theorem Block.get_congr {b c : Block} (h : c.regs = b.regs) (f : Fld) : c.get f = b.get f := by simp [Block.get, h]

/-- A count leaves every field. -/
@[simp] theorem Block.get_count (b : Block) (c : CntSet) (n k : Nat) (f : Fld) : (b.count c n k).get f = b.get f :=
  Block.get_congr (by simp) f

/-! ### Counters -/

/-- A counter that stands still is unchanged. -/
theorem Block.count_frozen (b : Block) (c : CntSet) (n k : Nat) (h : b.on (cntFreeze c) = true) : b.count c n k = b := by
  simp [Block.count, h]

/-- A counter that runs moves on by k, modulo 2^32. -/
theorem Block.cnt_count (b : Block) (c : CntSet) (n k : Nat) (h : b.on (cntFreeze c) = false) :
    (b.count c n k).cnt c n = (b.cnt c n + k) % 2 ^ 32 := by
  simp [Block.count, h, Block.cnt]

/-- The keys of two sets do not meet. -/
theorem cntBase_apart {c d : CntSet} (h : cntBase c ≠ cntBase d) : cntBase c + 65536 ≤ cntBase d ∨ cntBase d + 65536 ≤ cntBase c := by
  unfold cntBase at *; omega

/-- Clearing a set zeroes its counters. -/
theorem Block.cnt_clearSet (b : Block) (c : CntSet) (n : Nat) (h : n < 65536) : (b.clearSet c).cnt c n = 0 := by
  unfold Block.cnt Block.clearSet
  simp only
  rw [look_filter b.counts (fun k => !(decide (cntBase c ≤ k ∧ k < cntBase c + 65536))) _ 0]
  have : cntBase c ≤ cntBase c + n ∧ cntBase c + n < cntBase c + 65536 := by omega
  simp [this]

/-- Clearing a set leaves the counters of every other set. -/
theorem Block.cnt_clearSet_other (b : Block) {c d : CntSet} (n : Nat) (h : n < 65536) (hd : cntBase d ≠ cntBase c) :
    (b.clearSet c).cnt d n = b.cnt d n := by
  unfold Block.cnt Block.clearSet
  simp only
  rw [look_filter b.counts (fun k => !(decide (cntBase c ≤ k ∧ k < cntBase c + 65536))) _ 0]
  have h2 := cntBase_apart hd
  have : ¬ (cntBase c ≤ cntBase d + n ∧ cntBase d + n < cntBase c + 65536) := by omega
  simp [this]

/-! ### Roads -/

/-- A road that stops a write leaves at most a NOTE record. -/
theorem State.viaRoad_stops (s : State) (road : Road) (a v : Nat) (f : State → State) {n : Bool}
    (h : s.blk.roadStops road a = some n) :
    s.viaRoad road a v f = { s with blk := if n then s.blk.noteWrite road a v else s.blk } := by
  cases n <;> simp [State.viaRoad, h]

/-- A road that lets a write through. -/
theorem State.viaRoad_open (s : State) (road : Road) (a v : Nat) (f : State → State) (h : s.blk.roadStops road a = none) :
    s.viaRoad road a v f = f s := by simp [State.viaRoad, h]

theorem Block.viaRoad_open (b : Block) (road : Road) (a v : Nat) (f : Block → Block) (h : b.roadStops road a = none) :
    b.viaRoad road a v f = f b := by simp [Block.viaRoad, h]

theorem Block.viaRoad_stops (b : Block) (road : Road) (a v : Nat) (f : Block → Block) {n : Bool}
    (h : b.roadStops road a = some n) : b.viaRoad road a v f = if n then b.noteWrite road a v else b := by
  cases n <;> simp [Block.viaRoad, h]

end Sys2Proof.Machine
end

