-- ==== Sys2Proof/Laws/Ledger.lean ====
section
/-! SUPPORT. What writing a record, pulsing or firing a source can do: Clerk's records, what Clerk sends and the ledger's own
fields, and nothing else (R341 to R346). -/

namespace Sys2Proof.Machine

theorem Block.ledgerOnly_refl (b : Block) : b.ledgerOnly b := ⟨rfl, fun _ _ => rfl⟩

theorem Block.ledgerOnly_trans {a b c : Block} (h : a.ledgerOnly b) (g : b.ledgerOnly c) : a.ledgerOnly c := by
  refine ⟨?_, fun f hf => (g.2 f hf).trans (h.2 f hf)⟩
  rw [g.1, h.1]

theorem Block.ledgerOnly_clerk (b : Block) (c : Clerk) : b.ledgerOnly { b with clerk := c } := ⟨rfl, fun _ _ => rfl⟩

theorem Block.ledgerOnly_emit (b : Block) (o : Output) : b.ledgerOnly (b.emit o) := ⟨rfl, fun _ _ => rfl⟩

theorem Block.ledgerOnly_set (b : Block) (f : Fld) (v : Nat) (h : f ∈ ledgerFields) : b.ledgerOnly (b.set f v) :=
  ⟨rfl, fun _ hg => Block.get_set_other b v (hg f h)⟩

theorem Block.ledgerOnly_msix (b : Block) : b.ledgerOnly b.msix := by
  unfold Block.msix
  dsimp only
  split
  · split
    · exact b.ledgerOnly_clerk _
    · exact Block.ledgerOnly_trans (b.ledgerOnly_emit _) (Block.ledgerOnly_clerk _ _)
  · exact b.ledgerOnly_refl

theorem Block.ledgerOnly_feedOne (b : Block) : b.ledgerOnly b.feedOne := by
  unfold Block.feedOne
  split
  · exact b.ledgerOnly_clerk _
  · refine Block.ledgerOnly_trans ?_ (Block.ledgerOnly_msix _)
    exact ⟨rfl, fun f hf => Block.get_set_other b _ (hf F.CLERK_LEDGER_HEAD.HEAD (by simp [ledgerFields]))⟩

theorem Block.ledgerOnly_feed (b : Block) (n : Nat) : b.ledgerOnly (b.feed n) := by
  induction n generalizing b with
  | zero => exact b.ledgerOnly_refl
  | succ n ih =>
    unfold Block.feed
    split
    · exact Block.ledgerOnly_trans b.ledgerOnly_feedOne (ih _)
    · exact b.ledgerOnly_refl

theorem Block.ledgerOnly_traceRec (b : Block) (r : LedgerRec) : b.ledgerOnly (b.traceRec r) := by
  unfold Block.traceRec
  split
  · exact b.ledgerOnly_emit _
  · exact b.ledgerOnly_refl

/-- A record lost or not, the copy replaced (R344). -/
theorem Block.ledgerOnly_lost (b : Block) (c : Clerk) (l : Bool) : b.ledgerOnly
    (if l then (({ b with clerk := c } : Block).sat F.CLERK_LEDGER_STATUS.DROPPED 1).set F.CLERK_LEDGER_STATUS.OVERFLOW 1
     else { b with clerk := c }) := by
  cases l
  · exact b.ledgerOnly_clerk c
  · exact Block.ledgerOnly_trans (b.ledgerOnly_clerk c) (Block.ledgerOnly_trans
      (Block.ledgerOnly_set _ F.CLERK_LEDGER_STATUS.DROPPED _ (by simp [ledgerFields]))
      (Block.ledgerOnly_set _ F.CLERK_LEDGER_STATUS.OVERFLOW _ (by simp [ledgerFields])))

theorem Block.ledgerOnly_writeRec (b : Block) (r : LedgerRec) : b.ledgerOnly (b.writeRec r) := by
  unfold Block.writeRec
  exact Block.ledgerOnly_trans (b.ledgerOnly_lost _ _)
    (Block.ledgerOnly_trans (Block.ledgerOnly_traceRec _ r) (Block.ledgerOnly_feed _ _))

theorem Block.ledgerOnly_pulse (b : Block) (r : LedgerRec) : b.ledgerOnly (b.pulse r) := by
  unfold Block.pulse
  split
  · split
    · split
      · exact b.ledgerOnly_clerk _
      · exact b.ledgerOnly_writeRec _
    · exact b.ledgerOnly_writeRec _
  · exact b.ledgerOnly_writeRec _

theorem Block.ledgerOnly_event (b : Block) (o s k : Nat) (p : List Byte) : b.ledgerOnly (b.event o s k p) := b.ledgerOnly_pulse _

theorem Block.ledgerOnly_note (b : Block) (o k : Nat) (p : List Byte) : b.ledgerOnly (b.note o k p) := b.ledgerOnly_pulse _

theorem Block.ledgerOnly_noteWrite (b : Block) (road : Road) (a v : Nat) : b.ledgerOnly (b.noteWrite road a v) :=
  b.ledgerOnly_pulse _

theorem Block.ledgerOnly_fire (b : Block) (o s : Nat) (p : List Byte) : b.ledgerOnly (b.fire o s p) := by
  unfold Block.fire
  split
  · exact b.ledgerOnly_clerk _
  · exact Block.ledgerOnly_trans (b.ledgerOnly_clerk _) (Block.ledgerOnly_writeRec _ _)

theorem Block.ledgerOnly_serveDone (b : Block) (o s : Nat) : b.ledgerOnly (b.serveDone o s) := by
  unfold Block.serveDone
  split
  · exact b.ledgerOnly_refl
  · split
    · exact b.ledgerOnly_refl
    · split
      · exact Block.ledgerOnly_trans (b.ledgerOnly_clerk _) (Block.ledgerOnly_writeRec _ _)
      · exact b.ledgerOnly_clerk _

end Sys2Proof.Machine
end

