-- ==== Sys2Proof/Machine/Pins.lean ====
section
/-! DEFINITION. What the output pins show, read off the state (R252, R299, R334, R402, R509, R510, R522, R524). Nothing in the
model depends on it. -/

namespace Sys2Proof.Machine

/-- What a pin shows: released is high-impedance (R510). -/
inductive PinLevel where
  | low | high | released
  deriving DecidableEq, Repr

/-- A driven level. -/
def PinLevel.ofBool : Bool → PinLevel
  | true => .high | false => .low

/-- PMIC_EN line i (R402). -/
def Block.pinPmic (b : Block) (i : Nat) : PinLevel := .ofBool (bitOf (b.get F.WATCH_POWER_STATUS.PMIC_EN) i)

/-- RING_KEEP_N: high only while the bypass is held open (R522). -/
def Block.pinKeep (b : Block) : PinLevel := .ofBool b.cart.keeper.isOpen

/-- The 4-bit pattern of a front end's state within PATTERN (R252): OFF and WARM, receive, TX, CAL. -/
def femNibble (fe : Nat) : Nat :=
  if fe = feOff ∨ fe = feWarm then 0 else if fe = feTx then 2 else if fe = feCal then 3 else 1

/-- FEM control line i of chain c (R252, R263, R509): low from a reset of kind PIN or wider until pass 2; a chain shut keeps its receive pattern; low
without the rail of its I/O domain. -/
def Block.pinFem (b : Block) (c i : Nat) : PinLevel :=
  let powered := bitOf (b.get F.WATCH_POWER_STATUS.PMIC_EN) (if c = 16 then 4 else 3)
  let shut := bitOf (b.get F.RFC_CHAIN_STATE.SHUT) c
  let n := femNibble (b.fe (chainFe c))
  let n := if shut && n == 2 then 1 else n
  .ofBool (!b.rfc.femLow && powered && bitOf (b.btab 13 0 (0x3500000 + 8 * c + 4) 2) (4 * n + i))

/-- GPIO pin n: driven while its output is enabled and VDD_IO is on (R524). -/
def Block.pinGpio (b : Block) (n : Nat) : PinLevel :=
  if b.gpioOn && bitOf (b.get F.PIN_GPIO_OE.OE) n then .ofBool (bitOf (b.get F.PIN_GPIO_OUT.OUT) n) else .released

/-- TXDIS of ring port p: driven low only while EN is set and S3 runs (R510). -/
def Block.pinTxdis (b : Block) (p : Nat) : PinLevel := if b.ringOn p && b.est 3 == stRun then .low else .released

/-- WAKE_N: driven low only under R334. -/
def Block.pinWake (b : Block) : PinLevel := if b.host.wakeN then .low else .released

/-- DRAM_RESET_N (R510): low from reset to step 3, released in HALT. -/
def Block.pinDramReset (b : Block) : PinLevel :=
  if b.watch.plan = 4 then .released else if b.watch.plan = 7 then .low else .high

/-- The chip selects of NOR while idle (R510): high once EN1 is up. -/
def Block.pinNorCs (b : Block) : PinLevel := if b.gpioOn then .high else .released

/-- PPS_OUT (R297, R510): released in HALT. -/
def Block.pinPps (b : Block) : PinLevel := if b.watch.plan = 4 then .released else .ofBool (b.cart.ppsHigh && b.on F.CART_PTP.PPS_OUT_EN && b.est 3 == stRun)

end Sys2Proof.Machine
end

