-- ==== Sys2Proof/Tests/Slice0.lean ====
section
/-! SUPPORT. Tests of the model: ill-formed operands are refused, one-step examples from the rules, and for every statement with
hypotheses a concrete state and operands that meet them. -/

open Sys2Proof Sys2Proof.Machine

namespace Sys2Proof.Tests

set_option Elab.async false

/-- A state of GALLOP after a completed start, every engine in RUN, the host link up. -/
def gallop : State :=
  let b := State.reset.blk
  let b := (List.range 12).foldl (fun b e => b.set (F.ENG_STATUS.STATE e) stRun) b
  let b := ((b.set F.WATCH_GAIT_STATUS.CURRENT 0).set F.HOST_STATUS.UP 1).set F.TOP_ENG_GATE.GATE 0
  { State.reset with blk := { b with
      watch := { b.watch with plan := 0 }
      ost := { b.ost with started := true }
      host := { b.host with linkUp := true }
      creosh := { b.creosh with floorDone := true } } }

/-- That state with its block changed. -/
def up (f : Block → Block) : State := { gallop with blk := f gallop.blk }

/-- A state at step n of the start, its block changed. -/
def starting (n : Nat) (f : Block → Block) : State :=
  up (fun b => f (({ b with watch := { b.watch with plan := 6 } } : Block).setStep n))

/-- An Ethernet frame with an empty payload. -/
def eth : EthFrame := { da := 1, sa := 2, etype := 0x800, payload := [] }


/-- A NOR whose map lays out slots of 64 KiB each, found by SFDP. -/
def probe : NorProbe :=
  { sfdp := true, fast144 := false, fast114 := false, addr4 := false, bytes0 := 0x1000000, bytes1 := 0, failed := false, err0 := false, err1 := false, erase4k := true }

/-- The map of R37 at NOR offset 0, its CRC-32 computed apart. -/
def mapBytes : List Byte :=
  bytesLE 4 0x4D4C4D52 ++ bytesLE 4 1 ++ bytesLE 4 0x10000 ++ bytesLE 4 0x20000 ++ bytesLE 4 0x10000 ++ bytesLE 4 0x30000 ++
    bytesLE 4 0x10000 ++ List.replicate 32 0 ++ bytesLE 4 0x1FECA84B

/-- What that map says. -/
def norMap : NorMap := ⟨0x10000, 0x20000, 0x10000, 0x30000, 0x10000⟩

/-- An image's facts. -/
def img : ImgFacts :=
  { slot := 0, keySlot := 0, version := 1, rollback := 1, autoSettle := true, layout := 1, gait := 1, gate := 0, records := [], migration := [(0, [])], digest := [], length := 0 }

/-- An MPDU of kind 1, unprotected. -/
def mpdu : MpduHdr :=
  { ta := 2, ra := 1, kind := 1, tid := 0, sn := 0, fn := 0, retry := false, pm := false, duration := 0, octets := 100, prot := false, pn := 0, bss := none, intra := true, rssi := -50, rate := 0, frame := eth }

/-- Radio r receives x. -/
def receiving (r : Nat) (x : PhyRx) : State :=
  up (fun b => (b.setFe r feRx).updPhy r (fun p => { p with rx := some x }))

/-- A plan of radio 0, slot 0, for station 5. -/
def plan : Plan := { radio := 0, slot := 0, ac := 0, form := .su, users := [{ sta := 5, charge := 0, frames := [] }], dur := 100, first := false }

/-- A frame in a Drover queue. -/
def qframe : QFrame := { id := 0, tid := 0, len := 64, cells := 1, arrival := 0, frame := eth }

/-- A block with empty tables has no valid multi-link record. -/
theorem mlValid_blank (b : Block) (h : b.tabs = []) (i : Nat) : b.mlValid i = false := by
  have h2 : b.tab (mlAddr i) 2 = 0 := by rw [Block.tab, h]; rfl
  simp [Block.mlValid, h2, bitOf]

/-- Sieve on a span of 256 channels of 100 kHz from 860 MHz on, channel 5 enabled for every hypothesis and for transmission, front
end 3 READY; one regulatory sub-band of 10 permil, REG_LOCK programmed. -/
def mesh (f : Block → Block) : State :=
  { up (fun b => f (({ b with sieve := { b.sieve with span := some ⟨3, 860000000, true⟩ } }.setTab (0x2E00000 + 4 * 5) 4 0x7F).setFe 3 feReady)) with
    fuse := { State.reset.fuse with reg := [(0, 0x10000), (14, 0xFFFF0001), (15, 0x000A001C)] } }

/-- A mesh transmission request for channel 5 at device time 10 s. -/
def meshTx : MeshTx :=
  { ch := 5, hyp := 0, pre := 8, coded := false, il := false, dw := false, fcs4 := false, psdu := [0, 0, 0, 0, 0], power := 0, start := 10000000000, role := 0 }

/-- Stall 5 in a state. -/
def stall (st : StallState) : Stall := { idx := 5, st := st, ch := 5, hyp := 0, power := -100, expected := false, ns := 0 }

/-- Sieve with that stall. -/
def stalled (st : StallState) : State := mesh (fun b => { b with sieve := { b.sieve with stalls := [stall st] } })

/-- Sieve with the transmission t. -/
def sending (t : SieveTx) : State := mesh (fun b => { b with sieve := { b.sieve with txs := [t], nextTx := 1 } })

/-- Post with node 9's hot entry as h. -/
def node (h : Hot) (f : Block → Block) : State := mesh (fun b => f (b.setHot 9 h))

/-- Post with profile 0 valid and channel map 0 holding channel 5. -/
def profiled (b : Block) : Block :=
  ((((((b.setTab 0x2600000 4 1000).setTab 0x2600004 4 10000).setTab 0x260000A 2 20).setTab 0x260000C 1 0).setTab 0x260000D 1 4).setTab 0x260000E 1 4).setTab 0x260000F 1 1
    |>.setTab 0x2601000 1 32

/-- Post with node 9 KNOWN and the frame g to be taken. -/
def heard (g : GoodFrame) (f : Block → Block) : State := node { st := stKnown } (fun b => (f b).updPost (fun p => { p with good := [g] }))

/-- A tether event of node 9. -/
def event : TetherEvent := { node := 9, ch := 5, anchor := 10000000000, interval := 1000, sup := 10000, hyp := 0, maxDl := 4 }

/-- A grant of node 9. -/
def grant : Grant := { node := 9, profile := 0, map := 0, first := 1, expiry := 0 }

/-- An exchange with node 9. -/
def exch (ev : Bool) : Exch := { node := 9, event := ev, ch := 5, hyp := 0, coded := false, dw := false, fcs4 := false, next := 0, more := false }

/-- What node 9's acknowledgement is awaited for. -/
def await' (g : Bool) : Await := { node := 9, grant := g, ch := 5, hyp := 0, seq := 3, fp := false }

/-- A send header to node 9. -/
def sendHdr : SendHdr := { node := 9, broadcast := false, level := 0, report := false, eventOnly := false, channel := 0xFF, lifeS := 0, cookie := 0, hyp := 0, pan := 0 }

/-- The octets of an unsecured data frame of the mesh from short address 9 to PAN 0xABCD, written from IEEE 802.15.4: frame control,
sequence number, PAN and address of the destination, of the source. -/
def meshOctets : List Byte := [0x01, 0x98, 3, 0xCD, 0xAB, 0xFF, 0xFF, 0xCD, 0xAB, 9, 0]

/-- That frame's fields. -/
def meshFrame : MeshFrame :=
  { ch := 5, hyp := 0, coded := false, dw := false, fcs4 := false, rssi := -90, sfd := 0, endNs := 0, kind := .data, version := 1, seq := some 3, ar := false, panDst := some 0xABCD, dst := .short 0xFFFF, src := .short 9, secLevel := 0, keyMode := 0, fc := 0xFFFFFFFF, ies := [], mhr := meshOctets, payload := [] }

/-- A frame of octets x as Sieve ends it GOOD in stall 5. -/
def good (x : List Byte) : GoodFrame :=
  { stall := 5, ch := 5, hyp := 0, coded := false, dw := false, fcs4 := false, rssi := -90, cfo := 0, sfd := 0, endNs := 0, psdu := x, cells := 0, bag := 0 }

/-- PAN 0 valid with identifier 0xABCD, and flags as given beside VALID. -/
def panned (fl : Nat) (b : Block) : Block := (b.setTab 0x2603000 2 0xABCD).setTab 0x2603010 1 (1 + fl)

/-- Class 7 of ring port 0 holds one frame, the ring up. -/
def cartFrame : CartFrame := { pool := 1, src := 2, vlan := 1, len := 64, frame := eth }

/-- Carter with that frame in trough 7. -/
def ringTx : State :=
  up (fun b => (((b.set (ringLinkFld 0) 1).set (ringEnFld 0) 1).set (ringSpeedFld 0) 0).updCart (fun c => { c with troughs := [{ t := 7, frames := [cartFrame] }], pool := [⟨1, 1, 1, false⟩], keeper := { isOpen := true } }))

/-- A ring port that hears, with VLAN 0 for its untagged frames. -/
def ringRx (f : Block → Block) : State :=
  up (fun b => f (((((((b.setTab 0x2238004 1 1).setTab 0x2230002 1 1).setTab 0x2230000 1 1).set (ringLinkFld 0) 1).set (ringEnFld 0) 1).set (ringSpeedFld 0) 0).updCart
    (fun c => { c with keeper := { isOpen := true } })))

/-- A core has room for masks while the random source is fed. -/
theorem maskRoom_fed (b : Block) (h : b.on F.LOCK_RNG_STATUS.STARVED = false) (c n : Nat) : b.maskRoom c n = true := by
  simp [Block.maskRoom, h]

/-- A key record of space 1, handle 9. -/
def key : KeyRec := { space := 1, handle := 9, key := List.replicate 16 1, mode := 0, hard := 40 }

/-- The Vault up, DRAM present, ROOT_SECRET programmed. -/
def vault (f : Block → Block) : State :=
  { up (fun b => f ((b.set F.TOP_ID.DRAM 1).updLock (fun l => { l with vaultOk := true }))) with fuse := { State.reset.fuse with sec := [(56, 1)] } }

/-- That with a backing area at 64 KiB of the NOR, as M_BACK_BASE tells it. -/
def backed (f : Block → Block) : State :=
  vault (fun b => f (((b.set F.LOCK_MBACK.EN 1).set F.LOCK_MBACK.BASE_64K 1).updOst (fun o => { o with norErase4k := true, norBytes := 0x1000000 })))

/-- The MAC table's bucket of address 0 in VLAN 0, full of static entries of other addresses. -/
def full : State :=
  up (fun b => b.updCart (fun c => { c with macs := [⟨macBucket 0 0, 0, 1, 0, 0, true, 0⟩, ⟨macBucket 0 0, 1, 2, 0, 0, true, 0⟩, ⟨macBucket 0 0, 2, 3, 0, 0, true, 0⟩, ⟨macBucket 0 0, 3, 4, 0, 0, true, 0⟩] }))

/-- No entry can be put there. -/
theorem macPut_full : full.blk.macPut full.blk.l2Key.1 full.blk.l2Key.2 (full.blk.get F.CART_L2ARG2.DEST) true = none := by
  have h : full.blk.macWay (macBucket 0 0) = none := by simp [Block.macWay, full, up, Block.updCart, List.find?, List.range, List.range.loop]
  have a : full.blk.macAt 0 0 = none := by decide +kernel
  have k : full.blk.l2Key = (0, 0) := by decide +kernel
  rw [k]; simp [Block.macPut, a, h]

/-- Transmit ring 0 enabled with one descriptor posted, and receive ring 0 likewise with a frame for it. -/
def rings (n : Nat) : State :=
  up (fun b => (((((b.set F.CLK_XSTATUS.PARKED 0).set (F.HOST_RING_CTRL.EN 0) 1).set (F.HOST_RING_PROD.PROD 0) 1).set (F.HOST_RING_CTRL.EN 8) 1).set (F.HOST_RING_PROD.PROD 8) n).updCart
    (fun c => { c with troughs := [{ t := 16, frames := [cartFrame] }], pool := [⟨1, 1, 1, false⟩] }))

/-- A transmit descriptor of n octets. -/
def txDesc (n : Nat) : TxDesc := { addr := 0, len := n, tsReq := false, oneStep := false, direct := false, cls := 0, dest := 0, frame := eth, dmaOk := true }

/-- The steward key in place. -/
def steward (f : Block → Block) : State :=
  up (fun b => f (b.updLock (fun l => { l with steward := some { key with space := 2, handle := 0, mode := 10 } })))

/-- WALK, asleep. -/
def walk (f : Block → Block) : State :=
  up (fun b => f ((b.set F.WATCH_GAIT_STATUS.CURRENT 3).updWatch (fun w => { w with plan := 3 })))

/-- GALLOP with the security fuses' words as given. -/
def fused (w : List (Nat × Nat)) (f : Block → Block) : State := { mesh f with fuse := { (mesh f).fuse with sec := w } }

/-- GALLOP with the tallies as given. -/
def tallied (l : List (Nat × Nat)) (f : Block → Block) : State := up (fun b => f (b.updFlash (fun x => { x with image := l })))

/-! ### Well-formedness: each check refuses an ill-formed term -/

/-- A request's sender. -/
def from' : CreoshReq := { src := 0, vlan := 1, sa := 2, seq := 3 }

theorem test_wf_registers : ([.registerWrite .device 0 ⟨0, true⟩, .registerWrite .bar0 0x4000000 ⟨0, true⟩, .tableWindowWrite .bar0 0x1FFFFFC ⟨0, true⟩, .topEngGateWrite .device 0, .topEngReset .device 0,
    .topSectReset .device 0, .topDevReset .device 0, .ostSettle .device 0, .chainRevive .device 0, .regFuseWrite .device 0, .rfcImgcapWrite .device 0, .l2Insert .device, .l2Delete .device,
    .l2Lookup .device, .l2Flush .device, .timeStep .device 0, .keyInstall .device 0 0, .keyClear .device 0 0, .keyRead .device 0 0, .ringCtrlEnable .device 0 0, .ledgerTailWrite .device 0,
    .ledgerCfgWrite .device 0, .done .device 0, .watchGaitReq .device 0, .genSecret .device 0 0 0, .toMaker .device 0 0, .toField .device 0 0, .toRetired .device 0 0, .secFuseWrite .device 0 0,
    .zeroise .device 0, .sessionEnd .device 0, .tallyWrite .device 0 0, .errAck .device 0] : List Instr).all (fun i => !i.wf) = true := by decide

theorem test_wf_radio : ([.tallyScan (some 96) [], .tallyScan none [(96, 0)], .norDiscovery { probe with bytes1 := 2 ^ 32 }, .phyRxend 0 0 true 0 ⟨256, []⟩,
    .rxDetection 0 ⟨0, List.replicate 17 (0, 0)⟩, .txStartCommand 0 (List.replicate 17 (0, 0)), .mpduProvisional 0 { mpdu with sn := 4096 },
    .mpduProvisional 0 { mpdu with frame := { eth with tag := some (8, 0) } }, .reorderRelease 0 0 (some 4096), .edcaTxopGain 0 0 0 [0, 0, 0, 0] false,
    .bhBeaconReceived 0 { edca := [], tsf := 0 }, .airEnqueue 0 none 0 0 { eth with da := 2 ^ 48 }, .planMade { radio := 0, slot := 0, loss := [(2048, 0)] }] : List Instr).all (fun i => !i.wf) = true := by decide

theorem test_wf_mesh : ([.sieveDetection 0 256 0 ⟨16, 0⟩ [], .phrJudgement 0 { ms := false, len := 2048, fcs4 := false, dw := false } none (0, 0),
    .sieveTxRequest { meshTx with ch := 256 }, .sieveTxRequest { meshTx with pre := 3 }, .watchRound [{ ch := 0, hyp := 4, power := 0, corr := 16 }], .meshEnqueue { sendHdr with node := 131072 } [],
    .meshBroadcast { sendHdr with pan := 4 } []] : List Instr).all (fun i => !i.wf) = true := by decide

theorem test_wf_psdu : (Instr.meshFrameVerdict 0 (List.replicate 2046 0) [0, 0]).wf = false := by decide +kernel

theorem test_wf_ports : ([.frameIngress { src := 64, len := 64, fcs := .good, frame := eth }, .cutThrough { src := 2, len := 64, fcs := .good, frame := eth }, .txDescriptor 0 { txDesc 64 with cls := 8 },
    .rxDescriptorFill 0 [{ addr := 0, bufLen := 255 }], .ledgerRecord 0 0 0 (List.replicate 17 0), .servedSourceFire 0 0 (List.replicate 17 0), .creoshRead { from' with vlan := 4096 } 0 1,
    .creoshWrite from' (2 ^ 32) [], .creoshLedger from' 0 (2 ^ 16), .creoshDone { from' with src := 64 } 0 0, .creoshGait { from' with sa := 2 ^ 48 } 0 0 0 0, .creoshReset { from' with seq := 2 ^ 64 } 0,
    .armKey { from' with src := 64 }, .registerAccess (.read 2 1), .registerAccess (.write (2 ^ 32) []), .ledgerCopyRead (2 ^ 32) 1, .avsUpdate [(24, 0)] true] : List Instr).all (fun i => !i.wf) = true := by decide

theorem test_wf_lengths : (Instr.creoshPiece from' (List.replicate 1401 0)).wf = false ∧ (Instr.creoshSend from' 0 0 (List.replicate 1397 0)).wf = false ∧
    (Instr.creoshFrame 0 0 0 (List.replicate 16385 0)).wf = false := by decide +kernel

theorem test_wf_update : ([.dbgResponse [], .manifestPiece from' { update := 0, index := 0, data := [] }, .payloadPiece from' { update := 2 ^ 32, index := 0, data := [] },
    .query from' (2 ^ 16) 0, .abort from' (2 ^ 32), .assaySample [], .installKey .cal 2 (List.replicate 16 0), .installKey .cal 0 []] : List Instr).all (fun i => !i.wf) = true := by decide

/-! ### One step on a small state -/

/-- The state after the command c, its queue empty before and after. -/
def after (c : Instr) (s : State) : State :=
  match step { s with pending := [c] } with
  | .next t => t
  | _ => s

/-- The idle block (R7). -/
theorem test_idle : step State.reset = .next State.reset := rfl

/-- An RW-L field reads back what was written, and a read-only one stays (R6). -/
theorem test_write_reads_back : (after (.registerWrite .bar0 R.CLERK_COALESCE ⟨0x50000, true⟩) gallop).blk.get F.CLERK_COALESCE.COUNT = 5 ∧
    (after (.registerWrite .bar0 R.TOP_ID ⟨0xFFFFFFFF, true⟩) gallop).blk.get F.TOP_ID.DRAM = gallop.blk.get F.TOP_ID.DRAM := by decide +kernel

/-- The hop of the worked example of chapter 7 (R224): seed 0x1234_5678, event 1, channels 0 to 199: channel 152. -/
theorem test_hop_example : hopChannel 0x12345678 1 (List.range 200) = 152 := by decide +kernel

/-- The on-air time of the worked example of chapter 8 (R265): 26 octets at H2 on 25 kHz with 16 µs ramps are 2,170 units. -/
theorem test_duty_example :
    (({ gallop.blk with sieve := { gallop.blk.sieve with span := some ⟨1, 863012500, true⟩ } } : Block).set (F.RFC_FEM.RAMP_US 3) 16).airUnits
      { meshTx with hyp := 2, psdu := List.replicate 14 0 } = 2170 := by decide +kernel

/-- Rows of the worked example of R384: the value in 5 mV codes before an update, the slack, the value after it. -/
theorem test_avs_example : [(170, 28, 168), (162, 18, 160), (156, 13, 156 - 2), (156, 10, 155), (155, 9, 155)].all (fun (x : Nat × Nat × Nat) =>
    (after (.avsUpdate ((List.range 16).map (fun m => (m, x.2.1))) true)
      (up (fun b => ((((b.set F.TOP_AVS_STATUS.V x.1).set F.TOP_AVS_CTRL.TARGET 8).set F.TOP_AVS_CTRL.GAIN_SHIFT 1).set F.TOP_AVS_CTRL.STEP 2).set F.TOP_AVS_BOUND.VMIN 130))).blk.get
        F.TOP_AVS_STATUS.V == x.2.2) = true := by decide +kernel

/-- The worked example of R316: at n = 1,032,192 RESV 1,048,576 is raised to 1,097,728. -/
theorem test_mfc_reservation_example :
    (after .mfcReservationWrite (tallied [(3, 1048576)] (fun b => (b.updLock (fun l => { l with mfcOwed := false })).set F.LOCK_MFC.N 1032192))).blk.tally 3 = 1097728 := by decide +kernel

/-- The worked example of R318: the next start gives n = 1,097,728 and RESV = 1,163,264. -/
theorem test_mfc_resume_example : (after .mfcResume (tallied [(3, 1097728)] id)).blk.get F.LOCK_MFC.N = 1097728 ∧
    (after .mfcResume (tallied [(3, 1097728)] id)).blk.tally 3 = 1163264 := by decide +kernel

/-- SHA-256 of nothing (FIPS 180-4). -/
theorem test_sha256_empty : sha256 [] = bytesBE 32 0xE3B0C44298FC1C149AFBF4C8996FB92427AE41E4649B934CA495991B7852B855 := by decide +kernel

/-- AES-128 of the example of FIPS 197, appendix C.1. -/
theorem test_aes128_example : aesEnc (bytesBE 16 0x000102030405060708090A0B0C0D0E0F) (bytesBE 16 0x00112233445566778899AABBCCDDEEFF) =
    bytesBE 16 0x69C4E0D86A7B0430D8CDB78070B4C55A := by decide +kernel

/-- Check values of the two CRCs for the digits 1 to 9. -/
theorem test_crc_checks : crc32 ((List.range 9).map (fun i => BitVec.ofNat 8 (0x31 + i))) = 0xCBF43926 ∧
    crc16 ((List.range 9).map (fun i => BitVec.ofNat 8 (0x31 + i))) = 0x2189 := by decide +kernel

/-- A closed seal admits no calibration command (R479). -/
theorem test_seal_closed : (after (.setTime .cal 7) State.reset).assay.rtc = 0 := by decide +kernel

/-- A DEVICE reset leaves the fuses as they are (R8). -/
theorem test_reset_keeps_fuses : (after (.topDevReset .bar0 0x4B470001) (mesh id)).fuse = (mesh id).fuse := by decide +kernel


/-! ### Hypotheses that can be met: one witness for each clause of each statement -/

theorem test_witness_StepRunsFrontOfQueue :
    (∃ (s : State), ∃ (c : Instr), ∃ (rest : List Instr), s.pending = c :: rest) ∧
    (∃ (s : State), s.pending = []) := ⟨
  ⟨{ gallop with pending := [.alert, .alert] }, .alert, [.alert], by decide +kernel⟩,
  ⟨State.reset, by decide +kernel⟩⟩

theorem test_witness_EngineControlEffects :
    (∃ (s : State), ∃ (road : Road), ∃ (v : Word), s.blk.roadStops road R.TOP_ENG_GATE = none ∧ gateOffence v.toNat = none) ∧
    (∃ (s : State), ∃ (road : Road), ∃ (v : Word), ∃ (d : Nat), ∃ (x : Nat), s.blk.roadStops road R.TOP_ENG_GATE = none ∧
      gateOffence v.toNat = some (d, x)) ∧
    (∃ (e : Fin 12), e.val ≠ 3) ∧
    (∃ (s : State), ∃ (e : Fin 12), ∃ (v : Bool), e.val ≠ 11 ∧ s.blk.busyH e.val = true ∧ (v = true ∨ s.blk.idle e.val = false)) ∧
    (∃ (s : State), ∃ (e : Fin 12), e.val ≠ 11 ∧ s.blk.runs e.val = true ∧ s.blk.idle e.val = true ∧ s.blk.pends e.val = true) ∧
    (∃ (s : State), ∃ (e : Fin 12), (¬ (5 ≤ e.val ∧ e.val ≤ 7)) ∧ s.blk.busyH e.val = true ∧ s.blk.hold e.val = true) ∧
    (∃ (s : State), ∃ (e : Fin 12), (¬ (5 ≤ e.val ∧ e.val ≤ 7)) ∧ s.blk.busyH e.val = true ∧ s.blk.hold e.val = false) ∧
    (∃ (s : State), ∃ (e : Fin 12), (5 ≤ e.val ∧ e.val ≤ 7) ∧ s.blk.busyH e.val = true) ∧
    (∃ (s : State), ∃ (e : Fin 12), s.blk.est e.val ≠ stDrain) ∧
    (∃ (s : State), ∃ (e : Fin 12), (¬ (5 ≤ e.val ∧ e.val ≤ 7)) ∧ (e.val = 10 → s.blk.post.events = [])) ∧
    (∃ (s : State), s.blk.post.events ≠ []) ∧
    (∃ (s : State), ∃ (e : Fin 12), s.blk.est e.val = stDrain ∧ s.blk.drainTo e.val = stRun) ∧
    (∃ (s : State), ∃ (e : Fin 12), ∃ (w : Nat), ∃ (b : Block), s.blk.est e.val = stDrain ∧ s.blk.drainTo e.val = w ∧ (w = stStop ∨ w = stOff) ∧
      b = (s.blk.engReset e.val).setB (F.ENG_STATUS.DRAIN_TIMEOUT e.val) true) ∧
    (∃ (s : State), ∃ (b : Block), s.blk.est 11 = stReset ∧
      b = { s.blk with eng := { s.blk.eng with r15 := s.blk.eng.r15.filter (fun x => x.1 != 11), sect := s.blk.eng.sect.filter (· != sectionOf 11) } }) ∧
    (∃ (s : State), ∃ (e : Fin 12), (s.blk.est e.val ≠ stReset ∨ s.blk.wideHolds e.val = true)) ∧
    (∃ (s : State), ∃ (e : Fin 12), e.val ≠ 10 ∧ s.blk.est e.val = stStart ∧ s.blk.est 0 = stRun ∧ s.blk.startHeld e.val = false ∧
      s.blk.ost.runs.find? (fun r => r.engine == e.val) = none) := ⟨
  ⟨gallop, .bar0, 0, by decide +kernel, by decide +kernel⟩,
  ⟨gallop, .bar0, 0x10, _, _, by decide +kernel, rfl⟩,
  ⟨4, by decide +kernel⟩,
  ⟨gallop, 4, true, by decide +kernel, by decide +kernel, by decide +kernel⟩,
  ⟨up (fun b => b.setBankOp 5 3 (some { owner := 5, table := 3, switch := true })), 5, by decide +kernel, by decide +kernel, by decide +kernel,
    by decide +kernel⟩,
  ⟨up (fun b => b.set (F.ENG_CTRL.HOLD 4) 1), 4, by decide +kernel, by decide +kernel, by decide +kernel⟩,
  ⟨gallop, 4, by decide +kernel, by decide +kernel, by decide +kernel⟩,
  ⟨gallop, 5, by decide +kernel, by decide +kernel⟩,
  ⟨gallop, 4, by decide +kernel⟩,
  ⟨gallop, 4, by decide +kernel, by decide +kernel⟩,
  ⟨up (fun b => b.updPost (fun p => { p with events := [event] })), by decide +kernel⟩,
  ⟨up (fun b => b.set (F.ENG_STATUS.STATE 4) stDrain), 4, by decide +kernel, by decide +kernel⟩,
  ⟨up (fun b => { b.set (F.ENG_STATUS.STATE 4) stDrain with eng := { b.eng with drains := [(4, stStop)] } }), 4, stStop, _, by decide +kernel,
    by decide +kernel, by decide +kernel, rfl⟩,
  ⟨up (fun b => b.set (F.ENG_STATUS.STATE 11) stReset), _, by decide +kernel, rfl⟩,
  ⟨gallop, 4, by decide +kernel⟩,
  ⟨up (fun b => b.set (F.ENG_STATUS.STATE 4) stStart), 4, by decide +kernel, by decide +kernel, by decide +kernel, by decide +kernel,
    by decide +kernel⟩⟩

theorem test_witness_ResetEffects :
    (∃ (s : State), ∃ (road : Road), ∃ (e : Fin 12), s.blk.roadStops road R.TOP_ENG_RESET = none ∧ s.blk.est e.val ≠ stReset) ∧
    (∃ (s : State), ∃ (road : Road), ∃ (n : Fin 6), n.val ≠ 3 ∧ s.blk.roadStops road R.TOP_SECT_RESET = none ∧ s.blk.sectBusy n.val = false) ∧
    (∃ (s : State), ∃ (road : Road), s.blk.roadStops road R.TOP_DEV_RESET = none ∧ s.blk.absorbs kindDevice = false) ∧
    (∃ (s : State), ∃ (road : Road), ∃ (v : Word), s.blk.roadStops road R.TOP_DEV_RESET = none ∧ v.toNat / 2 ^ 16 ≠ 0x4B47) ∧
    (∃ (s : State), ∃ (n : Fin 6), n.val ≠ 3 ∧ s.blk.sectBusy n.val = false) ∧
    (∃ (s : State), s.blk.absorbs kindBor = false) ∧
    (∃ (s : State), s.blk.absorbs kindPin = false) ∧
    (∃ (s : State), s.blk.absorbs kindBor = true) ∧
    (∃ (s : State), s.blk.absorbs kindPin = true) := ⟨
  ⟨gallop, .bar0, 11, by decide +kernel, by decide +kernel⟩,
  ⟨gallop, .bar0, 5, by decide +kernel, by decide +kernel, by decide +kernel⟩,
  ⟨gallop, .bar0, by decide +kernel, by decide +kernel⟩,
  ⟨gallop, .bar0, 0, by decide +kernel, by decide +kernel⟩,
  ⟨gallop, 5, by decide +kernel, by decide +kernel⟩,
  ⟨gallop, by decide +kernel⟩,
  ⟨gallop, by decide +kernel⟩,
  ⟨up (fun b => b.updWatch (fun w => { w with plan := 7 })), by decide +kernel⟩,
  ⟨up (fun b => b.updWatch (fun w => { w with plan := 7 })), by decide +kernel⟩⟩

theorem test_witness_RegisterAndTableWrites :
    (∃ (s : State), ∃ (road : Road), s.blk.roadStops road R.CLERK_COALESCE = none) ∧
    (∃ (s : State), ∃ (road : Road), s.blk.roadStops road R.DROV_QCFG = none ∧ s.blk.busyH 4 = true ∧ s.blk.reaches 4 = false) ∧
    (∃ (s : State), ∃ (road : Road), s.blk.roadStops road R.CART_LOFT = none ∧ s.blk.busyH 3 = true) ∧
    (∃ (s : State), ∃ (road : Road), s.blk.roadStops road R.CART_LOFT = none ∧ s.blk.busyH 3 = false) ∧
    (∃ (s : State), ∃ (road : Road), s.blk.roadStops road R.TOP_ID = none) ∧
    (∃ (s : State), ∃ (a : Nat), s.blk.roadStops .bar0 a = none ∧ 0x2000000 ≤ a) ∧
    (∃ (s : State), ∃ (road : Road), ∃ (a : Nat), s.blk.roadStops road a = none ∧ a % 4 = 0 ∧ a < 0x2000000 ∧ Regs.find a = none) ∧
    (∃ (a : Nat), a % 4 = 0 ∧ a < 0x2000000 ∧ Regs.find a = none) ∧
    (∃ (s : State), ∃ (road : Road), ∃ (i : Fin 8192), s.blk.roadStops road (0x21E0000 + 4 * i.val) = none ∧ s.blk.windowOpen 3 = true) := ⟨
  ⟨gallop, .bar0, by decide +kernel⟩,
  ⟨up (fun b => b.updDrov (fun d => { d with plans := [plan] })), .bar0, by decide +kernel, by decide +kernel, by decide +kernel⟩,
  ⟨gallop, .bar0, by decide +kernel, by decide +kernel⟩,
  ⟨up (fun b => b.set (F.ENG_STATUS.STATE 3) stOff), .bar0, by decide +kernel, by decide +kernel⟩,
  ⟨gallop, .bar0, by decide +kernel⟩,
  ⟨gallop, 0x2000000, by decide +kernel, by decide +kernel⟩,
  ⟨gallop, .bar0, 0x1FFFFFC, by decide +kernel, by decide +kernel, by decide +kernel, by decide +kernel⟩,
  ⟨0x1FFFFFC, by decide +kernel, by decide +kernel, by decide +kernel⟩,
  ⟨gallop, .bar0, 8191, by decide +kernel, by decide +kernel⟩⟩

theorem test_witness_BankOperations :
    (∃ (s : State), ∃ (o : BankOwner), ∃ (n : Fin 16), (bankedTable (bankOwner o) n.val).isSome = true ∧ s.blk.bankOp (bankOwner o) n.val = none ∧
      s.blk.bankAtOnce (bankOwner o) n.val = false) ∧
    (∃ (s : State), ∃ (e : Fin 12), ∃ (n : Fin 16), ∃ (b : Block), (bankedTable e.val n.val).isSome = true ∧ s.blk.bankOp e.val n.val = none ∧
      s.blk.reaches e.val = true ∧ b = s.blk.setBankOp e.val n.val (some { owner := e.val, table := n.val, switch := true })) ∧
    (∃ (s : State), ∃ (o : BankOwner), ∃ (n : Fin 16), ∃ (q : BankOp), s.blk.bankOp (bankOwner o) n.val = some q ∧ q.copy = true ∧
      q.switch = false) ∧
    (∃ (s : State), ∃ (e : Fin 12), s.blk.busyH e.val = true ∧ (e.val < 5 ∨ 7 < e.val)) ∧
    (∃ (s : State), ∃ (r : Fin 3), s.blk.hold (lmEngine r.val) = true) ∧
    (∃ (s : State), ∃ (r : Fin 3), ∃ (k : Fin 3), ∃ (q : BankOp), s.blk.hold (lmEngine r.val) = false ∧
      s.blk.bankOp 12 (4 * r.val + k.val) = some q ∧ q.switch = true) := ⟨
  ⟨up (fun b => b.set (F.ENG_CTRL.HOLD 5) 1), .eng 5, 3, by decide +kernel, by decide +kernel, by decide +kernel⟩,
  ⟨gallop, 5, 3, _, by decide +kernel, by decide +kernel, by decide +kernel, rfl⟩,
  ⟨up (fun b => b.setBankOp 5 3 (some { owner := 5, table := 3, copy := true })), .eng 5, 3, { owner := 5, table := 3, copy := true },
    by decide +kernel, by decide +kernel, by decide +kernel⟩,
  ⟨gallop, 4, by decide +kernel, by decide +kernel⟩,
  ⟨up (fun b => b.set (F.ENG_CTRL.HOLD 7) 1), 0, by decide +kernel⟩,
  ⟨up (fun b => b.setBankOp 12 10 (some { owner := 12, table := 10, switch := true })), 2, 2, { owner := 12, table := 10, switch := true },
    by decide +kernel, by decide +kernel, by decide +kernel⟩⟩

theorem test_witness_BankSwitchAndCopyContents :
    (∃ (b : Block), ∃ (o : BankOwner), ∃ (n : Fin 16), ∃ (q : BankOp), ∃ (m : Fin 16), o ≠ .phy ∧ b.bankOp (bankOwner o) n.val = some q ∧
      q.switch = true ∧ q.copy = false ∧ m ≠ n) ∧
    (∃ (b : Block), ∃ (owner : Nat), ∃ (n : Nat), ∃ (t : TableDesc), ∃ i, i < t.size ∧ Memory.wf b.tabs 0 = true ∧ bankedTable owner n = some t) ∧
    (∃ (b : Block), ∃ (owner : Nat), ∃ (n : Nat), ∃ (t : TableDesc), ∃ a, Memory.wf b.tabs 0 = true ∧ bankedTable owner n = some t ∧
      (a < t.base + bankOff (1 - b.active owner n) ∨ t.base + bankOff (1 - b.active owner n) + t.size ≤ a)) := ⟨
  ⟨gallop.blk.setBankOp 5 3 (some { owner := 5, table := 3, switch := true }), .eng 5, 3, { owner := 5, table := 3, switch := true }, 0,
    by decide +kernel, by decide +kernel, by decide +kernel, by decide +kernel, by decide +kernel⟩,
  ⟨gallop.blk, 5, 3, _, 0, by decide +kernel, by decide +kernel, rfl⟩,
  ⟨gallop.blk, 5, 3, _, 0, by decide +kernel, rfl, by decide +kernel⟩⟩

theorem test_witness_StartSequenceSteps :
    (∃ (s : State), s.blk.watch.plan = 7 ∧ s.blk.ostStep = 1 ∧ s.blk.sec.hold = false ∧ s.fuse.lifecycle ≠ 4) ∧
    (∃ (s : State), ∃ (b : Block), s.blk.watch.plan = 7 ∧ s.blk.ostStep = 2 ∧ s.blk.sec.lc ≠ 4 ∧
      b = (((s.blk.setStep 3).recoverBlocks none).spoilUnits []).voidSpans) ∧
    (∃ (s : State), ∃ (p : NorProbe), s.blk.inStep 3 = true ∧ s.blk.ost.map = none ∧ s.blk.ost.tried = [] ∧
      mapOf ((s.blk.norFound p).norBytes 0 64) (s.blk.norFound p).ost.norBytes = none ∧
      mapOf ((s.blk.norFound p).norBytes 0x1000 64) (s.blk.norFound p).ost.norBytes = none) ∧
    (∃ (s : State), ∃ (p : NorProbe), ∃ (m : NorMap), s.blk.inStep 3 = true ∧ s.blk.ost.map = none ∧ s.blk.ost.tried = [] ∧ p.err0 = false ∧
      mapOf ((s.blk.norFound p).norBytes 0 64) (s.blk.norFound p).ost.norBytes = some m) ∧
    (∃ (s : State), s.blk.step4 = true ∧ s.blk.ost.headDone = true ∧ s.blk.ost.headOwed = false ∧ s.blk.bootRoom = true) ∧
    (∃ (s : State), ∃ (m : NorMap), ∃ (c : Nat), s.blk.ost.map = some m ∧ s.blk.inStep 5 = true ∧
      s.blk.ost.tried.contains s.blk.ost.trying = false ∧ s.blk.tallyDone 1 = true ∧
      s.blk.slotCheck s.fuse m s.blk.ost.trying false = (c, none)) ∧
    (∃ (s : State), ∃ (m : NorMap), ∃ (b : Block), s.blk.ost.map = some m ∧ s.blk.inStep 5 = true ∧
      s.blk.ost.tried.contains s.blk.ost.trying = false ∧ s.blk.tallyDone 1 = true ∧ s.blk.ost.trying = s.blk.ost.first ∧
      b = (s.blk.takeIds s.fuse m s.blk.ost.trying).slotJobs s.fuse m s.blk.ost.trying) ∧
    (∃ (s : State), ∃ (f : ImgFacts), ∃ (old : Nat), ∃ (rs : List MigRec), s.blk.ost.img = some f ∧ s.blk.inStep 6 = true ∧
      f.migration.find? (fun x => x.1 == s.blk.tally 0 % 2 ^ 16) = some (old, rs) ∧ s.blk.stage = 0 ∧
      3 * 17 + rs.length + s.blk.flash.queue.length * 17 ≤ s.blk.freeUnits) ∧
    (∃ (s : State), ∃ (f : ImgFacts), s.blk.ost.img = some f ∧ s.blk.inStep 6 = true ∧
      f.migration.find? (fun x => x.1 == s.blk.tally 0 % 2 ^ 16) = none) ∧
    (∃ (s : State), ∃ (f : ImgFacts), s.blk.ost.img = some f ∧ s.blk.inStep 7 = true) ∧
    (∃ (s : State), ∃ (f : ImgFacts), ∃ (fl : Nat), ∃ (a : Nat), ∃ (m : Nat), ∃ (v : Nat), ∃ (t : Nat), ∃ (rs : List ImgRec), s.blk.ost.img = some f ∧
      s.blk.ost.todo = .wait fl a m v t :: rs ∧ s.blk.inStep 7 = true ∧ s.blk.ost.waitLeft = true) ∧
    (∃ (s : State), ∃ (f : ImgFacts), ∃ (b : Block), ∃ (c : Block), s.blk.ost.img = some f ∧ s.blk.inStep 8 = true ∧
      b = ((((s.blk.set F.WATCH_GAIT_REQ.REQ f.gait).set F.WATCH_GAIT_REQ.RESUME f.gait).set F.WATCH_GAIT_REQ.LMGATE (f.gate / 32)).set F.WATCH_GAIT_STATUS.BUSY 1).set F.WATCH_GAIT_STATUS.TARGET 3 ∧
      c = b.updWatch (fun w => { w with starting := true, gateAsk := decide (f.gait ≤ 1), move := some ⟨4, 3, 0⟩ })) ∧
    (∃ (s : State), ∃ (b : Block), ∃ (c : Block), s.blk.startLost = true ∧
      b = ((s.blk.set F.OST_START_STATUS.LAME 1).errRecord 0 .fatal 0x84 (bytesLE 1 (s.blk.get F.OST_START_STATUS.FAIL_A) ++ bytesLE 1 (s.blk.get F.OST_START_STATUS.FAIL_B) ++ bytesLE 1 s.blk.ostStep)).updOst (fun o => { o with runs := [], img := none, subsys := some (o.subsys.getD (0, 0)) }) ∧
      c = (b.setRails (b.get F.WATCH_POWER_STATUS.PMIC_EN ||| 4)).updWatch (fun w => { w with plan := 5 })) := ⟨
  ⟨{ State.reset with blk := State.reset.blk.setStep 1 }, by decide +kernel, by decide +kernel, by decide +kernel, by decide +kernel⟩,
  ⟨{ State.reset with blk := State.reset.blk.setStep 2 }, _, by decide +kernel, by decide +kernel, by decide +kernel, rfl⟩,
  ⟨starting 3 id, probe, by decide +kernel, by decide +kernel, by decide +kernel, by decide +kernel, by decide +kernel⟩,
  ⟨starting 3 (fun b => b.norProgram 0 mapBytes), probe, norMap, by decide +kernel, by decide +kernel, by decide +kernel, by decide +kernel,
    by decide +kernel⟩,
  ⟨starting 4 (fun b => b.updOst (fun o => { o with headDone := true })), by decide +kernel, by decide +kernel, by decide +kernel,
    by decide +kernel⟩,
  ⟨starting 5 (fun b => b.updOst (fun o => { o with map := some norMap })), norMap, 8, by decide +kernel, by decide +kernel, by decide +kernel,
    by decide +kernel, by decide +kernel⟩,
  ⟨starting 5 (fun b => b.updOst (fun o => { o with map := some norMap })), norMap, _, rfl, by decide +kernel, by decide +kernel,
    by decide +kernel, by decide +kernel, rfl⟩,
  ⟨starting 6 (fun b => b.updOst (fun o => { o with img := some img })), img, 0, [], by decide +kernel, by decide +kernel, by decide +kernel,
    by decide +kernel, by decide +kernel⟩,
  ⟨starting 6 (fun b => b.updOst (fun o => { o with img := some { img with migration := [] } })), { img with migration := [] },
    by decide +kernel, by decide +kernel, by decide +kernel⟩,
  ⟨starting 7 (fun b => b.updOst (fun o => { o with img := some img })), img, by decide +kernel, by decide +kernel⟩,
  ⟨starting 7 (fun b => b.updOst (fun o => { o with img := some img, todo := [.wait 0 0 0 0 0], waitLeft := true })), img, 0, 0, 0, 0, 0, [],
    by decide +kernel, by decide +kernel, by decide +kernel, by decide +kernel⟩,
  ⟨starting 8 (fun b => b.updOst (fun o => { o with img := some img })), img, _, _, rfl, by decide +kernel, rfl, rfl⟩,
  ⟨starting 5 (fun b => b.updOst (fun o => { o with tried := [1, 0] })), _, _, by decide +kernel, rfl, rfl⟩⟩

theorem test_witness_SettlingAndRollback :
    (∃ (s : State), ∃ (road : Road), ∃ (v : Word), s.blk.roadStops road R.OST_SETTLE = none ∧ v.toNat / 2 ^ 16 = 0x5354 ∧ bitOf v.toNat 0 = true ∧
      bitOf (s.blk.tally 1) 1 = true) ∧
    (∃ (s : State), ∃ (road : Road), ∃ (v : Word), s.blk.roadStops road R.OST_SETTLE = none ∧ v.toNat / 2 ^ 16 = 0x5354 ∧
      bitOf (s.blk.tally 1) 1 = false) ∧
    (∃ (s : State), ∃ (i : ImgFacts), ∃ (t : Nat), s.blk.ost.img = some i ∧ s.blk.ost.settleFrom = some t ∧ i.autoSettle = true ∧
      s.blk.ostStep = 9 ∧ s.blk.ceil 1 = false) ∧
    (∃ (s : State), s.blk.ceil 1 = true) ∧
    (∃ (s : State), ∃ (i : ImgFacts), ∃ (mv : Nat), s.blk.ost.img = some i ∧ s.blk.ost.burnWait = true ∧ s.fuse.rollback < i.rollback ∧
      1 ≤ s.blk.sec.lc ∧ s.blk.sec.lc ≤ 3 ∧ 3000 ≤ mv) ∧
    (∃ (s : State), ∃ (i : ImgFacts), ∃ (mv : Nat), s.blk.ost.img = some i ∧ s.blk.ost.burnWait = true ∧ s.fuse.rollback < i.rollback ∧
      1 ≤ s.blk.sec.lc ∧ s.blk.sec.lc ≤ 3 ∧ mv < 3000) := ⟨
  ⟨up (fun b => b.updFlash (fun f => { f with image := [(1, 2)] })), .bar0, 0x53540001, by decide +kernel, by decide +kernel, by decide +kernel,
    by decide +kernel⟩,
  ⟨gallop, .bar0, 0x53540000, by decide +kernel, by decide +kernel, by decide +kernel⟩,
  ⟨up (fun b => (b.setStep 9).updOst (fun o => { o with img := some img, settleFrom := some 0 })), img, 0, by decide +kernel, by decide +kernel,
    by decide +kernel, by decide +kernel, by decide +kernel⟩,
  ⟨up (fun b => b.set F.WATCH_GAIT_STATUS.CEIL 2), by decide +kernel⟩,
  ⟨up (fun b => (b.updOst (fun o => { o with img := some img, burnWait := true })).updSec (fun c => { c with lc := 3 })), img, 3000,
    by decide +kernel, by decide +kernel, by decide +kernel, by decide +kernel, by decide +kernel, by decide +kernel⟩,
  ⟨up (fun b => (b.updOst (fun o => { o with img := some img, burnWait := true })).updSec (fun c => { c with lc := 1 })), img, 2999,
    by decide +kernel, by decide +kernel, by decide +kernel, by decide +kernel, by decide +kernel, by decide +kernel⟩⟩

theorem test_witness_PhyReceptionAndSpatialReuse :
    (∃ (s : State), ∃ (r : Fin 3), ∃ (p : Int), ∃ (cca : List (Int × Int)), ∃ (b : Block), b = s.blk.measure r.val cca ∧ p < b.ccaPd r.val) ∧
    (∃ (s : State), ∃ (r : Fin 3), ∃ (p : Int), ∃ (cca : List (Int × Int)), ∃ (b : Block), b = s.blk.measure r.val cca ∧ b.ccaPd r.val ≤ p ∧
      b.yokeBlanked r.val = false ∧ b.fe r.val = feReady) ∧
    (∃ (s : State), ∃ (r : Fin 3), ∃ (p : Int), ∃ (cca : List (Int × Int)), ∃ (x : PhyRx), ∃ (b : Block), b = s.blk.measure r.val cca ∧
      b.ccaPd r.val ≤ p ∧ b.yokeBlanked r.val = false ∧ b.fe r.val = feRx ∧ (b.phyAt r.val).rx = some x ∧ x.valid = false ∧ x.power ≤ p) ∧
    (∃ (s : State), ∃ (r : Fin 3), ∃ (x : PhyRx), (s.blk.phyAt r.val).rx = some x ∧ x.valid = false) ∧
    (∃ (s : State), ∃ (r : Fin 3), ∃ (x : PhyRx), (s.blk.phyAt r.val).rx = some x ∧ s.blk.phy.length = 3) ∧
    (∃ (s : State), ∃ (r : Fin 3), ∃ (x : PhyRx), (s.blk.phyAt r.val).rx = some x ∧ x.valid = true ∧ x.defer = false) ∧
    (∃ (s : State), ∃ (r : Fin 3), ∃ (x : PhyRx), (s.blk.phyAt r.val).rx = some x ∧ x.valid = true ∧ x.defer = false ∧
      (s.blk.phyAt r.val).search = none ∧ s.blk.on (F.PHY_CAPTURE.EN r.val) = true ∧ s.blk.on (F.PHY_CAPTURE.RESTART_EN r.val) = true) ∧
    (∃ (s : State), ∃ (r : Fin 3), ∃ (p : Int), (s.blk.phyAt r.val).search = some p) ∧
    (∃ (s : State), ∃ (r : Fin 3), ∃ (cca : List (Int × Int)), ∃ (x : PhyRx), ∃ (b : Block), b = s.blk.measure r.val cca ∧
      (b.phyAt r.val).rx = some x ∧ x.valid = true ∧ x.defer = true) ∧
    (∃ (s : State), ∃ (r : Fin 3), ∃ (rssi : Int), ∃ (n : Nat), ∃ (cca : List (Int × Int)), ∃ (x : PhyRx), ∃ (m : Block), ∃ (b : Block), m = s.blk.measure r.val cca ∧
      (m.phyAt r.val).rx = some x ∧ x.valid = true ∧ x.defer = false ∧
      b = ((m.count (.phy r) C.PHY.RX_PPDU).count (.phy r) C.PHY.RX_LDPC_FAIL n).set (F.PHY_STATUS.LAST_RSSI r.val) (unsignedOf 8 rssi)) ∧
    (∃ (s : State), ∃ (r : Fin 3), ∃ (rssi : Int), ∃ (x : PhyRx), (s.blk.phyAt r.val).rx = some x ∧ x.valid = true ∧ x.defer = false ∧
      s.blk.on (F.PHY_OBSS_LOOP.EN r.val) = true ∧ 2 * rssi < (s.blk.phyAt r.val).obssHalf) ∧
    (∃ (s : State), ∃ (r : Fin 3), ∃ (cca : List (Int × Int)), ∃ (p : Plan), ∃ (b : Block), b = s.blk.measure r.val cca ∧
      b.committedPlan r.val = some p ∧ p.form ≠ .trigger ∧ p.form ≠ .sounding ∧ b.runs (lmEngine r.val) = true ∧ b.fe r.val = feSettle) ∧
    (∃ (s : State), ∃ (r : Fin 3), ∃ (cca : List (Int × Int)), ∃ (p : Plan), ∃ (b : Block), b = s.blk.measure r.val cca ∧
      b.committedPlan r.val = some p ∧ p.form ≠ .trigger ∧ p.form ≠ .sounding ∧ b.runs (lmEngine r.val) = true ∧ b.fe r.val = feReady) ∧
    (∃ (s : State), ∃ (r : Fin 3), ∃ (cca : List (Int × Int)), ∃ (b : Block), b = s.blk.measure r.val cca ∧ b.committedPlan r.val = none) ∧
    (∃ (s : State), ∃ (r : Fin 3), s.blk.on (F.PHY_OBSS_LOOP.EN r.val) = false) ∧
    (∃ (s : State), ∃ (r : Fin 3), s.blk.phy.length = 3 ∧ s.blk.on (F.PHY_OBSS_LOOP.EN r.val) = true) ∧
    (∃ (s : State), s.blk.on F.PHY_SP_CTRL.EN = true ∧ s.blk.btab 12 2 0x3402000 8 ≤ s.blk.now ∧ s.blk.on F.PHY_SP_STATUS.EXPIRED = false) := ⟨
  ⟨gallop, 0, -100, [], _, rfl, by decide +kernel⟩,
  ⟨up (fun b => b.setFe 1 feReady), 1, -60, [], _, rfl, by decide +kernel, by decide +kernel, by decide +kernel⟩,
  ⟨receiving 0 { power := -60 }, 0, -60, [], { power := -60 }, _, rfl, by decide +kernel, by decide +kernel, by decide +kernel, rfl,
    by decide +kernel, by decide +kernel⟩,
  ⟨receiving 0 { power := -60 }, 0, { power := -60 }, by decide +kernel, by decide +kernel⟩,
  ⟨receiving 0 { power := -60 }, 0, { power := -60 }, by decide +kernel, by decide +kernel⟩,
  ⟨receiving 0 { power := -60, valid := true }, 0, { power := -60, valid := true }, by decide +kernel, by decide +kernel, by decide +kernel⟩,
  ⟨up (fun b => ((b.updPhy 2 (fun p => { p with rx := some { power := -60, valid := true } })).set (F.PHY_CAPTURE.EN 2) 1).set (F.PHY_CAPTURE.RESTART_EN 2) 1),
    2, { power := -60, valid := true }, by decide +kernel, by decide +kernel, by decide +kernel, by decide +kernel, by decide +kernel,
    by decide +kernel⟩,
  ⟨up (fun b => b.updPhy 0 (fun p => { p with search := some (-50) })), 0, -50, by decide +kernel⟩,
  ⟨receiving 0 { power := -60, valid := true, defer := true }, 0, [], { power := -60, valid := true, defer := true }, _, rfl, rfl,
    by decide +kernel, by decide +kernel⟩,
  ⟨receiving 0 { power := -60, valid := true }, 0, -60, 3, [], { power := -60, valid := true }, _, _, rfl, rfl, by decide +kernel,
    by decide +kernel, rfl⟩,
  ⟨up (fun b => (b.updPhy 0 (fun p => { p with rx := some { power := -60, valid := true } })).set (F.PHY_OBSS_LOOP.EN 0) 1), 0, -83,
    { power := -60, valid := true }, by decide +kernel, by decide +kernel, by decide +kernel, by decide +kernel, by decide +kernel⟩,
  ⟨up (fun b => (b.setFe 0 feSettle).updDrov (fun d => { d with plans := [{ plan with committed := true }] })), 0, [],
    { plan with committed := true }, _, rfl, rfl, by decide +kernel, by decide +kernel, by decide +kernel, by decide +kernel⟩,
  ⟨up (fun b => (b.setFe 0 feReady).updDrov (fun d => { d with plans := [{ plan with committed := true }] })), 0, [],
    { plan with committed := true }, _, rfl, rfl, by decide +kernel, by decide +kernel, by decide +kernel, by decide +kernel⟩,
  ⟨gallop, 0, [], _, rfl, by decide +kernel⟩,
  ⟨up (fun b => b.set (F.PHY_OBSS_LOOP.EN 0) 0), 0, by decide +kernel⟩,
  ⟨up (fun b => b.set (F.PHY_OBSS_LOOP.EN 0) 1), 0, by decide +kernel, by decide +kernel⟩,
  ⟨up (fun b => b.set F.PHY_SP_CTRL.EN 1), by decide +kernel, by decide +kernel, by decide +kernel⟩⟩

theorem test_witness_MpduAndReorderEffects :
    (∃ (s : State), ∃ (r : Fin 3), ∃ (m : MpduHdr), ∃ (x : PhyRx), ∃ (b : Block), (s.blk.phyAt r.val).rx = some x ∧ x.valid = true ∧
      x.defer = false ∧ s.blk.runs (lmEngine r.val) = true ∧ m.prot = false ∧ m.kind ≠ 0 ∧ s.blk.takeCells (cellsFor m.octets) = some b) ∧
    (∃ (s : State), ∃ (r : Fin 3), ∃ (id : Nat), ∃ (p : ProvMpdu), (s.blk.lmAt r.val).prov.find? (fun p => p.id == id) = some p) ∧
    (∃ (s : State), ∃ (r : Fin 3), ∃ (id : Nat), ∃ (p : ProvMpdu), (s.blk.lmAt r.val).prov.find? (fun p => p.id == id) = some p ∧
      p.hdr.prot = false ∧ p.sta = none ∧ p.hdr.bss = none ∧ p.hdr.kind ≠ 2) ∧
    (∃ (s : State), ∃ (r : Fin 3), ∃ (x : RespOwed), ∃ (b : Block), (s.blk.lmAt r.val).resp = some x ∧ (s.blk.lmAt r.val).prov = [] ∧
      s.blk.lm.length = 3 ∧ s.blk.runs (lmEngine r.val) = true ∧
      b = (s.blk.updLm r.val (fun l => { l with resp := none })).count (.lm (Fin.ofNat 3 r.val)) C.LM.RESP_SENT) ∧
    (∃ (s : State), ∃ (r : Fin 3), ∃ (i : Fin 1024), ∃ sn, s.blk.tab (agrAddr r.val i.val + 3) 1 = 1 ∧ 0 < snDist (s.blk.winStart r.val i.val) sn ∧
      snDist (s.blk.winStart r.val i.val) sn < 2048) ∧
    (∃ (s : State), ∃ (r : Fin 3), ∃ (i : Fin 1024), ∃ (h : HeldMpdu), ∃ (t : List HeldMpdu), s.blk.heldOf r.val i.val = h :: t ∧
      h.arrival + 1000000 * clampTo 1 1000 (s.blk.tab (agrAddr r.val i.val + 0xA) 2) ≤ s.blk.ao) ∧
    (∃ (s : State), ∃ (r : Fin 3), s.blk.runs (lmEngine r.val) = true) := ⟨
  ⟨receiving 0 { power := -60, valid := true }, 0, mpdu, { power := -60, valid := true }, _, rfl, by decide +kernel, by decide +kernel,
    by decide +kernel, by decide +kernel, by decide +kernel, if_pos (by decide +kernel)⟩,
  ⟨up (fun b => b.updLm 0 (fun l => { l with prov := [{ id := 4, ppdu := 0, hdr := mpdu, sta := none, agr := none, cells := 2 }] })), 0, 4,
    { id := 4, ppdu := 0, hdr := mpdu, sta := none, agr := none, cells := 2 }, by decide +kernel⟩,
  ⟨up (fun b => b.updLm 0 (fun l => { l with prov := [{ id := 4, ppdu := 0, hdr := mpdu, sta := none, agr := none, cells := 2 }] })), 0, 4,
    { id := 4, ppdu := 0, hdr := mpdu, sta := none, agr := none, cells := 2 }, by decide +kernel, by decide +kernel, by decide +kernel,
    by decide +kernel, by decide +kernel⟩,
  ⟨up (fun b => b.updLm 0 (fun l => { l with resp := some { kind := 0, parts := [] } })), 0, { kind := 0, parts := [] }, _, rfl,
    by decide +kernel, by decide +kernel, by decide +kernel, rfl⟩,
  ⟨up (fun b => b.setTab (agrAddr 0 7 + 3) 1 1), 0, 7, 2047, by decide +kernel, by decide +kernel, by decide +kernel⟩,
  ⟨up (fun b => ({ b with time := { b.time with ao := 1000000 } } : Block).updLm 0 (fun l => { l with held := [{ agr := 7, sn := 3, cells := 1, arrival := 0, hdr := mpdu, sta := 5 }] })),
    0, 7, { agr := 7, sn := 3, cells := 1, arrival := 0, hdr := mpdu, sta := 5 }, [], by decide +kernel, by decide +kernel⟩,
  ⟨gallop, 2, by decide +kernel⟩⟩

theorem test_witness_MediumAccessEffects :
    (∃ (s : State), ∃ (r : Fin 3), s.blk.est (lmEngine r.val) = stRun ∧ s.blk.mediumFree r.val = true ∧ s.blk.mateBusy r.val = false ∧
      (s.blk.lmAt r.val).beacons = [] ∧ s.blk.est 4 = stRun ∧ (s.blk.lmAt r.val).groups = [] ∧ s.blk.contenders r.val = []) ∧
    (∃ (s : State), ∃ (r : Fin 3), ∃ (slots : Nat), ∃ (d : Nat), ∃ (ac : Nat), ∃ (b : Block), s.blk.est (lmEngine r.val) = stRun ∧
      s.blk.mediumFree r.val = true ∧ s.blk.mateBusy r.val = false ∧ (s.blk.lmAt r.val).beacons = [] ∧ s.blk.est 4 = stRun ∧
      (s.blk.lmAt r.val).groups = [] ∧ s.blk.contenders r.val = [ac] ∧ ac ≠ 3 ∧ s.blk.slotsLeft r.val ac ≤ slots ∧
      b = (s.blk.idleSlots r.val (s.blk.slotsLeft r.val ac)).setEdca r.val ac (fun e => { e with backoff := d % (e.cw + 1) })) ∧
    (∃ (s : State), ∃ (r : Fin 3), s.blk.mediumFree r.val = false) ∧
    (∃ (s : State), ∃ (r : Fin 3), s.blk.runs (lmEngine r.val) = true ∧ (s.blk.lmAt r.val).txop.isSome = true) ∧
    (∃ (s : State), ∃ (r : Fin 3), ∃ (t : Txop), s.blk.runs (lmEngine r.val) = true ∧ (s.blk.lmAt r.val).txop = some t) ∧
    (∃ (s : State), ∃ (r : Fin 3), ∃ (p : Plan), ∃ (t : Txop), ∃ (u : PlanUser), s.blk.runs (lmEngine r.val) = true ∧
      s.blk.planAt r.val 0 = some p ∧ (s.blk.lmAt r.val).txop = some t ∧ p.committed = false ∧ p.protect = true ∧ p.guarded = false ∧
      r.val ≠ 2 ∧ s.blk.rtsDue r.val p.ac p.first p.users = true ∧ p.users = [u] ∧ u.empty = false ∧ s.blk.isEmlsr u.sta = false) ∧
    (∃ (s : State), ∃ (r : Fin 3), ∃ (p : Plan), ∃ (t : Txop), s.blk.runs (lmEngine r.val) = true ∧ s.blk.planAt r.val 0 = some p ∧
      (s.blk.lmAt r.val).txop = some t ∧ p.committed = false ∧ p.protect = true ∧ p.guarded = false ∧
      s.blk.rtsDue r.val p.ac p.first p.users = false ∧ s.blk.erpDue r.val = true ∧ p.selfCts = false) ∧
    (∃ (s : State), ∃ (r : Fin 3), ∃ (p : Plan), ∃ (t : Txop), s.blk.runs (lmEngine r.val) = true ∧ s.blk.planAt r.val 0 = some p ∧
      (s.blk.lmAt r.val).txop = some t ∧ p.committed = false ∧ p.protect = true ∧ p.guarded = false ∧
      s.blk.rtsDue r.val p.ac p.first p.users = false ∧ (s.blk.erpDue r.val = false ∨ p.selfCts = true)) ∧
    (∃ (s : State), ∃ (r : Fin 3), ∃ (p : Plan), s.blk.runs (lmEngine r.val) = true ∧ s.blk.committedPlan r.val = some p ∧ p.form = .trigger) ∧
    (∃ (s : State), ∃ (r : Fin 3), ∃ (u : TbUser), ∃ (v : TbUser), s.blk.runs (lmEngine r.val) = true ∧ u.decoded = true ∧ v.decoded = true ∧
      u.bsr = none ∧ v.bsr = none ∧ (s.blk.lmAt r.val).resp = none) ∧
    (∃ (s : State), ∃ (r : Fin 3), ∃ (p : Plan), ∃ (u : PlanUser), s.blk.committedPlan r.val = some p ∧ p.form = .sounding ∧
      s.blk.runs (lmEngine r.val) = true ∧ p.users = [u] ∧ u.empty = false ∧ 3 ≤ s.blk.staMode r.val u.sta ∧ (s.blk.lmAt r.val).sound = none) ∧
    (∃ (s : State), ∃ (r : Fin 3), ∃ (p : Plan), ∃ (u : PlanUser), ∃ (x : SoundSeq), s.blk.committedPlan r.val = some p ∧ p.form = .sounding ∧
      s.blk.runs (lmEngine r.val) = true ∧ p.users = [u] ∧ u.empty = false ∧ 3 ≤ s.blk.staMode r.val u.sta ∧
      (s.blk.lmAt r.val).sound = some x ∧ x.stas = [u.sta] ∧ x.next = 1) ∧
    (∃ (s : State), ∃ (r : Fin 3), s.blk.runs (lmEngine r.val) = true ∧ (s.blk.lmAt r.val).reports = [] ∧ s.blk.lm.length = 3) := ⟨
  ⟨up (fun b => b.setFe 0 feReady), 0, by decide +kernel, by decide +kernel, by decide +kernel, by decide +kernel, by decide +kernel,
    by decide +kernel, by decide +kernel⟩,
  ⟨up (fun b => (b.setFe 0 feReady).updDrov (fun d => { d with plans := [plan] })), 0, 100, 0, 0, _, by decide +kernel, by decide +kernel,
    by decide +kernel, by decide +kernel, by decide +kernel, by decide +kernel, by decide +kernel, by decide +kernel, by decide +kernel, rfl⟩,
  ⟨up (fun b => b.updLm 0 (fun l => { l with txop := some { ac := 0 } })), 0, by decide +kernel⟩,
  ⟨up (fun b => b.updLm 2 (fun l => { l with txop := some { ac := 0 } })), 2, by decide +kernel, by decide +kernel⟩,
  ⟨up (fun b => b.updLm 1 (fun l => { l with txop := some { ac := 3 } })), 1, { ac := 3 }, by decide +kernel, by decide +kernel⟩,
  ⟨up (fun b => ((((b.set (F.LM_RTS_CFG.RTS_THRESH 0) 0).setQueue 20 [qframe]).updLm 0 (fun l => { l with txop := some { ac := 0 } })).updDrov (fun d => { d with plans := [{ plan with protect := true, users := [{ sta := 5, frames := [0] }] }] }))),
    0, { plan with protect := true, users := [{ sta := 5, frames := [0] }] }, { ac := 0 }, { sta := 5, frames := [0] }, by decide +kernel,
    by decide +kernel, by decide +kernel, by decide +kernel, by decide +kernel, by decide +kernel, by decide +kernel, by decide +kernel,
    by decide +kernel, by decide +kernel, by decide +kernel⟩,
  ⟨up (fun b => ((((b.set (F.LM_MAC_CFG.ERP_PROT 2) 1)).updLm 2 (fun l => { l with txop := some { ac := 0 } })).updDrov (fun d => { d with plans := [{ plan with radio := 2, protect := true }] }))),
    2, { plan with radio := 2, protect := true }, { ac := 0 }, by decide +kernel, by decide +kernel, by decide +kernel, by decide +kernel,
    by decide +kernel, by decide +kernel, by decide +kernel, by decide +kernel, by decide +kernel⟩,
  ⟨up (fun b => ((b.updLm 0 (fun l => { l with txop := some { ac := 0 } })).updDrov (fun d => { d with plans := [{ plan with protect := true }] }))),
    0, { plan with protect := true }, { ac := 0 }, by decide +kernel, by decide +kernel, by decide +kernel, by decide +kernel,
    by decide +kernel, by decide +kernel, by decide +kernel, by decide +kernel⟩,
  ⟨up (fun b => b.updDrov (fun d => { d with plans := [{ plan with form := .trigger, committed := true }] })), 0,
    { plan with form := .trigger, committed := true }, by decide +kernel, by decide +kernel, by decide +kernel⟩,
  ⟨gallop, 0, { sta := 5, decoded := true }, { sta := 6, decoded := true }, by decide +kernel, by decide +kernel, by decide +kernel,
    by decide +kernel, by decide +kernel, by decide +kernel⟩,
  ⟨up (fun b => (b.setTab (staAddr 0 5 + 8) 4 (2 ^ 6 * 3)).updDrov (fun d => { d with plans := [{ plan with form := .sounding, committed := true, users := [{ sta := 5 }] }] })),
    0, { plan with form := .sounding, committed := true, users := [{ sta := 5 }] }, { sta := 5 }, by decide +kernel, by decide +kernel,
    by decide +kernel, by decide +kernel, by decide +kernel, by decide +kernel, by decide +kernel⟩,
  ⟨up (fun b => ((b.setTab (staAddr 0 5 + 8) 4 (2 ^ 6 * 3)).updDrov (fun d => { d with plans := [{ plan with form := .sounding, committed := true, users := [{ sta := 5 }] }] })).updLm 0 (fun l => { l with sound := some { next := 1, stas := [5], polls := [] } })),
    0, { plan with form := .sounding, committed := true, users := [{ sta := 5 }] }, { sta := 5 }, { next := 1, stas := [5], polls := [] },
    by decide +kernel, by decide +kernel, by decide +kernel, by decide +kernel, by decide +kernel, by decide +kernel, by decide +kernel,
    by decide +kernel, by decide +kernel⟩,
  ⟨gallop, 0, by decide +kernel, by decide +kernel, by decide +kernel⟩⟩

theorem test_witness_BeaconAndPowerSaveEffects :
    (∃ (s : State), ∃ (r : Fin 3), ∃ (i : Fin 16), s.blk.runs (lmEngine r.val) = true ∧ s.blk.beaconing r.val i.val = true ∧
      ((s.blk.lmAt r.val).tsf / 1024 + s.blk.bss r.val i.val 6 2 * 65536 - s.blk.bss r.val i.val 0xA 2) % s.blk.bss r.val i.val 6 2 = 0 ∧
      look (s.blk.lmAt r.val).tbttAt i.val 0 ≠ (s.blk.lmAt r.val).tsf / 1024 + 1 ∧ s.blk.mediumFree r.val = false ∧
      (s.blk.lmAt r.val).beacons = [] ∧ s.blk.lm.length = 3) ∧
    (∃ (s : State), ∃ (r : Fin 3), ∃ (i : Fin 16), ∃ (t : Nat), (i.val, t) ∈ (s.blk.lmAt r.val).beacons ∧
      s.blk.get (F.LM_BCN_CTRL.LATE_MAX r.val) ≠ 0 ∧ t + 1024 * s.blk.get (F.LM_BCN_CTRL.LATE_MAX r.val) ≤ (s.blk.lmAt r.val).tsf) ∧
    (∃ (s : State), ∃ (r : Fin 3), ∃ (q : ProbeReq), s.blk.runs (lmEngine r.val) = true ∧ s.blk.probeMatch r.val q = true ∧
      s.blk.templateLen r.val 2 (s.blk.txBss r.val) ≠ 0 ∧ (s.blk.lmAt r.val).probes = []) ∧
    (∃ (s : State), ∃ (r : Fin 3), ∃ (sta : Fin 2048), s.blk.runs (lmEngine r.val) = true ∧ s.blk.staValid r.val sta.val = true ∧
      s.blk.lm.length = 3) ∧
    (∃ (s : State), ∃ (r : Fin 3), ∃ (sta : Fin 2048), ∃ (ac : Fin 4), s.blk.runs (lmEngine r.val) = true ∧ s.blk.staValid r.val sta.val = true ∧
      bitOf (s.blk.psBits r.val sta.val) 0 = true ∧ bitOf (s.blk.staFlags r.val sta.val) (18 + ac.val) = true) ∧
    (∃ (s : State), ∃ (r : Fin 3), ∃ (i : Fin 256), ∃ (a : Nat), ∃ (dur : Nat), ∃ (nxt : Nat), a = lmWin r.val + 0x12000 + 32 * i.val ∧
      dur = 256 * s.blk.tab (a + 4) 1 ∧ nxt = s.blk.tab (a + 0x10) 8 ∧ bitOf (s.blk.tab a 2) 15 = true ∧ s.blk.runs (lmEngine r.val) = true ∧
      nxt + dur ≤ (s.blk.lmAt r.val).tsf) ∧
    (∃ (s : State), ∃ (r : Fin 3), s.blk.bhRadio = some r.val ∧
      s.blk.get (F.LM_BH_STATUS.MISSED r.val) + 1 < s.blk.get (F.LM_BH_CTRL.BCN_LOSS r.val) ∧
      s.blk.get (F.LM_BH_STATUS.MISSED r.val) < 2 ^ 16 - 1) ∧
    (∃ (s : State), ∃ (r : Fin 3), s.blk.bhRadio = some r.val) := ⟨
  ⟨up (fun b => (((b.setTab (lmWin 0 + 64 * 3 + 9) 1 1).setTab (lmWin 0 + 64 * 3 + 6) 2 100).set (F.LM_BCN_CTRL.EN 0) 8).updLm 0 (fun l => { l with txop := some { ac := 0 } })),
    0, 3, by decide +kernel, by decide +kernel, by decide +kernel, by decide +kernel, by decide +kernel, by decide +kernel,
    by decide +kernel⟩,
  ⟨up (fun b => (b.set (F.LM_BCN_CTRL.LATE_MAX 0) 1).updLm 0 (fun l => { l with beacons := [(3, 0)], tsf := 1024 })), 0, 3, 0,
    by decide +kernel, by decide +kernel, by decide +kernel⟩,
  ⟨up (fun b => (b.setTab (lmWin 0 + 9) 1 1).setTab (templateAddr 0 2 0) 2 24), 0,
    { ta := 9, bcast := true, bss := none, ssid := [], short := none }, by decide +kernel, by decide +kernel, by decide +kernel,
    by decide +kernel⟩,
  ⟨up (fun b => b.setTab (staAddr 0 5 + 8) 4 1), 0, 5, by decide +kernel, by decide +kernel, by decide +kernel⟩,
  ⟨up (fun b => (b.setTab (staAddr 0 5 + 8) 4 (2 ^ 21 + 1)).setTab (staAddr 0 5 + 0x34) 1 1), 0, 5, 3, by decide +kernel, by decide +kernel,
    by decide +kernel, by decide +kernel⟩,
  ⟨up (fun b => b.setTab (lmWin 0 + 0x12000 + 32 * 9) 2 0x8000), 0, 9, _, _, _, rfl, rfl, rfl, by decide +kernel, by decide +kernel,
    by decide +kernel⟩,
  ⟨up (fun b => (b.set (F.LM_BH_CTRL.EN 1) 1).set (F.LM_BH_CTRL.BCN_LOSS 1) 10), 1, by decide +kernel, by decide +kernel, by decide +kernel⟩,
  ⟨up (fun b => b.set (F.LM_BH_CTRL.EN 0) 1), 0, by decide +kernel⟩⟩

theorem test_witness_PlanQueueAndLoopEffects :
    (∃ (s : State), ∃ (p : PlanInput), ∃ (c : Block), ∃ (r : Nat), ∃ (ac : Nat), ∃ (key : Nat), ∃ (room : Nat × Nat), ∃ (fs : List QFrame), r = p.radio.val ∧
      s.blk.est 4 = stRun ∧ s.blk.upRadio r = true ∧ s.blk.slotFree r p.slot.val = true ∧ s.blk.txopRoom r p.slot.val = none ∧
      ac = s.blk.contendAc r ∧ c = s.blk.countNoLink ac ∧ c.drov.soundDue = [] ∧ c.groupReady r = some key ∧
      room = c.planRoom r p.slot.val ac ∧
      fs = fitFrames (ppduOctets 0 600 (min (min c.maxPpdu room.2) room.1)) ((c.queue key).filter (fun f => f.reserved.isNone)) ∧ fs ≠ []) ∧
    (∃ (s : State), ∃ (p : PlanInput), (s.blk.est 4 ≠ stRun ∨ s.blk.slotFree p.radio.val p.slot.val = false)) ∧
    (∃ (s : State), ∃ (r : Fin 3), ∃ (p : Plan), s.blk.drov.plans = [p] ∧ p.radio = r.val ∧ p.slot = 0 ∧ p.committed = false ∧
      s.blk.est 4 = stRun ∧ (p.protect = false ∨ p.guarded = true) ∧ s.blk.pairWaits r.val = false ∧ s.blk.overruns p = true) ∧
    (∃ (s : State), ∃ (r : Fin 3), ∃ (p : Plan), s.blk.drov.plans = [p] ∧ p.radio = r.val ∧ p.slot = 0 ∧ p.committed = false ∧
      s.blk.est 4 = stRun ∧ (p.protect = false ∨ p.guarded = true) ∧ s.blk.pairWaits r.val = false ∧ s.blk.overruns p = false ∧
      p.form = .group ∧ p.first = false ∧ p.users = []) ∧
    (∃ (s : State), ∃ (r : Fin 3), ∃ (p : Plan), ∃ (us : List SettleUser), ∃ (c : Block), s.blk.committedPlan r.val = some p ∧ p.form ≠ .sounding ∧
      us.any (fun u => u.heard) = false ∧
      c = (((p.users.foldl (fun b u => b.settleUser p us u) s.blk).dropPlan r.val p.slot).refill r.val p.ac).groupsGone r.val ∧
      c.txopLimit r.val p.ac = 0) ∧
    (∃ (s : State), ∃ (r : Fin 3), ∃ (p : Plan), ∃ (ac : Fin 4), s.blk.planAt r.val 0 = some p ∧ p.committed = false ∧ p.ac ≠ ac.val) ∧
    (∃ (s : State), ∃ (r : Fin 3), ∃ (k : Fin 2), ∃ (p : Plan), s.blk.planAt r.val k.val = some p ∧ p.committed = false) ∧
    (∃ (s : State), ∃ (r : Fin 3), ∃ (k : Fin 2), ∃ (p : Plan), s.blk.planAt r.val k.val = some p ∧ p.committed = false) ∧
    (∃ (s : State), ∃ (sta : Fin 2048), ∃ (tid : Fin 8), ∃ (f : EthFrame), ∃ (n : Nat), ∃ (key : Nat), ∃ (b : Block), n = cellsFor (frameLen f) ∧
      key = 4 * sta.val + acOf tid.val ∧ n ≤ s.blk.cart.cellar ∧ b = s.blk.updCart (fun c => { c with cellar := c.cellar - n }) ∧
      b.drovValid sta.val = true ∧ b.runs 4 = true ∧ sumNat ((b.queue key).map (fun y => y.len)) + frameLen f ≤ b.queueLimit key) ∧
    (∃ (s : State), ∃ (f : EthFrame), s.blk.cart.cellar < cellsFor (frameLen f)) ∧
    (∃ (s : State), ∃ (q : Nat), ∃ (f : QFrame), ∃ (rest : List QFrame), s.blk.queue q = f :: rest ∧ s.blk.get F.DROV_QCFG.AGE_MS ≠ 0 ∧
      f.reserved = none ∧ f.head ≠ 0 ∧ f.head + s.blk.get F.DROV_QCFG.AGE_MS ≤ s.blk.ao / 1000000 + 1 ∧ s.blk.runs 4 = true) ∧
    (∃ (s : State), s.blk.est 4 = stRun ∧ s.blk.get F.DROV_SOUND.SOUND_MS ≠ 0) ∧
    (∃ (s : State), ∃ (r : Fin 3), s.blk.est 4 = stRun ∧ s.blk.get F.DROV_UL.BSRP_MS ≠ 0 ∧ s.blk.on F.DROV_UL.UL_EN = true ∧
      r.val ∉ s.blk.drov.bsrpDue) ∧
    (∃ (s : State), ∃ (k : Fin 2), ∃ (g : Precoder), s.blk.drov.solving = [(k.val, g)] ∧ s.blk.drov.ready = []) ∧
    (∃ (s : State), s.blk.est 8 = stRun ∧ s.blk.on F.MARS_LOOP.FREEZE = true ∧ (∀ i, s.blk.mlValid i = false)) := ⟨
  ⟨up (fun b => b.setQueue 8192 [qframe]), { radio := 0, slot := 0 }, _, _, _, 8192, _, _, rfl, by decide +kernel, by decide +kernel,
    by decide +kernel, by decide +kernel, rfl, rfl, by decide +kernel, by decide +kernel, rfl, rfl, by decide +kernel⟩,
  ⟨up (fun b => b.set (F.ENG_STATUS.STATE 4) stStop), { radio := 0, slot := 0 }, by decide +kernel⟩,
  ⟨up (fun b => (b.updLm 0 (fun l => { l with txop := some { ac := 0, stop := some 0 } })).updDrov (fun d => { d with plans := [{ plan with total := 1 }] })),
    0, { plan with total := 1 }, by decide +kernel, by decide +kernel, by decide +kernel, by decide +kernel, by decide +kernel,
    by decide +kernel, by decide +kernel, by decide +kernel⟩,
  ⟨up (fun b => b.updDrov (fun d => { d with plans := [{ plan with form := .group, users := [] }] })), 0,
    { plan with form := .group, users := [] }, by decide +kernel, by decide +kernel, by decide +kernel, by decide +kernel, by decide +kernel,
    by decide +kernel, by decide +kernel, by decide +kernel, by decide +kernel, by decide +kernel, by decide +kernel⟩,
  ⟨up (fun b => b.updDrov (fun d => { d with plans := [{ plan with committed := true, users := [] }] })), 0,
    { plan with committed := true, users := [] }, [], _, rfl, by decide +kernel, by decide +kernel, rfl, by decide +kernel⟩,
  ⟨up (fun b => b.updDrov (fun d => { d with plans := [plan] })), 0, plan, 1, by decide +kernel, by decide +kernel, by decide +kernel⟩,
  ⟨up (fun b => b.updDrov (fun d => { d with plans := [plan] })), 0, 0, plan, by decide +kernel, by decide +kernel⟩,
  ⟨up (fun b => b.updDrov (fun d => { d with plans := [plan] })), 0, 0, plan, by decide +kernel, by decide +kernel⟩,
  ⟨up (fun b => b.setTab (drovSta 5) 2 0x8000), 5, 0, eth, _, _, _, rfl, rfl, by decide +kernel, rfl, by decide +kernel, by decide +kernel,
    by decide +kernel⟩,
  ⟨up (fun b => b.updCart (fun c => { c with cellar := 0 })), eth, by decide +kernel⟩,
  ⟨up (fun b => ({ b with time := { b.time with ao := 7000000 } } : Block).set F.DROV_QCFG.AGE_MS 7 |>.setQueue 20 [{ qframe with head := 1 }]),
    20, { qframe with head := 1 }, [], by decide +kernel, by decide +kernel, by decide +kernel, by decide +kernel, by decide +kernel,
    by decide +kernel⟩,
  ⟨up (fun b => b.set F.DROV_SOUND.SOUND_MS 1), by decide +kernel, by decide +kernel⟩,
  ⟨up (fun b => (b.set F.DROV_UL.BSRP_MS 1).set F.DROV_UL.UL_EN 1), 0, by decide +kernel, by decide +kernel, by decide +kernel,
    by decide +kernel⟩,
  ⟨up (fun b => b.updDrov (fun d => { d with solving := [(0, { radio := 0, set := [5] })] })), 0, { radio := 0, set := [5] }, by decide +kernel,
    by decide +kernel⟩,
  ⟨up (fun b => ({ b with tabs := [] } : Block).set F.MARS_LOOP.FREEZE 1), by decide +kernel, by decide +kernel,
    mlValid_blank _ (by decide +kernel)⟩⟩

theorem test_witness_MeshReceptionEffects :
    (∃ (s : State), ∃ (ns : Nat), ∃ (h : RoundHit), ∃ (b : Block), s.blk.hitDeclared ns h = true ∧
      b = ((s.blk.count .sieve C.SIEVE.DETECT).chCount h.ch 4).lane 9 (128 + h.hyp) 0) ∧
    (∃ (s : State), ∃ (ns : Nat), ∃ (h : RoundHit), s.blk.hitDeclared ns h = false) ∧
    (∃ (s : State), ∃ (ns : Nat), ∃ (h : SfdHit), ∃ (coded : Bool), ∃ (x : Stall), ∃ (b : Block), s.blk.sieve.stalls = [x] ∧ x.idx = h.stall.val ∧
      x.st = .hunt ∧ ns ≤ s.blk.preDeadline x ∧ sfdCoded (s.blk.on F.SIEVE_RXCFG.SFD_SET) x.hyp h.sfd.toNat = some coded ∧
      s.blk.est 10 = stRun ∧
      b = (s.blk.lane 9 (128 + x.hyp) 1).setStall { x with st := .header, cand := false, sfd := ns, coded := coded, cfo := h.cfo }) ∧
    (∃ (s : State), ∃ (ns : Nat), ∃ (h : SfdHit), ∃ (x : Stall), s.blk.stallAt h.stall.val = some x ∧ x.st = .hunt ∧ s.blk.preDeadline x < ns) ∧
    (∃ (s : State), ∃ (i : Fin 128), ∃ (x : Stall), s.blk.stallAt i.val = some x ∧ x.st = .hunt) ∧
    (∃ (s : State), ∃ (i : Fin 128), ∃ (x : Stall), ∃ (p : PhrRead), s.blk.stallAt i.val = some x ∧ x.st = .header ∧ p.ms = true) ∧
    (∃ (s : State), ∃ (i : Fin 128), ∃ (x : Stall), ∃ (p : PhrRead), s.blk.stallAt i.val = some x ∧ x.st = .header ∧ p.ms = false ∧
      p.len < (if p.fcs4 = true then 5 else 3)) ∧
    (∃ (s : State), ∃ (i : Fin 128), ∃ (x : Stall), ∃ (p : PhrRead), s.blk.stallAt i.val = some x ∧ x.st = .header ∧ p.ms = false ∧
      (if p.fcs4 = true then 5 else 3) ≤ p.len) ∧
    (∃ (s : State), ∃ (i : Fin 128), ∃ (x : Stall), ∃ (psdu : List Byte), ∃ (t : List Byte), ∃ (b : Block), s.blk.stallAt i.val = some x ∧
      x.st = .body ∧ b = { s.blk with sieve := { s.blk.sieve with stalls := s.blk.sieve.stalls.filter (fun q => q.idx != x.idx) } } ∧
      ((psdu ++ t).length ≠ x.len ∨ meshChecked x.fcs4 (psdu ++ t) = none)) ∧
    (∃ (s : State), ∃ (i : Fin 128), ∃ (x : Stall), ∃ (psdu : List Byte), ∃ (t : List Byte), ∃ (b : Block), ∃ (body : List Byte), ∃ (c : Block), s.blk.stallAt i.val = some x ∧
      x.st = .body ∧ b = { s.blk with sieve := { s.blk.sieve with stalls := s.blk.sieve.stalls.filter (fun q => q.idx != x.idx) } } ∧
      (psdu ++ t).length = x.len ∧ meshChecked x.fcs4 (psdu ++ t) = some body ∧
      c = (((b.count .sieve C.SIEVE.FRAME_OK).chCount x.ch 8).lane 9 x.idx 0).setTab (chState x.ch + 3) 1 (unsignedOf 8 (x.power / 2) ^^^ 0x80)) ∧
    (∃ (s : State), ∃ (k : Nat), s.blk.runs 9 = true ∧ s.blk.on F.SIEVE_NF_LOOP.EN = true ∧
      (List.range s.blk.meshChannels).filter (fun k => bitOf (s.blk.chEntry k) 0) = [k]) := ⟨
  ⟨mesh id, 0, { ch := 5, hyp := 0, power := 100, corr := 16 }, _, by decide +kernel, rfl⟩,
  ⟨gallop, 0, { ch := 5, hyp := 0, power := 100, corr := 16 }, by decide +kernel⟩,
  ⟨stalled .hunt, 0, { stall := 5, sfd := 0x904E, cfo := 0 }, false, stall .hunt, _, by decide +kernel, by decide +kernel, by decide +kernel,
    by decide +kernel, rfl, by decide +kernel, rfl⟩,
  ⟨stalled .hunt, 1000000000000, { stall := 5, sfd := 0x904E, cfo := 0 }, stall .hunt, by decide +kernel, by decide +kernel, by decide +kernel⟩,
  ⟨stalled .hunt, 5, stall .hunt, by decide +kernel, by decide +kernel⟩,
  ⟨stalled .header, 5, stall .header, { ms := true, len := 0, fcs4 := false, dw := false }, by decide +kernel, by decide +kernel,
    by decide +kernel⟩,
  ⟨stalled .header, 5, stall .header, { ms := false, len := 4, fcs4 := true, dw := false }, by decide +kernel, by decide +kernel,
    by decide +kernel, by decide +kernel⟩,
  ⟨stalled .header, 5, stall .header, { ms := false, len := 5, fcs4 := true, dw := false }, by decide +kernel, by decide +kernel,
    by decide +kernel, by decide +kernel⟩,
  ⟨stalled .body, 5, stall .body, [], [0], _, rfl, by decide +kernel, rfl, by decide +kernel⟩,
  ⟨mesh (fun b => { b with sieve := { b.sieve with stalls := [{ stall .body with len := 2 }] } }), 5, { stall .body with len := 2 }, [], [0, 0],
    _, [], _, rfl, by decide +kernel, rfl, by decide +kernel, rfl, rfl⟩,
  ⟨mesh (fun b => b.set F.SIEVE_NF_LOOP.EN 1), 5, by decide +kernel, by decide +kernel, by decide +kernel⟩⟩

theorem test_witness_MeshTransmissionEffects :
    (∃ (s : State), s.blk.fe 3 = feCal) ∧
    (∃ (s : State), ∃ (n : Nat), ∃ (t : SieveTx), ∃ (b : Block), s.blk.sieve.txs.find? (fun t => t.id == n && t.committed && !t.air) = some t ∧
      s.blk.reached (t.req.start - 1000 * s.blk.rampUs) = true ∧ feReady ≤ s.blk.fe 3 ∧ s.blk.fe 3 ≠ feCal ∧ s.blk.sieveWalk = false ∧
      b = { s.blk with sieve := { s.blk.sieve with txs := s.blk.sieve.txs.map (fun (q : SieveTx) => if q.id = n then { q with air := true } else q) } }) ∧
    (∃ (s : State), ∃ (n : Nat), ∃ (t : SieveTx), s.blk.sieve.txs.find? (fun t => t.id == n && t.committed && !t.air) = some t ∧
      s.blk.reached (t.req.start - 1000 * s.blk.rampUs) = false) ∧
    (∃ (s : State), ∃ (t : MeshTx), ∃ (u : MeshTx), s.blk.sieveSends = true ∧ u = { t with pre := clampTo 4 1000 t.pre } ∧
      s.blk.meshJudge s.fuse t.ch ≠ .ok) ∧
    (∃ (s : State), ∃ (t : MeshTx), ∃ (u : MeshTx), s.blk.sieveSends = true ∧ u = { t with pre := clampTo 4 1000 t.pre } ∧
      s.blk.meshJudge s.fuse t.ch = .ok ∧ t.start < s.blk.now + s.blk.leadNs) ∧
    (∃ (s : State), ∃ (t : MeshTx), ∃ (u : MeshTx), ∃ (b : Block), s.blk.sieveSends = true ∧ u = { t with pre := clampTo 4 1000 t.pre } ∧
      s.blk.meshJudge s.fuse t.ch = .ok ∧ s.blk.now + s.blk.leadNs ≤ t.start ∧
      b = ({ s.blk with sieve := { s.blk.sieve with nextTx := s.blk.sieve.nextTx + 1, txs := s.blk.sieve.txs ++ [({ id := s.blk.sieve.nextTx, req := u, power := t.power } : SieveTx)] } } : Block).calAbort 3 ∧
      b.fe 3 = feReady) ∧
    (∃ (s : State), ∃ (n : Nat), ∃ (t : SieveTx), ∃ (p : Int), ∃ (u : Nat), s.blk.sieve.txs.find? (fun t => t.id == n && !t.committed) = some t ∧
      s.blk.reached (s.blk.commitNs t.req) = true ∧ s.blk.now ≤ t.req.start ∧ feReady ≤ s.blk.fe 3 ∧ s.blk.fe 3 ≠ feCal ∧
      s.blk.sieveSends = true ∧ s.blk.meshJudge s.fuse t.req.ch = .ok ∧ s.blk.onAirAt t.req.start = [] ∧
      p = s.blk.capPower s.fuse t.req.ch (clampInt (-40) 28 t.req.power) ∧ clampInt (-40) 28 t.req.power ≤ p ∧ leastCut [] p = 0 ∧
      u = (s.blk.meshSub s.fuse t.req.ch).getD 0 ∧ s.blk.dutyGrants s.fuse u (s.blk.airUnits t.req) = true) ∧
    (∃ (s : State), ∃ (n : Nat), ∃ (t : SieveTx), s.blk.sieve.txs.find? (fun t => t.id == n && !t.committed) = some t ∧
      s.blk.reached (s.blk.commitNs t.req) = false) ∧
    (∃ (s : State), ∃ (t : SieveTx), ∃ (u : Nat), ∃ (b : Block), s.blk.sieve.txs = [t] ∧ t.air = true ∧
      u = s.blk.sieve.airRem + s.blk.airUnits t.req ∧ s.blk.fe 3 = feTx ∧ s.blk.sieve.stalls = [] ∧
      b = { s.blk with sieve := { s.blk.sieve with txs := [], tails := s.blk.sieve.tails ++ [(t.id, t.req.ch, s.blk.tailEnd)], airRem := u % 100 } }) ∧
    (∃ (s : State), s.blk.runs 9 = true ∧ s.blk.sieve.span = none) := ⟨
  ⟨up (fun b => b.setFe 3 feCal), by decide +kernel⟩,
  ⟨mesh (fun b => ({ b with sieve := { b.sieve with txs := [{ id := 0, req := meshTx, power := 0, committed := true }] }, time := { b.time with device := 10000000000 } } : Block)),
    0, { id := 0, req := meshTx, power := 0, committed := true }, _, rfl, by decide +kernel, by decide +kernel, by decide +kernel,
    by decide +kernel, rfl⟩,
  ⟨sending { id := 0, req := meshTx, power := 0, committed := true }, 0, { id := 0, req := meshTx, power := 0, committed := true },
    by decide +kernel, by decide +kernel⟩,
  ⟨gallop, meshTx, _, by decide +kernel, rfl, by decide +kernel⟩,
  ⟨mesh (fun b => ({ b with sieve := { b.sieve with txs := [{ id := 0, req := meshTx, power := 0, committed := true }] }, time := { b.time with device := 10000000000 } } : Block)),
    meshTx, _, by decide +kernel, rfl, by decide +kernel, by decide +kernel⟩,
  ⟨mesh id, meshTx, _, _, by decide +kernel, rfl, by decide +kernel, by decide +kernel, rfl, by decide +kernel⟩,
  ⟨mesh (fun b => ({ b with sieve := { b.sieve with txs := [{ id := 0, req := meshTx, power := 0 }] }, time := { b.time with device := 10000000000 } } : Block)),
    0, { id := 0, req := meshTx, power := 0 }, _, _, rfl, by decide +kernel, by decide +kernel, by decide +kernel, by decide +kernel,
    by decide +kernel, by decide +kernel, by decide +kernel, rfl, by decide +kernel, by decide +kernel, rfl, by decide +kernel⟩,
  ⟨sending { id := 0, req := meshTx, power := 0 }, 0, { id := 0, req := meshTx, power := 0 }, by decide +kernel, by decide +kernel⟩,
  ⟨mesh (fun b => ({ b with sieve := { b.sieve with txs := [{ id := 0, req := meshTx, power := 0, committed := true, air := true }] } } : Block).setFe 3 feTx),
    { id := 0, req := meshTx, power := 0, committed := true, air := true }, _, _, by decide +kernel, by decide +kernel, rfl,
    by decide +kernel, by decide +kernel, rfl⟩,
  ⟨gallop, by decide +kernel, by decide +kernel⟩⟩

theorem test_witness_NodeAndTetherEffects :
    (∃ (s : State), ∃ (n : Fin 131072), s.blk.runs 10 = true ∧ s.blk.postWalk = false ∧ s.blk.get F.POST_TCMD_STATUS.STATE ≠ 1 ∧
      s.blk.eventOf n.val = none ∧ (s.blk.hot n.val).st = stFree) ∧
    (∃ (s : State), ∃ (n : Fin 131072), s.blk.runs 10 = true ∧ s.blk.postWalk = false ∧ s.blk.get F.POST_TCMD_STATUS.STATE ≠ 1 ∧
      s.blk.eventOf n.val = none ∧ (s.blk.hot n.val).st ≠ stFree) ∧
    (∃ (s : State), ∃ (n : Fin 131072), s.blk.runs 10 = true ∧ s.blk.postWalk = false ∧ s.blk.get F.POST_TCMD_STATUS.STATE ≠ 1 ∧
      s.blk.eventOf n.val = none ∧ (s.blk.hot n.val).st ≠ stKnown) ∧
    (∃ (s : State), ∃ (n : Fin 131072), s.blk.runs 10 = true ∧ s.blk.postWalk = false ∧ s.blk.get F.POST_TCMD_STATUS.STATE ≠ 1 ∧
      s.blk.eventOf n.val = none ∧ (s.blk.hot n.val).st = stKnown ∧ s.blk.profValid (s.blk.get F.POST_TARG0.PROFILE) = false) ∧
    (∃ (s : State), ∃ (n : Fin 131072), s.blk.runs 10 = true ∧ s.blk.postWalk = false ∧ s.blk.get F.POST_TCMD_STATUS.STATE ≠ 1 ∧
      s.blk.eventOf n.val = none ∧ (s.blk.hot n.val).st = stKnown ∧ s.blk.profValid (s.blk.get F.POST_TARG0.PROFILE) = true ∧
      s.blk.effMap (s.blk.get F.POST_TARG0.MAP) ≠ 0) ∧
    (∃ (s : State), ∃ (n : Fin 131072), s.blk.runs 10 = true ∧ s.blk.postWalk = false ∧ s.blk.get F.POST_TCMD_STATUS.STATE ≠ 1 ∧
      s.blk.eventOf n.val = none ∧ (s.blk.hot n.val).st = stTethered) ∧
    (∃ (s : State), ∃ (n : Fin 131072), s.blk.runs 10 = true ∧ s.blk.postWalk = false ∧ s.blk.get F.POST_TCMD_STATUS.STATE ≠ 1 ∧
      s.blk.eventOf n.val = none ∧ (s.blk.hot n.val).st = stGranting) ∧
    (∃ (s : State), ∃ (n : Fin 131072), s.blk.runs 10 = true ∧ s.blk.postWalk = false ∧ s.blk.get F.POST_TCMD_STATUS.STATE ≠ 1 ∧
      s.blk.eventOf n.val = none ∧ (s.blk.hot n.val).st ≠ stFree ∧ s.blk.post.held = []) ∧
    (∃ (s : State), ∃ (n : Fin 131072), ∃ (w : Nat), ∃ (e : TetherEvent), (s.blk.hot n.val).st = stTethered ∧ s.blk.eventOf n.val = none ∧
      s.blk.est 10 = stRun ∧ w = s.blk.widening (s.blk.hot n.val) ∧ n.val ∉ s.blk.post.outReach ∧
      w ≤ s.blk.guardUs (s.blk.hot n.val).profile ∧ s.blk.effMap (s.blk.hot n.val).map ≠ 0 ∧ e = s.blk.newEvent n.val false) ∧
    (∃ (s : State), ∃ (n : Fin 131072), ∃ (e : TetherEvent), ∃ (b : Block), s.blk.eventOf n.val = some e ∧ e.deferred = none ∧ e.hit = true ∧
      b = (((((s.blk.updPost (fun p => { p with events := p.events.filter (fun q => q.node != n.val) })).dropWindows n.val).exchEnd n.val).count .post C.POST.EVT_HIT).recCount n.val 3) ∧
      (b.hot n.val).st ≠ stTethered) ∧
    (∃ (s : State), ∃ (n : Fin 131072), ∃ (e : TetherEvent), ∃ (b : Block), s.blk.eventOf n.val = some e ∧ e.deferred = none ∧ e.hit = true ∧
      b = (((((s.blk.updPost (fun p => { p with events := p.events.filter (fun q => q.node != n.val) })).dropWindows n.val).exchEnd n.val).count .post C.POST.EVT_HIT).recCount n.val 3) ∧
      (b.hot n.val).st = stTethered) ∧
    (∃ (s : State), ∃ (n : Fin 131072), ∃ (a : Await), ∃ (g : Grant), ∃ (b : Block), s.blk.post.await.find? (fun a => a.node == n.val && a.grant) = some a ∧
      a.node = n.val ∧ a.grant = true ∧ s.blk.est 10 = stRun ∧
      b = (s.blk.updPost (fun p => { p with await := p.await.erase a })).dropWindows n.val ∧ b.grantFor n.val = some g) ∧
    (∃ (s : State), ∃ (n : Fin 131072), ∃ (g : Grant), s.blk.grantFor n.val = some g ∧ s.blk.runs 10 = true ∧ g.expiry ≤ s.blk.ao) ∧
    (∃ (s : State), ∃ (n : Fin 131072), ∃ (x : Exch), ∃ (f : DlFrame), ∃ (b : Block), s.blk.post.exch.find? (fun x => x.node == n.val && !x.event) = some x ∧
      x.event = false ∧ x.node = n.val ∧ s.blk.eventOf n.val = none ∧ s.blk.est 10 = stRun ∧ x.more = false ∧ s.blk.post.await = [] ∧
      b = (s.blk.dlAge n.val (s.blk.dlQueue n.val).length).exchEnd n.val ∧ b.grantFor n.val = none ∧
      sendable false (b.dlQueue n.val) = some f) ∧
    (∃ (s : State), ∃ (n : Fin 131072), ∃ (x : Exch), ∃ (b : Block), s.blk.post.exch.find? (fun x => x.node == n.val && !x.event) = some x ∧
      x.event = false ∧ x.node = n.val ∧ s.blk.eventOf n.val = none ∧ s.blk.est 10 = stRun ∧ x.more = false ∧ s.blk.post.await = [] ∧
      b = (s.blk.dlAge n.val (s.blk.dlQueue n.val).length).exchEnd n.val ∧ b.grantFor n.val = none ∧ sendable false (b.dlQueue n.val) = none) ∧
    (∃ (s : State), ∃ (n : Fin 131072), ∃ (x : Exch), ∃ (e : TetherEvent), s.blk.post.exch.find? (fun x => x.node == n.val && x.event) = some x ∧
      x.event = true ∧ x.node = n.val ∧ s.blk.eventOf n.val = some e ∧ e.maxDl ≤ e.dlSent) ∧
    (∃ (s : State), ∃ (h : SendHdr), ∃ (body : List Byte), s.blk.est 10 = stRun ∧ h.broadcast = false ∧ (s.blk.hot h.node).st ≠ stFree ∧
      s.blk.post.freeQ < dlCells body) ∧
    (∃ (h : SendHdr), h.broadcast = true) ∧
    (∃ (s : State), ∃ (n : Fin 131072), ∃ (f : DlFrame), ∃ (t : List DlFrame), s.blk.dlQueue n.val = f :: t ∧ s.blk.dlLate f = false) ∧
    (∃ (s : State), ∃ (i : Fin 128), ∃ (g : GoodFrame), s.blk.post.good.find? (fun g => g.stall == i.val) = some g ∧ s.blk.est 10 = stStop) ∧
    (∃ (s : State), s.blk.bagDue = false) ∧
    (∃ (s : State), s.blk.post.rebuild = false) := ⟨
  ⟨gallop, 131071, by decide +kernel, by decide +kernel, by decide +kernel, by decide +kernel, by decide +kernel⟩,
  ⟨node { st := stKnown } id, 9, by decide +kernel, by decide +kernel, by decide +kernel, by decide +kernel, by decide +kernel⟩,
  ⟨node { st := stTethered } id, 9, by decide +kernel, by decide +kernel, by decide +kernel, by decide +kernel, by decide +kernel⟩,
  ⟨node { st := stKnown } id, 9, by decide +kernel, by decide +kernel, by decide +kernel, by decide +kernel, by decide +kernel,
    by decide +kernel⟩,
  ⟨node { st := stKnown } profiled, 9, by decide +kernel, by decide +kernel, by decide +kernel, by decide +kernel, by decide +kernel,
    by decide +kernel, by decide +kernel⟩,
  ⟨node { st := stTethered } id, 9, by decide +kernel, by decide +kernel, by decide +kernel, by decide +kernel, by decide +kernel⟩,
  ⟨node { st := stGranting } id, 9, by decide +kernel, by decide +kernel, by decide +kernel, by decide +kernel, by decide +kernel⟩,
  ⟨node { st := stKnown } id, 9, by decide +kernel, by decide +kernel, by decide +kernel, by decide +kernel, by decide +kernel,
    by decide +kernel⟩,
  ⟨node { st := stTethered } profiled, 9, _, _, by decide +kernel, by decide +kernel, by decide +kernel, rfl, by decide +kernel,
    by decide +kernel, by decide +kernel, rfl⟩,
  ⟨node { st := stKnown } (fun b => b.updPost (fun p => { p with events := [{ event with hit := true }] })), 9, { event with hit := true }, _,
    rfl, by decide +kernel, by decide +kernel, rfl, by decide +kernel⟩,
  ⟨node { st := stTethered } (fun b => b.updPost (fun p => { p with events := [{ event with hit := true }] })), 9, { event with hit := true },
    _, rfl, by decide +kernel, by decide +kernel, rfl, by decide +kernel⟩,
  ⟨node { st := stGranting } (fun b => b.updPost (fun p => { p with await := [await' true], grants := [grant] })), 9, await' true, grant, _,
    rfl, by decide +kernel, by decide +kernel, by decide +kernel, rfl, rfl⟩,
  ⟨node { st := stGranting } (fun b => b.updPost (fun p => { p with grants := [grant] })), 9, grant, by decide +kernel, by decide +kernel,
    by decide +kernel⟩,
  ⟨node { st := stKnown } (fun b => (b.updPost (fun p => { p with exch := [exch false] })).setDlQueue 9 [{ hdr := sendHdr, body := [], ns := 0 }]),
    9, exch false, { hdr := sendHdr, body := [], ns := 0 }, _, rfl, by decide +kernel, by decide +kernel, by decide +kernel,
    by decide +kernel, by decide +kernel, by decide +kernel, rfl, by decide +kernel, rfl⟩,
  ⟨node { st := stKnown } (fun b => b.updPost (fun p => { p with exch := [exch false] })), 9, exch false, _, rfl, by decide +kernel,
    by decide +kernel, by decide +kernel, by decide +kernel, by decide +kernel, by decide +kernel, rfl, by decide +kernel, by decide +kernel⟩,
  ⟨node { st := stTethered } (fun b => b.updPost (fun p => { p with exch := [exch true], events := [{ event with dlSent := 4 }] })), 9,
    exch true, { event with dlSent := 4 }, by decide +kernel, by decide +kernel, by decide +kernel, by decide +kernel, by decide +kernel⟩,
  ⟨node { st := stKnown } (fun b => b.updPost (fun p => { p with freeQ := 0 })), sendHdr, [], by decide +kernel, by decide +kernel,
    by decide +kernel, by decide +kernel⟩,
  ⟨{ sendHdr with broadcast := true }, by decide +kernel⟩,
  ⟨node { st := stKnown } (fun b => b.setDlQueue 9 [{ hdr := sendHdr, body := [], ns := 0 }]), 9, { hdr := sendHdr, body := [], ns := 0 }, [],
    by decide +kernel, by decide +kernel⟩,
  ⟨heard (good []) (fun b => b.set (F.ENG_STATUS.STATE 10) stStop), 5, good [], by decide +kernel, by decide +kernel⟩,
  ⟨gallop, by decide +kernel⟩,
  ⟨gallop, by decide +kernel⟩⟩

theorem test_witness_MeshDownlinkAndDelivery :
    (∃ (s : State), ∃ (n : Fin 131072), ∃ (x : Exch), ∃ (g : Grant), ∃ (b : Block), s.blk.post.exch.find? (fun x => x.node == n.val && !x.event) = some x ∧
      x.event = false ∧ x.node = n.val ∧ s.blk.eventOf n.val = none ∧ s.blk.est 10 = stRun ∧ x.more = false ∧ s.blk.post.await = [] ∧
      b = (s.blk.dlAge n.val (s.blk.dlQueue n.val).length).exchEnd n.val ∧ b.grantFor n.val = some g) ∧
    (∃ (s : State), ∃ (n : Fin 131072), ∃ (x : Exch), ∃ (e : TetherEvent), ∃ (f : DlFrame), ∃ (b : Block), s.blk.post.exch.find? (fun x => x.node == n.val && x.event) = some x ∧
      x.event = true ∧ x.node = n.val ∧ s.blk.eventOf n.val = some e ∧ e.dlSent < e.maxDl ∧ x.next ≤ e.anchor + 500000 * e.interval ∧
      s.blk.est 10 = stRun ∧ x.more = false ∧ s.blk.post.await = [] ∧ b = s.blk.dlAge n.val (s.blk.dlQueue n.val).length ∧
      b.grantFor n.val = none ∧ sendable true (b.dlQueue n.val) = some f) ∧
    (∃ (s : State), ∃ (h : SendHdr), ∃ (body : List Byte), s.blk.est 10 = stRun ∧ h.broadcast = false ∧ (s.blk.hot h.node).st ≠ stFree ∧
      (s.blk.dlQueue h.node).length < max 1 (s.blk.get F.POST_DLQ.MAX_FRAMES) ∧ dlCells body ≤ s.blk.post.freeQ) ∧
    (∃ (s : State), ∃ (h : SendHdr), s.blk.est 10 = stRun ∧ h.broadcast = false ∧ (s.blk.hot h.node).st = stFree) ∧
    (∃ (s : State), ∃ (h : SendHdr), ∃ (body : List Byte), ∃ (bs : List Byte), ∃ (v : Nat), ∃ (p : Nat), ∃ (b : Block), s.blk.est 10 = stRun ∧
      s.blk.draw.1 = v ∧ b = s.blk.draw.2.draw.2 ∧ s.blk.draw.2.draw.1 = p ∧
      bs = frameControl 1 false false false true false 2 1 2 ++ bytesLE 1 v ++ bytesLE 2 (b.pan h.pan 0 2) ++ bytesLE 2 0xFFFF ++ bytesLE 2 (b.pan h.pan 2 2) ++ body) ∧
    (∃ (s : State), ∃ (n : Fin 131072), ∃ (f : DlFrame), ∃ (t : List DlFrame), s.blk.est 10 = stRun ∧ s.blk.dlQueue n.val = f :: t ∧
      s.blk.dlLate f = true) ∧
    (∃ (s : State), ∃ (n : Fin 131072), ∃ (a : Await), ∃ (b : Block), s.blk.post.await.find? (fun a => a.node == n.val) = some a ∧ a.node = n.val ∧
      b = ((s.blk.updPost (fun p => { p with await := p.await.erase a })).dropWindows n.val).exchEnd n.val ∧ a.grant = true) ∧
    (∃ (s : State), ∃ (n : Fin 131072), ∃ (a : Await), ∃ (b : Block), ∃ f, s.blk.post.await.find? (fun a => a.node == n.val) = some a ∧
      a.node = n.val ∧ b = ((s.blk.updPost (fun p => { p with await := p.await.erase a })).dropWindows n.val).exchEnd n.val ∧
      a.grant = false ∧ (b.dlQueue n.val).find? (fun f => f.dsn == some a.seq) = some f ∧ max 1 (b.get F.POST_EVT.DL_RETRY) ≤ f.retry + 1) ∧
    (∃ (s : State), ∃ (n : Fin 131072), ∃ (a : Await), ∃ (b : Block), ∃ f, s.blk.post.await.find? (fun a => a.node == n.val) = some a ∧
      a.node = n.val ∧ b = ((s.blk.updPost (fun p => { p with await := p.await.erase a })).dropWindows n.val).exchEnd n.val ∧
      a.grant = false ∧ (b.dlQueue n.val).find? (fun f => f.dsn == some a.seq) = some f ∧ f.retry + 1 < max 1 (b.get F.POST_EVT.DL_RETRY)) ∧
    (∃ (s : State), ∃ (i : Fin 128), ∃ (g : GoodFrame), ∃ (b : Block), s.blk.post.good.find? (fun g => g.stall == i.val) = some g ∧
      s.blk.runs 10 = true ∧ s.blk.bagDue = false ∧
      b = ((s.blk.updPost (fun p => { p with good := p.good.erase g })).count .post C.POST.RX_FRAME).lane 10 0 0 ∧ parseMhr g = none) ∧
    (∃ (s : State), ∃ (i : Fin 128), ∃ (g : GoodFrame), ∃ (b : Block), ∃ f, s.blk.post.good.find? (fun g => g.stall == i.val) = some g ∧
      s.blk.runs 10 = true ∧ s.blk.bagDue = false ∧
      b = ((s.blk.updPost (fun p => { p with good := p.good.erase g })).count .post C.POST.RX_FRAME).lane 10 0 0 ∧ parseMhr g = some f ∧
      f.kind = .ack) ∧
    (∃ (s : State), ∃ (i : Fin 128), ∃ (g : GoodFrame), ∃ (b : Block), ∃ f, s.blk.post.good.find? (fun g => g.stall == i.val) = some g ∧
      s.blk.runs 10 = true ∧ s.blk.bagDue = false ∧
      b = ((s.blk.updPost (fun p => { p with good := p.good.erase g })).count .post C.POST.RX_FRAME).lane 10 0 0 ∧ parseMhr g = some f ∧
      f.kind ≠ .ack ∧ b.panOf f = none) ∧
    (∃ (s : State), ∃ (i : Fin 128), ∃ (g : GoodFrame), ∃ (b : Block), ∃ f, ∃ p, s.blk.post.good.find? (fun g => g.stall == i.val) = some g ∧
      s.blk.runs 10 = true ∧ s.blk.bagDue = false ∧
      b = ((s.blk.updPost (fun p => { p with good := p.good.erase g })).count .post C.POST.RX_FRAME).lane 10 0 0 ∧ parseMhr g = some f ∧
      f.kind ≠ .ack ∧ b.panOf f = some p ∧ b.srcOk p f = false) ∧
    (∃ (s : State), ∃ (i : Fin 128), ∃ (g : GoodFrame), ∃ (b : Block), ∃ f, ∃ p, s.blk.post.good.find? (fun g => g.stall == i.val) = some g ∧
      s.blk.runs 10 = true ∧ s.blk.bagDue = false ∧
      b = ((s.blk.updPost (fun p => { p with good := p.good.erase g })).count .post C.POST.RX_FRAME).lane 10 0 0 ∧ parseMhr g = some f ∧
      f.kind ≠ .ack ∧ b.panOf f = some p ∧ b.srcOk p f = true ∧ f.kind = .data) ∧
    (∃ (b : Block), ∃ (f : MeshFrame), ∃ (p : Nat), f.secLevel = 0 ∧ bitOf (b.pan p 0x10 1) 2 = true) ∧
    (∃ (s : State), ∃ (i : Fin 128), ∃ (q : PostStream), s.blk.post.streams.find? (fun q => q.stall == i.val) = some q) ∧
    (∃ (s : State), ∃ (i : Fin 128), s.blk.post.streams.find? (fun q => q.stall == i.val) = none) ∧
    (∃ (s : State), ∃ (e : BagEntry), s.blk.bagDue = true ∧ s.blk.post.bag = [e] ∧ e.node ≠ 0x1FFFF ∧ (s.blk.hot e.node).st ≠ stFree) ∧
    (∃ (s : State), ∃ (n : Nat), ∃ (b : Block), s.blk.est 10 = stStart ∧ s.blk.post.rebuild = true ∧ s.blk.recNodes = [n] ∧
      b = (s.blk.setTabBytes (hotAddr n) (readBytes s.blk.dram 0 (recAddr n + 0x1C) 16)).fixPend n) := ⟨
  ⟨node { st := stGranting } (fun b => b.updPost (fun p => { p with exch := [exch false], grants := [grant] })), 9, exch false, grant, _, rfl,
    by decide +kernel, by decide +kernel, by decide +kernel, by decide +kernel, by decide +kernel, by decide +kernel, rfl, rfl⟩,
  ⟨node { st := stTethered } (fun b => (b.updPost (fun p => { p with exch := [exch true], events := [event] })).setDlQueue 9 [{ hdr := sendHdr, body := [], ns := 0 }]),
    9, exch true, event, { hdr := sendHdr, body := [], ns := 0 }, _, rfl, by decide +kernel, by decide +kernel, rfl, by decide +kernel,
    by decide +kernel, by decide +kernel, by decide +kernel, by decide +kernel, rfl, by decide +kernel, rfl⟩,
  ⟨node { st := stKnown } id, sendHdr, [], by decide +kernel, by decide +kernel, by decide +kernel, by decide +kernel, by decide +kernel⟩,
  ⟨gallop, sendHdr, by decide +kernel, by decide +kernel, by decide +kernel⟩,
  ⟨gallop, sendHdr, [], _, _, _, _, by decide +kernel, rfl, rfl, rfl, rfl⟩,
  ⟨node { st := stKnown } (fun b => ({ b with time := { b.time with ao := 10 ^ 12 } } : Block).setDlQueue 9 [{ hdr := { sendHdr with lifeS := 1 }, body := [], ns := 0 }]),
    9, { hdr := { sendHdr with lifeS := 1 }, body := [], ns := 0 }, [], by decide +kernel, by decide +kernel, by decide +kernel⟩,
  ⟨node { st := stKnown } (fun b => (b.updPost (fun p => { p with await := [await' true] })).setDlQueue 9 []), 9, await' true, _, rfl,
    by decide +kernel, rfl, by decide +kernel⟩,
  ⟨node { st := stKnown } (fun b => (b.updPost (fun p => { p with await := [await' false] })).set F.POST_EVT.DL_RETRY 1 |>.setDlQueue 9 [{ hdr := sendHdr, body := [], ns := 0, dsn := some 3 }]),
    9, await' false, _, { hdr := sendHdr, body := [], ns := 0, dsn := some 3 }, rfl, by decide +kernel, rfl, by decide +kernel, rfl,
    by decide +kernel⟩,
  ⟨node { st := stKnown } (fun b => (b.updPost (fun p => { p with await := [await' false] })).set F.POST_EVT.DL_RETRY 2 |>.setDlQueue 9 [{ hdr := sendHdr, body := [], ns := 0, dsn := some 3 }]),
    9, await' false, _, { hdr := sendHdr, body := [], ns := 0, dsn := some 3 }, rfl, by decide +kernel, rfl, by decide +kernel, rfl,
    by decide +kernel⟩,
  ⟨heard (good []) id, 5, good [], _, rfl, by decide +kernel, by decide +kernel, rfl, by decide +kernel⟩,
  ⟨heard (good [2, 0, 3]) id, 5, good [2, 0, 3], _,
    { meshFrame with kind := .ack, version := 0, panDst := none, dst := .none, src := .none, mhr := [2, 0, 3] }, rfl, by decide +kernel,
    by decide +kernel, rfl, by decide +kernel, by decide +kernel⟩,
  ⟨heard (good meshOctets) id, 5, good meshOctets, _, meshFrame, rfl, by decide +kernel, by decide +kernel, rfl, by decide +kernel,
    by decide +kernel, by decide +kernel⟩,
  ⟨heard (good [0x01, 0x9C, 3, 0xCD, 0xAB, 0, 0, 0, 0, 0, 0, 0, 0, 0xCD, 0xAB, 200, 0]) (panned 0), 5,
    good [0x01, 0x9C, 3, 0xCD, 0xAB, 0, 0, 0, 0, 0, 0, 0, 0, 0xCD, 0xAB, 200, 0], _,
    { meshFrame with dst := .ext 0, src := .short 200, mhr := [0x01, 0x9C, 3, 0xCD, 0xAB, 0, 0, 0, 0, 0, 0, 0, 0, 0xCD, 0xAB, 200, 0] }, 0,
    rfl, by decide +kernel, by decide +kernel, rfl, by decide +kernel, by decide +kernel, by decide +kernel, by decide +kernel⟩,
  ⟨heard (good meshOctets) (panned 0), 5, good meshOctets, _, meshFrame, 0, rfl, by decide +kernel, by decide +kernel, rfl, by decide +kernel,
    by decide +kernel, by decide +kernel, by decide +kernel, by decide +kernel⟩,
  ⟨gallop.blk |> panned 4, meshFrame, 0, by decide +kernel, by decide +kernel⟩,
  ⟨up (fun b => b.updPost (fun p => { p with streams := [{ stall := 5, cells := 0, bag := 0 }] })), 5, { stall := 5, cells := 0, bag := 0 },
    by decide +kernel⟩,
  ⟨gallop, 5, by decide +kernel⟩,
  ⟨node { st := stKnown } (fun b => b.updPost (fun p => { p with bag := [{ mode := 0, node := 9, pan := 0, event := none, frame := meshFrame }] })),
    { mode := 0, node := 9, pan := 0, event := none, frame := meshFrame }, by decide +kernel, by decide +kernel, by decide +kernel,
    by decide +kernel⟩,
  ⟨up (fun b => ({ b.set (F.ENG_STATUS.STATE 10) stStart with dram := [(0x100091C, 1)] } : Block).updPost (fun p => { p with rebuild := true })),
    9, _, by decide +kernel, by decide +kernel, by decide +kernel, rfl⟩⟩

theorem test_witness_FrontEndAndChainEffects :
    (∃ (s : State), ∃ (f : Fin 4), ∃ (temp : Int), s.blk.fe f.val = feWarm ∧ (s.blk.setFeTemp f.val temp).calValid f.val = true) ∧
    (∃ (s : State), ∃ (f : Fin 4), ∃ (temp : Int), s.blk.fe f.val = feWarm ∧ (s.blk.setFeTemp f.val temp).calValid f.val = false) ∧
    (∃ (s : State), ∃ (f : Fin 4), s.blk.fe f.val = feSettle ∧ (s.blk.feAt f.val).wifi = none) ∧
    (∃ (s : State), ∃ (f : Fin 4), s.blk.fe f.val = feCal ∧ (s.blk.feAt f.val).startup = true) ∧
    (∃ (s : State), ∃ (f : Fin 4), ∃ (temp : Int), s.blk.fe f.val ≠ feOff ∧ (s.blk.feAt f.val).steps = 0 ∧
      ((s.blk.setFeTemp f.val temp).feAt f.val).steps = 0) ∧
    (∃ (s : State), ∃ (f : Fin 4), ∃ (temp : Int), ∃ (k : Nat), ∃ (b : Block), b = s.blk.setFeTemp f.val temp ∧ b.fe f.val = feReady ∧
      (b.feAt f.val).readyAo + 200000 ≤ b.ao ∧ b.calGap f.val = true ∧ (b.feAt f.val).steps = 0 ∧
      (List.range 4).find? (fun k => b.calDue f.val k) = some k) ∧
    (∃ (s : State), ∃ (f : Fin 4), ∃ (temp : Int), ∃ (k : Nat), ∃ (b : Block), ∃ (q : Block), b = s.blk.setFeTemp f.val temp ∧ b.fe f.val = feCal ∧
      (b.feAt f.val).startup = false ∧ k = b.get (F.RFC_FE_STATUS.CAL_RUN f.val) ∧
      q = (b.setFe f.val feSettle).updFe f.val (fun e => { e with steps := e.steps + 1 }) ∧ q.calDue f.val k = true ∧
      (b.feAt f.val).steps + 1 < calSteps f.val k) ∧
    (∃ (s : State), ∃ (f : Fin 4), ∃ (temp : Int), ∃ (k : Nat), ∃ (b : Block), ∃ (q : Block), b = s.blk.setFeTemp f.val temp ∧ b.fe f.val = feCal ∧
      (b.feAt f.val).startup = false ∧ k = b.get (F.RFC_FE_STATUS.CAL_RUN f.val) ∧
      q = (b.setFe f.val feSettle).updFe f.val (fun e => { e with steps := e.steps + 1 }) ∧ q.calDue f.val k = true ∧
      calSteps f.val k ≤ (b.feAt f.val).steps + 1) ∧
    (∃ (s : State), ∃ (f : Fin 4), ∃ (j : TxJob), f.val ≠ 3 ∧ (s.blk.feAt f.val).wifi = some j) ∧
    (∃ (s : State), ∃ (f : Fin 4), ∃ (b : Block), s.blk.fe f.val = feSettle ∧ (s.blk.feAt f.val).losses = [] ∧
      (f.val < 3 → (s.blk.lmAt f.val).resp = none) ∧ b = (s.blk.count (.rfc f) C.RFC.LOCK_LOSS).feNote f.val 1 ∧ (b.feAt f.val).losses = [] ∧
      (f.val < 3 → (b.lmAt f.val).resp = none)) ∧
    (∃ (s : State), ∃ (c : Fin 17), ∃ (m : Int), ∃ (t : Int), ∃ (f : Nat), ∃ (i : Int), f = chainFe c.val ∧ (s.blk.chainAt c.val).target = some t ∧
      s.blk.on (F.RFC_ALC.FREEZE f) = false ∧
      i = clampInt 0 127 ((s.blk.chainAt c.val).idx + loopStep (t - m) (s.blk.get (F.RFC_ALC.GAIN_SHIFT f)) (max 1 (s.blk.get (F.RFC_ALC.STEP f)))) ∧
      i < 127) ∧
    (∃ (s : State), ∃ (c : Fin 17), ∃ (m : Int), ∃ (t : Int), (s.blk.chainAt c.val).target = some t ∧
      10 * (s.blk.get (F.RFC_ALC.OVER (chainFe c.val)) : Int) < 25 * (m - t)) ∧
    (∃ (s : State), ∃ (c : Fin 17), ∃ (sp : List (Int × Int)), s.blk.maskBroken (chainFe c.val) sp = false) ∧
    (∃ (s : State), ∃ (c : Fin 17), ∃ (sp : List (Int × Int)), ∃ (f : Nat), ∃ (n : Nat), s.blk.maskBroken f sp = true ∧ f = chainFe c.val ∧
      n = 2 * s.blk.get (F.RFC_MON.MAX f) ∧ s.blk.on (F.RFC_MON.EN f) = true ∧ (s.blk.chainAt c.val).target.isSome = true ∧
      (s.blk.chainAt c.val).viol = false ∧ (s.blk.chainAt c.val).backoff < n) ∧
    (∃ (s : State), ∃ (road : Road), s.blk.roadStops road R.RFC_CHAIN_REVIVE = none) := ⟨
  ⟨up (fun b => (b.setFe 3 feWarm).updFe 3 (fun e => { e with stored := some ⟨25, []⟩ })), 3, 27, by decide +kernel, by decide +kernel⟩,
  ⟨up (fun b => b.setFe 0 feWarm), 0, 25, by decide +kernel, by decide +kernel⟩,
  ⟨up (fun b => b.setFe 0 feSettle), 0, by decide +kernel, by decide +kernel⟩,
  ⟨up (fun b => (b.setFe 0 feCal).updFe 0 (fun e => { e with startup := true })), 0, by decide +kernel, by decide +kernel⟩,
  ⟨up (fun b => b.setFe 1 feReady), 1, 25, by decide +kernel, by decide +kernel, by decide +kernel⟩,
  ⟨up (fun b => (({ b with time := { b.time with ao := 200000 } } : Block).setFe 0 feReady).set (F.RFC_CAL.EN 0) 15 |>.updFe 0 (fun e => { e with runs := [(1, { temp := 0, ao := 0, ord := 1 })] })),
    0, 50, 1, _, rfl, by decide +kernel, by decide +kernel, by decide +kernel, by decide +kernel, rfl⟩,
  ⟨up (fun b => ((b.setFe 0 feCal).set (F.RFC_CAL.EN 0) 15).set (F.RFC_FE_STATUS.CAL_RUN 0) 1 |>.updFe 0 (fun e => { e with steps := 0, runs := [(1, { temp := 0, ao := 0, ord := 1 })] })),
    0, 50, 1, _, _, rfl, by decide +kernel, by decide +kernel, by decide +kernel, rfl, by decide +kernel, by decide +kernel⟩,
  ⟨up (fun b => ((b.setFe 0 feCal).set (F.RFC_CAL.EN 0) 15).set (F.RFC_FE_STATUS.CAL_RUN 0) 1 |>.updFe 0 (fun e => { e with steps := 3, runs := [(1, { temp := 0, ao := 0, ord := 1 })] })),
    0, 50, 1, _, _, rfl, by decide +kernel, by decide +kernel, by decide +kernel, rfl, by decide +kernel, by decide +kernel⟩,
  ⟨up (fun b => b.updFe 0 (fun e => { e with wifi := some { t := { width := 0 }, kind := 0, sta := 5 } })), 0,
    { t := { width := 0 }, kind := 0, sta := 5 }, by decide +kernel, by decide +kernel⟩,
  ⟨up (fun b => b.setFe 0 feSettle), 0, _, by decide +kernel, by decide +kernel, by decide +kernel, rfl, by decide +kernel, by decide +kernel⟩,
  ⟨up (fun b => b.updChain 12 (fun c => { c with target := some 40 })), 12, 36, 40, _, _, rfl, rfl, by decide +kernel, rfl, by decide +kernel⟩,
  ⟨up (fun b => b.updChain 16 (fun c => { c with target := some 40 })), 16, 400, 40, by decide +kernel, by decide +kernel⟩,
  ⟨gallop, 7, [], by decide +kernel⟩,
  ⟨up (fun b => ((b.set (F.RFC_MON.EN 3) 1).set (F.RFC_MON.MAX 3) 1).updChain 16 (fun c => { c with target := some 40 })), 16, [(0, 1000)], _,
    _, by decide +kernel, rfl, rfl, by decide +kernel, by decide +kernel, by decide +kernel, by decide +kernel⟩,
  ⟨gallop, .bar0, by decide +kernel⟩⟩

theorem test_witness_DutyAndRegulatoryEffects :
    (∃ (b : Block), ∃ (fu : Fuses), ∃ (n : Nat), ∃ (u : Nat), keepsDuty fu n = true ∧ b.dutyGrants fu n u = true ∧ (∀ p ∈ b.dutyWin n, 1 ≤ p.1)) ∧
    (∃ (s : State), ∃ (road : Road), s.blk.roadStops road R.RFC_REG_DATA = none ∧ s.blk.sec.lc < 2 ∧ s.fuse.regLock = false) ∧
    (∃ (s : State), ∃ (road : Road), s.blk.roadStops road R.RFC_REG_DATA = none ∧ (2 ≤ s.blk.sec.lc ∨ s.fuse.regLock = true)) ∧
    (∃ (s : State), ∃ (road : Road), s.blk.roadStops road R.RFC_IMGCAP = none ∧ s.blk.ost.pass2Done = false) ∧
    (∃ (s : State), ∃ (road : Road), ∃ (v : Word), s.blk.roadStops road R.RFC_IMGCAP = none ∧ s.blk.ost.pass2Done = true ∧
      s.blk.get F.RFC_IMGCAP.CAP0 < v.toNat % 256) := ⟨
  ⟨(mesh id).blk, (mesh id).fuse, 0, 3600000, by decide +kernel, by decide +kernel, by decide +kernel⟩,
  ⟨gallop, .bar0, by decide +kernel, by decide +kernel, by decide +kernel⟩,
  ⟨mesh id, .bar0, by decide +kernel, by decide +kernel⟩,
  ⟨gallop, .bar0, by decide +kernel, by decide +kernel⟩,
  ⟨up (fun b => (b.updOst (fun o => { o with pass2Done := true })).set F.RFC_IMGCAP.CAP0 20), .bar0, 21, by decide +kernel, by decide +kernel,
    by decide +kernel⟩⟩

theorem test_witness_ForwardingEffects :
    (∃ (s : State), ∃ (g : Ingress), ∃ (b : Block), s.blk.runs 3 = true ∧ s.blk.lame = false ∧ 2 ≤ g.src ∧ g.fcs = .good ∧ g.rsLost = 0 ∧
      b = (s.blk.cartCount (portOf g.src) C.CART.RX_FRAMES).lane 3 (pipeOf g.src) 0 ∧ 64 ≤ g.len ∧ g.len ≤ b.mtu ∧
      g.frame.etype ≠ b.get F.CART_STEWARD.ETYPE ∧ b.lame = false ∧ bitOf (b.srcFlags g.src) 0 = false) ∧
    (∃ (s : State), ∃ (g : Ingress), ∃ (b : Block), s.blk.runs 3 = true ∧ s.blk.lame = false ∧ 2 ≤ g.src ∧ g.fcs = .good ∧ g.rsLost = 0 ∧
      b = (s.blk.cartCount (portOf g.src) C.CART.RX_FRAMES).lane 3 (pipeOf g.src) 0 ∧ 64 ≤ g.len ∧ g.len ≤ b.mtu ∧
      g.frame.etype ≠ b.get F.CART_STEWARD.ETYPE ∧ b.lame = false ∧ bitOf (b.srcFlags g.src) 0 = true ∧ g.frame.tag = none ∧
      bitOf (b.vlanByte (b.pvid g.src) 2) 0 = true ∧ bitOf (b.vlanByte (b.pvid g.src) 0) (memberBit (portOf g.src)) = true) ∧
    (∃ (s : State), ∃ (g : Ingress), ∃ (b : Block), s.blk.runs 3 = true ∧ g.src ≤ 1 ∧ s.blk.portHears g.src = true ∧ g.rsLost = 0 ∧ g.fcs = .good ∧
      b = (s.blk.cartCount (portOf g.src) C.CART.RX_FRAMES).lane 3 (pipeOf g.src) 0 ∧ b.lame = false ∧ b.cart.keeper.isOpen = true ∧
      64 ≤ g.len ∧ g.len ≤ b.mtu ∧ g.frame.etype ≠ b.get F.CART_STEWARD.ETYPE ∧ g.frame.etype ≠ 0x8808 ∧ bitOf (b.srcFlags g.src) 0 = true ∧
      g.frame.tag = none ∧ bitOf (b.vlanByte (b.pvid g.src) 2) 0 = true ∧
      bitOf (b.vlanByte (b.pvid g.src) 0) (memberBit (portOf g.src)) = true ∧ b.on (ringBlockFld g.src) = true) ∧
    (∃ (s : State), ∃ (g : Ingress), ∃ (b : Block), s.blk.runs 3 = true ∧ g.src ≤ 1 ∧ s.blk.portHears g.src = true ∧ g.rsLost = 0 ∧ g.fcs = .good ∧
      b = (s.blk.cartCount (portOf g.src) C.CART.RX_FRAMES).lane 3 (pipeOf g.src) 0 ∧ b.lame = false ∧ b.cart.keeper.isOpen = true ∧
      64 ≤ g.len ∧ g.len ≤ b.mtu ∧ g.frame.etype ≠ b.get F.CART_STEWARD.ETYPE ∧ g.frame.etype ≠ 0x8808 ∧ bitOf (b.srcFlags g.src) 0 = true ∧
      g.frame.tag = none ∧ bitOf (b.vlanByte (b.pvid g.src) 2) 0 = true ∧
      bitOf (b.vlanByte (b.pvid g.src) 0) (memberBit (portOf g.src)) = true ∧ b.on (ringBlockFld g.src) = false) ∧
    (∃ (s : State), ∃ (g : Ingress), s.blk.portHears g.src = false) ∧
    (∃ (s : State), ∃ (g : Ingress), s.blk.runs 3 = true ∧ s.blk.portHears g.src = true ∧ g.rsLost = 0 ∧ g.src ≤ 1) ∧
    (∃ (s : State), ∃ (p : Fin 2), ∃ (c : CutFlight), s.blk.cart.cut.find? (fun c => c.ingress == p.val) = some c) ∧
    (∃ (s : State), ∃ (n : Nat), ∃ (u : CellUse), ∃ (b : Block), s.blk.poolAt n = some u ∧ u.loft = false ∧
      s.blk.cart.troughs.any (fun t => t.frames.any (fun f => f.pool == n)) = true ∧ s.blk.runs 3 = true ∧
      s.blk.on F.CART_BUF.LOFT_EN = true ∧ s.blk.get F.CART_LOFT.SIZE_MIB ≠ 0 ∧ s.blk.cart.cellar < s.blk.get F.CART_BUF.SPILL_AT ∧
      u.cells ≤ s.blk.cart.loft ∧ s.blk.loftLimit = false ∧
      b = (s.blk.loftMove u.cells).updCart (fun c => { c with loft := c.loft - u.cells, pool := c.pool.map (fun (q : CellUse) => if q.id = n then { q with loft := true } else q) })) ∧
    (∃ (s : State), ∃ (b : Block), ∃ (c : Block), ∃ (t : Nat), ∃ (f : CartFrame), s.blk.runs 3 = true ∧ s.blk.lame = false ∧
      s.blk.on (ringLinkFld 0) = true ∧ s.blk.ringOn 0 = true ∧ s.blk.cart.keeper.isOpen = true ∧ s.blk.cart.cut = [] ∧
      s.blk.pickTrough 0 = some (t, b) ∧ b.takeHead t = some (f, c) ∧ f.oneStep = false) ∧
    (∃ (s : State), ∃ (p : Fin 2), ∃ (b : Block), s.blk.ringOn p.val = true ∧ s.blk.est 3 = stRun ∧ s.blk.on (ringLinkFld p.val) = false ∧
      b = ((s.blk.set (ringLinkFld p.val) 1).note 3 5 (bytesLE 2 (2 + p.val))).fire 3 16 ∧
      (b.on F.CART_STATUS.LINK_A = false ∨ b.on F.CART_STATUS.LINK_B = false)) ∧
    (∃ (s : State), ∃ (p : Fin 2), ∃ (b : Block), s.blk.ringOn p.val = true ∧ s.blk.est 3 = stRun ∧ s.blk.on (ringLinkFld p.val) = false ∧
      b = ((s.blk.set (ringLinkFld p.val) 1).note 3 5 (bytesLE 2 (2 + p.val))).fire 3 16 ∧ b.on F.CART_STATUS.LINK_A = true ∧
      b.on F.CART_STATUS.LINK_B = true) := ⟨
  ⟨gallop, { src := 2, len := 64, fcs := .good, frame := eth }, _, by decide +kernel, by decide +kernel, by decide +kernel, by decide +kernel,
    by decide +kernel, rfl, by decide +kernel, by decide +kernel, by decide +kernel, by decide +kernel, by decide +kernel⟩,
  ⟨up (fun b => ((b.setTab (0x2238000 + 8 * 2 + 4) 1 1).setTab 0x2230002 1 1).setTab 0x2230000 1 4),
    { src := 2, len := 1518, fcs := .good, frame := eth }, _, by decide +kernel, by decide +kernel, by decide +kernel, by decide +kernel,
    by decide +kernel, rfl, by decide +kernel, by decide +kernel, by decide +kernel, by decide +kernel, by decide +kernel, by decide +kernel,
    by decide +kernel, by decide +kernel⟩,
  ⟨ringRx (fun b => b.set (ringBlockFld 0) 1), { src := 0, len := 64, fcs := .good, frame := eth }, _, by decide +kernel, by decide +kernel,
    by decide +kernel, by decide +kernel, by decide +kernel, rfl, by decide +kernel, by decide +kernel, by decide +kernel, by decide +kernel,
    by decide +kernel, by decide +kernel, by decide +kernel, by decide +kernel, by decide +kernel, by decide +kernel, by decide +kernel⟩,
  ⟨ringRx id, { src := 0, len := 64, fcs := .good, frame := eth }, _, by decide +kernel, by decide +kernel, by decide +kernel,
    by decide +kernel, by decide +kernel, rfl, by decide +kernel, by decide +kernel, by decide +kernel, by decide +kernel, by decide +kernel,
    by decide +kernel, by decide +kernel, by decide +kernel, by decide +kernel, by decide +kernel, by decide +kernel⟩,
  ⟨gallop, { src := 0, len := 64, fcs := .good, frame := eth }, by decide +kernel⟩,
  ⟨ringRx id, { src := 0, len := 64, fcs := .good, frame := eth }, by decide +kernel, by decide +kernel, by decide +kernel, by decide +kernel⟩,
  ⟨up (fun b => b.updCart (fun c => { c with cut := [{ ingress := 1, pool := 1, len := 64, vlan := 1, frame := eth }] })), 1,
    { ingress := 1, pool := 1, len := 64, vlan := 1, frame := eth }, by decide +kernel⟩,
  ⟨up (fun b => ((b.set F.CART_BUF.LOFT_EN 1).set F.CART_LOFT.SIZE_MIB 1).set F.CART_BUF.SPILL_AT 100 |>.updCart (fun c => { c with cellar := 99, loft := 1, pool := [⟨1, 1, 1, false⟩], troughs := [{ t := 7, frames := [cartFrame] }] })),
    1, ⟨1, 1, 1, false⟩, _, rfl, by decide +kernel, by decide +kernel, by decide +kernel, by decide +kernel, by decide +kernel,
    by decide +kernel, by decide +kernel, by decide +kernel, rfl⟩,
  ⟨ringTx, ringTx.blk, _, 7, cartFrame, by decide +kernel, by decide +kernel, by decide +kernel, by decide +kernel, by decide +kernel,
    by decide +kernel, by decide +kernel, rfl, by decide +kernel⟩,
  ⟨up (fun b => (b.set (ringEnFld 0) 1).set (ringSpeedFld 0) 1), 0, _, by decide +kernel, by decide +kernel, by decide +kernel, rfl,
    by decide +kernel⟩,
  ⟨up (fun b => ((b.set (ringEnFld 0) 1).set (ringSpeedFld 0) 1).set F.CART_STATUS.LINK_B 1), 0, _, by decide +kernel, by decide +kernel,
    by decide +kernel, rfl, by decide +kernel, by decide +kernel⟩⟩

theorem test_witness_MacTableEffects :
    (∃ (s : State), ∃ (road : Road), ∃ b, s.blk.roadStops road R.CART_L2CMD = none ∧ s.blk.runs 3 = true ∧
      s.blk.macPut s.blk.l2Key.1 s.blk.l2Key.2 (s.blk.get F.CART_L2ARG2.DEST) true = some b) ∧
    (∃ (s : State), ∃ (road : Road), s.blk.roadStops road R.CART_L2CMD = none ∧ s.blk.runs 3 = true ∧
      s.blk.macPut s.blk.l2Key.1 s.blk.l2Key.2 (s.blk.get F.CART_L2ARG2.DEST) true = none) ∧
    (∃ (s : State), ∃ (road : Road), s.blk.roadStops road R.CART_L2CMD = none ∧ s.blk.runs 3 = true ∧
      s.blk.macAt s.blk.l2Key.1 s.blk.l2Key.2 = none) ∧
    (∃ (s : State), ∃ (road : Road), ∃ m, s.blk.roadStops road R.CART_L2CMD = none ∧ s.blk.runs 3 = true ∧
      s.blk.macAt s.blk.l2Key.1 s.blk.l2Key.2 = some m) ∧
    (∃ (s : State), ∃ (road : Road), s.blk.roadStops road R.CART_L2CMD = none ∧ s.blk.runs 3 = true ∧ s.blk.on F.CART_L2ARG2.ANY_DEST = true ∧
      s.blk.on F.CART_L2ARG2.ANY_VLAN = true) ∧
    (∃ (s : State), s.blk.runs 3 = true ∧ s.blk.get F.CART_L2.AGE_S ≠ 0 ∧
      max s.blk.cart.agedAt s.blk.cart.runSince + 1000000000 * s.blk.get F.CART_L2.AGE_S ≤ s.blk.mono + tickNs) ∧
    (∃ (b : Block), ∃ (d : Nat), ∃ (mac : Nat), ∃ (vlan : Nat), ∃ (st : Bool), ∃ (c : Block), b.macPut mac vlan d st = some c) := ⟨
  ⟨up (fun b => b.updCart (fun c => { c with macs := [{ bucket := 0, way := 0, mac := 0, vlan := 0, dest := 2, static := false }] })), .bar0, _,
    by decide +kernel, by decide +kernel, rfl⟩,
  ⟨full, .bar0, by decide +kernel, by decide +kernel, macPut_full⟩,
  ⟨gallop, .bar0, by decide +kernel, by decide +kernel, by decide +kernel⟩,
  ⟨up (fun b => b.updCart (fun c => { c with macs := [{ bucket := 0, way := 0, mac := 0, vlan := 0, dest := 2, static := false }] })), .bar0,
    { bucket := 0, way := 0, mac := 0, vlan := 0, dest := 2, static := false }, by decide +kernel, by decide +kernel, by decide +kernel⟩,
  ⟨up (fun b => (b.set F.CART_L2ARG2.ANY_DEST 1).set F.CART_L2ARG2.ANY_VLAN 1), .bar0, by decide +kernel, by decide +kernel, by decide +kernel,
    by decide +kernel⟩,
  ⟨up (fun b => ({ b with time := { b.time with device := 1000000000 } } : Block).set F.CART_L2.AGE_S 1), by decide +kernel, by decide +kernel,
    by decide +kernel⟩,
  ⟨(up (fun b => b.updCart (fun c => { c with macs := [{ bucket := 0, way := 0, mac := 0, vlan := 0, dest := 2, static := false }] }))).blk, 2,
    0, 0, true, _, rfl⟩⟩

theorem test_witness_TimeAndKeeperEffects :
    (∃ (s : State), ∃ (p : Fin 2), ∃ (q : BitVec 16), s.blk.est 3 = stRun ∧ s.blk.cart.stamps.length < 64 ∧
      (p.val, q.toNat) ∈ s.blk.cart.stampDue) ∧
    (∃ (s : State), ∃ (m : PtpMsg), s.blk.est 3 = stRun ∧ s.blk.on F.CART_PTP.TC_EN = true ∧ m.transport ≠ 6 ∧ m.kind.val = 1) ∧
    (∃ (s : State), ∃ (p : Nat), ∃ (n : Nat), s.blk.on F.CART_PTP.EN = true ∧ s.blk.est 3 = stRun ∧ s.blk.get F.CART_PTP.SRC = 1 ∧
      p = s.blk.get F.CART_PTP.SLAVE_PORT ∧ n = s.blk.get F.CART_PTP.DOMAIN) ∧
    (∃ (s : State), s.blk.on F.CART_PTP.EN = true ∧ s.blk.est 3 = stRun ∧
      max (s.blk.cart.servo.seen.getD 0) s.blk.cart.runSince + 8000000000 ≤ s.blk.mono) ∧
    (∃ (s : State), ∃ (road : Road), ∃ (v : Word), ∃ (b : Block), s.blk.roadStops road R.CART_TIME_ADJ = none ∧
      b = ({ s.blk with time := { s.blk.time with device := (((s.blk.time.device : Int) + signedOf 32 v.toNat) % 2 ^ 64).toNat, stepped := s.blk.time.stepped + signedOf 32 v.toNat } } : Block)) ∧
    (∃ (s : State), ∃ v, s.blk.on F.CART_PTP.PPS_OUT_EN = true ∧ s.blk.est 3 = stRun ∧ v = decide ((s.blk.now + tickNs) % 1000000000 < 100000000)) ∧
    (∃ (s : State), s.blk.keeperTrigger = false ∧ s.blk.on F.CART_STATUS.LINK_A = true ∧ s.blk.on F.CART_STATUS.LINK_B = true ∧
      s.blk.cart.keeper.isOpen = false ∧ s.blk.cart.keeper.holdTo ≤ s.blk.ao) ∧
    (∃ (s : State), ∃ (t : Nat), ∃ (b : Block), s.blk.cart.keeper.openedAo = some t ∧ s.blk.cart.keeper.isOpen = true ∧ t + 500000000 ≤ s.blk.ao ∧
      b = s.blk.keeperClose.cartCount 7 C.CART.KEEP_RETRY ∧ b.ao = s.blk.ao) := ⟨
  ⟨up (fun b => b.updCart (fun c => { c with stampDue := [(0, 7)] })), 0, 7, by decide +kernel, by decide +kernel, by decide +kernel⟩,
  ⟨up (fun b => b.set F.CART_PTP.TC_EN 1), { kind := 1, oneStep := false, seqId := 0, portId := 0, transport := 0, residence := 0, corr := 0 },
    by decide +kernel, by decide +kernel, by decide +kernel, by decide +kernel⟩,
  ⟨up (fun b => (b.set F.CART_PTP.EN 1).set F.CART_PTP.SRC 1), _, _, by decide +kernel, by decide +kernel, by decide +kernel, rfl, rfl⟩,
  ⟨up (fun b => ({ b with time := { b.time with device := 8000000000 } } : Block).set F.CART_PTP.EN 1), by decide +kernel, by decide +kernel,
    by decide +kernel⟩,
  ⟨gallop, .bar0, 1, _, by decide +kernel, rfl⟩,
  ⟨up (fun b => b.set F.CART_PTP.PPS_OUT_EN 1), true, by decide +kernel, by decide +kernel, by decide +kernel⟩,
  ⟨up (fun b => (b.set F.CART_STATUS.LINK_A 1).set F.CART_STATUS.LINK_B 1), by decide +kernel, by decide +kernel, by decide +kernel,
    by decide +kernel, by decide +kernel⟩,
  ⟨up (fun b => ({ b with time := { b.time with ao := 500000000 } } : Block).updCart (fun c => { c with keeper := { c.keeper with isOpen := true, openedAo := some 0 } })),
    0, _, rfl, by decide +kernel, by decide +kernel, rfl, by decide +kernel⟩⟩

theorem test_witness_KeyCommandEffects :
    (∃ (s : State), ∃ (road : Road), ∃ (sp : Fin 4), ∃ (h : Fin 131072), s.blk.roadStops road R.LOCK_KCMD = none ∧ keyNamed sp.val h.val = false) ∧
    (∃ (s : State), ∃ (road : Road), s.blk.roadStops road R.LOCK_KCMD = none ∧ s.blk.get F.LOCK_KARG.MODE = 9 ∧ s.blk.lock.staged = true ∧
      s.fuse.hasSecret = true ∧ s.blk.vaultUp = true) ∧
    (∃ (s : State), s.blk.roadStops .bar0 R.LOCK_KCMD = none ∧ s.blk.get F.LOCK_KARG.MODE = 10 ∧ s.blk.lock.staged = true ∧
      s.fuse.hasSecret = true ∧ s.blk.lock.steward = none) ∧
    (∃ (s : State), ∃ (k : KeyRec), s.blk.roadStops .bar0 R.LOCK_KCMD = none ∧ s.blk.get F.LOCK_KARG.MODE = 10 ∧ s.blk.lock.steward = some k ∧
      s.blk.creosh.armed = none) ∧
    (∃ (s : State), s.blk.roadStops .creosh R.LOCK_KCMD = none) ∧
    (∃ (s : State), ∃ (road : Road), ∃ (sp : Fin 4), ∃ (h : Fin 131072), sp.val < 2 ∧ s.blk.roadStops road R.LOCK_KCMD = none ∧
      keyNamed sp.val h.val = true ∧ s.blk.vaultUp = true) ∧
    (∃ (s : State), ∃ (road : Road), ∃ (sp : Fin 4), ∃ (h : Fin 131072), s.blk.roadStops road R.LOCK_KCMD = none ∧ keyNamed sp.val h.val = true ∧
      s.blk.keyAt sp.val h.val = none) ∧
    (∃ (s : State), ∃ (road : Road), ∃ (sp : Fin 4), ∃ (h : Fin 131072), ∃ (k : KeyRec), s.blk.roadStops road R.LOCK_KCMD = none ∧
      keyNamed sp.val h.val = true ∧ s.blk.keyAt sp.val h.val = some k) := ⟨
  ⟨gallop, .bar0, 0, 8192, by decide +kernel, by decide +kernel⟩,
  ⟨vault (fun b => (b.set F.LOCK_KARG.MODE 9).updLock (fun l => { l with staged := true })), .bar0, by decide +kernel, by decide +kernel,
    by decide +kernel, by decide +kernel, by decide +kernel⟩,
  ⟨vault (fun b => (b.set F.LOCK_KARG.MODE 10).updLock (fun l => { l with staged := true })), by decide +kernel, by decide +kernel,
    by decide +kernel, by decide +kernel, by decide +kernel⟩,
  ⟨vault (fun b => (b.set F.LOCK_KARG.MODE 10).updLock (fun l => { l with steward := some { key with space := 2, handle := 0, mode := 10 } })),
    { key with space := 2, handle := 0, mode := 10 }, by decide +kernel, by decide +kernel, by decide +kernel, by decide +kernel⟩,
  ⟨gallop, by decide +kernel⟩,
  ⟨vault id, .bar0, 1, 131071, by decide +kernel, by decide +kernel, by decide +kernel, by decide +kernel⟩,
  ⟨gallop, .bar0, 0, 8191, by decide +kernel, by decide +kernel, by decide +kernel⟩,
  ⟨up (fun b => b.updLock (fun l => { l with cache := [key] })), .bar0, 1, 9, key, by decide +kernel, by decide +kernel, by decide +kernel⟩⟩

theorem test_witness_KeyUseEffects :
    (∃ (s : State), ∃ (sp : Fin 2), ∃ (h : Fin 131072), ∃ (k : KeyRec), s.blk.runs 2 = true ∧ findKey s.blk.lock.cache sp.val h.val = some k) ∧
    (∃ (s : State), ∃ (core : Fin 16), ∃ (q : AesReq), ∃ (k : KeyRec), ∃ (b : Block), ∃ (c : Block), s.blk.lock.queue = [q] ∧ q.cls = 2 ∧
      q.protect = true ∧ s.blk.coreOk core.val = true ∧ (∀ n, s.blk.maskRoom core.val n = true) ∧
      b = s.blk.updLock (fun l => { l with queue := [] }) ∧ b.keyProtect q.space q.handle = (some k, c)) ∧
    (∃ (s : State), ∃ (r : Fin 3), ∃ (n : Nat), ∃ (p : Plan), ∃ (b : Block), s.blk.latePlan r.val n = some p ∧
      b = (s.blk.markLate n).updLock (fun l => { l with queue := l.queue.filter (fun q => !(q.cls == 2 && q.frame == n)) }) ∧
      (b.phyAt r.val).tx = none ∧ p.users.any (fun u => u.frames.head? == some n) = true) ∧
    (∃ (s : State), ∃ (r : Fin 3), ∃ (n : Nat), ∃ (p : Plan), ∃ (b : Block), s.blk.latePlan r.val n = some p ∧
      b = (s.blk.markLate n).updLock (fun l => { l with queue := l.queue.filter (fun q => !(q.cls == 2 && q.frame == n)) }) ∧
      ((b.phyAt r.val).tx.isSome = true ∨ p.users.any (fun u => u.frames.head? == some n) = false)) ∧
    (∃ (s : State), s.blk.lock.fifo = []) ∧
    (∃ (s : State), ∃ (e : LimitEntry), ∃ (t : List LimitEntry), s.blk.lock.fifo = e :: t) ∧
    (∃ (s : State), ∃ (b : Block), s.blk.vaultUp = true ∧ s.blk.xtsLimit - s.blk.xtsLimit / 10 ≤ s.blk.lock.vaultUses ∧ s.blk.tallyOk 5 = true ∧
      b = (s.blk.tallyPut 5 ((s.blk.tally 5 + 1) % 2 ^ 32)).updLock (fun l => { l with vaultUses := 2176 * 256 })) ∧
    (∃ (s : State), ∃ (u : Nat), s.blk.lock.dirty = [u] ∧ s.blk.vaultUp = true ∧ s.blk.backing = true ∧ s.blk.on F.LOCK_VSTATUS.BACK_FAIL = false ∧
      s.blk.xtsLimit ≤ s.blk.lock.backUses) ∧
    (∃ (s : State), ∃ (u : Nat), ∃ (a : Nat), ∃ (b : Block), ∃ (c : Block), s.blk.lock.dirty = [u] ∧ s.blk.vaultUp = true ∧ s.blk.backing = true ∧
      s.blk.on F.LOCK_VSTATUS.BACK_FAIL = false ∧ s.blk.lock.backUses < s.blk.xtsLimit ∧ a = s.blk.backBase + 4096 * u ∧
      b = s.blk.norErase a 4096 ∧
      c = b.norProgram a (xtsEnc (b.backKey s.fuse) u ((List.range 128).map (fun i => backBytes (s.blk.keyAt 1 (128 * u + i)))).flatten)) ∧
    (∃ (s : State), ∃ (l : List Nat), ∃ (b : Block), s.blk.rebuilding = true ∧ b = (s.blk.rebuildVault s.fuse l).wipeClear 28 ∧ b.post.held = []) := ⟨
  ⟨up (fun b => b.updLock (fun l => { l with cache := [key] })), 1, 9, key, by decide +kernel, by decide +kernel⟩,
  ⟨up (fun b => b.updLock (fun l => { l with cache := [key], queue := [{ cls := 2, space := 1, handle := 9, octets := 16, protect := true }] })),
    15, { cls := 2, space := 1, handle := 9, octets := 16, protect := true }, _, _, _, by decide +kernel, by decide +kernel,
    by decide +kernel, by decide +kernel, fun n => maskRoom_fed _ (by decide +kernel) _ n, rfl, rfl⟩,
  ⟨up (fun b => (b.setQueue 20 [{ qframe with id := 3 }]).updDrov (fun d => { d with plans := [{ plan with committed := true, users := [{ sta := 5, frames := [3] }] }] })),
    0, 3, { plan with committed := true, users := [{ sta := 5, frames := [3] }] }, _, rfl, rfl, by decide +kernel, by decide +kernel⟩,
  ⟨up (fun b => (b.setQueue 20 [{ qframe with id := 3 }]).updDrov (fun d => { d with plans := [{ plan with committed := true, users := [{ sta := 5, frames := [4, 3] }] }] })),
    0, 3, { plan with committed := true, users := [{ sta := 5, frames := [4, 3] }] }, _, rfl, rfl, by decide +kernel⟩,
  ⟨gallop, by decide +kernel⟩,
  ⟨up (fun b => b.updLock (fun l => { l with fifo := [⟨0, 1, 9⟩] })), ⟨0, 1, 9⟩, [], by decide +kernel⟩,
  ⟨vault (fun b => b.updLock (fun l => { l with vaultUses := 2 ^ 48 })), _, by decide +kernel, by decide +kernel, by decide +kernel, rfl⟩,
  ⟨backed (fun b => b.updLock (fun l => { l with dirty := [0], backUses := 2 ^ 48 })), 0, by decide +kernel, by decide +kernel,
    by decide +kernel, by decide +kernel, by decide +kernel⟩,
  ⟨backed (fun b => b.updLock (fun l => { l with dirty := [0] })), 0, _, _, _, by decide +kernel, by decide +kernel, by decide +kernel,
    by decide +kernel, by decide +kernel, rfl, rfl, rfl⟩,
  ⟨vault id, [], _, by decide +kernel, rfl, by decide +kernel⟩⟩

theorem test_witness_CounterAndRandomEffects :
    (∃ (s : State), ∃ (n : Nat), n = s.blk.get F.LOCK_MFC.N ∧ s.blk.runs 2 = true ∧ s.blk.lock.mfcOwed = false ∧ s.blk.tallyDone 3 = true ∧
      s.blk.tally 3 ≤ n + 16384 ∧ s.blk.tally 3 < min (n + 65536) 0xFFFFFFFF) ∧
    (∃ (s : State), ∃ (b : Block), s.blk.runs 2 = true ∧ s.blk.lock.mfcOwed = false ∧ s.blk.get F.LOCK_MFC.N = 0xFFFFFFFF ∧
      s.blk.tallyOk 4 = true ∧ b = s.blk.tallyPut 4 ((s.blk.tally 4 + 1) % 2 ^ 32)) ∧
    (∃ (s : State), ∃ (b : Block), s.blk.runs 2 = true ∧ s.blk.lock.mfcOwed = true ∧ s.blk.tallyOk 3 = true ∧ s.blk.tally 3 < 0xFFFFFFFF ∧
      b = (s.blk.set F.LOCK_MFC.N (s.blk.tally 3)).updLock (fun l => { l with mfcOwed := false, mfcSoft := false })) ∧
    (∃ (s : State), bitOf (s.blk.get F.CLK_XSTATUS.PARKED) 7 = false) ∧
    (∃ (s : State), s.blk.on F.LOCK_RNG_STATUS.INSTANTIATED = true ∧ s.blk.lock.seed = true ∧ s.blk.reseedDue = true) ∧
    (∃ (s : State), s.blk.reseedDue = false) ∧
    (∃ (s : State), s.blk.lock.seed = false ∧ s.blk.runs 2 = true ∧ s.blk.lock.drbgSect = none ∧ s.blk.reseedDue = true) ∧
    (∃ (s : State), ∃ (sp : Fin 2), ∃ (h : Fin 131072), ∃ (k : KeyRec), ∃ (b : Block), s.blk.runs 2 = true ∧
      s.blk.fetchKey sp.val h.val = some (k, b)) ∧
    (∃ (s : State), ∃ (sp : Fin 2), ∃ (h : Fin 131072), s.blk.est 2 = stReduced ∧ s.blk.fetchKey sp.val h.val = none) ∧
    (∃ (s : State), ∃ (core : Fin 16), ∃ (q : AesReq), ∃ (b : Block), ∃ (c : Block), s.blk.lock.queue = [q] ∧ 1 ≤ q.cls ∧ q.cls ≤ 4 ∧
      q.protect = false ∧ s.blk.coreOk core.val = true ∧ (∀ n, s.blk.maskRoom core.val n = true) ∧
      b = s.blk.updLock (fun l => { l with queue := [] }) ∧ b.keyVerify q.space q.handle = (none, c) ∧ q.cls ≠ 1) ∧
    (∃ (s : State), ∃ (core : Fin 16), ∃ (q : AesReq), ∃ (b : Block), ∃ (c : Block), s.blk.lock.queue = [q] ∧ 1 ≤ q.cls ∧ q.cls ≤ 4 ∧
      q.protect = false ∧ s.blk.coreOk core.val = true ∧ (∀ n, s.blk.maskRoom core.val n = true) ∧
      b = s.blk.updLock (fun l => { l with queue := [] }) ∧ b.keyVerify q.space q.handle = (none, c) ∧ q.cls = 1) ∧
    (∃ (s : State), ∃ (core : Fin 16), ∃ (q : AesReq), ∃ (b : Block), ∃ (c : Block), ∃ k, s.blk.lock.queue = [q] ∧ 1 ≤ q.cls ∧ q.cls ≤ 4 ∧
      q.protect = false ∧ s.blk.coreOk core.val = true ∧ (∀ n, s.blk.maskRoom core.val n = true) ∧
      b = s.blk.updLock (fun l => { l with queue := [] }) ∧ b.keyVerify q.space q.handle = (some k, c) ∧ q.cls = 1) ∧
    (∃ (s : State), ∃ (core : Fin 16), ∃ (q : AesReq), ∃ (b : Block), ∃ (c : Block), ∃ k, s.blk.lock.queue = [q] ∧ 1 ≤ q.cls ∧ q.cls ≤ 4 ∧
      q.protect = false ∧ s.blk.coreOk core.val = true ∧ (∀ n, s.blk.maskRoom core.val n = true) ∧
      b = s.blk.updLock (fun l => { l with queue := [] }) ∧ b.keyVerify q.space q.handle = (some k, c) ∧ q.cls = 3) ∧
    (∃ (s : State), ∃ (e : LimitEntry), s.blk.lock.fifo = [e]) ∧
    (∃ (s : State), s.blk.vaultUp = true ∧ s.blk.xtsSoft ≤ s.blk.lock.vaultUses ∧ s.blk.tallyOk 5 = true) ∧
    (∃ (s : State), ∃ (l : List Nat), ∃ (b : Block), s.blk.rebuilding = true ∧ b = (s.blk.rebuildVault s.fuse l).wipeClear 28) ∧
    (∃ (s : State), ∃ (u : Nat), ∃ (b : Block), s.blk.lock.dirty = [u] ∧ s.blk.vaultUp = true ∧ s.blk.backing = true ∧
      s.blk.on F.LOCK_VSTATUS.BACK_FAIL = false ∧ s.blk.lock.backUses < s.blk.xtsLimit ∧ b = { s.blk with free := s.blk.free + 4096 }) := ⟨
  ⟨up (fun b => b.updLock (fun l => { l with mfcOwed := false })), _, rfl, by decide +kernel, by decide +kernel, by decide +kernel,
    by decide +kernel, by decide +kernel⟩,
  ⟨up (fun b => (b.updLock (fun l => { l with mfcOwed := false })).set F.LOCK_MFC.N 0xFFFFFFFF), _, by decide +kernel, by decide +kernel,
    by decide +kernel, by decide +kernel, rfl⟩,
  ⟨up (fun b => b.updLock (fun l => { l with mfcOwed := true })), _, by decide +kernel, by decide +kernel, by decide +kernel, by decide +kernel,
    rfl⟩,
  ⟨up (fun b => b.set F.CLK_XSTATUS.PARKED 0), by decide +kernel⟩,
  ⟨up (fun b => (b.set F.LOCK_RNG_STATUS.INSTANTIATED 1).updLock (fun l => { l with seed := true, gens := 16777216 })), by decide +kernel,
    by decide +kernel, by decide +kernel⟩,
  ⟨gallop, by decide +kernel⟩,
  ⟨up (fun b => (b.set F.LOCK_RNG_STATUS.INSTANTIATED 1).updLock (fun l => { l with seed := false, gens := 16777216 })), by decide +kernel,
    by decide +kernel, by decide +kernel, by decide +kernel⟩,
  ⟨up (fun b => b.updLock (fun l => { l with cache := [key] })), 1, 9, _, _, by decide +kernel, rfl⟩,
  ⟨up (fun b => b.set (F.ENG_STATUS.STATE 2) stReduced), 1, 9, by decide +kernel, by decide +kernel⟩,
  ⟨up (fun b => b.updLock (fun l => { l with cache := [], queue := [{ cls := 2, space := 1, handle := 9, octets := 16, protect := false }] })),
    15, { cls := 2, space := 1, handle := 9, octets := 16, protect := false }, _, _, by decide +kernel, by decide +kernel, by decide +kernel,
    by decide +kernel, by decide +kernel, fun n => maskRoom_fed _ (by decide +kernel) _ n, rfl, rfl, by decide +kernel⟩,
  ⟨up (fun b => b.updLock (fun l => { l with cache := [], queue := [{ cls := 1, space := 1, handle := 9, octets := 16, protect := false }] })),
    15, { cls := 1, space := 1, handle := 9, octets := 16, protect := false }, _, _, by decide +kernel, by decide +kernel, by decide +kernel,
    by decide +kernel, by decide +kernel, fun n => maskRoom_fed _ (by decide +kernel) _ n, rfl, rfl, by decide +kernel⟩,
  ⟨up (fun b => b.updLock (fun l => { l with cache := [key], queue := [{ cls := 1, space := 1, handle := 9, octets := 16, protect := false }] })),
    15, { cls := 1, space := 1, handle := 9, octets := 16, protect := false }, _, _, _, by decide +kernel, by decide +kernel,
    by decide +kernel, by decide +kernel, by decide +kernel, fun n => maskRoom_fed _ (by decide +kernel) _ n, rfl, rfl, by decide +kernel⟩,
  ⟨up (fun b => b.updLock (fun l => { l with cache := [key], queue := [{ cls := 3, space := 1, handle := 9, octets := 16, protect := false }] })),
    15, { cls := 3, space := 1, handle := 9, octets := 16, protect := false }, _, _, _, by decide +kernel, by decide +kernel,
    by decide +kernel, by decide +kernel, by decide +kernel, fun n => maskRoom_fed _ (by decide +kernel) _ n, rfl, rfl, by decide +kernel⟩,
  ⟨up (fun b => b.updLock (fun l => { l with fifo := [⟨0, 1, 9⟩] })), ⟨0, 1, 9⟩, by decide +kernel⟩,
  ⟨vault (fun b => b.updLock (fun l => { l with vaultUses := 2 ^ 48 })), by decide +kernel, by decide +kernel, by decide +kernel⟩,
  ⟨vault (fun b => b.updLock (fun l => { l with rebuildOwed := true })), [], _, by decide +kernel, rfl⟩,
  ⟨backed (fun b => b.updLock (fun l => { l with dirty := [0] })), 0, _, by decide +kernel, by decide +kernel, by decide +kernel,
    by decide +kernel, by decide +kernel, rfl⟩⟩

theorem test_witness_KeyLimitsHold :
    (∃ (b : Block), ∃ (c : Block), ∃ (sp : Nat), ∃ (h : Nat), ∃ (k : KeyRec), b.keyProtect sp h = (some k, c)) ∧
    (∃ (b : Block), ∃ (c : Block), ∃ (n : Nat), b.mfcTake = (some n, c)) := ⟨
  ⟨(up (fun b => b.updLock (fun l => { l with cache := [key] }))).blk, _, 1, 9, _, rfl⟩,
  ⟨(up (fun b => (b.updLock (fun l => { l with mfcOwed := false })).updFlash (fun f => { f with image := [(3, 1)] }))).blk, _, 0, rfl⟩⟩

theorem test_witness_HostPortEffects :
    (∃ (s : State), ∃ (x : LinkFacts), ∃ (b : Block), s.blk.runs 3 = true ∧ b = s.blk.hostLink x ∧ (s.blk.host.linkUp = false ∨ x.l0 = true)) ∧
    (∃ (s : State), ∃ (x : LinkFacts), ∃ (b : Block), s.blk.runs 3 = true ∧ b = s.blk.hostLink x ∧ s.blk.host.linkUp = true ∧ x.l0 = false) ∧
    (∃ (s : State), s.blk.host.wakeOwed = true) ∧
    (∃ (s : State), s.blk.host.wakeAo + 1000000000 ≤ s.blk.ao + tickNs) ∧
    (∃ (s : State), ∃ (road : Road), ∃ (v : Word), ∃ (b : Block), s.blk.roadStops road (R.HOST_RING_CTRL 0) = none ∧
      s.blk.on (F.HOST_RING_CTRL.EN 0) = false ∧ bitOf v.toNat 31 = true ∧
      b = (s.blk.setB (F.HOST_RING_CTRL.EN 0) true).set (F.HOST_RING_CTRL.SIZE_LOG2 0) v.toNat) ∧
    (∃ (s : State), ∃ (n : Fin 8), ∃ (d : TxDesc), s.blk.ringRuns n.val = true ∧ s.blk.ringPosted n.val ≠ 0 ∧ d.dmaOk = true ∧
      (d.len < 60 ∨ s.blk.mtu - 4 < d.len)) ∧
    (∃ (s : State), ∃ (n : Fin 8), ∃ (d : TxDesc), s.blk.ringRuns n.val = true ∧ s.blk.ringPosted n.val ≠ 0 ∧ d.dmaOk = true ∧ 60 ≤ d.len ∧
      d.len ≤ s.blk.mtu - 4 ∧ s.blk.txRefused n.val d = false) ∧
    (∃ (s : State), ∃ (n : Fin 8), ∃ (f : CartFrame), s.blk.ringRuns (8 + n.val) = true ∧ s.blk.headOf (16 + n.val) = some f ∧
      s.blk.ringPosted (8 + n.val) = 0 ∧ s.blk.rxOctets n.val f ≠ [] ∧ f.waited = false) ∧
    (∃ (s : State), ∃ (n : Fin 8), ∃ (d : RxDesc), ∃ (f : CartFrame), ∃ (b : Block), ∃ (c : Block), s.blk.ringRuns (8 + n.val) = true ∧
      s.blk.headOf (16 + n.val) = some f ∧ 1 ≤ s.blk.ringPosted (8 + n.val) ∧ (s.blk.rxOctets n.val f).length ≤ d.bufLen ∧
      s.blk.rxFill (8 + n.val) f (s.blk.rxOctets n.val f) true [d] = (b, true) ∧ b.takeHead (16 + n.val) = some (f, c)) ∧
    (∃ (s : State), ∃ (n : Fin 16), ∃ (b : Block), n.val < 8 ∧ s.blk.ringRuns n.val = true ∧ b = s.blk.count .host C.HOST.DMA_ERR ∧
      b.ringPosted n.val ≠ 0) := ⟨
  ⟨gallop, { l0 := true, gen := 3, width := 8, bme := true, d3 := false }, _, by decide +kernel, rfl, by decide +kernel⟩,
  ⟨gallop, { l0 := false, gen := 3, width := 8, bme := true, d3 := false }, _, by decide +kernel, rfl, by decide +kernel, by decide +kernel⟩,
  ⟨up (fun b => { b with host := { b.host with wakeOwed := true } }), by decide +kernel⟩,
  ⟨up (fun b => { b with time := { b.time with ao := 1000000000 } }), by decide +kernel⟩,
  ⟨gallop, .bar0, 0x80000006, _, by decide +kernel, by decide +kernel, by decide +kernel, rfl⟩,
  ⟨rings 0, 0, txDesc 59, by decide +kernel, by decide +kernel, by decide +kernel, by decide +kernel⟩,
  ⟨rings 0, 0, txDesc 60, by decide +kernel, by decide +kernel, by decide +kernel, by decide +kernel, by decide +kernel, by decide +kernel⟩,
  ⟨rings 0, 0, cartFrame, by decide +kernel, by decide +kernel, by decide +kernel, by decide +kernel, by decide +kernel⟩,
  ⟨rings 1, 0, { addr := 0, bufLen := 2048 }, cartFrame, _, _, by decide +kernel, rfl, by decide +kernel, by decide +kernel, rfl, rfl⟩,
  ⟨rings 0, 0, _, by decide +kernel, by decide +kernel, rfl, by decide +kernel⟩⟩

theorem test_witness_DoorbellsAndIndices :
    (∃ (s : State), ∃ (q : Fin 16), ∃ (v : BitVec 16), ∃ (b : Block), s.blk.host.linkUp = true ∧
      s.blk.startIgnores .bar0 (R.HOST_RING_PROD q.val) = false ∧ s.blk.parked 6 = false ∧ s.blk.clk.values = [] ∧
      b = (s.blk.count (.clk 6) C.CLK.XFER).set (F.HOST_RING_PROD.PROD q.val) v.toNat ∧ b.on (F.HOST_RING_CTRL.EN q.val) = false) ∧
    (∃ (s : State), ∃ (q : Fin 16), ∃ (v : BitVec 16), ∃ (b : Block), s.blk.host.linkUp = true ∧
      s.blk.startIgnores .bar0 (R.HOST_RING_PROD q.val) = false ∧ s.blk.parked 6 = false ∧ s.blk.clk.values = [] ∧
      b = (s.blk.count (.clk 6) C.CLK.XFER).set (F.HOST_RING_PROD.PROD q.val) v.toNat ∧ b.ringPosted q.val ≤ b.ringSize q.val) ∧
    (∃ (s : State), ∃ (q : Fin 16), ∃ (v : BitVec 16), ∃ (b : Block), s.blk.host.linkUp = true ∧
      s.blk.startIgnores .bar0 (R.HOST_RING_PROD q.val) = false ∧ s.blk.parked 6 = false ∧ s.blk.clk.values = [] ∧
      b = (s.blk.count (.clk 6) C.CLK.XFER).set (F.HOST_RING_PROD.PROD q.val) v.toNat ∧ b.on (F.HOST_RING_CTRL.EN q.val) = true ∧
      b.ringSize q.val < b.ringPosted q.val) ∧
    (∃ (s : State), ∃ (q : Fin 16), s.blk.host.linkUp = true ∧ s.blk.startIgnores .bar0 (R.HOST_RING_PROD q.val) = true) ∧
    (∃ (s : State), ∃ (q : Fin 16), s.blk.host.linkUp = true ∧ s.blk.startIgnores .bar0 (R.HOST_RING_PROD q.val) = false ∧ s.blk.parked 6 = true ∧
      s.blk.clk.values = []) ∧
    (∃ (s : State), ∃ (q : Fin 16), ∃ (x : ValueX), s.blk.host.linkUp = true ∧ s.blk.startIgnores .bar0 (R.HOST_RING_PROD q.val) = false ∧
      s.blk.parked 6 = true ∧ s.blk.clk.values = [x] ∧ x.g = 6 ∧ x.k = q.val ∧ x.held = none) ∧
    (∃ (s : State), ∃ (q : Fin 16), ∃ (x : ValueX), s.blk.host.linkUp = true ∧ s.blk.startIgnores .bar0 (R.HOST_RING_PROD q.val) = false ∧
      s.blk.parked 6 = true ∧ s.blk.clk.values = [x] ∧ x.g = 6 ∧ x.k = q.val ∧ x.held.isSome = true) := ⟨
  ⟨up (fun b => b.set F.CLK_XSTATUS.PARKED 0), 15, 0, _, by decide +kernel, by decide +kernel, by decide +kernel, by decide +kernel, rfl,
    by decide +kernel⟩,
  ⟨rings 0, 0, 64, _, by decide +kernel, by decide +kernel, by decide +kernel, by decide +kernel, rfl, by decide +kernel⟩,
  ⟨rings 0, 8, 65, _, by decide +kernel, by decide +kernel, by decide +kernel, by decide +kernel, rfl, by decide +kernel, by decide +kernel⟩,
  ⟨up (fun b => b.updOst (fun o => { o with started := false })), 15, by decide +kernel, by decide +kernel⟩,
  ⟨up (fun b => { b.set F.CLK_XSTATUS.PARKED 64 with clk := { b.clk with values := [] } }), 15, by decide +kernel, by decide +kernel,
    by decide +kernel, by decide +kernel⟩,
  ⟨up (fun b => { b.set F.CLK_XSTATUS.PARKED 64 with clk := { b.clk with values := [{ g := 6, k := 15, pub := 0 }] } }), 15,
    { g := 6, k := 15, pub := 0 }, by decide +kernel, by decide +kernel, by decide +kernel, by decide +kernel, by decide +kernel,
    by decide +kernel, by decide +kernel⟩,
  ⟨up (fun b => { b.set F.CLK_XSTATUS.PARKED 64 with clk := { b.clk with values := [{ g := 6, k := 15, pub := 0, held := some 1 }] } }), 15,
    { g := 6, k := 15, pub := 0, held := some 1 }, by decide +kernel, by decide +kernel, by decide +kernel, by decide +kernel,
    by decide +kernel, by decide +kernel, by decide +kernel⟩⟩

theorem test_witness_LedgerEffects :
    (∃ (s : State), ∃ (o : Fin 25), ∃ (n : BitVec 8), s.blk.clerk.latest o.val n.toNat = none) ∧
    (∃ (s : State), ∃ (road : Road), ∃ (v : Word), ∃ (n : Nat), s.blk.roadStops road R.CLERK_LEDGER_TAIL = none ∧ n = v.toNat % 2 ^ 17 ∧
      (n + 2 ^ 17 - s.blk.get F.CLERK_LEDGER_TAIL.TAIL) % 2 ^ 17 ≤ s.blk.ledgerUsed) ∧
    (∃ (s : State), ∃ (road : Road), ∃ (v : Word), ∃ (n : Nat), s.blk.roadStops road R.CLERK_LEDGER_TAIL = none ∧ n = v.toNat % 2 ^ 17 ∧
      s.blk.ledgerUsed < (n + 2 ^ 17 - s.blk.get F.CLERK_LEDGER_TAIL.TAIL) % 2 ^ 17) ∧
    (∃ (s : State), ∃ (road : Road), ∃ (v : Word), s.blk.roadStops road R.CLERK_LEDGER_CFG = none ∧ s.blk.on F.CLERK_LEDGER_CFG.EN = false ∧
      bitOf v.toNat 31 = true) ∧
    (∃ (s : State), ∃ (o : Fin 25), ∃ (n : BitVec 8), ∃ (p : List Byte), ∃ (x : ServedSrc), s.blk.clerk.served.findIdx? (fun q => q.origin == o.val && q.src == n.toNat) = none ∧
      x = { origin := o.val, src := n.toNat, arg := p }) ∧
    (∃ (s : State), ∃ (road : Road), s.blk.roadStops road R.CLERK_DONE = none) ∧
    (∃ (s : State), s.blk.portUp = true ∧ s.blk.clerk.msixUrgent = true ∧ 0 < s.blk.clerk.msixSince ∧ s.blk.clerk.msixMask = true) ∧
    (∃ (s : State), s.blk.portUp = true ∧ s.blk.clerk.msixUrgent = true ∧ 0 < s.blk.clerk.msixSince ∧ s.blk.clerk.msixMask = false) ∧
    (∃ (s : State), s.blk.pcieDown = false) := ⟨
  ⟨gallop, 24, 255, by decide +kernel⟩,
  ⟨up (fun b => b.set F.CLERK_LEDGER_HEAD.HEAD 5), .bar0, 5, _, by decide +kernel, rfl, by decide +kernel⟩,
  ⟨up (fun b => b.set F.CLERK_LEDGER_HEAD.HEAD 5), .bar0, 6, _, by decide +kernel, rfl, by decide +kernel⟩,
  ⟨gallop, .bar0, 0x80000000, by decide +kernel, by decide +kernel, by decide +kernel⟩,
  ⟨gallop, 2, 17, [], _, by decide +kernel, rfl⟩,
  ⟨gallop, .bar0, by decide +kernel⟩,
  ⟨up (fun b => { b with clerk := { b.clerk with msixUrgent := true, msixSince := 1, msixMask := true } }), by decide +kernel,
    by decide +kernel, by decide +kernel, by decide +kernel⟩,
  ⟨up (fun b => { b with clerk := { b.clerk with msixUrgent := true, msixSince := 1 } }), by decide +kernel, by decide +kernel,
    by decide +kernel, by decide +kernel⟩,
  ⟨gallop, by decide +kernel⟩⟩

theorem test_witness_ServedSourcesAndLedgerCopy :
    (∃ (b : Block), ∃ (o : Nat), ∃ (n : Nat), b.servedActive o n = false) ∧
    (∃ (b : Block), ∃ (o : Nat), ∃ (n : Nat), b.servedActive o n = true) ∧
    (∃ (b : Block), b.clerk.copy.length ≤ 4096) := ⟨
  ⟨gallop.blk, 2, 17, by decide +kernel⟩,
  ⟨{ gallop.blk with clerk := { gallop.blk.clerk with served := [{ origin := 2, src := 17 }] } }, 2, 17, by decide +kernel⟩,
  ⟨{ gallop.blk with clerk := { gallop.blk.clerk with copy := List.replicate 40 { sev := .event, origin := 2, src := 17, time := 0, payload := [] } } },
    by decide +kernel⟩⟩

theorem test_witness_CreoshRequestEffects :
    (∃ (s : State), ∃ (n : Nat), s.blk.creoshUp = true ∧ 1 ≤ n ∧ n ≤ 256) ∧
    (∃ (s : State), ∃ (n : Nat), s.blk.creoshUp = true ∧ (n = 0 ∨ 256 < n)) ∧
    (∃ (s : State), ∃ (a : Nat), s.blk.creoshUp = true ∧ creoshRefuses a = false ∧ a ≠ R.FLASH_TALLY_DATA) ∧
    (∃ (s : State), ∃ (a : Nat), s.blk.creoshUp = true ∧ creoshRefuses a = true) ∧
    (∃ (s : State), ∃ (i : Nat), ∃ (n : Nat), s.blk.creoshUp = true ∧ 1 ≤ n ∧ n ≤ 40 ∧
      (s.blk.clerk.copyHead + 2 ^ 32 - i % 2 ^ 32) % 2 ^ 32 ≤ 4096) ∧
    (∃ (s : State), s.blk.creoshUp = true) ∧
    (∃ (s : State), ∃ (body : List Byte), s.blk.creoshUp = true ∧ body.length ≠ 1032 ∧ natLE (body.take 1) ≤ 1) ∧
    (∃ (s : State), ∃ (body : List Byte), s.blk.creoshUp = true ∧ body.length = 1032 ∧ natLE (body.take 1) = 0) ∧
    (∃ (s : State), ∃ (body : List Byte), s.blk.creoshUp = true ∧ body.length = 8 ∧ natLE (body.take 1) = 2) ∧
    (∃ (s : State), ∃ (r : BitVec 8), ∃ (u : BitVec 8), ∃ (l : BitVec 8), ∃ (f : BitVec 8), s.blk.creoshUp = true ∧
      s.blk.gaitRequest r.toNat u.toNat l.toNat (bitOf f.toNat 0) = none) ∧
    (∃ (s : State), ∃ (q : CreoshReq), ∃ (r : BitVec 8), ∃ (u : BitVec 8), ∃ (l : BitVec 8), ∃ (f : BitVec 8), ∃ (b : Block), ∃ (c : Block), s.blk.creoshUp = true ∧
      s.blk.gaitRequest r.toNat u.toNat l.toNat (bitOf f.toNat 0) ≠ none ∧
      b = s.blk.creoshReply q 6 0 (bytesLE 1 s.blk.gait ++ bytesLE 1 (s.blk.get F.WATCH_GAIT_STATUS.TARGET) ++ bytesLE 1 (s.blk.get F.WATCH_GAIT_STATUS.CEIL) ++ [0]) ∧
      b.gaitRequest r.toNat u.toNat l.toNat (bitOf f.toNat 0) = some c) ∧
    (∃ (s : State), ∃ k, s.blk.creoshUp = true ∧ k ≠ 0x4B47#16) ∧
    (∃ (s : State), ∃ (x : List Byte), s.blk.creoshUp = true ∧ (x.length < 60 ∨ s.blk.mtu - 4 < x.length)) ∧
    (∃ (s : State), ∃ (d : BitVec 16), ∃ (x : List Byte), s.blk.creoshUp = true ∧ 60 ≤ x.length ∧ x.length ≤ s.blk.mtu - 4 ∧ d.toNat / 4096 ≠ 8) := ⟨
  ⟨gallop, 256, by decide +kernel, by decide +kernel, by decide +kernel⟩,
  ⟨gallop, 257, by decide +kernel, by decide +kernel⟩,
  ⟨gallop, R.TOP_ID, by decide +kernel, by decide +kernel, by decide +kernel⟩,
  ⟨gallop, R.SEC_LC_CMD, by decide +kernel, by decide +kernel⟩,
  ⟨gallop, 0, 40, by decide +kernel, by decide +kernel, by decide +kernel, by decide +kernel⟩,
  ⟨gallop, by decide +kernel⟩,
  ⟨gallop, [], by decide +kernel, by decide +kernel, by decide +kernel⟩,
  ⟨gallop, List.replicate 1032 0, by decide +kernel, by decide +kernel, by decide +kernel⟩,
  ⟨gallop, 2 :: List.replicate 7 0, by decide +kernel, by decide +kernel, by decide +kernel⟩,
  ⟨gallop, 5, 0, 0, 0, by decide +kernel, by decide +kernel⟩,
  ⟨gallop, { src := 0, vlan := 1, sa := 2, seq := 3 }, 0, 0, 0, 0, _, _, by decide +kernel, by decide +kernel, rfl, rfl⟩,
  ⟨gallop, 0, by decide +kernel, by decide +kernel⟩,
  ⟨gallop, List.replicate 59 0, by decide +kernel, by decide +kernel⟩,
  ⟨gallop, 0, List.replicate 60 0, by decide +kernel, by decide +kernel, by decide +kernel, by decide +kernel⟩⟩

theorem test_witness_CreoshTransportAndPorts :
    (∃ (s : State), ∃ (o : List Byte), s.blk.runs 3 = true ∧ s.blk.lame = false ∧
      (o.length < 32 ∨ natLE (o.take 1) ≠ 1 ∨ s.blk.creosh.floorDone = false ∨ s.blk.runs 2 = false)) ∧
    (∃ (s : State), ∃ (o : List Byte), ∃ (n : Nat), s.blk.runs 3 = true ∧ s.blk.lame = false ∧ n = natLE ((o.drop 12).take 2) ∧ 32 + n ≤ o.length ∧
      n ≤ 1400 ∧ natLE (o.take 1) = 1 ∧ s.blk.creosh.floorDone = true ∧ s.blk.runs 2 = true ∧ (s.blk.keyAt 2 0).isSome = true) ∧
    (∃ (s : State), ∃ (n : Nat), ∃ (o : List Byte), ∃ (k : KeyRec), ∃ (b : Block), ∃ (x : Block), s.blk.keyVerify 2 0 = (some k, b) ∧
      x = b.countBlocks 0 10 (o.take (16 + n)).length) ∧
    (∃ (s : State), ∃ (b : Block), s.blk.keyVerify 2 0 = (none, b)) ∧
    (∃ (s : State), s.blk.creosh.floorDone = false ∧ s.blk.runs 1 = true ∧ s.blk.tallyOk 6 = true ∧ s.blk.creosh.floorAsked = false) ∧
    (∃ (s : State), s.blk.creosh.waiting = [] ∧ s.blk.creosh.txReady = false ∧ s.blk.tallyOk 7 = true ∧ s.blk.creosh.txAsked = false) ∧
    (∃ (s : State), ∃ (n : Nat), ∃ (d : StewFrame), s.blk.cart.inbox.find? (fun x => x.2 == d) = some (n, d)) ∧
    (∃ (s : State), ∃ (n : Nat), ∃ (d : StewFrame), ∃ (r : RetPath), ∃ (x : List Byte), ∃ (b : Block), s.blk.cart.inbox.find? (fun x => x.2 == d) = some (n, d) ∧
      b = (s.blk.updCart (fun c => { c with inbox := c.inbox.erase (n, d) })).poolDrop n ∧ b.creosh.ret = some r ∧
      x = bytesLE 1 d.src ++ bytesLE 1 (d.cls % 8) ++ bytesLE 2 (d.vlan % 4096) ++ bytesLE 4 0 ++ bytesLE 8 d.time ++ d.octets ∧
      x.length ≤ 1400) ∧
    (∃ (s : State), ∃ (t : Nat), s.blk.creosh.armed = some t ∧ t < s.blk.ao) ∧
    (∃ (s : State), ∃ (a : BitVec 7), a.toNat = s.blk.hitchAddr ∧ s.blk.tackAsleep = false) ∧
    (∃ (s : State), ∃ (a : BitVec 7), a.toNat = s.blk.hitchAddr ∧ s.blk.tackAsleep = true) ∧
    (∃ (x : List Byte), x.length = 4) ∧
    (∃ (s : State), s.blk.dapUp = true) ∧
    (∃ (s : State), s.blk.dapUp = false) ∧
    (∃ (s : State), s.blk.dapUp = true ∧ s.blk.sec.level = 2) := ⟨
  ⟨gallop, [], by decide +kernel, by decide +kernel, by decide +kernel⟩,
  ⟨steward id, 1 :: List.replicate 31 0, _, by decide +kernel, by decide +kernel, rfl, by decide +kernel, by decide +kernel, by decide +kernel,
    by decide +kernel, by decide +kernel, by decide +kernel⟩,
  ⟨steward id, 0, [], _, _, _, rfl, rfl⟩,
  ⟨gallop, _, rfl⟩,
  ⟨up (fun b => { b with creosh := { b.creosh with floorDone := false } }), by decide +kernel, by decide +kernel, by decide +kernel,
    by decide +kernel⟩,
  ⟨gallop, by decide +kernel, by decide +kernel, by decide +kernel, by decide +kernel⟩,
  ⟨up (fun b => b.updCart (fun c => { c with inbox := [(1, { src := 0, cls := 0, vlan := 1, time := 0, octets := [] })] })), 1,
    { src := 0, cls := 0, vlan := 1, time := 0, octets := [] }, by decide +kernel⟩,
  ⟨up (fun b => ({ b with creosh := { b.creosh with ret := some ⟨0, 1, 2⟩ } } : Block).updCart (fun c => { c with inbox := [(1, { src := 0, cls := 0, vlan := 1, time := 0, octets := [] })] })),
    1, { src := 0, cls := 0, vlan := 1, time := 0, octets := [] }, ⟨0, 1, 2⟩, _, _, rfl, rfl, rfl, rfl, by decide +kernel⟩,
  ⟨up (fun b => { b with creosh := { b.creosh with armed := some 0 }, time := { b.time with ao := 1 } }), 0, by decide +kernel,
    by decide +kernel⟩,
  ⟨gallop, 0x58, by decide +kernel, by decide +kernel⟩,
  ⟨up (fun b => b.updWatch (fun w => { w with plan := 4 })), 0x58, by decide +kernel, by decide +kernel⟩,
  ⟨[0, 0, 0, 0], by decide +kernel⟩,
  ⟨up (fun b => b.updSec (fun c => { c with ir := 0x20 })), by decide +kernel⟩,
  ⟨gallop, by decide +kernel⟩,
  ⟨up (fun b => b.updSec (fun c => { c with ir := 0x20, level := 2 })), by decide +kernel, by decide +kernel⟩⟩

theorem test_witness_CreoshSeqTakenOnce :
    (∃ (l : List Nat), ∃ (c : Creosh), ∃ (acc : List Nat), (∀ x ∈ c.seen, x ≤ c.high) ∧
      acc = (l.foldl (fun (p : Creosh × List Nat) q => ((p.1.window q).map (fun d => (d, q :: p.2))).getD p) (c, [])).2) ∧
    (∃ (l : List Nat), ∃ (c : Creosh), ∃ (acc : List Nat), ∃ x, x ∈ acc ∧ (∀ x ∈ c.seen, x ≤ c.high) ∧
      acc = (l.foldl (fun (p : Creosh × List Nat) q => ((p.1.window q).map (fun d => (d, q :: p.2))).getD p) (c, [])).2) := ⟨
  ⟨[5, 3, 5], { high := 5, seen := [5] }, _, by decide +kernel, rfl⟩,
  ⟨[5, 3, 5], { high := 5, seen := [5] }, _, 3, by decide +kernel, by decide +kernel, rfl⟩⟩

theorem test_witness_ClockAndCrossingEffects :
    (∃ (s : State), s.blk.on F.CLK_STATUS.PADDOCK_LOST = true) ∧
    (∃ (s : State), s.blk.on F.CLK_STATUS.PADDOCK_LOST = false ∧ s.blk.watch.plan ≠ 4) ∧
    (∃ (s : State), s.blk.watch.plan = 0) ∧
    (∃ (s : State), s.blk.ceil 3 = false) ∧
    (∃ (s : State), s.blk.ceil 3 = true ∧ s.blk.on F.OST_START_STATUS.LAME = false) ∧
    (∃ (s : State), ∃ (g : Fin 11), ∃ (b : Block), b = s.blk.set F.CLK_XSTATUS.PARKED (setBit (s.blk.get F.CLK_XSTATUS.PARKED) g.val true) ∧
      (g.val ≠ 10 ∨ b.hatch = none)) ∧
    (∃ (s : State), ∃ (g : Fin 11), ∃ (b : Block), b = s.blk.set F.CLK_XSTATUS.PARKED (setBit (s.blk.get F.CLK_XSTATUS.PARKED) g.val true) ∧
      g.val = 10 ∧ b.hatch.isSome = true) ∧
    (∃ (s : State), ∃ (g : Fin 11), ∃ (b : Block), b = s.blk.set F.CLK_XSTATUS.PARKED (setBit (s.blk.get F.CLK_XSTATUS.PARKED) g.val true) ∧
      s.blk.groupRuns g.val = true) ∧
    (∃ (s : State), ∃ (g : Fin 11), ∃ (b : Block), b = s.blk.set F.CLK_XSTATUS.PARKED (setBit (s.blk.get F.CLK_XSTATUS.PARKED) g.val true) ∧
      s.blk.groupRuns g.val = false) ∧
    (∃ (s : State), ∃ (g : Fin 11), s.blk.parked g.val = true) ∧
    (∃ (s : State), s.blk.parked 10 = false) := ⟨
  ⟨up (fun b => b.set F.CLK_STATUS.PADDOCK_LOST 1), by decide +kernel⟩,
  ⟨gallop, by decide +kernel, by decide +kernel⟩,
  ⟨gallop, by decide +kernel⟩,
  ⟨gallop, by decide +kernel⟩,
  ⟨up (fun b => b.set F.WATCH_GAIT_STATUS.CEIL 8), by decide +kernel, by decide +kernel⟩,
  ⟨gallop, 1, _, rfl, by decide +kernel⟩,
  ⟨up (fun b => { b with hatch := some 1 }), 10, _, rfl, by decide +kernel, by decide +kernel⟩,
  ⟨gallop, 1, _, rfl, by decide +kernel⟩,
  ⟨State.reset, 1, _, rfl, by decide +kernel⟩,
  ⟨up (fun b => b.set F.CLK_XSTATUS.PARKED 2), 1, by decide +kernel⟩,
  ⟨up (fun b => b.set F.CLK_XSTATUS.PARKED 0), by decide +kernel⟩⟩

theorem test_witness_AdaptiveLoopEffects :
    (∃ (s : State), s.blk.coreFast = false) ∧
    (∃ (s : State), ∃ (l : List (Nat × Nat)), ∃ (n : Nat), ∃ (b : Block), ∃ (c : Block), ∃ (w : Block), s.blk.coreFast = true ∧
      b = (s.blk.takeShadows 20).avsMonitors l ∧ b.avs.excluded = [] ∧ b.avs.stretch = 0 ∧ b.avs.hold = 0 ∧ (∀ x ∈ l, x.2 ≤ 63) ∧
      16 ≤ l.length ∧ n = l.foldl (fun m x => min m x.2) 63 ∧ c = (b.set F.TOP_AVS_STATUS.SLACK n).updAvs (fun a => { a with stretch := 0 }) ∧
      c.on F.TOP_AVS_CTRL.FREEZE = false ∧ c.on F.TOP_AVS_STATUS.AVS_FAULT = false ∧ c.avsMin ≤ c.get F.TOP_AVS_STATUS.V ∧
      c.get F.TOP_AVS_STATUS.V ≤ c.avsMax ∧
      w = c.avsWrite (clampInt c.avsMin c.avsMax (c.get F.TOP_AVS_STATUS.V - loopStep ((n : Int) - c.get F.TOP_AVS_CTRL.TARGET) (c.get F.TOP_AVS_CTRL.GAIN_SHIFT) c.avsStep)).toNat n true) ∧
    (∃ (s : State), ∃ (m : Fin 24), ∃ (n : Nat), ∃ (b : Block), s.blk.coreFast = true ∧ s.blk.avs.wroteAo = none ∧ m.val ∉ s.blk.avs.excluded ∧
      n < s.blk.get F.TOP_AVS_CTRL.URGENT ∧
      b = (s.blk.updAvs (fun a => { a with hold := s.blk.get F.TOP_AVS_BOUND.DROOP_HOLD })).sat F.TOP_AVS_STATUS.URGENT_CNT 1) ∧
    (∃ (s : State), ∃ (mv : Nat), s.blk.coreFast = true ∧ s.blk.on F.TOP_DROOP_CTRL.EN = true ∧
      clampTo 20 60 (s.blk.get F.TOP_DROOP_CTRL.THRESH_MV) < mv) ∧
    (∃ (s : State), ∃ (p : Fin 2), s.blk.ringRx p.val = true ∧
      s.blk.on (if p.val = 0 then F.CART_EQ_CTRL.FREEZE_A else F.CART_EQ_CTRL.FREEZE_B) = true) ∧
    (∃ (s : State), ∃ (p : Fin 2), ∃ (n : Nat), s.blk.ringRx p.val = true ∧
      s.blk.on (if p.val = 0 then F.CART_EQ_CTRL.FREEZE_A else F.CART_EQ_CTRL.FREEZE_B) = false ∧ s.blk.get (eqFld p.val 0) ≤ 15 ∧
      n = (if s.blk.on (eqFld p.val 2) then s.blk.get F.CART_EQ_CTRL.ACQ_SHIFT else s.blk.get F.CART_EQ_CTRL.GAIN_SHIFT)) ∧
    (∃ (s : State), ∃ (p : Fin 2), s.blk.ringRx p.val = true ∧ (nth s.blk.eq p.val {}).restarted = false) := ⟨
  ⟨up (fun b => b.updWatch (fun w => { w with plan := 3 })), by decide +kernel⟩,
  ⟨gallop, (List.range 16).map (fun m => (m, 30)), _, _, _, _, by decide +kernel, rfl, by decide +kernel, by decide +kernel, by decide +kernel,
    by decide +kernel, by decide +kernel, rfl, rfl, by decide +kernel, by decide +kernel, by decide +kernel, by decide +kernel, rfl⟩,
  ⟨gallop, 23, 0, _, by decide +kernel, by decide +kernel, by decide +kernel, by decide +kernel, rfl⟩,
  ⟨up (fun b => b.set F.TOP_DROOP_CTRL.EN 1), 61, by decide +kernel, by decide +kernel, by decide +kernel⟩,
  ⟨up (fun b => (b.set F.CART_RING0.EN 1).set F.CART_EQ_CTRL.FREEZE_A 1), 0, by decide +kernel, by decide +kernel⟩,
  ⟨up (fun b => b.set F.CART_RING1.EN 1), 1, _, by decide +kernel, by decide +kernel, by decide +kernel, rfl⟩,
  ⟨up (fun b => b.set F.CART_RING1.EN 1), 1, by decide +kernel, by decide +kernel⟩⟩

theorem test_witness_LoopValuesStayInBounds :
    (∃ (b : Block), ∃ (k : Nat), k < 256 ∧ -32768 ≤ b.nfMin ∧ b.nfMax ≤ 32767) ∧
    (∃ (b : Block), ∃ (v : Nat), b.avsMin ≤ v ∧ v ≤ b.avsMax ∧ b.avsMin ≤ b.get F.TOP_AVS_STATUS.V ∧ b.get F.TOP_AVS_STATUS.V ≤ b.avsMax) ∧
    (∃ (s : State), ∃ (t : State), ∃ (p : Fin 2), ∃ (l : List Int), ∃ (k : Int), s.blk.ringRx p.val = true ∧
      s.blk.on (if p.val = 0 then F.CART_EQ_CTRL.FREEZE_A else F.CART_EQ_CTRL.FREEZE_B) = false ∧ s.blk.get (eqFld p.val 0) ≤ 15 ∧
      exec (.dfeUpdate p l k) s = .next t) ∧
    (∃ (s : State), ∃ (t : State), ∃ (p : Fin 2), ∃ (l : List Int), ∃ (k : Int), ∃ (f : Fld), f ∈ eqTaps p.val ∧ s.blk.ringRx p.val = true ∧
      s.blk.on (if p.val = 0 then F.CART_EQ_CTRL.FREEZE_A else F.CART_EQ_CTRL.FREEZE_B) = false ∧ s.blk.get (eqFld p.val 0) ≤ 15 ∧
      exec (.dfeUpdate p l k) s = .next t) := ⟨
  ⟨gallop.blk, 255, by decide +kernel, by decide +kernel, by decide +kernel⟩,
  ⟨gallop.blk, 170, by decide +kernel, by decide +kernel, by decide +kernel, by decide +kernel⟩,
  ⟨up (fun b => b.set F.CART_RING1.EN 1), _, 1, [], 0, by decide +kernel, by decide +kernel, by decide +kernel, rfl⟩,
  ⟨up (fun b => b.set F.CART_RING1.EN 1), _, 1, [], 0, F.CART_EQ_B_DFE.TAP5, by decide +kernel, by decide +kernel, by decide +kernel,
    by decide +kernel, rfl⟩⟩

theorem test_witness_GaitEffects :
    (∃ (s : State), ∃ (road : Road), ∃ (v : Word), s.blk.roadStops road R.WATCH_GAIT_REQ = none ∧ v.toNat / 2 ^ 16 ≠ 0x4741) ∧
    (∃ (s : State), ∃ (road : Road), ∃ (v : Word), s.blk.roadStops road R.WATCH_GAIT_REQ = none ∧ v.toNat / 2 ^ 16 = 0x4741 ∧ s.blk.sec.lc ≠ 4 ∧
      bitsOf v.toNat 2 0 ≤ 4 ∧ bitsOf v.toNat 6 4 ≤ 4 ∧ bitOf v.toNat 15 = false ∧
      ((bitsOf v.toNat 2 0 = 1 ∨ bitsOf v.toNat 6 4 = 1) ↔ bitsOf v.toNat 10 8 ≠ 0)) ∧
    (∃ (s : State), ∃ (b : Block), b = s.blk.updWatch (fun w => { w with pwrLow := true }) ∧ s.blk.ceil 0 = false) ∧
    (∃ (s : State), ∃ (b : Block), b = s.blk.updWatch (fun w => { w with pwrLow := false }) ∧ s.blk.ceil 0 = true ∧ s.blk.wakeRaises 5 = false) ∧
    (∃ (s : State), s.blk.fatalDue = true) ∧
    (∃ (s : State), ∃ (mv : Nat), s.blk.ceil 0 = true ∧ s.blk.get F.WATCH_BATT.HALT_MV ≠ 0 ∧ 2000 ≤ mv ∧ mv ≤ 6000 ∧ mv < s.blk.haltMv) ∧
    (∃ (s : State), ∃ (mv : Nat), s.blk.haltMv + 200 ≤ mv) ∧
    (∃ (s : State), ∃ (d : Nat), s.blk.watch.move = none ∧ s.blk.nextMove = some d) ∧
    (∃ (s : State), ∃ (m : GaitMove), s.blk.watch.move = some m ∧ s.blk.stepSettled = true ∧ max 1 s.blk.watch.plan = max 1 m.dst) ∧
    (∃ (s : State), ∃ (m : GaitMove), s.blk.watch.move = some m ∧ s.blk.stepSettled = true ∧ max 1 s.blk.watch.plan ≠ max 1 m.dst) ∧
    (∃ (b : Block), ∃ (d : Nat), b.nextMove = some d ∧ b.gait < d) ∧
    (∃ (b : Block), ∃ (d : Nat), b.nextMove = some d ∧ 1 < b.gait ∧ d < b.gait) := ⟨
  ⟨gallop, .bar0, 0, by decide +kernel, by decide +kernel⟩,
  ⟨gallop, .bar0, 0x47410101, by decide +kernel, by decide +kernel, by decide +kernel, by decide +kernel, by decide +kernel, by decide +kernel,
    by decide +kernel⟩,
  ⟨gallop, _, rfl, by decide +kernel⟩,
  ⟨up (fun b => (b.set F.WATCH_GAIT_STATUS.CEIL 1).set F.WATCH_WAKE_EN.RISE 0), _, rfl, by decide +kernel, by decide +kernel⟩,
  ⟨up (fun b => (((({ b with time := { b.time with ao := 1000000000 } } : Block).set F.WATCH_GAIT_STATUS.CEIL 2).set F.WATCH_CFG.FATAL_RETRY_S 1).set F.WATCH_CFG.RETRY_MAX 1)),
    by decide +kernel⟩,
  ⟨up (fun b => (b.set F.WATCH_GAIT_STATUS.CEIL 1).set F.WATCH_BATT.HALT_MV 3000), 2000, by decide +kernel, by decide +kernel,
    by decide +kernel, by decide +kernel, by decide +kernel⟩,
  ⟨gallop, 5200, by decide +kernel⟩,
  ⟨up (fun b => b.set F.WATCH_GAIT_REQ.REQ 2), 2, by decide +kernel, by decide +kernel⟩,
  ⟨up (fun b => b.updWatch (fun w => { w with move := some ⟨0, 1, 0⟩ })), ⟨0, 1, 0⟩, by decide +kernel, by decide +kernel, by decide +kernel⟩,
  ⟨up (fun b => b.updWatch (fun w => { w with move := some ⟨0, 2, 0⟩ })), ⟨0, 2, 0⟩, by decide +kernel, by decide +kernel, by decide +kernel⟩,
  ⟨(up (fun b => b.set F.WATCH_GAIT_REQ.REQ 2)).blk, 2, by decide +kernel, by decide +kernel⟩,
  ⟨(walk (fun b => b.set F.WATCH_GAIT_REQ.REQ 0)).blk, 2, by decide +kernel, by decide +kernel, by decide +kernel⟩⟩

theorem test_witness_SaddleWakeAndRoundEffects :
    (∃ (s : State), s.blk.walking = true ∧ s.blk.on F.WATCH_POWER_STATUS.AWAKE = false) ∧
    (∃ (s : State), ∃ (b : Block), s.blk.walking = true ∧ s.blk.on F.WATCH_POWER_STATUS.AWAKE = true ∧ s.blk.awakeHeld = false ∧
      b = (s.blk.awakeSum.feDown 3).set F.WATCH_POWER_STATUS.AWAKE 0 ∧ s.blk.wakeSoon = true) ∧
    (∃ (s : State), ∃ (b : Block), s.blk.walking = true ∧ s.blk.on F.WATCH_POWER_STATUS.AWAKE = true ∧ s.blk.awakeHeld = false ∧
      b = (s.blk.awakeSum.feDown 3).set F.WATCH_POWER_STATUS.AWAKE 0 ∧ s.blk.wakeSoon = false) ∧
    (∃ (s : State), s.blk.walking = true ∧ s.blk.roundsRun = true ∧ s.blk.on F.WATCH_POWER_STATUS.AWAKE = true ∧ s.blk.fe 3 ≠ feWarm) ∧
    (∃ (s : State), ∃ (l : List RoundHit), ∃ (b : Block), s.blk.walking = true ∧ s.blk.roundsRun = true ∧
      s.blk.on F.WATCH_POWER_STATUS.AWAKE = true ∧ s.blk.fe 3 ≠ feWarm ∧ b = (s.blk.count .watch C.WATCH.ROUNDS).lane 11 0 0 ∧
      b.dwellWin = 1 ∧ b.roundHits l 0 ≠ []) ∧
    (∃ (s : State), ∃ (i : Fin 8), i.val ≠ 5 ∧ (i.val = 1 → s.blk.est 3 ≠ stRun)) ∧
    (∃ (s : State), ∃ (b : Block), s.blk.timerAt ≠ 0 ∧ s.blk.timerAt ≤ s.blk.now ∧
      b = (s.blk.set F.WATCH_TIMER_LO.TIME 0).set F.WATCH_TIMER_HI.TIME 0) ∧
    (∃ (s : State), ∃ (b : Block), s.blk.est 3 ≠ stRun ∧ s.blk.wakeEn 1 = true ∧ s.blk.parked 8 = false ∧ s.blk.clk.values = [] ∧
      b = ((s.blk.set F.WATCH_PPS_LO.TIME s.blk.now).set F.WATCH_PPS_HI.TIME (s.blk.now / 2 ^ 32)).count (.clk 8) C.CLK.XFER) ∧
    (∃ (s : State), s.blk.lpFree = true) := ⟨
  ⟨walk id, by decide +kernel, by decide +kernel⟩,
  ⟨walk (fun b => (b.set F.WATCH_POWER_STATUS.AWAKE 1).updWatch (fun w => { w with wakesDue := [b.now] })), _, by decide +kernel,
    by decide +kernel, by decide +kernel, rfl, by decide +kernel⟩,
  ⟨walk (fun b => (b.set F.WATCH_POWER_STATUS.AWAKE 1).set F.WATCH_ROUND.EN 0), _, by decide +kernel, by decide +kernel, by decide +kernel, rfl,
    by decide +kernel⟩,
  ⟨mesh (fun b => (((b.set F.WATCH_GAIT_STATUS.CURRENT 3).updWatch (fun w => { w with plan := 3 })).set F.WATCH_POWER_STATUS.AWAKE 1).set F.WATCH_ROUND.EN 1),
    by decide +kernel, by decide +kernel, by decide +kernel, by decide +kernel⟩,
  ⟨mesh (fun b => ((((b.set F.WATCH_GAIT_STATUS.CURRENT 3).updWatch (fun w => { w with plan := 3 })).set F.WATCH_POWER_STATUS.AWAKE 1).set F.WATCH_ROUND.EN 1).set F.WATCH_ROUND.DWELL_WIN 1),
    [{ ch := 5, hyp := 0, power := 100, corr := 16 }], _, by decide +kernel, by decide +kernel, by decide +kernel, by decide +kernel, rfl,
    by decide +kernel, by decide +kernel⟩,
  ⟨gallop, 0, by decide +kernel, by decide +kernel⟩,
  ⟨up (fun b => ({ b with time := { b.time with device := 1 } } : Block).set F.WATCH_TIMER_LO.TIME 1), _, by decide +kernel, by decide +kernel,
    rfl⟩,
  ⟨up (fun b => ((b.set (F.ENG_STATUS.STATE 3) stDrain).set F.WATCH_WAKE_EN.WAKE 2).set F.CLK_XSTATUS.PARKED 0), _, by decide +kernel,
    by decide +kernel, by decide +kernel, by decide +kernel, rfl⟩,
  ⟨walk id, by decide +kernel⟩⟩

theorem test_witness_TickAdvancesTimeExactly : (∃ (s : State), s.blk.time.aoFrac < 64 ∧ s.blk.time.deviceFrac < nsUnits) :=
  ⟨gallop, by decide +kernel, by decide +kernel⟩

theorem test_witness_LifecycleEffects :
    (∃ (s : State), ∃ (road : Road), ∃ (v : Word), ∃ (mv : Nat), s.blk.roadStops road R.SEC_LC_CMD = none ∧ s.blk.sec.move = none ∧
      s.lcRefusal road (v.toNat / 2 ^ 16) 1 mv = none) ∧
    (∃ (s : State), ∃ (road : Road), ∃ (v : Word), ∃ (mv : Nat), s.blk.roadStops road R.SEC_LC_CMD = none ∧ s.blk.sec.move = none ∧
      s.lcRefusal road (v.toNat / 2 ^ 16) 2 mv = none) ∧
    (∃ (s : State), ∃ (road : Road), ∃ (v : Word), ∃ (mv : Nat), s.blk.roadStops road R.SEC_LC_CMD = none ∧ s.blk.sec.move = none ∧
      s.lcRefusal road (v.toNat / 2 ^ 16) 3 mv = none) ∧
    (∃ (s : State), ∃ (road : Road), ∃ (v : Word), ∃ (mv : Nat), s.blk.roadStops road R.SEC_LC_CMD = none ∧ s.blk.sec.move = none ∧
      s.lcRefusal road (v.toNat / 2 ^ 16) 4 mv = none) ∧
    (∃ (s : State), ∃ (road : Road), ∃ (v : Word), ∃ (mv : Nat), ∃ (r : Nat), s.blk.roadStops road R.SEC_LC_CMD = none ∧ s.blk.sec.move = none ∧
      road ≠ .hitch ∧ s.lcRefusal road (v.toNat / 2 ^ 16) 2 mv = some r) ∧
    (∃ (s : State), ∃ (road : Road), ∃ (v : Word), ∃ (mv : Nat), s.blk.roadStops road R.SEC_LC_CMD = none ∧ s.blk.sec.move = none ∧
      lcRoad road = true ∧ v.toNat / 2 ^ 16 = 0x4C43 ∧ s.fuse.lifecycle = 1 ∧ s.blk.stage ≠ stageExhausted ∧ 3000 ≤ mv ∧
      s.fuse.regLock = true ∧ s.fuse.rootUsable 0 = true) ∧
    (∃ (s : State), ∃ (road : Road), ∃ (v : Word), ∃ (mv : Nat), s.blk.roadStops road R.SEC_LC_CMD = none ∧ s.blk.sec.move = none ∧
      lcRoad road = true ∧ v.toNat / 2 ^ 16 = 0x4C43 ∧ s.fuse.lifecycle = 1 ∧ s.blk.stage ≠ stageExhausted ∧ mv < 3000) ∧
    (∃ (s : State), ∃ (t : Nat), ∃ (b : Block), ∃ (c : Block), ∃ (fu : Fuses), (t = 1 ∨ t = 2) ∧ s.blk.sec.move = some t ∧
      b = (s.blk.updSec (fun c => { c with move := none, moveWiped := false })).sealSession ∧
      fu = { s.fuse with sec := burnWords s.fuse.sec 0 [lcBit t] } ∧
      c = b.event 21 35 0 (bytesLE 1 s.fuse.lifecycle ++ bytesLE 1 fu.lifecycle)) ∧
    (∃ (s : State), s.blk.sec.move = some 4 ∧ s.blk.sec.moveWiped = false ∧ s.blk.wipeRefused = true) ∧
    (∃ (s : State), ∃ (t : Nat), ∃ (b : Block), (t = 3 ∨ t = 4) ∧ s.blk.sec.move = some t ∧ s.blk.sec.moveWiped = false ∧
      s.blk.wipeRefused = false ∧ b = s.blk.zeroise.updSec (fun c => { c with moveWiped := true }) ∧ b.sec.wipeWait = true) ∧
    (∃ (s : State), ∃ (t : Nat), ∃ (b : Block), ∃ (c : Block), ∃ (fu : Fuses), (t = 3 ∨ t = 4) ∧ s.blk.sec.move = some t ∧
      s.blk.sec.moveWiped = true ∧ s.blk.sec.wipeWait = false ∧
      b = (s.blk.updSec (fun c => { c with move := none, moveWiped := false })).sealSession ∧
      fu = { s.fuse with sec := burnWords s.fuse.sec 0 [lcBit t] } ∧
      c = b.event 21 35 0 (bytesLE 1 s.fuse.lifecycle ++ bytesLE 1 fu.lifecycle)) ∧
    (∃ (s : State), ∃ (road : Road), ∃ (mv : Nat), s.blk.roadStops road R.SEC_FUSE_DATA = none ∧ 3000 ≤ mv ∧ s.fuse.lifecycle ≤ 1 ∧
      8 ≤ s.blk.get F.SEC_FUSE_IDX.WORD ∧ s.blk.get F.SEC_FUSE_IDX.WORD < 56) ∧
    (∃ (s : State), ∃ (road : Road), ∃ (mv : Nat), s.blk.roadStops road R.SEC_FUSE_DATA = none ∧ mv < 3000) ∧
    (∃ (s : State), 56 ≤ s.blk.get F.SEC_FUSE_IDX.WORD) ∧
    (∃ (s : State), s.blk.get F.SEC_DBG_CFG.IDLE_S ≠ 0) ∧
    (∃ (s : State), ∃ (v : Word), s.blk.roadStops .creosh R.SEC_DBG_CTRL = none ∧ v.toNat / 2 ^ 16 = 0x4442 ∧ bitOf v.toNat 0 = true) ∧
    (∃ (s : State), ∃ (c : BitVec 8), ∃ (lv : Nat), ∃ (up : Bool), tapRule c.toNat = some (lv, up) ∧ lv ≤ s.blk.sec.level ∧
      (up = false ∨ s.blk.gait ≠ 4) ∧ s.blk.sec.hold = false ∧ c.toNat ≠ 1 ∧ tapHolds c.toNat = false) ∧
    (∃ (s : State), ∃ (c : BitVec 8), ∃ (lv : Nat), ∃ (up : Bool), tapRule c.toNat = some (lv, up) ∧ lv ≤ s.blk.sec.level ∧
      (up = false ∨ s.blk.gait ≠ 4) ∧ s.blk.sec.hold = false ∧ c.toNat ≠ 1 ∧ tapHolds c.toNat = true) ∧
    (∃ (s : State), ∃ (b : Block), s.blk.gait ≠ 4 ∧ (s.blk.sec.lc = 4 ∨ s.blk.sec.tamperLow = true ∨ s.blk.tallyOk 10 = false) ∧
      b = s.blk.updSec (fun c => { c with status := 3 })) ∧
    (∃ (s : State), ∃ (t : Nat), ∃ (n : Nat), s.blk.sec.chal = some (t, n) ∧ t + 60000000000 ≤ s.blk.ao) ∧
    (∃ (s : State), ∃ (o : List Byte), ∃ (c : Nat), s.blk.challenge = some c ∧ o.length ≠ 132) := ⟨
  ⟨fused [] (fun b => b.set F.LOCK_RNG_STATUS.INSTANTIATED 1), .bar0, 0x4C430001, 3000, by decide +kernel, by decide +kernel, by decide +kernel⟩,
  ⟨fused [(2, 1), (56, 1)] (fun b => b.set F.LOCK_RNG_STATUS.INSTANTIATED 1), .bar0, 0x4C430002, 3000, by decide +kernel, by decide +kernel,
    by decide +kernel⟩,
  ⟨fused [(0, 1), (8, 1)] (fun b => b.set F.LOCK_RNG_STATUS.INSTANTIATED 1), .bar0, 0x4C430003, 3000, by decide +kernel, by decide +kernel,
    by decide +kernel⟩,
  ⟨fused [(0, 7)] (fun b => b.set F.LOCK_RNG_STATUS.INSTANTIATED 1), .bar0, 0x4C430004, 3000, by decide +kernel, by decide +kernel,
    by decide +kernel⟩,
  ⟨fused [] (fun b => b.set F.LOCK_RNG_STATUS.INSTANTIATED 1), .bar0, 0x4C430002, 3000, _, by decide +kernel, by decide +kernel,
    by decide +kernel, rfl⟩,
  ⟨fused [(0, 1), (8, 1)] id, .bar0, 0x4C430003, 3000, by decide +kernel, by decide +kernel, by decide +kernel, by decide +kernel,
    by decide +kernel, by decide +kernel, by decide +kernel, by decide +kernel, by decide +kernel⟩,
  ⟨fused [(0, 1)] id, .dap, 0x4C430003, 2999, by decide +kernel, by decide +kernel, by decide +kernel, by decide +kernel, by decide +kernel,
    by decide +kernel, by decide +kernel⟩,
  ⟨up (fun b => b.updSec (fun c => { c with move := some 2 })), 2, _, _, _, by decide +kernel, rfl, rfl, rfl, rfl⟩,
  ⟨up (fun b => (b.set F.FLASH_STATUS.STAGE stageExhausted).updSec (fun c => { c with move := some 4 })), by decide +kernel, by decide +kernel,
    by decide +kernel⟩,
  ⟨up (fun b => ({ b with clk := { b.clk with cmds := [(600, 1)] } } : Block).updSec (fun c => { c with move := some 4 })), 4, _,
    by decide +kernel, rfl, by decide +kernel, by decide +kernel, rfl, by decide +kernel⟩,
  ⟨up (fun b => b.updSec (fun c => { c with move := some 4, moveWiped := true })), 4, _, _, _, by decide +kernel, rfl, by decide +kernel,
    by decide +kernel, rfl, rfl, rfl⟩,
  ⟨up (fun b => b.set F.SEC_FUSE_IDX.WORD 55), .bar0, 3000, by decide +kernel, by decide +kernel, by decide +kernel, by decide +kernel,
    by decide +kernel⟩,
  ⟨gallop, .bar0, 2999, by decide +kernel, by decide +kernel⟩,
  ⟨up (fun b => b.set F.SEC_FUSE_IDX.WORD 56), by decide +kernel⟩,
  ⟨up (fun b => b.set F.SEC_DBG_CFG.IDLE_S 1), by decide +kernel⟩,
  ⟨gallop, 0x44420001, by decide +kernel, by decide +kernel, by decide +kernel⟩,
  ⟨gallop, 0x20, 2, true, by decide +kernel, by decide +kernel, by decide +kernel, by decide +kernel, by decide +kernel, by decide +kernel⟩,
  ⟨gallop, 0, 1, true, by decide +kernel, by decide +kernel, by decide +kernel, by decide +kernel, by decide +kernel, by decide +kernel⟩,
  ⟨up (fun b => b.updSec (fun c => { c with lc := 4 })), _, by decide +kernel, by decide +kernel, rfl⟩,
  ⟨up (fun b => ({ b with time := { b.time with ao := 60000000000 } } : Block).updSec (fun c => { c with chal := some (0, 7) })), 0, 7,
    by decide +kernel, by decide +kernel⟩,
  ⟨up (fun b => b.updSec (fun c => { c with chal := some (0, 7) })), [], 7, by decide +kernel, by decide +kernel⟩⟩

theorem test_witness_ZeroisationEffects :
    (∃ (s : State), ∃ (road : Road), ∃ (v : Word), s.blk.roadStops road R.SEC_ZEROISE = none ∧ s.blk.wipeRefused = false ∧
      v.toNat / 2 ^ 16 = 0x5A45 ∧ bitOf v.toNat 0 = true ∧ 1 ≤ s.fuse.lifecycle ∧ s.fuse.lifecycle ≤ 3) ∧
    (∃ (s : State), ∃ (road : Road), ∃ (v : Word), s.blk.roadStops road R.SEC_ZEROISE = none ∧ s.blk.wipeRefused = false ∧
      v.toNat / 2 ^ 16 ≠ 0x5A45) ∧
    (∃ (s : State), bitOf (s.blk.tally 8) 30 = true ∧ s.blk.sec.wipeWait = false) ∧
    (∃ (s : State), bitOf (s.blk.tally 8) 28 = true ∧ s.blk.sec.wipeWait = false ∧ s.blk.lockDram = true) ∧
    (∃ (s : State), s.blk.sec.lc ≠ 2 ∧ s.blk.sec.lc ≠ 3) ∧
    (∃ (s : State), ∃ (b : Block), ∃ (c : Block), ∃ (d : Block), b = (s.blk.updSec (fun c => { c with tamperLow := true })).wakeHit 6 ∧
      (b.sec.lc = 2 ∨ b.sec.lc = 3) ∧ c = b.sealSession.updSec (fun c => { c with chal := none }) ∧
      d = (c.tallyPut 12 (c.tally 12 + 1)).fire 21 32) ∧
    (∃ (b : Block), b.wipeRefused = false ∧ b.zeroise.sec.wipeWait = false) ∧
    (∃ (b : Block), b.wipeRefused = false ∧ b.zeroise.sec.wipeWait = false) ∧
    (∃ (b : Block), b.sec.wipeWait = true ∧ b.tallyDone 8 = true) ∧
    (∃ (b : Block), b.sec.wipeWait = true ∧ b.tallyDone 8 = true) := ⟨
  ⟨fused [(0, 7)] id, .bar0, 0x5A450001, by decide +kernel, by decide +kernel, by decide +kernel, by decide +kernel, by decide +kernel,
    by decide +kernel⟩,
  ⟨gallop, .bar0, 0x5A440001, by decide +kernel, by decide +kernel, by decide +kernel⟩,
  ⟨tallied [(8, 2 ^ 30)] id, by decide +kernel, by decide +kernel⟩,
  ⟨tallied [(8, 2 ^ 28)] (fun b => b.set F.TOP_ID.DRAM 1), by decide +kernel, by decide +kernel, by decide +kernel⟩,
  ⟨gallop, by decide +kernel, by decide +kernel⟩,
  ⟨up (fun b => b.updSec (fun c => { c with lc := 3 })), _, _, _, rfl, by decide +kernel, rfl, rfl⟩,
  ⟨gallop.blk, by decide +kernel, by decide +kernel⟩,
  ⟨gallop.blk, by decide +kernel, by decide +kernel⟩,
  ⟨(up (fun b => b.updSec (fun c => { c with wipeWait := true }))).blk, by decide +kernel, by decide +kernel⟩,
  ⟨(up (fun b => b.updSec (fun c => { c with wipeWait := true }))).blk, by decide +kernel, by decide +kernel⟩⟩

theorem test_witness_DebugPortEffects :
    (∃ (s : State), ∃ (c : BitVec 8), s.blk.sec.hold = false ∧
      (tapRule c.toNat = none ∨ ∃ lv up, tapRule c.toNat = some (lv, up) ∧ s.blk.sec.level < lv)) ∧
    (∃ (s : State), s.blk.sec.hold = false) ∧
    (∃ (s : State), ∃ (n : Nat), ∃ (b : Block), s.blk.gait ≠ 4 ∧ s.blk.sec.lc ≠ 4 ∧ s.blk.sec.tamperLow = false ∧ s.blk.tallyOk 10 = true ∧
      s.blk.lockoutS = 0 ∧ n = (s.blk.tally 10 + 1) % 2 ^ 32 ∧
      b = (s.blk.tallyPut 10 n).updSec (fun c => { c with status := 0, counter := n, chal := some (s.blk.ao, n) })) ∧
    (∃ (s : State), ∃ (t : Nat), ∃ (n : Nat), s.blk.sec.chal = some (t, n) ∧ t + 60000000000 ≤ s.blk.ao) ∧
    (∃ (s : State), s.blk.challenge = none) ∧
    (∃ (s : State), ∃ (o : List Byte), ∃ (c : Nat), ∃ (b : Block), s.blk.challenge = some c ∧ o.length = 132 ∧
      b = s.blk.respJobs s.fuse s.blk.sec.lc c o ∧ b.gait ≠ 4 ∧ s.fuse.reqAllowed s.blk.sec.lc (o.getD 0 0).toNat = true ∧
      s.fuse.signedOk s.blk.sec.lc c o = true ∧ b.wipeRefused = false) ∧
    (∃ (s : State), ∃ (v : Word), s.blk.roadStops .bar0 R.SEC_DBG_CTRL = none ∧ v.toNat / 2 ^ 16 = 0x4442 ∧ bitOf v.toNat 0 = true) ∧
    (∃ (s : State), s.blk.get F.SEC_DBG_CFG.IDLE_S ≠ 0) := ⟨
  ⟨gallop, 0x77, by decide +kernel, Or.inl (by decide +kernel)⟩,
  ⟨gallop, by decide +kernel⟩,
  ⟨gallop, _, _, by decide +kernel, by decide +kernel, by decide +kernel, by decide +kernel, by decide +kernel, rfl, rfl⟩,
  ⟨up (fun b => ({ b with time := { b.time with ao := 60000000000 } } : Block).updSec (fun c => { c with chal := some (0, 7) })), 0, 7,
    by decide +kernel, by decide +kernel⟩,
  ⟨gallop, by decide +kernel⟩,
  ⟨up (fun b => b.updSec (fun c => { c with chal := some (0, 7) })), List.replicate 132 0, 7, _, rfl, by decide +kernel, rfl, by decide +kernel,
    by decide +kernel, by decide +kernel, by decide +kernel⟩,
  ⟨gallop, 0x44420001, by decide +kernel, by decide +kernel, by decide +kernel⟩,
  ⟨up (fun b => b.set F.SEC_DBG_CFG.IDLE_S 1), by decide +kernel⟩⟩

theorem test_witness_FlashEraseAndScrubEffects :
    (∃ (s : State), ∃ (n : Fin 96), s.blk.liveIn n.val = [] ∧ (s.blk.flashBg = true ∨ n.val = 78)) ∧
    (∃ (s : State), ∃ (b : Block), s.blk.flash.erase ≠ none ∧ b = (s.blk.sat F.FLASH_SUSPENDS.CUR 1).count .flash C.FLASH.SUSPENDS ∧
      b.get F.FLASH_CFG.STARVE_N = 0) ∧
    (∃ (s : State), ∃ (ms : Nat), s.blk.get F.FLASH_CFG.STARVE_MS ≠ 0 ∧ s.blk.get F.FLASH_CFG.STARVE_MS < ms ∧ s.blk.flash.erase ≠ none ∧
      s.blk.on F.FLASH_STATUS.STARVED = false) ∧
    (∃ (s : State), ∃ (n : Nat), ∃ (b : Block), ∃ (c : Block), s.blk.flash.erase = some n ∧ n ≠ 78 ∧ s.blk.flash.scrubBuf = none ∧
      b = ((s.blk.updBlk n (fun k => { k with count := k.count + 1, hours := s.blk.tally 14, hdrOk := true, ready := true, marked := false })).updFlash (fun f => { f with erase := none })).count .flash C.FLASH.ERASES ∧
      c = (((((b.set F.FLASH_STATUS.ERASING 0).set F.FLASH_STATUS.SUSPENDED 0).set F.FLASH_STATUS.STARVED 0).wearUpdate).flushTallies 17).secSettle ∧
      (c.blkAt n).count < 100000) ∧
    (∃ (s : State), ∃ (n : Nat), s.blk.readyBlocks.length < 2 ∧ s.blk.flashBg = true ∧ s.blk.oldestBlk = some n) ∧
    (∃ (s : State), ∃ (b : Block), s.blk.on F.FLASH_SCRUB.EN = true ∧ s.blk.flashBg = true ∧
      b = (s.blk.count .flash C.FLASH.SCRUB_READ).updFlash (fun f => { f with scrubPos := (s.blk.flash.scrubPos % 96 + 1) % 96 }) ∧
      (b.blkAt (s.blk.flash.scrubPos % 96)).retired = false) ∧
    (∃ (s : State), ∃ (n : Fin 96), (s.blk.blkAt n.val).marked = true ∧ s.blk.flash.erase = none ∧ s.blk.flashBg = true ∧
      s.blk.inRotation n.val = true ∧ n.val ≠ s.blk.flash.head ∧ (s.blk.reclaim n.val).flash.erase = some n.val) ∧
    (∃ (s : State), 80 ≤ s.blk.get F.FLASH_WEAR.TALLY_WEAR ∧ s.blk.flash.wearFired = false) ∧
    (∃ (s : State), ∃ (road : Road), ∃ (n : Fin 2048), s.blk.roadStops road R.FLASH_TALLY_DATA = none ∧ n.val < 512) ∧
    (∃ (s : State), ∃ (road : Road), ∃ (n : Fin 2048), s.blk.roadStops road R.FLASH_TALLY_DATA = none ∧ 512 ≤ n.val) ∧
    (∃ (s : State), ∃ (p : PieceReq), ∃ (m : Nat), ∃ (b : Block), s.blk.ost.sheafCheck = none ∧ s.blk.est 0 = stRun ∧ s.blk.phState = 1 ∧
      p.update % 2 ^ 32 = s.blk.tally 18 ∧ p.index ≤ 7 ∧ p.norOk = true ∧ bitOf (s.blk.tally 17 % 256) p.index = false ∧
      b = s.blk.norProgram (s.blk.stageAt (0x1000 + 1024 * p.index)) (padTo 1024 p.data) ∧ m = setBit (s.blk.tally 17 % 256) p.index true ∧
      bitOf m 0 = false) ∧
    (∃ (s : State), ∃ (p : PieceReq), s.blk.ost.sheafCheck = none ∧ s.blk.est 0 = stRun ∧ s.blk.phState = 2 ∧ p.update % 2 ^ 32 = s.blk.tally 18 ∧
      p.index < s.blk.pieceCount ∧ s.blk.pieceSet p.index = false ∧ p.norOk = true ∧ s.blk.tally (256 + 2 * (p.index / 64)) = 0 ∧
      s.blk.tally (257 + 2 * (p.index / 64)) = 0 ∧ s.blk.ost.erased.contains (p.index / 64) = false) ∧
    (∃ (s : State), ∃ (i : Nat), s.blk.ost.sheafCheck = none ∧ s.blk.est 0 = stRun ∧ 32 ≤ i) ∧
    (∃ (s : State), ∃ (u : Nat), s.blk.ost.sheafCheck = none ∧ s.blk.est 0 = stRun ∧ s.blk.phState ≠ 0 ∧ u % 2 ^ 32 ≠ s.blk.tally 18) ∧
    (∃ (s : State), ∃ (k : Nat), s.blk.est 0 = stRun ∧ s.blk.ost.sheafCheck = none ∧ s.blk.phState = 2 ∧
      (List.range (ceilDiv s.blk.pieceCount 64)).find? (fun k => s.blk.sheafFull k && !s.blk.ost.sheafOk.contains k) = some k) ∧
    (∃ (s : State), s.blk.est 0 = stRun ∧ s.blk.phState = 2 ∧
      (List.range (ceilDiv s.blk.pieceCount 64)).all (fun k => s.blk.sheafFull k && s.blk.ost.sheafOk.contains k) = true) ∧
    (∃ (s : State), ∃ (m : NorMap), s.blk.step4 = true ∧ s.blk.ost.map = some m ∧ s.blk.ost.headOwed = true ∧ s.blk.tallyDone 1 = true) := ⟨
  ⟨gallop, 95, by decide +kernel, by decide +kernel⟩,
  ⟨up (fun b => (b.updFlash (fun f => { f with erase := some 5 })).set F.FLASH_CFG.STARVE_N 0), _, by decide +kernel, rfl, by decide +kernel⟩,
  ⟨up (fun b => (b.updFlash (fun f => { f with erase := some 5 })).set F.FLASH_CFG.STARVE_MS 9), 10, by decide +kernel, by decide +kernel,
    by decide +kernel, by decide +kernel⟩,
  ⟨up (fun b => b.updFlash (fun f => { f with erase := some 5 })), 5, _, _, rfl, by decide +kernel, by decide +kernel, rfl, rfl,
    by decide +kernel⟩,
  ⟨up (fun b => b.updFlash (fun f => { f with blks := f.blks.map (fun k => { k with ready := false, units := if k.role = 1 then [.record 600 1 1] else [] }) })),
    3, by decide +kernel, by decide +kernel, by decide +kernel⟩,
  ⟨up (fun b => b.set F.FLASH_SCRUB.EN 1), _, by decide +kernel, by decide +kernel, rfl, by decide +kernel⟩,
  ⟨up (fun b => b.updBlk 9 (fun k => { k with marked := true })), 9, by decide +kernel, by decide +kernel, by decide +kernel, by decide +kernel,
    by decide +kernel, by decide +kernel⟩,
  ⟨up (fun b => b.set F.FLASH_WEAR.TALLY_WEAR 80), by decide +kernel, by decide +kernel⟩,
  ⟨gallop, .bar0, 511, by decide +kernel, by decide +kernel⟩,
  ⟨gallop, .bar0, 512, by decide +kernel, by decide +kernel⟩,
  ⟨up (fun b => ((b.updOst (fun o => { o with map := some norMap }))).updFlash (fun f => { f with image := [(17, 2 ^ 28), (18, 5)] })),
    { update := 5, index := 1, data := [] }, _, _, by decide +kernel, by decide +kernel, by decide +kernel, by decide +kernel,
    by decide +kernel, by decide +kernel, by decide +kernel, rfl, rfl, by decide +kernel⟩,
  ⟨up (fun b => ((b.updOst (fun o => { o with map := some norMap })).norProgram 0x31010 (bytesLE 4 2048)).updFlash (fun f => { f with image := [(17, 2 * 2 ^ 28), (18, 5)] })),
    { update := 5, index := 1, data := [] }, by decide +kernel, by decide +kernel, by decide +kernel, by decide +kernel, by decide +kernel,
    by decide +kernel, by decide +kernel, by decide +kernel, by decide +kernel, by decide +kernel⟩,
  ⟨gallop, 32, by decide +kernel, by decide +kernel, by decide +kernel⟩,
  ⟨up (fun b => ((b.updOst (fun o => { o with map := some norMap }))).updFlash (fun f => { f with image := [(17, 2 * 2 ^ 28), (18, 5)] })), 6,
    by decide +kernel, by decide +kernel, by decide +kernel, by decide +kernel⟩,
  ⟨up (fun b => ((b.updOst (fun o => { o with map := some norMap })).norProgram 0x31010 (bytesLE 4 1024)).updFlash (fun f => { f with image := [(17, 2 * 2 ^ 28), (18, 5), (256, 1)] })),
    0, by decide +kernel, by decide +kernel, by decide +kernel, by decide +kernel⟩,
  ⟨up (fun b => ((b.updOst (fun o => { o with map := some norMap, sheafOk := [0] })).norProgram 0x31010 (bytesLE 4 1024)).updFlash (fun f => { f with image := [(17, 2 * 2 ^ 28), (18, 5), (256, 1)] })),
    by decide +kernel, by decide +kernel, by decide +kernel⟩,
  ⟨starting 4 (fun b => b.updOst (fun o => { o with map := some norMap, headOwed := true })), norMap, by decide +kernel, by decide +kernel,
    by decide +kernel, by decide +kernel⟩⟩

theorem test_witness_TallyReadsBackAndOthersStay :
    (∃ (b : Block), ∃ (id : Nat), b.clk.cmds = [] ∧ (b.flash.queue.filter (fun t => t.id != id)).length < 16 ∧
      (tallyClassA id = true → b.stage ≠ stageExhausted)) ∧
    (∃ (id : Nat), ∃ (n : Nat), n ≠ id) ∧
    (∃ (b : Block), b.clk.cmds ≠ []) ∧
    (∃ (b : Block), ∃ (id : Nat), tallyClassA id = true ∧ b.stage = stageExhausted) := ⟨
  ⟨gallop.blk, 8, by decide +kernel, by decide +kernel, by decide +kernel⟩,
  ⟨2047, 2046, by decide +kernel⟩,
  ⟨{ gallop.blk with clk := { gallop.blk.clk with cmds := [(8, 1)] } }, by decide +kernel⟩,
  ⟨gallop.blk.set F.FLASH_STATUS.STAGE stageExhausted, 11, by decide +kernel, by decide +kernel⟩⟩

theorem test_witness_PackhorseEffects :
    (∃ (s : State), ∃ (p : PieceReq), s.blk.ost.sheafCheck = none ∧ s.blk.est 0 = stRun ∧ s.blk.phState = 0 ∧ p.index ≤ 7 ∧ s.blk.stageUp = true ∧
      p.norOk = true) ∧
    (∃ (s : State), ∃ (p : PieceReq), s.blk.ost.sheafCheck = none ∧ s.blk.est 0 = stRun ∧ s.blk.phState ≠ 0 ∧ p.update % 2 ^ 32 ≠ s.blk.tally 18) ∧
    (∃ (s : State), ∃ (p : PieceReq), s.blk.ost.sheafCheck = none ∧ s.blk.est 0 = stRun ∧ s.blk.phState = 2 ∧ p.update % 2 ^ 32 = s.blk.tally 18 ∧
      p.index < s.blk.pieceCount ∧ s.blk.pieceSet p.index = true) ∧
    (∃ (s : State), ∃ (p : PieceReq), s.blk.ost.sheafCheck = none ∧ s.blk.est 0 = stRun ∧ s.blk.phState = 2 ∧ p.update % 2 ^ 32 = s.blk.tally 18 ∧
      p.index < s.blk.pieceCount ∧ s.blk.pieceSet p.index = false ∧ p.norOk = true ∧ s.blk.ost.erased.contains (p.index / 64) = true ∧
      (s.blk.norBytes (s.blk.stageAt (0x10000 + 1024 * p.index)) 1024).any (· != 0xFF) = false) ∧
    (∃ (s : State), ∃ (i : Nat), s.blk.ost.sheafCheck = none ∧ s.blk.est 0 = stRun ∧ i < 32) ∧
    (∃ (s : State), ∃ (u : Nat), s.blk.ost.sheafCheck = none ∧ s.blk.est 0 = stRun ∧ s.blk.phState ≠ 0 ∧ u % 2 ^ 32 = s.blk.tally 18) ∧
    (∃ (s : State), s.blk.ost.sheafCheck = none ∧ s.blk.est 0 = stRun ∧ s.blk.phState = 0) ∧
    (∃ (s : State), s.blk.ost.sheafCheck = none ∧ s.blk.est 0 ≠ stRun) ∧
    (∃ (s : State), ∃ (k : Nat), ∃ (q : CreoshReq), s.blk.est 0 = stRun ∧ s.blk.ost.sheafCheck = some (k, q)) ∧
    (∃ (s : State), ∃ (b : Block), ∃ (c : Block), s.blk.est 0 = stRun ∧ s.blk.phState = 2 ∧
      (List.range (ceilDiv s.blk.pieceCount 64)).all (fun k => s.blk.sheafFull k && s.blk.ost.sheafOk.contains k) = true ∧
      b = s.blk.norProgram (s.blk.stageAt 0) (stagingHead (leAt s.blk.manBytes 6 1) (leAt s.blk.manBytes 8 4) s.blk.manLen s.blk.payloadLen) ∧
      c = b.tallyPut 17 (3 * 2 ^ 28 + b.tally 17 % 256)) ∧
    (∃ (s : State), s.blk.step4 = true) := ⟨
  ⟨up (fun b => (b.updOst (fun o => { o with map := some norMap })).updFlash (fun f => { f with image := [] })),
    { update := 5, index := 7, data := [] }, by decide +kernel, by decide +kernel, by decide +kernel, by decide +kernel, by decide +kernel,
    by decide +kernel⟩,
  ⟨up (fun b => (b.updOst (fun o => { o with map := some norMap })).updFlash (fun f => { f with image := [(17, 2 * 2 ^ 28), (18, 5)] })),
    { update := 6, index := 0, data := [] }, by decide +kernel, by decide +kernel, by decide +kernel, by decide +kernel⟩,
  ⟨up (fun b => ((b.updOst (fun o => { o with map := some norMap, erased := [0] })).norProgram 0x31010 (bytesLE 4 2048)).updFlash (fun f => { f with image := [(17, 2 * 2 ^ 28), (18, 5), (256, 2)] })),
    { update := 5, index := 1, data := [] }, by decide +kernel, by decide +kernel, by decide +kernel, by decide +kernel, by decide +kernel,
    by decide +kernel⟩,
  ⟨up (fun b => ((b.updOst (fun o => { o with map := some norMap, erased := [0] })).norProgram 0x31010 (bytesLE 4 2048)).updFlash (fun f => { f with image := [(17, 2 * 2 ^ 28), (18, 5)] })),
    { update := 5, index := 1, data := [] }, by decide +kernel, by decide +kernel, by decide +kernel, by decide +kernel, by decide +kernel,
    by decide +kernel, by decide +kernel, by decide +kernel, by decide +kernel⟩,
  ⟨gallop, 31, by decide +kernel, by decide +kernel, by decide +kernel⟩,
  ⟨up (fun b => (b.updOst (fun o => { o with map := some norMap })).updFlash (fun f => { f with image := [(17, 2 * 2 ^ 28), (18, 5)] })), 5,
    by decide +kernel, by decide +kernel, by decide +kernel, by decide +kernel⟩,
  ⟨gallop, by decide +kernel, by decide +kernel, by decide +kernel⟩,
  ⟨up (fun b => b.set (F.ENG_STATUS.STATE 0) stStart), by decide +kernel, by decide +kernel⟩,
  ⟨up (fun b => b.updOst (fun o => { o with sheafCheck := some (0, { src := 0, vlan := 1, sa := 2, seq := 3 }) })), 0,
    { src := 0, vlan := 1, sa := 2, seq := 3 }, by decide +kernel, by decide +kernel⟩,
  ⟨up (fun b => ((b.updOst (fun o => { o with map := some norMap, erased := [0] })).norProgram 0x31010 (bytesLE 4 0)).updFlash (fun f => { f with image := [(17, 2 * 2 ^ 28), (18, 5)] })),
    _, _, by decide +kernel, by decide +kernel, by decide +kernel, rfl, rfl⟩,
  ⟨starting 4 id, by decide +kernel⟩⟩

theorem test_witness_DeltaStaysInsideItsLengths :
    (∃ (base : List Byte), ∃ (payload : List Byte), ∃ (img : List Byte), ∃ (n : Nat), deltaApply base payload n = some img) ∧
    (∃ (base : List Byte), ∃ (l : List Byte), ∃ (out : List Byte), ∃ (img : List Byte), ∃ (n : Nat), ∃ (k : Nat), deltaRun base n k l out = some img) := ⟨
  ⟨[5, 6],
    bytesLE 4 0x444C4D52 ++ bytesLE 4 2 ++ bytesLE 4 2 ++ bytesLE 4 0 ++ bytesLE 4 0x10000001 ++ bytesLE 4 1 ++ bytesLE 4 0x20000001 ++ bytesLE 4 7 ++ bytesLE 4 0xF0000000,
    [6, 7], 2, by decide +kernel⟩,
  ⟨[], bytesLE 4 0x20000001 ++ bytesLE 4 7 ++ bytesLE 4 0xF0000000, [], [7], 1, 3, by decide +kernel⟩⟩

theorem test_witness_AssayEventEffects :
    (∃ (s : State), s.blk.parked 10 = true) ∧
    (∃ (s : State), s.assay.up = true) ∧
    (∃ (s : State), s.assay.up = true ∧ 0 < s.assay.pulseOwed) ∧
    (∃ (s : State), s.assay.up = true ∧ s.assay.recDue = true) ∧
    (∃ (s : State), ∃ (v : Bool), s.assay.up = true ∧ s.assay.sealOpen = !v) ∧
    (∃ (s : State), ∃ (c : Assay), s.assay.up = true ∧ c = s.assay.settleDue.logAdd 2) ∧
    (∃ (s : State), s.assay.up = true ∧ s.assay.clockFault = false) ∧
    (∃ (s : State), s.assay.up = true ∧ s.assay.clockFault = true) ∧
    (∃ (s : State), s.assay.up = false) := ⟨
  ⟨up (fun b => b.set F.CLK_XSTATUS.PARKED 0x400), by decide +kernel⟩,
  ⟨gallop, by decide +kernel⟩,
  ⟨{ gallop with assay := { gallop.assay with pulseOwed := 1 } }, by decide +kernel, by decide +kernel⟩,
  ⟨{ gallop with assay := { gallop.assay with recDue := true } }, by decide +kernel, by decide +kernel⟩,
  ⟨gallop, true, by decide +kernel, by decide +kernel⟩,
  ⟨gallop, _, by decide +kernel, rfl⟩,
  ⟨gallop, by decide +kernel, by decide +kernel⟩,
  ⟨{ gallop with assay := { gallop.assay with clockFault := true } }, by decide +kernel, by decide +kernel⟩,
  ⟨{ gallop with assay := { gallop.assay with up := false } }, by decide +kernel⟩⟩

theorem test_witness_AssayCommandEffects :
    (∃ (s : State), s.assay.up = true ∧ s.assay.sealOpen = true) ∧
    (∃ (s : State), s.assay.up = false ∧ s.blk.hatch = none) ∧
    (∃ (s : State), s.assay.up = true ∧ s.blk.hatch = none ∧ s.blk.parked 10 = true) ∧
    (∃ (s : State), ∃ (b : Block), s.assay.up = true ∧ s.blk.hatch = none ∧ s.blk.parked 10 = false ∧
      b = ((s.blk.set F.HATCH_ARG0.ARG0 0).hatchStatus 1 0 0).count (.clk 10) C.CLK.XFER) ∧
    (∃ (s : State), ∃ (c : Nat), ∃ (k : Nat), s.blk.hatch = some c ∧ c ≠ k) ∧
    (∃ (s : State), ∃ (c : Nat), s.blk.hatch = some c ∧ c = 1) ∧
    (∃ (s : State), ∃ (c : Nat), s.blk.hatch = some c ∧ c = 2) ∧
    (∃ (s : State), ∃ (c : Nat), s.blk.hatch = some c ∧ c = 3) ∧
    (∃ (s : State), ∃ (c : Nat), s.blk.hatch = some c ∧ c = 4) ∧
    (∃ (s : State), ∃ (c : Nat), s.blk.hatch = some c ∧ c = 5) ∧
    (∃ (s : State), ∃ (c : Nat), s.blk.hatch = some c ∧ c = 16) ∧
    (∃ (s : State), ∃ (c : Nat), s.blk.hatch = some c ∧ c = 17) ∧
    (∃ (s : State), ∃ (c : Nat), s.blk.hatch = some c ∧ c = 18) ∧
    (∃ (s : State), ∃ (c : Nat), s.blk.hatch = some c ∧ c = 19) ∧
    (∃ (s : State), ∃ (f : List Byte), s.assay.up = true ∧ s.assay.sealOpen = true ∧ f.length = numAt f 2 2 + 10 ∧ numAt f 0 1 = 0xA5 ∧
      crc16 ((f.drop 1).take (numAt f 2 2 + 7)) = numAt f (8 + numAt f 2 2) 2) := ⟨
  ⟨{ gallop with assay := { gallop.assay with sealOpen := true } }, by decide +kernel, by decide +kernel⟩,
  ⟨{ gallop with assay := { gallop.assay with up := false } }, by decide +kernel, by decide +kernel⟩,
  ⟨up (fun b => b.set F.CLK_XSTATUS.PARKED 0x400), by decide +kernel, by decide +kernel, by decide +kernel⟩,
  ⟨up (fun b => b.set F.CLK_XSTATUS.PARKED 0), _, by decide +kernel, by decide +kernel, by decide +kernel, rfl⟩,
  ⟨up (fun b => { b with hatch := some 1 }), 1, 2, by decide +kernel, by decide +kernel⟩,
  ⟨up (fun b => { b with hatch := some 1 }), 1, by decide +kernel, by decide +kernel⟩,
  ⟨up (fun b => { b with hatch := some 2 }), 2, by decide +kernel, by decide +kernel⟩,
  ⟨up (fun b => { b with hatch := some 3 }), 3, by decide +kernel, by decide +kernel⟩,
  ⟨up (fun b => { b with hatch := some 4 }), 4, by decide +kernel, by decide +kernel⟩,
  ⟨up (fun b => { b with hatch := some 5 }), 5, by decide +kernel, by decide +kernel⟩,
  ⟨up (fun b => { b with hatch := some 16 }), 16, by decide +kernel, by decide +kernel⟩,
  ⟨up (fun b => { b with hatch := some 17 }), 17, by decide +kernel, by decide +kernel⟩,
  ⟨up (fun b => { b with hatch := some 18 }), 18, by decide +kernel, by decide +kernel⟩,
  ⟨up (fun b => { b with hatch := some 19 }), 19, by decide +kernel, by decide +kernel⟩,
  ⟨{ gallop with assay := { gallop.assay with sealOpen := true } }, 0xA5 :: List.replicate 9 0, by decide +kernel, by decide +kernel,
    by decide +kernel, by decide +kernel, by decide +kernel⟩⟩

theorem test_witness_SealAndEnergyHold :
    (∃ (a : Assay), ∃ (p : AssayIn), ∃ (cmd : Nat), ∃ (arg : Nat), ∃ (x : List Byte), ∃ (d : Assay), (a.sealOpen = false ∨ p = .hatch) ∧
      (d = (a.hatchCmd cmd arg x).die ∨ p = .cal ∧ d = (a.calCmd cmd arg x).die)) ∧
    (∃ (a : Assay), ∃ (p : AssayParam), p = a.next.getD a.params) := ⟨
  ⟨State.reset.assay, .hatch, 1, 0, [], _, by decide +kernel, Or.inl rfl⟩,
  ⟨State.reset.assay, _, rfl⟩⟩

theorem test_witness_DetectedErrorEffects :
    (∃ (o : Fin 25), ∃ (code : BitVec 8), ∃ (v : Sev), faultSev o.val code.toNat = some v ∧
      (o.val, code.toNat) ∉ [(5, 3), (6, 3), (7, 3), (9, 4)]) ∧
    (∃ (s : State), s.assay.up = true) ∧
    (∃ (s : State), ∃ (road : Road), s.blk.roadStops road R.CLERK_ERR_ACK = none) ∧
    (∃ (b : Block), ∃ (o : Nat), ∃ (v : Sev), ∃ (w : Sev), v.code ≤ 3 ∧ w.code ≤ v.code ∧ (b.errBook o).valid = false) := ⟨
  ⟨2, 1, .corrected, by decide +kernel, by decide +kernel⟩,
  ⟨gallop, by decide +kernel⟩,
  ⟨gallop, .bar0, by decide +kernel⟩,
  ⟨gallop.blk, 2, .contained, .contained, by decide +kernel, by decide +kernel, by decide +kernel⟩⟩

theorem test_witness_MusterAndPinEffects :
    (∃ (s : State), s.blk.on F.CLERK_MUSTER_CFG.EN = true ∧ s.blk.runs 1 = true) ∧
    (∃ (s : State), ∃ (k : Fin 8), s.blk.audited k.val = true) ∧
    (∃ (s : State), ∃ (k : Fin 8), ∃ (n : Nat), s.blk.audited k.val = true ∧ n = look s.blk.clerk.defers k.val 0 + 1) ∧
    (∃ (s : State), ∃ (k : Fin 8), s.blk.audited k.val = false) ∧
    (∃ (s : State), s.blk.gpioOn = true ∧ s.blk.get F.PIN_GPIO_OE.OE = 0 ∧ s.blk.get F.PIN_GPIO_RISE.RISE = 0 ∧
      s.blk.get F.PIN_GPIO_FALL.FALL = 0) ∧
    (∃ (s : State), ∃ (v : BitVec 24), ∃ (b : Block), s.blk.gpioOn = true ∧ s.blk.get F.PIN_GPIO_OE.OE = 0 ∧ s.blk.get F.PIN_GPIO_IN.IN = 0 ∧
      v.toNat &&& s.blk.get F.PIN_GPIO_RISE.RISE ≠ 0 ∧ b = s.blk.set F.PIN_GPIO_IN.IN v.toNat) ∧
    (∃ (s : State), ∃ (d : Fin 3), ∃ (t : Int), ∃ (b : Block), b = s.blk.setS (tempFld d.val) t ∧
      (clampTo 70 110 (b.get F.PIN_THERM.WARN_C) : Int) ≤ t) ∧
    (∃ (s : State), ∃ (d : Fin 3), ∃ (t : Int), ∃ (b : Block), b = s.blk.setS (tempFld d.val) t ∧
      t < (clampTo 70 110 (b.get F.PIN_THERM.WARN_C) : Int)) ∧
    (∃ (s : State), ∃ (d : Fin 3), ∃ (t : Int), ∃ (b : Block), b = s.blk.setS (tempFld d.val) t ∧ 115 ≤ t ∧ b.pinExcl.contains d.val = false) ∧
    (∃ (s : State), ∃ (d : Fin 3), ∃ (t : Int), ∃ (b : Block), b = s.blk.setS (tempFld d.val) t ∧ t < 115) ∧
    (∃ (s : State), bitOf (s.blk.get F.WATCH_POWER_STATUS.PMIC_EN) 1 = true) ∧
    (∃ (s : State), bitOf (s.blk.get F.WATCH_POWER_STATUS.PMIC_EN) 0 = true) := ⟨
  ⟨up (fun b => b.set F.CLERK_MUSTER_CFG.EN 1), by decide +kernel, by decide +kernel⟩,
  ⟨up (fun b => b.set F.CLERK_MUSTER_CFG.EN 1), 7, by decide +kernel⟩,
  ⟨up (fun b => b.set F.CLERK_MUSTER_CFG.EN 1), 0, _, by decide +kernel, rfl⟩,
  ⟨up (fun b => b.set F.CLERK_MUSTER_CFG.EN 0), 7, by decide +kernel⟩,
  ⟨up (fun b => ((b.set F.WATCH_POWER_STATUS.PMIC_EN 2).set F.PIN_GPIO_OE.OE 0).set F.PIN_GPIO_RISE.RISE 0 |>.set F.PIN_GPIO_FALL.FALL 0),
    by decide +kernel, by decide +kernel, by decide +kernel, by decide +kernel⟩,
  ⟨up (fun b => ((b.set F.WATCH_POWER_STATUS.PMIC_EN 2).set F.PIN_GPIO_OE.OE 0).set F.PIN_GPIO_RISE.RISE 4), 4, _, by decide +kernel,
    by decide +kernel, by decide +kernel, by decide +kernel, rfl⟩,
  ⟨up (fun b => b.set F.PIN_THERM.WARN_C 70), 2, 70, _, rfl, by decide +kernel⟩,
  ⟨up (fun b => b.set F.PIN_THERM.WARN_C 70), 2, 69, _, rfl, by decide +kernel⟩,
  ⟨gallop, 0, 115, _, rfl, by decide +kernel, by decide +kernel⟩,
  ⟨gallop, 0, 114, _, rfl, by decide +kernel⟩,
  ⟨up (fun b => b.set F.WATCH_POWER_STATUS.PMIC_EN 2), by decide +kernel⟩,
  ⟨up (fun b => b.set F.WATCH_POWER_STATUS.PMIC_EN 1), by decide +kernel⟩⟩

theorem test_witness_EveryCommandAnswersAndQueueDrains : (∃ (l : List Instr), ∃ (rest : List Instr), ∃ (s : State), s.pending = l ++ rest) :=
  ⟨[.alert], [.alert], { gallop with pending := [.alert, .alert] }, by decide +kernel⟩

theorem test_witness_FuseStorageInvariant : (∃ (s : State), ∃ (t : State), step s = .next t ∧ mapWf s.fuse.sec 0 = true ∧ mapWf s.fuse.reg 0 = true) :=
  ⟨{ gallop with pending := [.alert] }, _, rfl, by decide +kernel, by decide +kernel⟩

theorem test_witness_RegulatoryLockHolds : (∃ (s : State), ∃ (t : State), step s = .next t ∧ s.fuse.regLock = true) :=
  ⟨{ mesh id with pending := [.alert] }, _, rfl, by decide +kernel⟩

theorem test_witness_LifecycleNeverGoesBack : (∃ (s : State), ∃ (t : State), step s = .next t ∧ fuseByte s.fuse.sec 0 % 16 ∈ [0, 1, 3, 7, 8, 9, 10, 11, 12, 13, 14, 15]) :=
  ⟨{ gallop with pending := [.alert] }, _, rfl, by decide +kernel⟩

theorem test_witness_ResetsKeepFusesTalliesAndAssay : (∃ (s : State), ∃ (c : Instr), (c ∈ [Instr.topDevReset .bar0 0x4B470001] ∨ (∃ v, c = .powerOnReset v) ∨ (∃ v, c = .brownOut v) ∨ (∃ v, c = .pinReset v) ∨ (∃ n, c = .sectionReset n) ∨ ∃ e, c = .engineReset e) ∧
      s.blk.roadStops .bar0 R.TOP_DEV_RESET = none) :=
  ⟨gallop, .topDevReset .bar0 0x4B470001, Or.inl (by decide +kernel), by decide +kernel⟩

theorem test_witness_CalibrationPortSetsTime :
    (∃ (s : State), s.assay.up = true ∧ s.assay.sealOpen = true ∧ s.assay.seals < 4096 ∧ s.assay.flashFault = false) ∧
    (∃ (s : State), s.assay.sealOpen = false) := ⟨
  ⟨{ gallop with assay := { gallop.assay with sealOpen := true } }, by decide +kernel, by decide +kernel, by decide +kernel, by decide +kernel⟩,
  ⟨gallop, by decide +kernel⟩⟩

theorem test_witness_AcknowledgementClearsErrors : (∃ (s : State), ∃ (road : Road), s.blk.roadStops road R.CLERK_ERR_ACK = none) :=
  ⟨gallop, .bar0, by decide +kernel⟩

theorem test_witness_AssayDieIsItsOwn :
    (∃ (c : Instr), ∃ (s : State), ∃ (t : State), ofAssayDie c = false ∧ exec c s = .next t) ∧
    (∃ (c : Instr), ∃ (s : State), ∃ (s' : State), ∃ (t : State), ∃ (t' : State), throughHatch c = false ∧ s.assay = s'.assay ∧
      exec c s = .next t ∧ exec c s' = .next t') := ⟨
  ⟨.alert, gallop, _, by decide +kernel, rfl⟩,
  ⟨.alert, gallop, gallop, _, _, by decide +kernel, by decide +kernel, rfl, rfl⟩⟩

/-- The same for hypotheses that stand inside a conclusion. -/
theorem test_witness_inner :
    (∃ (s : State) (g : Ingress) (b : Block), s.blk.runs 3 = true ∧ s.blk.portHears g.src = true ∧ g.rsLost = 0 ∧ g.src ≤ 1 ∧
      b = (s.blk.cartCount (portOf g.src) C.CART.RX_FRAMES).lane 3 (pipeOf g.src) 0 ∧ b.lame = false ∧ b.cart.keeper.isOpen = false) ∧
    (∃ (s : State) (b : Block) (us : Nat), s.blk.reseedDue = true ∧ b = (s.blk.set F.LOCK_RNG_STATUS.STARVED 1).count .lock C.LOCK.MASK_STALL_US us ∧ us ≤ 100000 ∧ b.lock.drbgSect = none) ∧
    (∃ (s : State) (b : Block), b = s.blk.keeperClose.setCeil 3 ∧ b.watch.plan = 0) ∧
    (∃ (s : State) (b : Block), b = s.blk.set F.WATCH_GAIT_STATUS.CEIL (setBit (s.blk.get F.WATCH_GAIT_STATUS.CEIL) 3 false) ∧ b.on F.OST_START_STATUS.LAME = false) ∧
    (∃ (s : State) (k : Nat) (a b : Block), a = s.blk.updOst (fun o => { o with sheafCheck := none }) ∧ b = a.hashJob (a.sheafBytes k).length ∧ b.sheafGood k = true) ∧
    (∃ (s : State) (k : Nat) (a b : Block), a = s.blk.updOst (fun o => { o with sheafCheck := none }) ∧ b = a.hashJob (a.sheafBytes k).length ∧ b.sheafGood k = false) ∧
    (∃ (s : State) (k n : Nat), n = look s.blk.clerk.defers k 0 + 1 ∧ n = 8) ∧
    (∃ (s : State) (n : Nat) (d : StewFrame) (b : Block), s.blk.cart.inbox.find? (fun x => x.2 == d) = some (n, d) ∧
      b = (s.blk.updCart (fun c => { c with inbox := c.inbox.erase (n, d) })).poolDrop n ∧ b.creosh.ret = none) ∧
    (∃ s : State, s.blk.runs (lmEngine 0) = true ∧ s.blk.staValid 0 5 = true ∧ bitOf (s.blk.psBits 0 5) 0 = true) ∧
    (∃ s : State, resetLevel s.blk.sec.lc < s.blk.sec.level) ∧
    (∃ j : KeyRec, 1 ≤ j.mode ∧ j.mode ≤ 4) := ⟨
  ⟨ringRx (fun b => b.updCart (fun c => { c with keeper := {} })), { src := 0, len := 64, fcs := .good, frame := eth }, _, by decide +kernel,
    by decide +kernel, by decide +kernel, by decide +kernel, rfl, by decide +kernel, by decide +kernel⟩,
  ⟨up (fun b => b.updLock (fun l => { l with gens := 16777216 })), _, 100000, by decide +kernel, rfl, by decide +kernel, by decide +kernel⟩,
  ⟨gallop, _, rfl, by decide +kernel⟩,
  ⟨gallop, _, rfl, by decide +kernel⟩,
  ⟨up (fun b => ((b.norProgram 0x1010 (bytesLE 4 0)).norProgram 0x101C (bytesLE 4 0x80)).norProgram 0x1060
    (bytesBE 32 0xE3B0C44298FC1C149AFBF4C8996FB92427AE41E4649B934CA495991B7852B855)), 0, _, _, rfl, rfl, by decide +kernel⟩,
  ⟨up (fun b => (b.norProgram 0x1010 (bytesLE 4 0)).norProgram 0x101C (bytesLE 4 0x80)), 0, _, _, rfl, rfl, by decide +kernel⟩,
  ⟨{ gallop with blk := { gallop.blk with clerk := { gallop.blk.clerk with defers := [(3, 7)] } } }, 3, _, rfl, by decide +kernel⟩,
  ⟨up (fun b => b.updCart (fun c => { c with inbox := [(1, { src := 0, cls := 0, vlan := 1, time := 0, octets := [] })] })), 1,
    { src := 0, cls := 0, vlan := 1, time := 0, octets := [] }, _, by decide +kernel, rfl, by decide +kernel⟩,
  ⟨up (fun b => (b.setTab (staAddr 0 5 + 8) 4 1).setTab (staAddr 0 5 + 0x34) 1 1), by decide +kernel, by decide +kernel, by decide +kernel⟩,
  ⟨up (fun b => b.updSec (fun c => { c with lc := 4 })), by decide +kernel⟩,
  ⟨{ key with mode := 1 }, by decide +kernel, by decide +kernel⟩⟩

end Sys2Proof.Tests
end

section
/-! What a command can do beyond the block: to the fuses, the Assay die and the queue. -/

namespace Sys2Proof.Machine

/-- t comes from s by changes of the block and of the Assay die, by programming fuse bits (R6), those of the regulatory block
while its lock is open (R255), and by nothing else: the queue stays, no fuse bit is cleared. -/
inductive State.Moves (s : State) : State → Prop
  | refl : s.Moves s
  | blk {t : State} (b : Block) (h : s.Moves t) : s.Moves { t with blk := b }
  | assay {t : State} (a : Assay) (h : s.Moves t) : s.Moves { t with assay := a }
  | burnSec {t : State} (w v : Nat) (h : s.Moves t) :
      s.Moves { t with fuse := { t.fuse with sec := put t.fuse.sec w (look t.fuse.sec w 0 ||| v) 0 } }
  | burnReg {t : State} (w v : Nat) (h : s.Moves t) (hl : t.fuse.regLock = false) :
      s.Moves { t with fuse := { t.fuse with reg := put t.fuse.reg w (look t.fuse.reg w 0 ||| v) 0 } }

theorem State.Moves.trans {s t u : State} (h : s.Moves t) (g : t.Moves u) : s.Moves u := by
  induction g with
  | refl => exact h
  | blk b _ ih => exact ih.blk b
  | assay a _ ih => exact ih.assay a
  | burnSec w v _ ih => exact ih.burnSec w v
  | burnReg w v _ hl ih => exact ih.burnReg w v hl

theorem State.Moves.ite {s t u : State} {c : Prop} [Decidable c] (h : s.Moves t) (g : s.Moves u) :
    s.Moves (if c then t else u) := by
  split
  · exact h
  · exact g

/-! ### What such a move keeps -/

theorem bitOf_eq_testBit (v n : Nat) : bitOf v n = v.testBit n := by
  rw [Nat.testBit_eq_decide_div_mod_eq, bitOf, Nat.shiftRight_eq_div_pow]
  exact Bool.beq_eq_decide_eq _ _

/-- Programming a word clears no bit. -/
theorem fusesKept_put_or (m : List (Nat × Nat)) (w v : Nat) : fusesKept m (put m w (look m w 0 ||| v) 0) := by
  intro k i hk
  by_cases h : k = w
  · subst h
    rw [look_put_same]
    rw [bitOf_eq_testBit] at hk ⊢
    rw [Nat.testBit_or, hk, Bool.true_or]
  · rwa [look_put_other _ _ _ _ h]

theorem fusesKept_trans {l m n : List (Nat × Nat)} (h : fusesKept l m) (g : fusesKept m n) : fusesKept l n :=
  fun w i hw => g w i (h w i hw)

theorem State.Moves.grown {s t : State} (h : s.Moves t) : Fuses.grown s.fuse t.fuse := by
  induction h with
  | refl => exact ⟨fun _ _ => id, fun _ _ => id⟩
  | blk b _ ih => exact ih
  | assay a _ ih => exact ih
  | burnSec w v _ ih => exact ⟨fusesKept_trans ih.1 (fusesKept_put_or _ w v), ih.2⟩
  | burnReg w v _ _ ih => exact ⟨ih.1, fusesKept_trans ih.2 (fusesKept_put_or _ w v)⟩

theorem State.Moves.fuses_wf {s t : State} (h : s.Moves t) (hs : mapWf s.fuse.sec 0 = true) (hr : mapWf s.fuse.reg 0 = true) :
    mapWf t.fuse.sec 0 = true ∧ mapWf t.fuse.reg 0 = true := by
  induction h with
  | refl => exact ⟨hs, hr⟩
  | blk b _ ih => exact ih
  | assay a _ ih => exact ih
  | burnSec w v _ ih => exact ⟨mapWf_put _ w _ 0 ih.1, ih.2⟩
  | burnReg w v _ _ ih => exact ⟨ih.1, mapWf_put _ w _ 0 ih.2⟩

/-! ### Fuses -/

variable (s : State)

theorem State.moves_blk_assay (b : Block) (a : Assay) : s.Moves { s with blk := b, assay := a } :=
  (State.Moves.refl.blk b).assay a

theorem State.moves_onBlk (f : Block → Block) : s.Moves (s.onBlk f) := .blk _ .refl

theorem State.moves_burnWords (w : Nat) (l : List Nat) :
    s.Moves { s with fuse := { s.fuse with sec := burnWords s.fuse.sec w l } } := by
  induction l generalizing s w with
  | nil => exact .refl
  | cons v t ih => exact (State.Moves.burnSec w v .refl).trans (ih _ (w + 1))

theorem State.moves_burnBits (w v : Nat → Nat) (l : List Nat) : s.Moves { s with fuse := { s.fuse with
    sec := l.foldl (fun m i => put m (w i) (look m (w i) 0 ||| v i) 0) s.fuse.sec } } := by
  induction l generalizing s with
  | nil => exact .refl
  | cons i t ih => exact (State.Moves.burnSec (w i) (v i) .refl).trans (ih _)

theorem State.moves_burnTherm (c n : Nat) :
    s.Moves { s with fuse := { s.fuse with sec := burnTherm s.fuse.sec c n } } := s.moves_burnBits _ _ _

theorem State.moves_regFuse (road : Road) (v : Nat) : s.Moves (s.regFuse road v) := by
  unfold State.regFuse
  split
  next => exact .blk _ .refl
  next h =>
    simp only [Bool.or_eq_true, not_or, Bool.not_eq_true] at h
    exact .burnReg _ _ .refl h.2

theorem State.moves_fuseWrite (road : Road) (v vbat : Nat) : s.Moves (s.fuseWrite road v vbat) := by
  unfold State.fuseWrite
  dsimp only
  split
  · exact .blk _ .refl
  · exact s.moves_burnWords _ _

theorem State.moves_genSecret (secret : Nat) : s.Moves (s.genSecret secret) := (s.moves_burnWords 56 _).blk _

theorem State.moves_lcCmd (road : Road) (key op vbat secret : Nat) : s.Moves (s.lcCmd road key op vbat secret) := by
  unfold State.lcCmd
  split
  · exact .refl
  · split
    · exact .blk _ .refl
    · split
      · exact s.moves_genSecret secret
      · exact .blk _ .refl

theorem State.moves_lcWrite (road : Road) (v vbat secret : Nat) : s.Moves (s.lcWrite road v vbat secret) := by
  unfold State.lcWrite
  dsimp only
  split
  · exact s.moves_lcCmd ..
  · exact .refl

theorem State.moves_transition (t : Nat) : s.Moves (s.transition t) := by
  unfold State.transition
  exact .ite (.blk _ .refl) (.ite (.blk _ .refl) ((s.moves_burnWords 0 [lcBit t]).blk _))

theorem State.moves_transitionOf (m : Option Nat) : s.Moves (match m with | some t => s.transition t | none => s) := by
  cases m with
  | none => exact .refl
  | some t => exact s.moves_transition t

/-! ### Roads -/

/-- A road adds at most a NOTE record to the effect of a write. -/
theorem State.moves_viaRoad (road : Road) (a v : Nat) (f : State → State) (h : s.Moves (f s)) : s.Moves (s.viaRoad road a v f) := by
  unfold State.viaRoad
  split
  · exact h
  · exact .blk _ .refl
  · exact .refl

theorem State.moves_regWrite (road : Road) (d : RegDesc) (v : Nat) : s.Moves (s.regWrite road d v) := by
  unfold State.regWrite
  dsimp only
  split
  · exact s.moves_regFuse road v
  split
  · exact s.moves_fuseWrite ..
  split
  · exact (State.Moves.blk _ .refl).trans (State.moves_lcWrite ..)
  split
  · exact s.moves_onBlk _
  split
  · exact .refl
  split
  · exact s.moves_onBlk _
  split
  · exact s.moves_onBlk _
  · exact s.moves_onBlk _

theorem State.moves_spaceWrite (road : Road) (a v : Nat) : s.Moves (s.spaceWrite road a v) := by
  unfold State.spaceWrite
  split
  · exact s.moves_onBlk _
  split
  · exact .refl
  split
  · exact s.moves_onBlk _
  split
  · exact s.moves_regWrite ..
  · exact s.moves_onBlk _

theorem State.moves_busWrite (road : Road) (a v : Nat) : s.Moves (s.busWrite road a v) :=
  s.moves_viaRoad _ _ _ _ (s.moves_spaceWrite ..)

theorem State.moves_writeCmd (road : Road) (a v : Nat) (dword : Bool) : s.Moves (s.writeCmd road a v dword) := by
  unfold State.writeCmd
  split
  · exact s.moves_busWrite ..
  split
  · exact s.moves_viaRoad _ _ _ _ (s.moves_onBlk _)
  · exact .refl

theorem State.moves_busRead (road : Road) (a : Nat) : s.Moves (s.busRead road a).2 := by
  unfold State.busRead
  dsimp only
  split
  · exact .refl
  split
  · exact .refl
  · exact .blk _ .refl

theorem State.moves_busReads (road : Road) (a n : Nat) : s.Moves (s.busReads road a n).2 := by
  induction n generalizing s a with
  | zero => exact .refl
  | succ n ih => exact (s.moves_busRead road a).trans (ih _ _)

/-! ### Creosh, the hitching port, the debug port -/

theorem State.moves_reply (q : CreoshReq) (op status : Nat) (body : List Byte) : s.Moves (s.reply q op status body) :=
  s.moves_onBlk _

theorem State.moves_creoshOp (f : State → State) (h : s.Moves (f s)) : s.Moves (s.creoshOp f) := by
  unfold State.creoshOp
  split
  · exact h
  · exact .refl

theorem State.moves_creoshRead (q : CreoshReq) (addr count : Nat) : s.Moves (s.creoshRead q addr count) := by
  unfold State.creoshRead
  split
  · exact s.moves_reply ..
  · exact (s.moves_busReads .creosh addr count).trans (State.moves_reply ..)

theorem State.moves_creoshDwords (a : Nat) (l : List Word) : s.Moves (s.creoshDwords a l).2.2 := by
  induction l generalizing s a with
  | nil => exact .refl
  | cons v t ih =>
    unfold State.creoshDwords
    dsimp only
    split
    · exact s.moves_busWrite ..
    · exact (s.moves_busWrite ..).trans (ih _ _)

theorem State.moves_creoshWrite (q : CreoshReq) (addr : Nat) (l : List Word) : s.Moves (s.creoshWrite q addr l) := by
  unfold State.creoshWrite
  exact (s.moves_creoshDwords addr l).trans (State.moves_onBlk ..)

theorem State.moves_creoshRun (q : CreoshReq) (op : Nat) (body : List Byte) : s.Moves (s.creoshRun q op body) := by
  unfold State.creoshRun
  dsimp only
  split
  case h_1 => split; exacts [s.moves_creoshRead .., s.moves_reply ..]
  case h_2 => split; exacts [s.moves_creoshWrite .., s.moves_reply ..]
  case h_5 => exact s.moves_onBlk _
  case h_10 => exact s.moves_reply ..
  all_goals split; exacts [s.moves_onBlk _, s.moves_reply ..]

theorem State.moves_creoshChecked (q : CreoshReq) (op : Nat) (octets : List Byte) (len : Nat) :
    s.Moves (s.creoshChecked q op octets len) := by
  unfold State.creoshChecked
  dsimp only
  have hb (b : Block) (f : Block → Block) : s.Moves (({ s with blk := b } : State).onBlk f) := (State.Moves.refl.blk b).blk _
  refine .ite (hb _ _) (.ite (hb _ _) ?_)
  split
  · exact hb _ _
  · exact (State.Moves.refl.blk _).trans (State.moves_creoshRun ..)

theorem State.moves_creoshFrame (src vlan sa : Nat) (octets : List Byte) : s.Moves (s.creoshFrame src vlan sa octets) := by
  unfold State.creoshFrame
  dsimp only
  split
  · exact .refl
  split
  · exact s.moves_onBlk _
  · exact s.moves_creoshChecked ..

theorem State.moves_hitchDwords (a : Nat) (l : List Nat) : s.Moves (s.hitchDwords a l) := by
  induction l generalizing s a with
  | nil => exact .refl
  | cons v t ih => exact (s.moves_busWrite .hitch a v).trans (ih _ _)

theorem State.moves_hitchAccess (x : HitchXfer) : s.Moves (s.hitchAccess x) := by
  cases x with
  | read addr count =>
    unfold State.hitchAccess
    exact ((s.moves_onBlk _).trans (State.moves_busReads ..)).trans (State.moves_onBlk ..)
  | write addr data => exact (s.moves_onBlk _).trans (State.moves_hitchDwords ..)

theorem State.moves_dap (op : DapOp) : s.Moves (s.dap op) := by
  cases op with
  | read a =>
    unfold State.dap
    exact (s.moves_busRead .dap a).trans (State.moves_onBlk ..)
  | write a v => exact s.moves_busWrite ..
  | scanRead a => exact .ite (s.moves_onBlk _) .refl
  | scanWrite a v => exact .ite (s.moves_onBlk _) .refl

/-! ### The Assay die -/

theorem State.moves_mirror : s.Moves s.mirror := by
  unfold State.mirror
  dsimp only
  split
  · exact .refl
  · exact .blk _ .refl

theorem State.moves_onAssay (f : Assay → Assay) : s.Moves (s.onAssay f) :=
  (State.Moves.assay _ .refl).trans (State.moves_mirror _)

theorem State.moves_hatchRun (cmd : Nat) : s.Moves (s.hatchRun cmd) :=
  (s.moves_blk_assay ..).trans (State.moves_mirror _)

theorem State.moves_hatchDo (cmd arg : Nat) (req : List Byte) : s.Moves (s.hatchDo cmd arg req) := by
  unfold State.hatchDo
  split
  · split
    · exact s.moves_hatchRun cmd
    · exact .blk _ .refl
  · dsimp only
    split
    · exact (State.Moves.blk _ .refl).trans (State.moves_hatchRun ..)
    · exact .blk _ .refl

theorem State.moves_calDo (cmd arg : Nat) (data : List Byte) : s.Moves (s.calDo cmd arg data) := by
  unfold State.calDo
  split
  · exact .refl
  · exact (s.moves_blk_assay ..).trans (State.moves_mirror _)

theorem State.moves_assayDo (port : AssayIn) (cmd arg : Nat) (data : List Byte) : s.Moves (s.assayDo port cmd arg data) := by
  cases port with
  | hatch => exact s.moves_hatchDo ..
  | cal => exact s.moves_calDo ..

theorem State.moves_calFrame (f : List Byte) (o : Bool) : s.Moves (s.calFrame f o) := by
  unfold State.calFrame
  dsimp only
  split
  · exact .refl
  split
  · exact .blk _ .refl
  · exact s.moves_calDo ..

/-! ### Every command -/

theorem exec_rollbackBurn_moves (mv : Nat) : ∃ t, exec (.rollbackBurn mv) s = .next t ∧ s.Moves t := by
  change ∃ t, execRollbackBurn mv s = .next t ∧ s.Moves t
  unfold execRollbackBurn
  dsimp only
  split
  · exact ⟨_, rfl, .blk _ .refl⟩
  split
  · exact ⟨_, rfl, .blk _ .refl⟩
  split
  · exact ⟨_, rfl, .blk _ .refl⟩
  split
  · exact ⟨_, rfl, .blk _ .refl⟩
  · exact ⟨_, rfl, (s.moves_burnTherm ..).blk _⟩

theorem exec_errorDetected_moves (o : Fin 25) (code : BitVec 8) (lane : BitVec 16) (item : Nat) :
    ∃ t, exec (.errorDetected o code lane item) s = .next t ∧ s.Moves t := by
  change ∃ t, execErrorDetected o code lane item s = .next t ∧ s.Moves t
  unfold execErrorDetected
  split
  · exact ⟨_, rfl, s.moves_onAssay _⟩
  · exact ⟨_, rfl, .blk _ .refl⟩

theorem exec_bankCopyComplete_moves (o : BankOwner) (n : Fin 16) :
    ∃ t, exec (.bankCopyComplete o n) s = .next t ∧ s.Moves t := by
  change ∃ t, execBankCopyComplete o n s = .next t ∧ s.Moves t
  unfold execBankCopyComplete
  dsimp only
  split
  · exact ⟨_, rfl, .blk _ .refl⟩
  · exact ⟨_, rfl, .blk _ .refl⟩

/-- Every command answers a next state, and comes to it by moves. The commands named are those that reach more than the block. -/
theorem exec_moves (c : Instr) : ∃ t, exec c s = .next t ∧ s.Moves t := by
  cases c
  case rollbackBurn mv => exact exec_rollbackBurn_moves s mv
  case errorDetected o code lane item => exact exec_errorDetected_moves s o code lane item
  case bankCopyComplete o n => exact exec_bankCopyComplete_moves s o n
  case registerWrite => exact ⟨_, rfl, s.moves_writeCmd ..⟩
  case tableWindowWrite => exact ⟨_, rfl, .ite (s.moves_writeCmd ..) .refl⟩
  case ringCtrlEnable | ledgerTailWrite | ledgerCfgWrite | done => exact ⟨_, rfl, s.moves_busWrite ..⟩
  case copyDataRead => exact ⟨_, rfl, s.moves_busRead ..⟩
  case regFuseWrite => exact ⟨_, rfl, s.moves_viaRoad _ _ _ _ (s.moves_regFuse ..)⟩
  case secFuseWrite => exact ⟨_, rfl, s.moves_viaRoad _ _ _ _ (s.moves_fuseWrite ..)⟩
  case genSecret | toMaker | toField | toRetired => exact ⟨_, rfl, s.moves_viaRoad _ _ _ _ (s.moves_lcCmd ..)⟩
  case lifecycleTransition => exact ⟨_, rfl, s.moves_transitionOf _⟩
  case creoshFrame => exact ⟨_, rfl, s.moves_creoshFrame ..⟩
  case creoshRead => exact ⟨_, rfl, s.moves_creoshOp _ (s.moves_creoshRead ..)⟩
  case creoshWrite => exact ⟨_, rfl, s.moves_creoshOp _ (s.moves_creoshWrite ..)⟩
  case creoshLedger | creoshDone | creoshPiece | creoshGait | creoshReset | creoshSend | armKey =>
    exact ⟨_, rfl, s.moves_creoshOp _ (s.moves_onBlk _)⟩
  case registerAccess => exact ⟨_, rfl, s.moves_hitchAccess _⟩
  case dapAccess => exact ⟨_, rfl, .ite (s.moves_dap _) .refl⟩
  case alert => exact ⟨_, rfl, s.moves_mirror⟩
  case assayPulse => exact ⟨_, rfl, .ite (s.moves_blk_assay ..) .refl⟩
  case assaySample | intervalRecord | sealChange | assaySupplyFail | assaySupplyReturn | assayCrystalFault |
      assayCrystalRecovered => exact ⟨_, rfl, s.moves_onAssay _⟩
  case assayStatus | snapshot | readRecord | readLog | timeSet | readParam | writeParam | installKey | setTime =>
    exact ⟨_, rfl, s.moves_assayDo ..⟩
  case calibrationFrame => exact ⟨_, rfl, s.moves_calFrame ..⟩
  all_goals exact ⟨_, rfl, .blk _ .refl⟩

/-- A step leaves the fuses of its state to the moves of one command. -/
theorem step_moves {s t : State} (h : step s = .next t) : ∃ u : State, u.fuse = s.fuse ∧ u.Moves t := by
  unfold step at h
  split at h
  next =>
    cases h
    exact ⟨s, rfl, .refl⟩
  next c rest _ =>
    obtain ⟨u, hu, hm⟩ := exec_moves { s with pending := rest } c
    rw [hu] at h
    cases h
    exact ⟨{ s with pending := rest }, rfl, hm⟩

/-- Settles O53: every command comes to its next state by moves, which program fuse bits and clear none. -/
theorem fuseStorageInvariant : Obligations.FuseStorageInvariant := by
  refine ⟨fun s t h => ?_, fun s t h hs hr => ?_⟩
  · obtain ⟨u, hu, hm⟩ := step_moves h
    exact hu ▸ hm.grown
  · obtain ⟨u, hu, hm⟩ := step_moves h
    exact hm.fuses_wf (hu ▸ hs) (hu ▸ hr)

end Sys2Proof.Machine
end

section
/-! ENGINE and SECTION resets do not reach the embedded flash: none of what they give up, clear or transfer is kept there (R8). -/

namespace Sys2Proof.Machine

variable (b : Block)

/-- What every element leaves, a list leaves. -/
theorem Block.foldl_keeps {α β : Type} (g : Block → β) {f : Block → α → Block} {c : Block} {l : List α}
    (h : ∀ b x, g (f b x) = g b) (hc : g c = g b) : g (l.foldl f c) = g b := by
  induction l generalizing c with
  | nil => exact hc
  | cons x t ih => exact ih ((h c x).trans hc)

theorem Block.foldl_flash {α : Type} {f : Block → α → Block} {c : Block} {l : List α} (h : ∀ b x, (f b x).flash = b.flash)
    (hc : c.flash = b.flash) : (l.foldl f c).flash = b.flash := b.foldl_keeps Block.flash h hc

theorem Block.ite_flash {c : Prop} [Decidable c] {x y : Block} (hx : x.flash = b.flash) (hy : y.flash = b.flash) :
    (if c then x else y).flash = b.flash := by
  split
  · exact hx
  · exact hy

/-! ### Records, registers, shadows and banks -/

theorem Block.ledgerOnly.flash {b c : Block} (h : b.ledgerOnly c) : c.flash = b.flash := by rw [h.1]

@[simp] theorem Block.note_flash (o k : Nat) (p : List Byte) : (b.note o k p).flash = b.flash := (b.ledgerOnly_note o k p).flash

@[simp] theorem Block.noteWrite_flash (road : Road) (a v : Nat) : (b.noteWrite road a v).flash = b.flash :=
  (b.ledgerOnly_noteWrite road a v).flash

@[simp] theorem Block.takeShadow_flash (s : Fld × Nat) : (b.takeShadow s).flash = b.flash := by
  unfold Block.takeShadow
  split
  · exact b.ite_flash rfl (b.noteWrite_flash ..)
  split
  · exact b.ite_flash rfl rfl
  · rfl

@[simp] theorem Block.takeShadows_flash (o : Nat) : (b.takeShadows o).flash = b.flash :=
  b.foldl_flash Block.takeShadow_flash rfl

@[simp] theorem Block.copyBank_flash (o n : Nat) : (b.copyBank o n).flash = b.flash := by
  unfold Block.copyBank
  split <;> rfl

@[simp] theorem Block.phySwitched_flash (n : Nat) : (b.phySwitched n).flash = b.flash := by
  unfold Block.phySwitched
  dsimp only
  split
  · exact b.ite_flash (b.note_flash ..) rfl
  · exact b.ite_flash (b.note_flash ..) rfl
  · exact b.ite_flash rfl rfl

@[simp] theorem Block.setBankOp_flash (o n : Nat) (q : Option BankOp) : (b.setBankOp o n q).flash = b.flash := rfl

@[simp] theorem Block.switchBank_flash (o n : Nat) : (b.switchBank o n).flash = b.flash := by
  unfold Block.switchBank
  split
  · simp [apply_ite Block.flash]
  · rfl

@[simp] theorem Block.switchBanks_flash (o : Nat) (p : Nat → Bool) : (b.switchBanks o p).flash = b.flash :=
  b.foldl_flash (fun c _ => c.switchBank_flash ..) rfl

@[simp] theorem Block.transfer_flash (e : Nat) : (b.transfer e).flash = b.flash := b.ite_flash rfl (by simp)

@[simp] theorem Block.boundary_flash (e : Nat) : (b.boundary e).flash = b.flash := by simp [Block.boundary, Block.wrap]

@[simp] theorem Block.phyAtOnce_flash (e : Nat) : (b.phyAtOnce e).flash = b.flash := b.ite_flash (by simp) rfl

@[simp] theorem Block.feBoundary_flash (f : Nat) : (b.feBoundary f).flash = b.flash := by
  simp [Block.feBoundary, apply_ite Block.flash]

@[simp] theorem Block.settleShadows_flash (o : Nat) : (b.settleShadows o).flash = b.flash := by
  simp [Block.settleShadows, apply_ite Block.flash]

/-! ### Cells, plans and queues -/

@[simp] theorem Block.freeCells_flash (n : Nat) : (b.freeCells n).flash = b.flash := rfl

@[simp] theorem Block.poolDrop_flash (n : Nat) : (b.poolDrop n).flash = b.flash := by
  unfold Block.poolDrop
  split
  · rfl
  · exact b.ite_flash rfl (b.ite_flash rfl rfl)

@[simp] theorem Block.setQueue_flash (k : Nat) (fs : List QFrame) : (b.setQueue k fs).flash = b.flash := b.ite_flash rfl rfl

@[simp] theorem Block.dropFrame_flash (f : QFrame) : (b.dropFrame f).flash = b.flash := b.ite_flash rfl (b.poolDrop_flash _)

@[simp] theorem Block.purgeQueue_flash (k : Nat) (p : QFrame → Bool) : (b.purgeQueue k p).flash = b.flash :=
  b.foldl_flash Block.dropFrame_flash (b.setQueue_flash ..)

@[simp] theorem Block.undoUser_flash (p : Plan) (a : Bool) (u : PlanUser) : (b.undoUser p a u).flash = b.flash :=
  (Block.setQueue_flash ..).trans (b.ite_flash rfl rfl)

@[simp] theorem Block.undoSlot_flash (r k : Nat) (a : Bool) : (b.undoSlot r k a).flash = b.flash := by
  unfold Block.undoSlot
  split
  · rfl
  · simp only [Block.lane, Block.count_flash]
    exact b.foldl_flash (fun c _ => c.undoUser_flash ..) rfl

@[simp] theorem Block.undoFrom_flash (r k : Nat) (a : Bool) : (b.undoFrom r k a).flash = b.flash :=
  b.ite_flash (by simp) (by simp)

@[simp] theorem Block.undoPlanned_flash : b.undoPlanned.flash = b.flash := by
  unfold Block.undoPlanned
  dsimp only
  refine b.foldl_flash (fun c r => c.foldl_flash (fun d k => ?_) rfl) rfl
  split
  · exact d.ite_flash rfl (d.undoSlot_flash ..)
  · rfl

@[simp] theorem Block.flushQueues_flash : b.flushQueues.flash = b.flash :=
  b.foldl_flash (fun c k => by simp) rfl

@[simp] theorem Block.clearHw_flash (o : Nat) : (b.clearHw o).flash = b.flash := rfl

@[simp] theorem Block.droverReset_flash : b.droverReset.flash = b.flash := by
  unfold Block.droverReset
  refine b.foldl_flash (fun c s => c.setTab_flash ..) ?_
  dsimp only
  rw [Block.clearHw_flash, Block.flushQueues_flash, Block.undoPlanned_flash]

@[simp] theorem Block.marshalReset_flash : b.marshalReset.flash = b.flash := by
  unfold Block.marshalReset
  refine b.foldl_flash (fun c i => c.ite_flash ?_ rfl) ?_
  · rw [Block.setTab_flash, Block.setTab_flash, Block.setTab_flash]
  · exact b.clearHw_flash 8

/-! ### Link MACs and front ends -/

@[simp] theorem Block.calAbort_flash (f : Nat) : (b.calAbort f).flash = b.flash :=
  b.ite_flash (Block.count_flash ..) rfl

@[simp] theorem Block.feDown_flash (f : Nat) : (b.feDown f).flash = b.flash := b.calAbort_flash f

@[simp] theorem Block.undoMpdu_flash (r : Nat) (m : ProvMpdu) : (b.undoMpdu r m).flash = b.flash := rfl

@[simp] theorem Block.undoAllMpdus_flash (r : Nat) : (b.undoAllMpdus r).flash = b.flash :=
  b.foldl_flash (fun c m => by simp) rfl

@[simp] theorem Block.dropHeld_flash (r : Nat) : (b.dropHeld r).flash = b.flash := rfl

theorem Block.takeSlots_flash (r i st start : Nat) : (b.takeSlots r i st start).1.flash = b.flash := by
  unfold Block.takeSlots
  dsimp only
  split <;> rfl

@[simp] theorem Block.restartAgreements_flash (r : Nat) : (b.restartAgreements r).flash = b.flash :=
  b.foldl_flash (fun c _ => c.ite_flash (c.takeSlots_flash ..) rfl) rfl

@[simp] theorem Block.phyDrop_flash (r : Nat) : (b.phyDrop r).flash = b.flash := rfl

@[simp] theorem Block.updLm_flash (r : Nat) (f : LinkMac → LinkMac) : (b.updLm r f).flash = b.flash := rfl

@[simp] theorem Block.clearWakes_flash (r : Nat) : (b.clearWakes r).flash = b.flash := rfl

@[simp] theorem Block.lmReset_flash (r : Nat) : (b.lmReset r).flash = b.flash := by simp [Block.lmReset]

/-! ### Sieve and Post -/

@[simp] theorem Block.undoStream_flash (n : Nat) : (b.undoStream n).flash = b.flash := by
  unfold Block.undoStream
  split <;> simp

@[simp] theorem Block.sieveIdle_flash : b.sieveIdle.flash = b.flash := b.ite_flash rfl rfl

@[simp] theorem Block.releaseStall_flash (i n : Nat) : (b.releaseStall i n).flash = b.flash :=
  b.ite_flash (by simp [Block.lane]) rfl

@[simp] theorem Block.releaseStalls_flash (p : Stall → Bool) (n : Nat) : (b.releaseStalls p n).flash = b.flash :=
  b.foldl_flash (fun c _ => c.releaseStall_flash ..) rfl

@[simp] theorem Block.cutMeshTx_flash : b.cutMeshTx.flash = b.flash := by
  simp [Block.cutMeshTx, Block.setFe, apply_ite Block.flash]

@[simp] theorem Block.meshUnsent_flash (t : MeshTx) : (b.meshUnsent t).flash = b.flash :=
  b.ite_flash (Block.count_flash ..) rfl

@[simp] theorem Block.meshLate_flash (t : SieveTx) : (b.meshLate t).flash = b.flash := by
  simp [Block.meshLate, Block.updFe]

@[simp] theorem Block.endMeshTx_flash : b.endMeshTx.flash = b.flash :=
  b.foldl_flash Block.meshLate_flash b.cutMeshTx_flash

@[simp] theorem Block.sieveReset_flash : b.sieveReset.flash = b.flash := by
  simp [Block.sieveReset, Block.clearHw]

@[simp] theorem Block.postReset_flash : b.postReset.flash = b.flash := rfl

/-! ### Carter and Locksmith -/

@[simp] theorem Block.keeperClose_flash : b.keeperClose.flash = b.flash := rfl

@[simp] theorem Block.stomp_flash (c : CutFlight) : (b.stomp c).flash = b.flash := by simp [Block.stomp, Block.cartCount]

@[simp] theorem Block.flushTroughs_flash (p : Nat → Bool) : (b.flushTroughs p).flash = b.flash := by
  refine b.foldl_flash (fun c t => ?_) rfl
  simp only [Block.cartCount, Block.count_flash, Block.updCart_flash]
  exact c.foldl_flash (fun d _ => d.poolDrop_flash _) rfl

@[simp] theorem Block.cartFlush_flash : b.cartFlush.flash = b.flash := by
  have h : (b.cart.cut.foldl (fun b c => b.stomp c) b).flash = b.flash := b.foldl_flash Block.stomp_flash rfl
  exact b.foldl_flash (fun c _ => c.poolDrop_flash _) ((Block.flushTroughs_flash ..).trans h)

@[simp] theorem Block.carterReset_flash : b.carterReset.flash = b.flash := by
  simp only [Block.carterReset, Block.updCart_flash, Block.keeperClose_flash, Block.clearHw_flash]
  exact b.foldl_flash (fun c r => by simp) (by simp)

@[simp] theorem Block.noKey_flash (n : Nat) : (b.noKey n).flash = b.flash := rfl

@[simp] theorem Block.lockReset_flash : b.lockReset.flash = b.flash :=
  b.foldl_flash (c := b) (fun c _ => c.noKey_flash _) rfl

/-! ### The resets -/

@[simp] theorem Block.lanesReset_flash (e : Nat) : (b.lanesReset e).flash = b.flash := by
  unfold Block.lanesReset
  split
  exacts [rfl, b.lockReset_flash, b.carterReset_flash, b.droverReset_flash, b.lmReset_flash 2, b.lmReset_flash 1,
    b.lmReset_flash 0, b.marshalReset_flash, b.sieveReset_flash, b.postReset_flash, rfl, rfl]

@[simp] theorem Block.countCut_flash (e : Nat) (t : PhyTx) : (b.countCut e t).flash = b.flash :=
  b.foldl_flash (fun c _ => c.count_flash ..) (b.count_flash ..)

@[simp] theorem Block.resetRegs_flash (p : Nat → Bool) (k : ResetKind → Bool) : (b.resetRegs p k).flash = b.flash := rfl

@[simp] theorem Block.clearSets_flash (l : List CntSet) : (l.foldl (fun b c => b.clearSet c) b).flash = b.flash :=
  b.foldl_flash (fun _ _ => rfl) rfl

@[simp] theorem Block.clearBlk_flash (n : Nat) : (b.clearBlk n).flash = b.flash := rfl

@[simp] theorem Block.engReset_flash (e : Nat) : (b.engReset e).flash = b.flash := by
  unfold Block.engReset
  dsimp only
  generalize (if 5 ≤ e ∧ e ≤ 7 then (Block.phyAt _ (lmRadio e)).tx else none) = cut
  cases cut with
  | none => simp [apply_ite Block.flash]
  | some t => simp [apply_ite Block.flash]

@[simp] theorem Block.sectReset_flash (n : Nat) : (b.sectReset n).flash = b.flash := by
  unfold Block.sectReset
  exact b.foldl_flash (fun c e => by simp) rfl

end Sys2Proof.Machine
end

section
/-! What the resets leave (R7, R8, R16, R19). -/

namespace Sys2Proof.Machine

variable (b : Block)

/-! ### A reset of kind DEVICE or wider -/

/-- The block with what a reset of code k loses gone, before the reset is noted in the registers. -/
def Block.wideLost (fu : Fuses) (b : Block) (k : Nat) : Block :=
  { regs := regsAfter k b.regs
    counts := b.counts.filter (fun c => decide (kindBor < k) && decide (c.1 / 16777216 = 32))
    tabs := tabsAfter k b.tabs
    time := if k ≤ kindBor then {} else b.time
    clerk := clerkAfter k b.clerk
    ost := { nor := b.ost.nor }
    post := { bag := if k ≤ kindBor then [] else b.post.bag }
    rfc := rfcAfter fu k b.flash.factory b.rfc
    lock := lockAfter b.lock
    watch := watchAfter k b.watch
    sec := secAfter k b.sec
    flash := flashAfter k b.flash
    out := b.out
    free := b.free }

/-- The fields in which a reset of kind DEVICE or wider notes itself, beside its KIND and the strap. -/
def wideFields : List Fld := [F.TOP_RESET_CAUSE.SOURCE, F.WATCH_POWER_STATUS.PMIC_EN, F.WATCH_POWER_STATUS.PONY_HP,
  F.FLASH_STATUS.ERASING, F.FLASH_STATUS.ERASE_BLK, F.WATCH_GAIT_STATUS.CEIL]

/-- What a wide reset does after the loss, step by step: a property that holds once KIND is set, and that the further writes keep, holds
of the block up to the sampling of the strap. -/
theorem Block.resetWide_walk {P : Block → Prop} (fu : Fuses) (k source : Nat) (strap : Option Nat)
    (h0 : P ((b.wideLost fu k).set F.TOP_RESET_CAUSE.KIND k))
    (hset : ∀ c f v, f ∈ wideFields → P c → P (c.set f v)) (hest : ∀ c, P c → P (c.setEst 11 stRun)) :
    ∃ c, P c ∧ b.resetWide fu k source strap =
      (if b.watch.pwrLow then (strap.elim c (c.set F.PIN_STRAP.HITCH_ADDR)).set F.WATCH_GAIT_STATUS.CEIL 1
       else strap.elim c (c.set F.PIN_STRAP.HITCH_ADDR)) := by
  have hs (c : Block) (f : Fld) (v : Nat) (hc : P c) (hf : f ∈ wideFields := by simp [wideFields]) : P (c.set f v) := hset c f v hf hc
  have hi {p : Prop} [Decidable p] {c d : Block} (hc : P c) (hd : P d) : P (if p then c else d) := by
    split
    · exact hc
    · exact hd
  have hsource := hs _ F.TOP_RESET_CAUSE.SOURCE (b.causeOf k source) h0
  have hpower := hs _ F.WATCH_POWER_STATUS.PONY_HP 1 (hi (p := k ≤ kindBor) hsource
    (hs _ F.WATCH_POWER_STATUS.PMIC_EN (b.get F.WATCH_POWER_STATUS.PMIC_EN &&& 0x13) (hest _ hsource)))
  cases strap
  all_goals
    refine ⟨_, ?_, rfl⟩
    split
    · exact hs _ _ _ (hs _ _ _ hpower)
    · exact hpower

/-- c is b but for registers, engine bookkeeping and outputs. -/
def Block.sameBeyondRegs (b c : Block) : Prop := c = { b with regs := c.regs, eng := c.eng, out := c.out }

theorem Block.sameBeyondRegs_refl : b.sameBeyondRegs b := rfl

theorem Block.sameBeyondRegs.set {b c : Block} (h : b.sameBeyondRegs c) (f : Fld) (v : Nat) : b.sameBeyondRegs (c.set f v) := by
  unfold Block.sameBeyondRegs at h
  rw [h]
  rfl

theorem Block.traceState_eq (e st : Nat) : b.traceState e st = b ∨ ∃ o, b.traceState e st = b.emit o := by
  unfold Block.traceState
  split
  · exact .inr ⟨_, rfl⟩
  · exact .inl rfl

theorem Block.setEst_sameBeyondRegs (e st : Nat) : b.sameBeyondRegs (b.setEst e st) := by
  unfold Block.setEst
  rcases b.traceState_eq e st with h | ⟨o, h⟩
  all_goals
    rw [h]
    dsimp only
    split
    · rfl
    · rfl

theorem Block.sameBeyondRegs.trans {a b c : Block} (h : a.sameBeyondRegs b) (g : b.sameBeyondRegs c) : a.sameBeyondRegs c := by
  unfold Block.sameBeyondRegs at h g ⊢
  rw [g, h]

/-- A reset of kind DEVICE or wider loses what its subjects lose (R7, R8), and changes beyond that only registers and outputs. -/
theorem Block.resetWide_same (fu : Fuses) (k source : Nat) (strap : Option Nat) :
    (b.wideLost fu k).sameBeyondRegs (b.resetWide fu k source strap) := by
  obtain ⟨c, hc, h⟩ := b.resetWide_walk (P := (b.wideLost fu k).sameBeyondRegs) fu k source strap
    ((Block.sameBeyondRegs_refl _).set _ _) (fun c f v _ hc => hc.set f v)
    (fun c hc => hc.trans (c.setEst_sameBeyondRegs 11 stRun))
  have hstrap : (b.wideLost fu k).sameBeyondRegs (strap.elim c (c.set F.PIN_STRAP.HITCH_ADDR)) := by
    cases strap with
    | none => exact hc
    | some v => exact hc.set _ _
  rw [h]
  split
  · exact hstrap.set _ _
  · exact hstrap

theorem Block.get_setEst_11 (f : Fld) (st : Nat) (h : f.key ≠ (F.ENG_STATUS.STATE 11).key) : (b.setEst 11 st).get f = b.get f := by
  have hr : (b.setEst 11 st).regs = ((b.traceState 11 st).set (F.ENG_STATUS.STATE 11) st).regs := rfl
  have ht : (b.traceState 11 st).regs = b.regs := by
    rcases b.traceState_eq 11 st with h | ⟨o, h⟩ <;> rw [h]
    rfl
  rw [Block.get_congr hr, Block.get_set_other _ _ h, Block.get_congr ht]

/-- TOP_RESET_CAUSE.KIND shows the code of the reset. -/
theorem Block.resetWide_kind (fu : Fuses) (k source : Nat) (strap : Option Nat) (hk : k ≤ kindDevice) :
    (b.resetWide fu k source strap).get F.TOP_RESET_CAUSE.KIND = k := by
  have hk' : k % 2 ^ F.TOP_RESET_CAUSE.KIND.width = k := Nat.mod_eq_of_lt (Nat.lt_of_le_of_lt hk (by decide))
  obtain ⟨c, hc, h⟩ := b.resetWide_walk (P := fun c => c.get F.TOP_RESET_CAUSE.KIND = k) fu k source strap
    (by rw [Block.get_set_same, hk'])
    (fun c f v hf hc => by
      rw [Block.get_set_other _ _ ((by decide : ∀ f ∈ wideFields, F.TOP_RESET_CAUSE.KIND.key ≠ f.key) f hf), hc])
    (fun c hc => by rw [Block.get_setEst_11 _ _ _ (by decide), hc])
  have hstrap : (strap.elim c (c.set F.PIN_STRAP.HITCH_ADDR)).get F.TOP_RESET_CAUSE.KIND = k := by
    cases strap with
    | none => exact hc
    | some v => exact (Block.get_set_other _ _ (by decide)).trans hc
  rw [h]
  split
  · exact (Block.get_set_other _ _ (by decide)).trans hstrap
  · exact hstrap

/-- The strap sampled at a reset of kind PIN or wider shows in PIN_STRAP (R521). -/
theorem Block.resetWide_strap (fu : Fuses) (k source v : Nat) (hv : v < 4) :
    (b.resetWide fu k source (some v)).get F.PIN_STRAP.HITCH_ADDR = v := by
  have hv' : v % 2 ^ F.PIN_STRAP.HITCH_ADDR.width = v := Nat.mod_eq_of_lt hv
  obtain ⟨c, -, h⟩ := b.resetWide_walk (P := fun _ => True) fu k source (some v) trivial (fun _ _ _ _ _ => trivial) (fun _ _ => trivial)
  rw [h]
  split
  · rw [Block.get_set_other _ _ (by decide)]
    exact (Block.get_set_same ..).trans hv'
  · exact (Block.get_set_same ..).trans hv'

theorem watchAfter_plan (k : Nat) (w : Watch) : (watchAfter k w).plan = 7 := by
  unfold watchAfter
  split <;> rfl

/-- What every reset with the strap sampled leaves: its KIND, the strap, the plan of a reset, an empty Vault and DRAM, the NOR. -/
theorem Block.resetWide_strapped (fu : Fuses) (k : Nat) (v : BitVec 2) (hk : k ≤ kindDevice) (c : Block)
    (hc : c = b.resetWide fu k 0 (some v.toNat)) :
    c.get F.TOP_RESET_CAUSE.KIND = k ∧ c.get F.PIN_STRAP.HITCH_ADDR = v.toNat ∧ c.watch.plan = 7 ∧ c.lock.vault = [] ∧
      c.dram = [] ∧ c.ost.nor = b.ost.nor ∧ c.clerk = clerkAfter k b.clerk ∧ c.counts = (b.wideLost fu k).counts ∧
      c.time = (b.wideLost fu k).time := by
  have hsame := b.resetWide_same fu k 0 (some v.toNat)
  rw [← hc] at hsame
  refine ⟨hc ▸ b.resetWide_kind fu k 0 _ hk, hc ▸ b.resetWide_strap fu k 0 _ v.isLt, ?_⟩
  rw [hsame]
  exact ⟨watchAfter_plan k _, rfl, rfl, rfl, rfl, rfl, rfl⟩

/-- Power-on and brown-out also empty the ledger copy and every counter (R359, R502). -/
theorem Block.resetWide_supply (fu : Fuses) (k : Nat) (v : BitVec 2) (hk : k ≤ kindBor) (c : Block)
    (hc : c = b.resetWide fu k 0 (some v.toNat)) :
    c.get F.TOP_RESET_CAUSE.KIND = k ∧ c.get F.PIN_STRAP.HITCH_ADDR = v.toNat ∧ c.watch.plan = 7 ∧ c.lock.vault = [] ∧
      c.clerk.copy = [] ∧ c.counts = [] ∧ c.dram = [] ∧ c.ost.nor = b.ost.nor := by
  obtain ⟨hkind, hstrap, hplan, hvault, hdram, hnor, hclerk, hcounts, -⟩ :=
    b.resetWide_strapped fu k v (Nat.le_trans hk (by decide)) c hc
  refine ⟨hkind, hstrap, hplan, hvault, ?_, ?_, hdram, hnor⟩
  · rw [hclerk, clerkAfter, if_pos hk]
  · simp [hcounts, Block.wideLost, hk]

/-! ### An ENGINE reset -/

/-- Every engine's status register has kind ENGINE, and STATE resets to RESET (R13, R16). -/
theorem engStatus_kind (e : Fin 12) : ∃ d, Regs.find (R.ENG_STATUS e.val) = some d ∧ d.kind = .engine := by
  revert e
  decide

/-- A key whose entries are filtered out reads the default. -/
theorem look_filter_out {α : Type} (m : List (Nat × α)) (k : Nat) (d : α) {p : Nat × α → Bool} (h : ∀ v, p (k, v) = false) :
    look (m.filter p) k d = d := by
  induction m with
  | nil => rfl
  | cons q t ih =>
    obtain ⟨j, v⟩ := q
    by_cases hq : p (j, v) = true
    · have hj : j ≠ k := by
        rintro rfl
        simp [h v] at hq
      simpa [List.filter_cons_of_pos hq, look, hj] using ih
    · rwa [List.filter_cons_of_neg hq]

/-- A register that a reset covers reads its reset value. -/
theorem Block.get_resetRegs (p : Nat → Bool) (k : ResetKind → Bool) (f : Fld) (d : RegDesc) (hp : p f.addr = true)
    (hd : Regs.find f.addr = some d) (hk : k d.kind = true) (hlo : f.lo < 32) : (b.resetRegs p k).get f = f.reset := by
  have ha : f.key / 32 = f.addr := by unfold Fld.key; omega
  exact look_filter_out _ _ _ (fun v => by simp [ha, hp, hd, hk])

@[simp] theorem Block.clearBlk_regs (n : Nat) : (b.clearBlk n).regs = b.regs := rfl

@[simp] theorem Block.countCut_regs (e : Nat) (t : PhyTx) : (b.countCut e t).regs = b.regs :=
  b.foldl_keeps Block.regs (fun c _ => c.count_regs ..) (b.count_regs ..)

@[simp] theorem Block.clearSets_regs (l : List CntSet) : (l.foldl (fun b c => b.clearSet c) b).regs = b.regs :=
  b.foldl_keeps Block.regs (fun _ _ => rfl) rfl

/-- An ENGINE reset leaves the engine in RESET (R14, R16). -/
theorem Block.engReset_est (e : Fin 12) : (b.engReset e.val).est e.val = stReset := by
  obtain ⟨d, hd, hk⟩ := engStatus_kind e
  have hp : engineRegs e.val (R.ENG_STATUS e.val) = true := by
    clear hd hk
    revert e
    decide
  have hreset (c : Block) : (c.resetRegs (engineRegs e.val) (fun k => k == .engine)).est e.val = stReset :=
    c.get_resetRegs _ _ (F.ENG_STATUS.STATE e.val) d hp hd (by rw [hk]; rfl) (Nat.zero_lt_succ 31)
  unfold Block.engReset
  dsimp only
  generalize (if 5 ≤ e.val ∧ e.val ≤ 7 then (Block.phyAt _ (lmRadio e.val)).tx else none) = cut
  generalize (if e.val = 9 then Block.feBoundary _ 3 else _) = c
  refine (Block.get_congr ?_ _).trans (hreset c)
  cases cut with
  | none => simp [apply_ite Block.regs]
  | some t => simp [apply_ite Block.regs]

/-! ### The commands of resets -/

theorem bitsSet_one (e : Fin 12) : bitsSet 12 (2 ^ e.val) = [e.val] := by
  revert e
  decide

theorem bitsSet_six_one (n : Fin 6) : bitsSet 6 (2 ^ n.val) = [n.val] := by
  revert n
  decide

theorem word_one_engine (e : Fin 12) : (BitVec.ofNat 32 (2 ^ e.val)).toNat % 2 ^ 12 = 2 ^ e.val := by
  revert e
  decide

theorem word_one_section (n : Fin 6) : (BitVec.ofNat 32 (2 ^ n.val)).toNat % 2 ^ 6 = 2 ^ n.val := by
  revert n
  decide

/-- One bit of the mask of TOP_ENG_RESET (R19). -/
theorem Block.engResets_one (e : Fin 12) (h : b.est e.val ≠ stReset) :
    b.engResets (2 ^ e.val) = (b.engReset e.val).resetNote (2 ^ e.val) 0 := by
  have hin : b.inReset e.val = false := by simpa [Block.inReset] using h
  simp [Block.engResets, bitsSet_one, hin, sumNat]

/-- One bit of the mask of TOP_SECT_RESET, that of S3 apart (R19). -/
theorem Block.sectResets_one (n : Fin 6) (h3 : n.val ≠ 3) (h : b.sectBusy n.val = false) :
    b.sectResets (2 ^ n.val) = (b.sectReset n.val).resetNote (2 ^ (16 + n.val)) 1 := by
  simp [Block.sectResets, bitsSet_six_one, h, h3, sumNat]

theorem exec_topEngReset (s : State) (road : Road) (v : Word) (h : s.blk.roadStops road R.TOP_ENG_RESET = none) :
    exec (.topEngReset road v) s = s.next (s.blk.engResets (v.toNat % 2 ^ 12)) :=
  congrArg s.next (s.blk.viaRoad_open road _ v.toNat _ h)

theorem exec_topSectReset (s : State) (road : Road) (v : Word) (h : s.blk.roadStops road R.TOP_SECT_RESET = none) :
    exec (.topSectReset road v) s = s.next (s.blk.sectResets (v.toNat % 2 ^ 6)) :=
  congrArg s.next (s.blk.viaRoad_open road _ v.toNat _ h)

theorem exec_topDevReset (s : State) (road : Road) (v : Word) (h : s.blk.roadStops road R.TOP_DEV_RESET = none) :
    exec (.topDevReset road v) s = s.next (s.blk.devReset s.fuse road v.toNat) :=
  congrArg s.next (s.blk.viaRoad_open road _ v.toNat _ h)

theorem Block.devReset_key (fu : Fuses) (road : Road) :
    b.devReset fu road (0x4B470001 : Word).toNat = b.wideReset fu kindDevice 0 none := rfl

theorem Block.devReset_no_key (fu : Fuses) (road : Road) (v : Nat) (h : v / 2 ^ 16 ≠ 0x4B47) :
    b.devReset fu road v = b.noteWrite road R.TOP_DEV_RESET v := by
  rw [Block.devReset, if_pos (bne_iff_ne.mpr h)]

theorem Block.wideReset_absorbed (fu : Fuses) (k source : Nat) (strap : Option Nat) (h : b.absorbs k = true) :
    b.wideReset fu k source strap = b := by simp [Block.wideReset, h]

theorem Block.wideReset_runs (fu : Fuses) (k source : Nat) (strap : Option Nat) (h : b.absorbs k = false) :
    b.wideReset fu k source strap = b.resetWide fu k source strap := by simp [Block.wideReset, h]

/-- No reset is wider than power-on (R7). -/
theorem Block.absorbs_por : b.absorbs kindPor = false := by simp [Block.absorbs, kindPor]

theorem exec_engineReset_est (s : State) (e : Fin 12) : blockStep (.engineReset e) s (fun b => b.est e.val = stReset) := by
  refine ⟨_, rfl, ?_⟩
  by_cases h : s.blk.inReset e.val = true
  · rw [if_pos h]
    exact beq_iff_eq.mp h
  · rw [if_neg h]
    exact s.blk.engReset_est e

theorem exec_sectionReset (s : State) (n : Fin 6) (h3 : n.val ≠ 3) (h : s.blk.sectBusy n.val = false) :
    exec (.sectionReset n) s = s.next (s.blk.sectReset n.val) := by
  change s.next _ = _
  rw [h, if_neg h3]
  rfl

/-- Settles O3: each clause by the lemma on its command; power-on, brown-out and pin reset by what `resetWide` leaves. -/
theorem resetEffects : Obligations.ResetEffects := by
  refine ⟨fun s road e hr he => ?_, fun s road n h3 hr hb => ?_, fun s road hr ha => ?_, fun s road v hr hv => ?_,
    exec_engineReset_est, fun s n => exec_sectionReset s n, fun s v => ?_, fun s v ha => ?_, fun s v ha => ?_,
    fun s v ha => congrArg s.next (s.blk.wideReset_absorbed _ _ _ _ ha), fun s v ha => congrArg s.next (s.blk.wideReset_absorbed _ _ _ _ ha)⟩
  · rw [exec_topEngReset s road _ hr, word_one_engine, s.blk.engResets_one e he]
  · rw [exec_topSectReset s road _ hr, word_one_section, s.blk.sectResets_one n h3 hb]
  · rw [exec_topDevReset s road _ hr, s.blk.devReset_key, s.blk.wideReset_runs _ _ _ _ ha]
  · rw [exec_topDevReset s road v hr, s.blk.devReset_no_key s.fuse road _ hv]
  · exact ⟨_, congrArg s.next (s.blk.wideReset_runs _ _ _ _ s.blk.absorbs_por),
      s.blk.resetWide_supply s.fuse kindPor v (by decide) _ rfl⟩
  · exact ⟨_, congrArg s.next (s.blk.wideReset_runs _ _ _ _ ha), s.blk.resetWide_supply s.fuse kindBor v (by decide) _ rfl⟩
  · obtain ⟨hkind, hstrap, hplan, hvault, hdram, hnor, hclerk, -, htime⟩ :=
      s.blk.resetWide_strapped s.fuse kindPin v (by decide) _ rfl
    exact ⟨_, congrArg s.next (s.blk.wideReset_runs _ _ _ _ ha), hkind, hstrap, hplan, hvault,
      by rw [hclerk]; rfl, by rw [htime]; rfl, hdram, hnor⟩

/-! ### What no reset alters (R8) -/

theorem Block.newest_congr {b c : Block} (h : c.flash.blks = b.flash.blks) (id : Nat) : c.newest id = b.newest id := by
  unfold Block.newest
  rw [h]

theorem flashAfter_blks (k : Nat) (f : Flash) : (flashAfter k f).blks = f.blks := by
  unfold flashAfter
  split <;> rfl

theorem flashAfter_image (k : Nat) (f : Flash) (h : kindBor < k) : (flashAfter k f).image = f.image := by
  rw [flashAfter, if_neg (Nat.not_le.mpr h)]

/-- Flash blocks as they were, and the tally image too. -/
def Block.sameTallies (b c : Block) : Prop := c.flash.blks = b.flash.blks ∧ c.flash.image = b.flash.image

theorem Block.sameTallies_of_flash {b c : Block} (h : c.flash = b.flash) : b.sameTallies c := by rw [Block.sameTallies, h]; exact ⟨rfl, rfl⟩

theorem Block.wideReset_blks (fu : Fuses) (k source : Nat) (strap : Option Nat) :
    (b.wideReset fu k source strap).flash.blks = b.flash.blks := by
  unfold Block.wideReset
  split
  · rfl
  · rw [b.resetWide_same fu k source strap]
    exact flashAfter_blks k b.flash

theorem Block.wideReset_tallies (fu : Fuses) (k source : Nat) (strap : Option Nat) (h : kindBor < k) :
    b.sameTallies (b.wideReset fu k source strap) := by
  refine ⟨b.wideReset_blks fu k source strap, ?_⟩
  unfold Block.wideReset
  split
  · rfl
  · rw [b.resetWide_same fu k source strap]
    exact flashAfter_image k b.flash h

/-- Command c changes the block alone, and of it neither the flash blocks nor, but for power-on and brown-out, the tally image. -/
def keepsTallies (c : Instr) (s : State) : Prop := blockStep c s (fun b =>
  b.flash.blks = s.blk.flash.blks ∧ ((∀ v, c ≠ .powerOnReset v ∧ c ≠ .brownOut v) → b.flash.image = s.blk.flash.image))

theorem keepsTallies_of_same {c : Instr} {s : State} {b : Block} (h : exec c s = s.next b) (ht : s.blk.sameTallies b) :
    keepsTallies c s := ⟨b, h, ht.1, fun _ => ht.2⟩

theorem keepsTallies_topDevReset (s : State) (hr : s.blk.roadStops .bar0 R.TOP_DEV_RESET = none) :
    keepsTallies (.topDevReset .bar0 0x4B470001) s :=
  keepsTallies_of_same ((exec_topDevReset s _ _ hr).trans (congrArg s.next (s.blk.devReset_key ..)))
    (s.blk.wideReset_tallies _ _ _ _ (by decide))

theorem keepsTallies_powerOnReset (s : State) (v : BitVec 2) : keepsTallies (.powerOnReset v) s :=
  ⟨_, rfl, s.blk.wideReset_blks _ _ _ _, fun h => absurd rfl (h v).1⟩

theorem keepsTallies_brownOut (s : State) (v : BitVec 2) : keepsTallies (.brownOut v) s :=
  ⟨_, rfl, s.blk.wideReset_blks _ _ _ _, fun h => absurd rfl (h v).2⟩

theorem keepsTallies_pinReset (s : State) (v : BitVec 2) : keepsTallies (.pinReset v) s :=
  keepsTallies_of_same rfl (s.blk.wideReset_tallies _ _ _ _ (by decide))

theorem keepsTallies_sectionReset (s : State) (n : Fin 6) : keepsTallies (.sectionReset n) s :=
  keepsTallies_of_same rfl (Block.sameTallies_of_flash (s.blk.ite_flash rfl
    ((Block.sectReset_flash ..).trans (s.blk.ite_flash s.blk.keeperClose_flash rfl))))

theorem keepsTallies_engineReset (s : State) (e : Fin 12) : keepsTallies (.engineReset e) s :=
  keepsTallies_of_same rfl (Block.sameTallies_of_flash (s.blk.ite_flash rfl (s.blk.engReset_flash _)))

/-- Settles O57: every kind of reset `keepsTallies`; the newest record of a tally is read off the blocks, its value off the image. -/
theorem resetsKeepFusesTalliesAndAssay : Obligations.ResetsKeepFusesTalliesAndAssay := by
  intro s c hc hr
  have hk : keepsTallies c s := by
    rcases hc with hc | ⟨v, rfl⟩ | ⟨v, rfl⟩ | ⟨v, rfl⟩ | ⟨n, rfl⟩ | ⟨e, rfl⟩
    · exact List.mem_singleton.mp hc ▸ keepsTallies_topDevReset s hr
    · exact keepsTallies_powerOnReset s v
    · exact keepsTallies_brownOut s v
    · exact keepsTallies_pinReset s v
    · exact keepsTallies_sectionReset s n
    · exact keepsTallies_engineReset s e
  obtain ⟨b, hb, hblks, himage⟩ := hk
  exact ⟨{ s with blk := b }, hb, rfl, rfl, hblks, Block.newest_congr hblks, fun h id => congrArg (look · id 0) (himage h)⟩

end Sys2Proof.Machine
end

section
/-! Writes to registers by their type, and to a live table window (R6, R23 to R25, R331, R535). -/

namespace Sys2Proof.Machine

/-! ### The way of a write to its register -/

theorem exec_registerWrite_open (s : State) (road : Road) (a : Nat) (v : Word) (h : s.blk.roadStops road a = none) :
    exec (.registerWrite road a { value := v }) s = .next (s.spaceWrite road a v.toNat) :=
  congrArg Host.Outcome.next (s.viaRoad_open road a v.toNat (fun s => s.spaceWrite road a v.toNat) h)

theorem State.spaceWrite_register (s : State) (road : Road) (d : RegDesc) (v : Nat) (ha : d.addr % 4 = 0)
    (hlt : d.addr < 0x2000000) (hd : Regs.find d.addr = some d) : s.spaceWrite road d.addr v = s.regWrite road d v := by
  have h1 : ¬ 0x4000000 ≤ d.addr := by omega
  have h2 : ¬ 0x2000000 ≤ d.addr := by omega
  simp [State.spaceWrite, ha, h1, h2, hd]

theorem State.spaceWrite_unassigned (s : State) (road : Road) (a v : Nat) (ha : a % 4 = 0) (hlt : a < 0x2000000)
    (hd : Regs.find a = none) : s.spaceWrite road a v = s.onBlk (fun b => b.noteWrite road a v) := by
  have h1 : ¬ 0x4000000 ≤ a := by omega
  have h2 : ¬ 0x2000000 ≤ a := by omega
  simp [State.spaceWrite, ha, h1, h2, hd]

/-- A register without a rule of its own is written by the types of its fields. -/
theorem exec_registerWrite_plain (s : State) (road : Road) (d : RegDesc) (v : Word) (h : s.blk.roadStops road d.addr = none)
    (ha : d.addr % 4 = 0) (hlt : d.addr < 0x2000000) (hd : Regs.find d.addr = some d)
    (hplain : s.regWrite road d v.toNat = s.onBlk (fun b => b.storeReg road d v.toNat)) :
    exec (.registerWrite road d.addr { value := v }) s = s.next (s.blk.storeReg road d v.toNat) := by
  rw [exec_registerWrite_open s road _ v h, s.spaceWrite_register road d _ ha hlt hd, hplain]
  rfl

/-! ### One register of each type -/

/-- CLERK_COALESCE: RW. -/
def regCoalesce : RegDesc := ⟨R.CLERK_COALESCE, .device, false, false, 0, [F.CLERK_COALESCE.COUNT, F.CLERK_COALESCE.TIME_US]⟩

/-- DROV_QCFG: RW-B of Drover. -/
def regQcfg : RegDesc := ⟨R.DROV_QCFG, .device, true, false, 0, [F.DROV_QCFG.AGE_MS, F.DROV_QCFG.MAX_PPDU_US]⟩

/-- CART_LOFT: RW-H of Carter. -/
def regLoft : RegDesc := ⟨R.CART_LOFT, .device, true, false, 0, [F.CART_LOFT.SIZE_MIB]⟩

/-- TOP_ID: RO. -/
def regTopId : RegDesc := ⟨R.TOP_ID, .never, false, true, 0, [F.TOP_ID.PART, F.TOP_ID.STEP, F.TOP_ID.DRAM]⟩

theorem exec_write_coalesce (s : State) (road : Road) (v : Word) (h : s.blk.roadStops road R.CLERK_COALESCE = none) :
    exec (.registerWrite road R.CLERK_COALESCE { value := v }) s = s.next (s.blk.storeReg road regCoalesce v.toNat) :=
  exec_registerWrite_plain s road regCoalesce v h rfl (by decide) rfl rfl

theorem exec_write_qcfg (s : State) (road : Road) (v : Word) (h : s.blk.roadStops road R.DROV_QCFG = none) :
    exec (.registerWrite road R.DROV_QCFG { value := v }) s = s.next (s.blk.storeReg road regQcfg v.toNat) :=
  exec_registerWrite_plain s road regQcfg v h rfl (by decide) rfl rfl

theorem exec_write_loft (s : State) (road : Road) (v : Word) (h : s.blk.roadStops road R.CART_LOFT = none) :
    exec (.registerWrite road R.CART_LOFT { value := v }) s = s.next (s.blk.storeReg road regLoft v.toNat) :=
  exec_registerWrite_plain s road regLoft v h rfl (by decide) rfl rfl

theorem exec_write_topId (s : State) (road : Road) (v : Word) (h : s.blk.roadStops road R.TOP_ID = none) :
    exec (.registerWrite road R.TOP_ID { value := v }) s = s.next (s.blk.storeReg road regTopId v.toNat) :=
  exec_registerWrite_plain s road regTopId v h rfl (by decide) rfl rfl

/-! ### Shadows -/

theorem find?_shadowIns_same (l : List (Fld × Nat)) (f : Fld) (v : Nat) :
    (shadowIns l f v).find? (fun p => p.1.key == f.key) = some (f, v) := by
  have hlow : (l.filter (fun s => decide (s.1.key < f.key))).find? (fun p => p.1.key == f.key) = none := by
    rw [List.find?_eq_none]
    intro s hs
    have := (List.mem_filter.mp hs).2
    simp only [decide_eq_true_eq] at this
    simp only [beq_iff_eq]
    omega
  simp [shadowIns, hlow]

theorem find?_shadowIns_other (l : List (Fld × Nat)) {f g : Fld} (v : Nat) (h : f.key < g.key) :
    (shadowIns l f v).find? (fun p => p.1.key == g.key) = l.find? (fun p => p.1.key == g.key) := by
  have hlow : (l.filter (fun s => decide (s.1.key < f.key))).find? (fun p => p.1.key == g.key) = none := by
    rw [List.find?_eq_none]
    intro s hs
    have := (List.mem_filter.mp hs).2
    simp only [decide_eq_true_eq] at this
    simp only [beq_iff_eq]
    omega
  have hhigh : (l.filter (fun s => decide (f.key < s.1.key))).find? (fun p => p.1.key == g.key) =
      l.find? (fun p => p.1.key == g.key) := by
    rw [List.find?_filter]
    congr 1
    funext s
    by_cases hs : s.1.key = g.key
    · simp [hs, h]
    · simp [hs]
  have hne : ¬ f.key = g.key := by omega
  simp [shadowIns, hlow, hhigh, hne]

/-! ### Stores by type -/

/-- An RW register is stored. -/
theorem Block.storeReg_coalesce (b : Block) (road : Road) (v : Nat) : b.storeReg road regCoalesce v =
    (b.set F.CLERK_COALESCE.COUNT (v / 2 ^ 16 % 2 ^ 11)).set F.CLERK_COALESCE.TIME_US (v / 2 ^ 0 % 2 ^ 16) := rfl

/-- An RW-B register is put into its shadows, which stay while its engine is busy and reaches no boundary (R6, R29). -/
theorem Block.storeReg_qcfg (b : Block) (road : Road) (v : Nat) (hbusy : b.busyH 4 = true) (hreach : b.reaches 4 = false) :
    b.storeReg road regQcfg v = { b with
      shadows := shadowIns (shadowIns b.shadows F.DROV_QCFG.AGE_MS (v / 2 ^ 16 % 2 ^ 16)) F.DROV_QCFG.MAX_PPDU_US
        (v / 2 ^ 0 % 2 ^ 13) } := by
  have hsettle (l : List (Fld × Nat)) : ({ b with shadows := l } : Block).settleShadows 4 = { b with shadows := l } := by
    have hb : ({ b with shadows := l } : Block).busyH 4 = true := hbusy
    have hr : ({ b with shadows := l } : Block).reaches 4 = false := hreach
    simp [Block.settleShadows, Block.atOnce, hb, hr]
  exact hsettle _

/-- An RW-H register of a busy engine is not stored. -/
theorem Block.storeReg_loft_busy (b : Block) (road : Road) (v : Nat) (h : b.busyH 3 = true) :
    b.storeReg road regLoft v = b.noteWrite road R.CART_LOFT v := by
  have hb : b.busyH (hOwner regLoft.addr) = true := h
  simp only [Block.storeReg, hb]
  rfl

theorem Block.storeReg_loft_idle (b : Block) (road : Road) (v : Nat) (h : b.busyH 3 = false) :
    b.storeReg road regLoft v = b.set F.CART_LOFT.SIZE_MIB (v / 2 ^ 0 % 2 ^ 10) := by
  have hb : b.busyH (hOwner regLoft.addr) = false := h
  simp only [Block.storeReg, hb]
  rfl

/-- An RO register is not stored. -/
theorem Block.storeReg_topId (b : Block) (road : Road) (v : Nat) : b.storeReg road regTopId v = b := rfl

/-! ### Addresses without a register -/

/-- An address without a register is none that has one. -/
theorem ne_of_unassigned {a x : Nat} (ha : Regs.find a = none) (hx : (Regs.find x).isSome = true) : a ≠ x := by
  rintro rfl
  rw [ha] at hx
  cases hx

theorem Block.readReg_unassigned (fu : Fuses) (b : Block) (a : Nat) (h : Regs.find a = none) : b.readReg fu a = 0 := by
  simp [Block.readReg, h]

theorem phyStatusAt_unassigned (a : Nat) (h : Regs.find a = none) : phyStatusAt a = none := by
  have h0 := ne_of_unassigned h (x := R.PHY_STATUS 0) rfl
  have h1 := ne_of_unassigned h (x := R.PHY_STATUS 1) rfl
  have h2 := ne_of_unassigned h (x := R.PHY_STATUS 2) rfl
  simp [phyStatusAt, h0, h1, h2]

theorem tsfLoAt_unassigned (a : Nat) (h : Regs.find a = none) : tsfLoAt a = none := by
  have h0 := ne_of_unassigned h (x := R.LM_TSF_LO 0) rfl
  have h1 := ne_of_unassigned h (x := R.LM_TSF_LO 1) rfl
  have h2 := ne_of_unassigned h (x := R.LM_TSF_LO 2) rfl
  simp [tsfLoAt, h0, h1, h2]

/-- A read of an address without a register gives 0 and takes nothing (R24). -/
theorem Block.readTakes_unassigned (fu : Fuses) (b : Block) (a : Nat) (h : Regs.find a = none) : b.readTakes fu a = (0, b) := by
  have h0 := ne_of_unassigned h (x := R.CART_TIME_LO) rfl
  have h1 := ne_of_unassigned h (x := R.WATCH_PPS_LO) rfl
  have h2 := ne_of_unassigned h (x := R.CART_TS_HI) rfl
  have h3 := ne_of_unassigned h (x := R.LOCK_LIMIT_FIFO) rfl
  have h4 := ne_of_unassigned h (x := R.CLERK_COPY_DATA7) rfl
  simp [Block.readTakes, b.readReg_unassigned fu a h, phyStatusAt_unassigned a h, tsfLoAt_unassigned a h, h0, h1, h2, h3, h4]

theorem State.busRead_unassigned (s : State) (a : Nat) (ha : a % 4 = 0) (hlt : a < 0x2000000) (h : Regs.find a = none) :
    s.busRead .device a = (0, s) := by
  have ha' : a / 4 * 4 = a := by omega
  have h2 : ¬ 0x2000000 ≤ a := by omega
  simp [State.busRead, ha', Block.roadReads, h2, s.blk.readTakes_unassigned s.fuse a h]

/-! ### A live table of the Carter window -/

/-- The multicast group table (R289). -/
def groupTable : TableDesc := { base := 0x21E0000, size := 2048 * 16, owner := 3, kind := .live, stride := 16 }

theorem tableAt_group (a : Nat) (hl : 0x21E0000 ≤ a) (hh : a < 0x21E8000) : tableAt a = some groupTable := by
  have hskip (t : TableDesc) (l : List TableDesc) (h : t.base + t.size ≤ 0x21E0000) :
      (t :: l).find? (fun t => decide (t.base ≤ a ∧ a < t.base + t.size)) =
        l.find? (fun t => decide (t.base ≤ a ∧ a < t.base + t.size)) :=
    List.find?_cons_of_neg (by simp only [decide_eq_true_eq]; omega)
  simp only [tableAt, tables, List.cons_append]
  rw [hskip, hskip, hskip, hskip, hskip]
  · exact List.find?_cons_of_pos (decide_eq_true ⟨hl, hh⟩)
  all_goals decide

/-- Carter does nothing with an entry of that table. -/
theorem Block.entryWritten_group (b before : Block) (i lo hi : Nat) : b.entryWritten before groupTable i lo hi = b := by
  simp [Block.entryWritten, groupTable]

/-- That table has no hardware-owned byte. -/
theorem Block.tableBytes_group (b : Block) (a v : Nat) : b.tableBytes groupTable false a (bytesLE 4 v) = b.setTab a 4 v := by
  have hrange : List.range (bytesLE 4 v).length = [0, 1, 2, 3] := by rw [length_bytesLE]; rfl
  simp only [Block.tableBytes, groupTable, hrange, List.any_nil, Bool.false_eq_true, if_false]
  rfl

theorem Block.tableWrite_group (b : Block) (a v : Nat) : b.tableWrite groupTable false a (bytesLE 4 v) = b.setTab a 4 v := by
  have hne : (bytesLE 4 v).isEmpty = false := rfl
  simp only [Block.tableWrite, b.tableBytes_group, hne, Bool.false_eq_true, if_false]
  exact List.foldl_fixed' (fun _ => Block.entryWritten_group ..) _

theorem Block.windowWrite_group (b : Block) (road : Road) (a v : Nat) (hl : 0x21E0000 ≤ a) (hh : a < 0x21E8000)
    (hopen : b.windowOpen 3 = true) : b.windowWrite road a v = b.setTab a 4 v := by
  have hown : windowOwner a = some 3 := by
    rw [windowOwner, if_neg (by omega), if_pos (by omega)]
  simp only [Block.windowWrite, hown, hopen, tableAt_group a hl hh]
  exact b.tableWrite_group a v

theorem exec_write_group (s : State) (road : Road) (i : Fin 8192) (v : Word) (hr : s.blk.roadStops road (0x21E0000 + 4 * i.val) = none)
    (hopen : s.blk.windowOpen 3 = true) : exec (.tableWindowWrite road (0x21E0000 + 4 * i.val) { value := v }) s =
      s.next (s.blk.setTab (0x21E0000 + 4 * i.val) 4 v.toNat) := by
  have hi := i.isLt
  generalize ha : 0x21E0000 + 4 * i.val = a at hr ⊢
  have h0 : a % 4 = 0 := by omega
  have h1 : ¬ 0x4000000 ≤ a := by omega
  have h2 : 0x2000000 ≤ a := by omega
  have hspace : s.spaceWrite road a v.toNat = s.onBlk (fun b => b.windowWrite road a v.toNat) := by
    simp [State.spaceWrite, h0, h1, h2]
  have hbus : s.busWrite road a v.toNat = { s with blk := s.blk.setTab a 4 v.toNat } := by
    rw [State.busWrite, s.viaRoad_open road a v.toNat _ hr, hspace, State.onBlk,
      s.blk.windowWrite_group road a v.toNat (by omega) (by omega) hopen]
  change Host.Outcome.next (if 0x2000000 ≤ a then s.busWrite road a v.toNat else s) = _
  rw [if_pos h2, hbus]
  rfl

/-- Settles O4: a lemma for each kind of register, for addresses without one, for the live table and for a counter set. -/
theorem registerAndTableWrites : Obligations.RegisterAndTableWrites := by
  refine ⟨⟨fun s road v hr => ?_, fun s road v hr hbusy hreach => ?_, fun s road v hr hbusy => ?_, fun s road v hr hidle => ?_,
    fun s road v hr => exec_write_topId s road v hr, fun s a v hr => ?_, fun s a v hr ha => ?_⟩,
    ⟨fun s road a v hr ha hlt hd => ?_, fun s a ha hlt hd => s.busRead_unassigned a ha hlt hd⟩, fun s road i v hr hopen => ?_, fun s c => ?_⟩
  · rw [exec_write_coalesce s road v hr, s.blk.storeReg_coalesce, pow_zero, Nat.div_one]
  · have hage : v.toNat / 2 ^ 16 % 2 ^ 16 = v.toNat / 2 ^ 16 := Nat.mod_eq_of_lt (by have := v.isLt; omega)
    refine ⟨_, (exec_write_qcfg s road v hr).trans (congrArg s.next (s.blk.storeReg_qcfg road v.toNat hbusy hreach)), rfl, ?_, ?_⟩
    · simp only [Block.shadow?]
      rw [find?_shadowIns_other _ _ (by decide), find?_shadowIns_same, hage]
      rfl
    · simp only [Block.shadow?]
      rw [find?_shadowIns_same, pow_zero, Nat.div_one]
      rfl
  · rw [exec_write_loft s road v hr, s.blk.storeReg_loft_busy road _ hbusy]
  · rw [exec_write_loft s road v hr, s.blk.storeReg_loft_idle road _ hidle, pow_zero, Nat.div_one]
  · exact congrArg Host.Outcome.next (s.viaRoad_open .bar0 a v.toNat (fun s => s.onBlk (fun b => b.noteWrite .bar0 a v.toNat)) hr)
  · change Host.Outcome.next (if 0x2000000 ≤ a then _ else s) = _
    rw [if_pos ha]
    exact congrArg Host.Outcome.next (s.viaRoad_open .bar0 a v.toNat (fun s => s.onBlk (fun b => b.noteWrite .bar0 a v.toNat)) hr)
  · rw [exec_registerWrite_open s road a v hr, s.spaceWrite_unassigned road a _ ha hlt hd]
    rfl
  · refine ⟨_, exec_write_group s road i v hr hopen, rfl, ?_, fun a ha => ?_⟩
    · exact (readLE_writeBytes ..).trans (Nat.mod_eq_of_lt v.isLt)
    · exact look_writeBytes_other _ _ _ _ _ (by rwa [length_bytesLE])
  · exact ⟨_, rfl, rfl, fun n hn => s.blk.cnt_clearSet c n hn, fun d hd n hn => s.blk.cnt_clearSet_other n hn hd⟩

end Sys2Proof.Machine
end

section
/-! The state after reset (R7, R529). -/

namespace Sys2Proof.Machine

/-- After reset no field is listed, so each reads its reset value (R7). -/
theorem State.reset_get (f : Fld) : State.reset.blk.get f = f.reset := rfl

/-- After reset every engine is in RESET (R14). -/
theorem State.reset_est (e : Nat) : State.reset.blk.est e = stReset := State.reset_get _

/-- Settles O56: the register file is empty, and the memories are those of `Memory.wf_reset`. -/
theorem resetState : Obligations.ResetState := by
  obtain ⟨htabs, hdram, hnor⟩ := Memory.wf_reset
  exact ⟨State.reset_get, rfl, rfl, rfl, rfl, rfl, htabs, hdram, hnor, State.reset_get _, State.reset_get _,
    fun e => .inr (State.reset_est e), rfl⟩

end Sys2Proof.Machine
end

section
/-! The Assay die by itself: what a command leaves of it is a function of the command and of the die (R10, R471, R487). -/

namespace Sys2Proof.Machine

/-! ### The die after a command -/

/-- The die after a command through the calibration port (R488). -/
def Assay.afterCal (a : Assay) (cmd arg : Nat) (data : List Byte) : Assay :=
  if !a.up || !a.sealOpen then a else (a.settleDue.calCmd cmd arg data).die

/-- The die after a frame of the calibration port (R488): one that fails its checks, and a write command not made under an open
seal throughout, leave it. -/
def Assay.afterFrame (a : Assay) (f : List Byte) (openThroughout : Bool) : Assay :=
  let cmd := numAt f 1 1
  let len := numAt f 2 2
  let ok := f.length == len + 10 && numAt f 0 1 == 0xA5 && crc16 ((f.drop 1).take (len + 7)) == numAt f (8 + len) 2
  if !ok || !a.up || !a.sealOpen then a
  else if (cmd = 0x11 ∨ cmd = 0x12 ∨ cmd = 0x13) ∧ !openThroughout then a
  else a.afterCal cmd (numAt f 4 4) ((f.drop 8).take len)

/-- The die after a command that does not go through the Hatch. -/
def dieAfter (c : Instr) (a : Assay) : Assay :=
  match c with
  | .assaySample codes => if a.up then a.sample codes else a
  | .assayPulse => if a.up && decide (0 < a.pulseOwed) then { a with pulseOwed := a.pulseOwed - 1, pulses := a.pulses + 1 } else a
  | .intervalRecord => if a.up && a.recDue then a.interval else a
  | .sealChange openNow => a.sealSet openNow
  | .assaySupplyFail holdup => a.supplyFail holdup
  | .assaySupplyReturn => a.supplyReturn
  | .assayCrystalFault => a.crystalFault
  | .assayCrystalRecovered => a.crystalBack
  | .assayStatus _ => a.afterCal 0x01 0 []
  | .snapshot _ => a.afterCal 0x02 0 []
  | .readRecord _ seq => a.afterCal 0x03 seq []
  | .readLog _ idx => a.afterCal 0x04 idx []
  | .timeSet _ req => a.afterCal 0x05 0 req
  | .readParam _ => a.afterCal 0x10 0 []
  | .writeParam _ block => a.afterCal 0x11 0 block
  | .installKey _ which key => a.afterCal 0x12 which key
  | .setTime _ rtc => a.afterCal 0x13 rtc.toNat []
  | .calibrationFrame octets openThroughout => a.afterFrame octets openThroughout
  | .errorDetected origin code _ item => if origin.val = 22 ∧ a.up then a.flashError code.toNat item else a
  | _ => a

/-- A command that is not one of the die leaves it. -/
theorem dieAfter_of_not_ofAssayDie {c : Instr} (h : ofAssayDie c = false) (a : Assay) : dieAfter c a = a := by
  cases c
  case errorDetected o code lane item =>
    have ho : o.val ≠ 22 := fun he => by simp [ofAssayDie, he] at h
    exact if_neg fun hc => ho hc.1
  case assaySample | assayPulse | intervalRecord | sealChange | assaySupplyFail | assaySupplyReturn | assayCrystalFault |
      assayCrystalRecovered | assayStatus | snapshot | readRecord | readLog | timeSet | readParam | writeParam | installKey |
      setTime | calibrationFrame => cases h
  all_goals rfl

/-- What goes through the Hatch goes to the die. -/
theorem throughHatch_of_not_ofAssayDie {c : Instr} (h : ofAssayDie c = false) : throughHatch c = false := by
  cases c
  case assayStatus | snapshot | readRecord | readLog | timeSet | readParam | writeParam | installKey | setTime => cases h
  all_goals rfl

variable (s : State)

theorem State.ite_assay {c : Prop} [Decidable c] {t u : State} (ht : t.assay = s.assay) (hu : u.assay = s.assay) :
    (if c then t else u).assay = s.assay := by
  split
  · exact ht
  · exact hu

/-! ### Roads, fuses and lifecycle leave the die -/

theorem State.regFuse_assay (road : Road) (v : Nat) : (s.regFuse road v).assay = s.assay := s.ite_assay rfl rfl

theorem State.fuseWrite_assay (road : Road) (v vbat : Nat) : (s.fuseWrite road v vbat).assay = s.assay := s.ite_assay rfl rfl

theorem State.lcCmd_assay (road : Road) (key op vbat secret : Nat) : (s.lcCmd road key op vbat secret).assay = s.assay := by
  unfold State.lcCmd
  split
  · rfl
  split
  · rfl
  split <;> rfl

theorem State.lcWrite_assay (road : Road) (v vbat secret : Nat) : (s.lcWrite road v vbat secret).assay = s.assay :=
  s.ite_assay (s.lcCmd_assay ..) rfl

theorem State.transition_assay (t : Nat) : (s.transition t).assay = s.assay := s.ite_assay rfl (s.ite_assay rfl rfl)

/-- A road adds at most a NOTE record to the effect of a write. -/
theorem State.viaRoad_assay (road : Road) (a v : Nat) (f : State → State) (h : (f s).assay = s.assay) :
    (s.viaRoad road a v f).assay = s.assay := by
  unfold State.viaRoad
  split
  · exact h
  · rfl
  · rfl

theorem State.regWrite_assay (road : Road) (d : RegDesc) (v : Nat) : (s.regWrite road d v).assay = s.assay :=
  s.ite_assay (s.regFuse_assay ..) <| s.ite_assay (s.fuseWrite_assay ..) <| s.ite_assay (State.lcWrite_assay ..) <|
    s.ite_assay rfl <| s.ite_assay rfl <| s.ite_assay rfl <| s.ite_assay rfl rfl

theorem State.spaceWrite_assay (road : Road) (a v : Nat) : (s.spaceWrite road a v).assay = s.assay := by
  unfold State.spaceWrite
  split
  · rfl
  split
  · rfl
  split
  · rfl
  split
  · exact s.regWrite_assay ..
  · rfl

theorem State.busWrite_assay (road : Road) (a v : Nat) : (s.busWrite road a v).assay = s.assay :=
  s.viaRoad_assay _ _ _ _ (s.spaceWrite_assay ..)

theorem State.writeCmd_assay (road : Road) (a v : Nat) (dword : Bool) : (s.writeCmd road a v dword).assay = s.assay :=
  s.ite_assay (s.busWrite_assay ..) (s.ite_assay (s.viaRoad_assay _ _ _ _ rfl) rfl)

theorem State.busRead_assay (road : Road) (a : Nat) : (s.busRead road a).2.assay = s.assay := by
  unfold State.busRead
  dsimp only
  split
  · rfl
  split <;> rfl

theorem State.busReads_assay (road : Road) (a n : Nat) : (s.busReads road a n).2.assay = s.assay := by
  induction n generalizing s a with
  | zero => rfl
  | succ n ih => exact (ih _ _).trans (s.busRead_assay road a)

/-! ### Creosh, the hitching port and the debug port leave the die -/

theorem State.creoshOp_assay (f : State → State) (h : (f s).assay = s.assay) : (s.creoshOp f).assay = s.assay :=
  s.ite_assay h rfl

theorem State.reply_assay (q : CreoshReq) (op status : Nat) (body : List Byte) : (s.reply q op status body).assay = s.assay :=
  s.onBlk_assay _

theorem State.creoshRead_assay (q : CreoshReq) (addr count : Nat) : (s.creoshRead q addr count).assay = s.assay := by
  unfold State.creoshRead
  split
  · rfl
  · exact s.busReads_assay .creosh addr count

theorem State.creoshDwords_assay (a : Nat) (l : List Word) : (s.creoshDwords a l).2.2.assay = s.assay := by
  induction l generalizing s a with
  | nil => rfl
  | cons v t ih =>
    unfold State.creoshDwords
    dsimp only
    split
    · exact s.busWrite_assay ..
    · exact (ih _ _).trans (s.busWrite_assay ..)

theorem State.creoshWrite_assay (q : CreoshReq) (addr : Nat) (l : List Word) : (s.creoshWrite q addr l).assay = s.assay :=
  s.creoshDwords_assay addr l

theorem State.creoshRun_assay (q : CreoshReq) (op : Nat) (body : List Byte) : (s.creoshRun q op body).assay = s.assay := by
  unfold State.creoshRun
  dsimp only
  split
  case h_1 => split; exacts [s.creoshRead_assay .., rfl]
  case h_2 => split; exacts [s.creoshWrite_assay .., rfl]
  case h_5 | h_10 => rfl
  all_goals split <;> rfl

theorem State.creoshChecked_assay (q : CreoshReq) (op : Nat) (octets : List Byte) (len : Nat) :
    (s.creoshChecked q op octets len).assay = s.assay := by
  unfold State.creoshChecked
  dsimp only
  refine s.ite_assay (State.onBlk_assay ..) (s.ite_assay (State.reply_assay ..) ?_)
  split
  · exact State.onBlk_assay ..
  · exact State.creoshRun_assay ..

theorem State.creoshFrame_assay (src vlan sa : Nat) (octets : List Byte) : (s.creoshFrame src vlan sa octets).assay = s.assay :=
  s.ite_assay rfl (s.ite_assay rfl (s.creoshChecked_assay ..))

theorem State.hitchDwords_assay (a : Nat) (l : List Nat) : (s.hitchDwords a l).assay = s.assay := by
  induction l generalizing s a with
  | nil => rfl
  | cons v t ih => exact (ih _ _).trans (s.busWrite_assay .hitch a v)

theorem State.hitchAccess_assay (x : HitchXfer) : (s.hitchAccess x).assay = s.assay := by
  cases x with
  | read addr count => exact State.busReads_assay (s.onBlk Block.hitchCount) .hitch addr count
  | write addr data => exact State.hitchDwords_assay (s.onBlk Block.hitchCount) addr (wholeDwords data)

theorem State.dap_assay (op : DapOp) : (s.dap op).assay = s.assay := by
  cases op with
  | read a => exact s.busRead_assay .dap a
  | write a v => exact s.busWrite_assay ..
  | scanRead a => exact s.ite_assay rfl rfl
  | scanWrite a v => exact s.ite_assay rfl rfl

/-! ### The die's own commands -/

/-- The mirrors are registers: refreshing them leaves the die. -/
@[simp] theorem State.mirror_assay : s.mirror.assay = s.assay := by
  unfold State.mirror
  dsimp only
  split <;> rfl

@[simp] theorem State.onAssay_assay (f : Assay → Assay) : (s.onAssay f).assay = f s.assay := State.mirror_assay _

@[simp] theorem State.calDo_assay (cmd arg : Nat) (data : List Byte) : (s.calDo cmd arg data).assay = s.assay.afterCal cmd arg data := by
  unfold State.calDo Assay.afterCal
  split
  · rfl
  · exact State.mirror_assay _

/-- A command on the port that is not the Hatch is one of the calibration port. -/
theorem State.assayDo_assay {port : AssayIn} (h : (port == .hatch) = false) (cmd arg : Nat) (data : List Byte) :
    (s.assayDo port cmd arg data).assay = s.assay.afterCal cmd arg data := by
  cases port with
  | hatch => cases h
  | cal => exact s.calDo_assay ..

theorem State.calFrame_assay (f : List Byte) (o : Bool) : (s.calFrame f o).assay = s.assay.afterFrame f o := by
  unfold State.calFrame Assay.afterFrame
  dsimp only
  split
  · rfl
  split
  · rfl
  · exact s.calDo_assay ..

theorem exec_rollbackBurn_assay (mv : Nat) : ∃ t, exec (.rollbackBurn mv) s = .next t ∧ t.assay = s.assay := by
  change ∃ t, execRollbackBurn mv s = .next t ∧ t.assay = s.assay
  unfold execRollbackBurn
  dsimp only
  split
  · exact ⟨_, rfl, rfl⟩
  split
  · exact ⟨_, rfl, rfl⟩
  split
  · exact ⟨_, rfl, rfl⟩
  split <;> exact ⟨_, rfl, rfl⟩

theorem exec_bankCopyComplete_assay (o : BankOwner) (n : Fin 16) : ∃ t, exec (.bankCopyComplete o n) s = .next t ∧ t.assay = s.assay := by
  change ∃ t, execBankCopyComplete o n s = .next t ∧ t.assay = s.assay
  unfold execBankCopyComplete
  dsimp only
  split <;> exact ⟨_, rfl, rfl⟩

theorem exec_lifecycleTransition_assay : ∃ t, exec .lifecycleTransition s = .next t ∧ t.assay = s.assay := by
  refine ⟨_, rfl, ?_⟩
  split
  · exact s.transition_assay _
  · rfl

theorem exec_errorDetected_assay (o : Fin 25) (code : BitVec 8) (lane : BitVec 16) (item : Nat) : ∃ t,
    exec (.errorDetected o code lane item) s = .next t ∧ t.assay = dieAfter (.errorDetected o code lane item) s.assay := by
  change ∃ t, execErrorDetected o code lane item s = .next t ∧ t.assay = _
  unfold execErrorDetected dieAfter
  by_cases ho : o.val = 22
  · simp [ho]
  · simp [ho]

/-! ### Every command -/

/-- Every command answers a next state; when it does not go through the Hatch, the die there is `dieAfter` of the die before. -/
theorem exec_assay {c : Instr} (h : throughHatch c = false) : ∃ t, exec c s = .next t ∧ t.assay = dieAfter c s.assay := by
  cases c
  case rollbackBurn mv => exact exec_rollbackBurn_assay s mv
  case errorDetected o code lane item => exact exec_errorDetected_assay s o code lane item
  case bankCopyComplete o n => exact exec_bankCopyComplete_assay s o n
  case registerWrite => exact ⟨_, rfl, s.writeCmd_assay ..⟩
  case tableWindowWrite => exact ⟨_, rfl, s.ite_assay (s.writeCmd_assay ..) rfl⟩
  case ringCtrlEnable | ledgerTailWrite | ledgerCfgWrite | done => exact ⟨_, rfl, s.busWrite_assay ..⟩
  case copyDataRead => exact ⟨_, rfl, s.busRead_assay ..⟩
  case regFuseWrite => exact ⟨_, rfl, s.viaRoad_assay _ _ _ _ (s.regFuse_assay ..)⟩
  case secFuseWrite => exact ⟨_, rfl, s.viaRoad_assay _ _ _ _ (s.fuseWrite_assay ..)⟩
  case genSecret | toMaker | toField | toRetired => exact ⟨_, rfl, s.viaRoad_assay _ _ _ _ (s.lcCmd_assay ..)⟩
  case lifecycleTransition => exact exec_lifecycleTransition_assay s
  case creoshFrame => exact ⟨_, rfl, s.creoshFrame_assay ..⟩
  case creoshRead => exact ⟨_, rfl, s.creoshOp_assay _ (s.creoshRead_assay ..)⟩
  case creoshWrite => exact ⟨_, rfl, s.creoshOp_assay _ (s.creoshWrite_assay ..)⟩
  case creoshLedger | creoshDone | creoshPiece | creoshGait | creoshReset | creoshSend | armKey =>
    exact ⟨_, rfl, s.creoshOp_assay _ rfl⟩
  case registerAccess => exact ⟨_, rfl, s.hitchAccess_assay ..⟩
  case dapAccess => exact ⟨_, rfl, s.ite_assay (s.dap_assay ..) rfl⟩
  case alert => exact ⟨_, rfl, s.mirror_assay⟩
  case assayPulse => exact ⟨_, rfl, apply_ite State.assay ..⟩
  case assaySample | intervalRecord | sealChange | assaySupplyFail | assaySupplyReturn | assayCrystalFault |
      assayCrystalRecovered => exact ⟨_, rfl, s.onAssay_assay _⟩
  case assayStatus | snapshot | readRecord | readLog | timeSet | readParam | writeParam | installKey | setTime =>
    exact ⟨_, rfl, s.assayDo_assay h ..⟩
  case calibrationFrame => exact ⟨_, rfl, s.calFrame_assay ..⟩
  all_goals exact ⟨_, rfl, rfl⟩

/-- The same of the state that a command answers. -/
theorem assay_of_exec {c : Instr} {s t : State} (hc : throughHatch c = false) (h : exec c s = .next t) :
    t.assay = dieAfter c s.assay := by
  obtain ⟨u, hu, ha⟩ := exec_assay s hc
  rw [h] at hu
  cases hu
  exact ha

/-- Settles O60: the die after a command is `dieAfter` of the die before, which is the die itself for a command not its own. -/
theorem assayDieIsItsOwn : Obligations.AssayDieIsItsOwn := by
  refine ⟨fun c s t hc h => ?_, fun c s s' t t' hc hs h h' => ?_⟩
  · rw [assay_of_exec (throughHatch_of_not_ofAssayDie hc) h, dieAfter_of_not_ofAssayDie hc]
  · rw [assay_of_exec hc h, assay_of_exec hc h', hs]

end Sys2Proof.Machine
end

section
/-! The banks of a table (R26, R27): what a switch does to ACTIVE, what a copy does to the bytes. -/

namespace Sys2Proof.Machine

/-! ### A bit turned over -/

/-- Turning bit n over works on the part of the number above its n lowest bits. -/
theorem setBit_flip (n q r : Nat) (hr : r < 2 ^ n) :
    setBit (2 ^ n * q + r) n (!bitOf (2 ^ n * q + r) n) = 2 ^ n * (q ^^^ 1) + r := by
  have hdiv : (2 ^ n * q + r) / 2 ^ n = q := by
    rw [Nat.mul_add_div (Nat.two_pow_pos n), Nat.div_eq_of_lt hr, Nat.add_zero]
  have hbit : bitOf (2 ^ n * q + r) n = (q % 2 == 1) := by rw [bitOf, Nat.shiftRight_eq_div_pow, hdiv]
  rcases Nat.even_or_odd q with hq | hq
  · have hb : bitOf (2 ^ n * q + r) n = false := by rw [hbit, Nat.even_iff.mp hq]; rfl
    rw [Nat.xor_one_of_even hq, setBit, hb, Nat.mul_add, Nat.mul_one]
    simp only [Bool.not_false, if_true, Bool.false_eq_true, if_false]
    omega
  · obtain ⟨k, rfl⟩ := hq
    have hb : bitOf (2 ^ n * (2 * k + 1) + r) n = true := by rw [hbit, Nat.odd_iff.mp ⟨k, rfl⟩]; rfl
    rw [Nat.xor_one_of_odd ⟨k, rfl⟩, setBit, hb, Nat.add_sub_cancel, Nat.mul_add, Nat.mul_one]
    simp only [Bool.not_true, Bool.false_eq_true, if_true, if_false]
    omega

theorem testBit_setBit_flip (v n m : Nat) : (setBit v n (!bitOf v n)).testBit m = (v.testBit m ^^ decide (n = m)) := by
  have hr := Nat.mod_lt v (Nat.two_pow_pos n)
  have hv := Nat.div_add_mod v (2 ^ n)
  generalize v / 2 ^ n = q at hv
  generalize v % 2 ^ n = r at hv hr
  subst hv
  rw [setBit_flip n q r hr, Nat.testBit_two_pow_mul_add _ hr, Nat.testBit_two_pow_mul_add _ hr]
  by_cases h : m < n
  · simp [h, show n ≠ m by omega]
  · have hone : Nat.testBit 1 (m - n) = decide (0 = m - n) := Nat.testBit_two_pow (n := 0)
    simp [h, hone, show n = m ↔ 0 = m - n by omega]

/-! ### A switch -/

theorem activeFld_width (owner : Nat) : (activeFld owner).width = 16 := by
  unfold activeFld
  split
  · rfl
  split <;> rfl

/-- ACTIVE of table n is bit n of its owner's field. -/
theorem Block.active_eq (b : Block) (owner n : Nat) : b.active owner n = ((b.get (activeFld owner)).testBit n).toNat := by
  rw [Nat.toNat_testBit, ← Nat.shiftRight_eq_div_pow]
  rfl

@[simp] theorem Block.bankOp_setBankOp_none (b : Block) (owner n : Nat) : (b.setBankOp owner n none).bankOp owner n = none := by
  have hnone : (b.eng.ops.filter (fun q => !(q.owner == owner && q.table == n))).find?
      (fun q => q.owner == owner && q.table == n) = none := by
    rw [List.find?_eq_none]
    exact fun q hq => Bool.eq_false_iff.mp ((Bool.not_eq_true' _).mp (List.mem_filter.mp hq).2)
  simpa [Block.bankOp, Block.setBankOp] using hnone

/-- A switch with no copy behind it turns one bit of ACTIVE over and ends the operation; that of a PHY table also judges the
profiles it brings. -/
theorem Block.switchBank_eq {b : Block} {owner n : Nat} {q : BankOp} (ho : owner ≠ 12) (hq : b.bankOp owner n = some q)
    (hs : q.switch = true) (hc : q.copy = false) : b.switchBank owner n =
      (b.set (activeFld owner) (setBit (b.get (activeFld owner)) n (!bitOf (b.get (activeFld owner)) n))).setBankOp owner n none := by
  simp [Block.switchBank, hq, hs, hc, ho]

theorem Block.active_flip (b : Block) (owner n m : Nat) (hm : m < 16) :
    (b.set (activeFld owner) (setBit (b.get (activeFld owner)) n (!bitOf (b.get (activeFld owner)) n))).active owner m =
      if n = m then 1 - b.active owner n else b.active owner m := by
  rw [Block.active_eq, Block.get_set_same, activeFld_width, Nat.testBit_mod_two_pow, testBit_setBit_flip, b.active_eq, b.active_eq]
  by_cases h : n = m
  · subst h
    cases (b.get (activeFld owner)).testBit n <;> simp [hm]
  · simp [hm, h]

/-! ### A copy -/

/-- The cells of l put into m at g of their addresses. -/
def putCells (g : Nat → Nat) (l m : List Host.Cell) : List Host.Cell := l.foldl (fun m c => put m (g c.1) c.2 0) m

theorem putCells_wf (g : Nat → Nat) (l m : List Host.Cell) (h : mapWf m 0 = true) : mapWf (putCells g l m) 0 = true := by
  induction l generalizing m with
  | nil => exact h
  | cons c t ih => exact ih _ (mapWf_put m _ _ 0 h)

/-- An address that is g of none of theirs reads as before. -/
theorem look_putCells_other (g : Nat → Nat) (l m : List Host.Cell) (a : Nat) (h : ∀ c ∈ l, a ≠ g c.1) :
    look (putCells g l m) a 0 = look m a 0 := by
  induction l generalizing m with
  | nil => rfl
  | cons c t ih => exact (ih _ fun x hx => h x (.tail _ hx)).trans (look_put_other _ _ _ _ (h c (.head _)))

/-- With the cells in canonical form and g one-to-one on them, g k reads what k read. -/
theorem look_putCells (g : Nat → Nat) (l m : List Host.Cell) (k : Nat) (hl : mapWf l 0 = true)
    (hg : ∀ c ∈ l, g c.1 = g k → c.1 = k) : look (putCells g l m) (g k) 0 = look l k (look m (g k) 0) := by
  induction l generalizing m with
  | nil => rfl
  | cons c t ih =>
    obtain ⟨j, v⟩ := c
    obtain ⟨-, hfrom, ht⟩ := (mapWf_cons j v 0 t).mp hl
    by_cases hj : j = k
    · subst hj
      have hlater : ∀ c ∈ t, g j ≠ g c.1 := fun c hc he => by
        have := hg c (.tail _ hc) he.symm
        have := hfrom c hc
        omega
      have := look_putCells_other g t (put m (g j) v 0) (g j) hlater
      simpa [putCells, look] using this
    · have hne : g k ≠ g j := fun he => hj (hg (j, v) (.head _) he.symm)
      have := ih (put m (g j) v 0) ht fun c hc => hg c (.tail _ hc)
      rw [look_put_other _ _ _ _ hne] at this
      simpa [putCells, look, hj] using this

/-- The cells of m at the n addresses from a on. -/
def cellsIn (m : List Host.Cell) (a n : Nat) : List Host.Cell := m.filter (fun c => decide (a ≤ c.1 ∧ c.1 < a + n))

theorem mem_cellsIn {m : List Host.Cell} {a n : Nat} {c : Host.Cell} (h : c ∈ cellsIn m a n) : a ≤ c.1 ∧ c.1 < a + n :=
  of_decide_eq_true (List.mem_filter.mp h).2

theorem cellsIn_wf {m : List Host.Cell} (h : mapWf m 0 = true) (a n : Nat) : mapWf (cellsIn m a n) 0 = true := mapWf_filter _ _ _ h

theorem look_cellsIn (m : List Host.Cell) {a n k : Nat} (d : Byte) (h : a ≤ k ∧ k < a + n) : look (cellsIn m a n) k d = look m k d :=
  (look_filter m (fun k => decide (a ≤ k ∧ k < a + n)) k d).trans (if_pos (decide_eq_true h))

theorem look_clearRange (m : List Host.Cell) (a n k : Nat) :
    look (clearRange m a n) k 0 = if a ≤ k ∧ k < a + n then 0 else look m k 0 := by
  refine (look_filter m (fun k => !decide (a ≤ k ∧ k < a + n)) k 0).trans ?_
  by_cases h : a ≤ k ∧ k < a + n <;> simp [h]

/-- Where a copy puts the byte at address x of the active bank. -/
def copyTo (t : TableDesc) (k x : Nat) : Nat := t.base + bankOff (1 - k) + (x - t.base - bankOff k)

/-- A copy clears the inactive bank and puts the active bank's cells there. -/
theorem Block.copyBank_tabs (b : Block) {owner n : Nat} {t : TableDesc} (h : bankedTable owner n = some t) :
    (b.copyBank owner n).tabs = putCells (copyTo t (b.active owner n)) (cellsIn b.tabs (t.base + bankOff (b.active owner n)) t.size)
      (clearRange b.tabs (t.base + bankOff (1 - b.active owner n)) t.size) := by
  simp only [Block.copyBank, h, List.foldl_map]
  rfl

/-- Settles O6: a switch turns one bit of ACTIVE over (`Block.active_flip`), a copy is `Block.copyBank_tabs`. -/
theorem bankSwitchAndCopyContents : Obligations.BankSwitchAndCopyContents := by
  refine ⟨fun b o n q ho hq hs hc => ?_, fun b owner n t hwf ht => ?_⟩
  · have hne : bankOwner o ≠ 12 := by
      cases o with
      | eng e => exact Nat.ne_of_lt e.isLt
      | phy => exact absurd rfl ho
      | rfc => decide
    rw [Block.switchBank_eq hne hq hs hc]
    refine ⟨(b.active_flip _ _ _ n.isLt).trans (if_pos rfl), fun m hm => ?_, rfl, Block.bankOp_setBankOp_none ..⟩
    exact (b.active_flip _ _ _ m.isLt).trans (if_neg fun he => hm (Fin.ext he.symm))
  · rw [b.copyBank_tabs ht]
    generalize b.active owner n = k
    refine ⟨fun i hi => ?_, fun a ha => ?_, putCells_wf _ _ _ (Memory.wf_clearRange _ _ _ _ hwf)⟩
    · have hto : t.base + bankOff (1 - k) + i = copyTo t k (t.base + bankOff k + i) := by
        unfold copyTo
        omega
      have hin : t.base + bankOff k ≤ t.base + bankOff k + i ∧ t.base + bankOff k + i < t.base + bankOff k + t.size := by omega
      have hinj : ∀ c ∈ cellsIn b.tabs (t.base + bankOff k) t.size,
          copyTo t k c.1 = copyTo t k (t.base + bankOff k + i) → c.1 = t.base + bankOff k + i := fun c hc he => by
        have := mem_cellsIn hc
        unfold copyTo at he
        omega
      rw [hto, look_putCells _ _ _ _ (cellsIn_wf hwf _ _) hinj, look_cellsIn _ _ hin, ← hto, look_clearRange, if_pos (by omega)]
    · have hout : ∀ c ∈ cellsIn b.tabs (t.base + bankOff k) t.size, a ≠ copyTo t k c.1 := fun c hc he => by
        have := mem_cellsIn hc
        unfold copyTo at he
        omega
      rw [look_putCells_other _ _ _ _ hout, look_clearRange, if_neg (by omega)]

end Sys2Proof.Machine
end

section
/-! Bank requests (R26, R27) and the moment they take effect (R29, R30, R88). -/

namespace Sys2Proof.Machine

variable (b : Block) (s : State)

/-! ### One table named in a request -/

/-- A request whose mask names one banked table is about that table. -/
theorem requested_one (owner : Nat) (n : Fin 16) (ht : (bankedTable owner n.val).isSome = true) :
    (bitsSet 16 (BitVec.ofNat 16 (2 ^ n.val)).toNat).filter (fun n => (bankedTable owner n).isSome) = [n.val] := by
  have hmask : bitsSet 16 (BitVec.ofNat 16 (2 ^ n.val)).toNat = [n.val] := by
    clear ht
    revert n
    decide
  rw [hmask]
  exact List.filter_cons_of_pos ht

theorem Block.bankSwitchReq_one (owner : Nat) (n : Fin 16) (ht : (bankedTable owner n.val).isSome = true)
    (hq : b.bankOp owner n.val = none) : b.bankSwitchReq owner (BitVec.ofNat 16 (2 ^ n.val)).toNat =
      (b.setBankOp owner n.val (some { owner := owner, table := n.val, switch := true })).switchNow owner n.val := by
  simp only [Block.bankSwitchReq, requested_one owner n ht, List.foldl_cons, List.foldl_nil, hq, Option.getD_none]

theorem Block.bankCopyReq_one (owner : Nat) (n : Fin 16) (ht : (bankedTable owner n.val).isSome = true)
    (hq : b.bankOp owner n.val = none) : b.bankCopyReq owner (BitVec.ofNat 16 (2 ^ n.val)).toNat =
      (b.copyBank owner n.val).setBankOp owner n.val (some { owner := owner, table := n.val, copy := true }) := by
  simp only [Block.bankCopyReq, requested_one owner n ht, List.foldl_cons, List.foldl_nil, hq]

/-! ### When a switch takes effect -/

/-- Whether a switch waits does not depend on what is requested. -/
@[simp] theorem Block.bankAtOnce_setBankOp (owner n o k : Nat) (q : Option BankOp) :
    (b.setBankOp owner n q).bankAtOnce o k = b.bankAtOnce o k := rfl

@[simp] theorem Block.reaches_setBankOp (owner n e : Nat) (q : Option BankOp) :
    (b.setBankOp owner n q).reaches e = b.reaches e := rfl

theorem Block.switchNow_waits {owner n : Nat} (h : b.bankAtOnce owner n = false) : b.switchNow owner n = b := by
  simp [Block.switchNow, h]

/-- An idle engine that runs without HOLD is at its boundary (R29). -/
theorem Block.switchNow_boundary {e : Nat} (n : Nat) (he : e < 12) (h : b.reaches e = true) : b.switchNow e n = b.boundary e := by
  have hnow : b.bankAtOnce e n = true := by
    rw [Block.bankAtOnce, if_neg (by omega), if_neg (by omega), h, Bool.or_true]
  simp [Block.switchNow, hnow, he, h]

/-! ### The commands -/

theorem exec_bankCopyComplete {o : BankOwner} {n : Fin 16} {q : BankOp} (hq : s.blk.bankOp (bankOwner o) n.val = some q)
    (hc : q.copy = true) (hs : q.switch = false) :
    exec (.bankCopyComplete o n) s = s.next (s.blk.setBankOp (bankOwner o) n.val none) := by
  change execBankCopyComplete o n s = _
  simp only [execBankCopyComplete, hq, hc, hs, Bool.not_false, Bool.and_self, if_true]

/-- An engine that runs or drains, no link MAC, is at its boundary (R28). -/
theorem exec_engineBoundary {e : Fin 12} (he : ¬ (5 ≤ e.val ∧ e.val ≤ 7)) (h : s.blk.busyH e.val = true) :
    exec (.engineBoundary e) s = s.next (s.blk.boundary e.val) := by
  change s.next (if s.blk.busyH e.val then Block.boundary (if 5 ≤ e.val ∧ e.val ≤ 7 then _ else s.blk) e.val else s.blk) = _
  rw [if_pos h, if_neg he]

theorem exec_phyBankSwitch_held {r : Fin 3} (k : Fin 3) (h : s.blk.hold (lmEngine r.val) = true) :
    exec (.phyBankSwitch r k) s = s.next s.blk := congrArg s.next (if_pos h)

theorem exec_phyBankSwitch_free {r : Fin 3} (k : Fin 3) (h : s.blk.hold (lmEngine r.val) = false) :
    exec (.phyBankSwitch r k) s = s.next (s.blk.switchBank 12 (4 * r.val + k.val)) :=
  congrArg s.next (if_neg (Bool.eq_false_iff.mp h))

/-- Settles O5: each clause by the lemma on its command. -/
theorem bankOperations : Obligations.BankOperations := by
  refine ⟨fun s o n ht hq hw => congrArg s.next ?_, fun s e n b ht hq hr hb => congrArg s.next ?_,
    fun s o n ht hq => congrArg s.next (s.blk.bankCopyReq_one _ n ht hq), fun s o n q hq hc hs => exec_bankCopyComplete s hq hc hs,
    fun s e hb he => exec_engineBoundary s (by omega) hb, fun s r k hh => exec_phyBankSwitch_held s k hh,
    fun s r k q hh _ _ => exec_phyBankSwitch_free s k hh⟩
  · exact (s.blk.bankSwitchReq_one _ n ht hq).trans (Block.switchNow_waits _ (by rwa [Block.bankAtOnce_setBankOp]))
  · subst hb
    exact (s.blk.bankSwitchReq_one _ n ht hq).trans (Block.switchNow_boundary _ _ e.isLt (by rwa [Block.reaches_setBankOp]))

end Sys2Proof.Machine
end

section
/-! Gating, STOP, HOLD, boundaries, drains, starts and the release of Watchman (R12 to R18, R29, R30, R55). -/

namespace Sys2Proof.Machine

variable (b : Block) (s : State)

/-! ### TOP_ENG_GATE -/

theorem exec_topEngGateWrite {road : Road} (v : Word) (h : s.blk.roadStops road R.TOP_ENG_GATE = none) :
    exec (.topEngGateWrite road v) s = s.next (s.blk.gateWrite s.fuse v.toNat) :=
  congrArg s.next (s.blk.viaRoad_open road _ v.toNat _ h)

/-- A gating that breaks no dependency is settled on a block that holds its bits (R17). -/
theorem Block.gateWrite_ok (fu : Fuses) {v : Nat} (h : gateOffence v = none) :
    ∃ c : Block, b.gateWrite fu v = c.settleAll fu ∧ c.get F.TOP_ENG_GATE.GATE = bitsOf v 10 3 := by
  simp only [Block.gateWrite, h]
  refine ⟨_, rfl, (b.get_set_same F.TOP_ENG_GATE.GATE _).trans ?_⟩
  rw [Nat.mul_div_cancel _ (by decide), bitsOf]
  exact Nat.mod_mod _ _

/-- One that breaks a dependency leaves its NOTE record alone (R18). -/
theorem Block.gateWrite_offence (fu : Fuses) {v d x : Nat} (h : gateOffence v = some (d, x)) :
    b.gateWrite fu v = b.note 16 0 [BitVec.ofNat 8 d, BitVec.ofNat 8 x] := by
  simp only [Block.gateWrite, h]

/-! ### STOP -/

theorem Block.stopWrite_settles (fu : Fuses) {e : Nat} (v : Bool) (he : e ≠ 3) :
    b.stopWrite fu e v = (b.setB (F.ENG_CTRL.STOP e) v).settleAll fu := by
  simp [Block.stopWrite, he]

/-! ### HOLD -/

/-- HOLD and STATE of an engine are fields of two registers. -/
@[simp] theorem Block.est_setHold (e : Nat) (v : Bool) : (b.setB (F.ENG_CTRL.HOLD e) v).est e = b.est e :=
  b.get_set_other _ (by simp only [Fld.key, F.ENG_STATUS.STATE, F.ENG_CTRL.HOLD, fld]; omega)

@[simp] theorem Block.hold_setHold (e : Nat) (v : Bool) : (b.setB (F.ENG_CTRL.HOLD e) v).hold e = v := by
  cases v <;> simp [Block.hold, Block.on, Block.setB, b2n, F.ENG_CTRL.HOLD, fld]

@[simp] theorem Block.runs_setHold (e : Nat) (v : Bool) : (b.setB (F.ENG_CTRL.HOLD e) v).runs e = b.runs e := by
  simp [Block.runs]

@[simp] theorem Block.busyH_setHold (e : Nat) (v : Bool) : (b.setB (F.ENG_CTRL.HOLD e) v).busyH e = b.busyH e := by
  simp [Block.busyH]

@[simp] theorem Block.idle_setHold (e : Nat) (v : Bool) : (b.setB (F.ENG_CTRL.HOLD e) v).idle e = b.idle e := rfl

@[simp] theorem Block.pends_setHold (e : Nat) (v : Bool) : (b.setB (F.ENG_CTRL.HOLD e) v).pends e = b.pends e := rfl

theorem Block.busyH_of_runs {e : Nat} (h : b.runs e = true) : b.busyH e = true := by simp [Block.busyH, h]

/-- Nothing of a busy engine takes effect outside a boundary (R29). -/
theorem Block.atOnce_busy {e : Nat} (he : e < 11) (h : b.busyH e = true) : b.atOnce e = false := by
  rw [Block.atOnce, if_neg (by omega), if_pos (by omega), h]
  rfl

/-- HOLD of a busy engine that reaches no boundary by it is stored (R30). -/
theorem Block.holdWrite_stays {e : Nat} {v : Bool} (he : e < 11) (hb : b.busyH e = true) (hv : v = true ∨ b.idle e = false) :
    b.holdWrite e v = b.setB (F.ENG_CTRL.HOLD e) v := by
  have hnow : (b.setB (F.ENG_CTRL.HOLD e) v).atOnce e = false := Block.atOnce_busy _ he (by simpa using hb)
  have hreach : (b.setB (F.ENG_CTRL.HOLD e) v).reaches e = false := by
    rcases hv with hv | hv <;> simp [Block.reaches, hv]
  simp [Block.holdWrite, Block.settleShadows, hnow, hreach]

/-- HOLD released on an idle engine for which something waits is its boundary (R29, R30). -/
theorem Block.holdWrite_release {e : Nat} (he : e < 11) (hr : b.runs e = true) (hi : b.idle e = true) (hp : b.pends e = true) :
    b.holdWrite e false = (b.setB (F.ENG_CTRL.HOLD e) false).boundary e := by
  have hnow : (b.setB (F.ENG_CTRL.HOLD e) false).atOnce e = false :=
    Block.atOnce_busy _ he (by simpa using b.busyH_of_runs hr)
  have hreach : (b.setB (F.ENG_CTRL.HOLD e) false).reaches e = true := by simp [Block.reaches, he, hr, hi]
  simp [Block.holdWrite, Block.settleShadows, hnow, hreach, hp]

/-! ### Boundaries -/

/-- Counting a boundary leaves HOLD. -/
@[simp] theorem Block.hold_count (e : Nat) : (b.wrap (F.ENG_STATUS.BOUNDARY_COUNT e) 1).hold e = b.hold e := by
  have hkey : (F.ENG_CTRL.HOLD e).key ≠ (F.ENG_STATUS.BOUNDARY_COUNT e).key := by
    simp only [Fld.key, F.ENG_STATUS.BOUNDARY_COUNT, F.ENG_CTRL.HOLD, fld]
    omega
  rw [Block.hold, Block.on, Block.wrap, b.get_set_other _ hkey]
  rfl

/-- A boundary under HOLD only counts (R30). -/
theorem Block.boundary_held {e : Nat} (h : b.hold e = true) : b.boundary e = b.wrap (F.ENG_STATUS.BOUNDARY_COUNT e) 1 := by
  rw [Block.boundary, Block.transfer, b.hold_count, if_pos h]

/-- A boundary without HOLD takes the shadows, then the switches (R28). -/
theorem Block.boundary_free {e : Nat} (h : b.hold e = false) : b.boundary e =
    ((b.wrap (F.ENG_STATUS.BOUNDARY_COUNT e) 1).takeShadows e).switchBanks e (fun _ => true) := by
  rw [Block.boundary, Block.transfer, b.hold_count, if_neg (Bool.eq_false_iff.mp h)]

/-- A link MAC's boundary ends its transmission (log entry 20). -/
theorem exec_engineBoundary_link {e : Fin 12} (he : 5 ≤ e.val ∧ e.val ≤ 7) (h : s.blk.busyH e.val = true) :
    exec (.engineBoundary e) s = s.next ((s.blk.txEnd (lmRadio e.val)).boundary e.val) := by
  change s.next (if s.blk.busyH e.val then Block.boundary (if 5 ≤ e.val ∧ e.val ≤ 7 then _ else s.blk) e.val else s.blk) = _
  rw [if_pos h, if_pos he]

/-! ### Drains -/

theorem Block.drainDone_no_drain (fu : Fuses) {e : Nat} (h : b.est e ≠ stDrain) : b.drainDone fu e = b := if_neg h

theorem Block.drainLate_no_drain {e : Nat} (h : b.est e ≠ stDrain) : b.drainLate e = b := if_neg h

/-- But for the held MPDUs of a link MAC that drains toward OFF, a completed drain is `Block.drainDone` (R14). -/
theorem exec_drainComplete {e : Fin 12} (hlink : ¬ (5 ≤ e.val ∧ e.val ≤ 7) ∨ s.blk.est e.val ≠ stDrain)
    (hpost : e.val = 10 → s.blk.post.events = []) : exec (.drainComplete e) s = s.next (s.blk.drainDone s.fuse e.val) := by
  change execDrainComplete e s = _
  have hheld : ¬ (5 ≤ e.val ∧ e.val ≤ 7 ∧ s.blk.est e.val = stDrain ∧ s.blk.drainTo e.val = stOff ∧ s.blk.runs 3 = true) :=
    fun ⟨h5, h7, hd, _⟩ => hlink.elim (fun h => h ⟨h5, h7⟩) (fun h => h hd)
  have hopen : ¬ (e.val = 10 ∧ (!s.blk.post.events.isEmpty) = true) := fun ⟨h10, h⟩ => by simp [hpost h10] at h
  simp only [execDrainComplete, if_neg hheld, if_neg hopen]

/-- While a tether event is open Post's drain is not over (R239). -/
theorem exec_drainComplete_post (h : s.blk.post.events ≠ []) : exec (.drainComplete 10) s = s.next s.blk := by
  have hopen : (10 : Fin 12).val = 10 ∧ (!s.blk.post.events.isEmpty) = true := ⟨rfl, by simpa using h⟩
  exact congrArg s.next (if_pos hopen)

/-- A drain event of an engine that does not drain changes nothing (log entry 2). -/
theorem exec_drainComplete_no_drain {e : Fin 12} (h : s.blk.est e.val ≠ stDrain) : exec (.drainComplete e) s = s.next s.blk := by
  by_cases hpost : e.val = 10 → s.blk.post.events = []
  · rw [exec_drainComplete s (.inr h) hpost, s.blk.drainDone_no_drain s.fuse h]
  · obtain ⟨he, hev⟩ := Classical.not_imp.mp hpost
    obtain rfl : e = 10 := Fin.ext he
    exact exec_drainComplete_post s hev

/-- A drain that times out toward RUN is an ENGINE reset with its record (R15, R19). -/
theorem Block.drainLate_run {e : Nat} (h : b.est e = stDrain) (hw : b.drainTo e = stRun) :
    b.drainLate e = ((b.engReset e).setB (F.ENG_STATUS.DRAIN_TIMEOUT e) true).resetNote (2 ^ e) 2 := by
  simp [Block.drainLate, h, hw, stRun, stStop, stOff]

/-- One toward STOP or OFF also keeps where it leads (R15). -/
theorem Block.drainLate_away {e w : Nat} {c : Block} (h : b.est e = stDrain) (hw : b.drainTo e = w) (hs : w = stStop ∨ w = stOff)
    (hc : c = (b.engReset e).setB (F.ENG_STATUS.DRAIN_TIMEOUT e) true) :
    b.drainLate e = ({ c with eng := { c.eng with r15 := put' c.eng.r15 e w } } : Block).resetNote (2 ^ e) 2 := by
  subst hw hc
  simp only [Block.drainLate, if_pos h, if_pos hs]

/-! ### Releases and starts -/

/-- Watchman is held by no wide reset: it leaves RESET for RUN (R15). -/
theorem Block.release_watchman (fu : Fuses) (h : b.est 11 = stReset) : b.release fu 11 =
    ({ b with eng := { b.eng with r15 := b.eng.r15.filter (fun x => x.1 != 11)
                                  sect := b.eng.sect.filter (· != sectionOf 11) } } : Block).setEst 11 stRun := by
  simp [Block.release, Block.inReset, Block.wideHolds, h]

/-- An engine out of RESET, or held by a wide reset, is not released (R51, R54). -/
theorem Block.release_none (fu : Fuses) {e : Nat} (h : b.est e ≠ stReset ∨ b.wideHolds e = true) : b.release fu e = b := by
  refine if_pos ?_
  rcases h with h | h <;> simp [Block.inReset, h]

/-- With no run to reapply a start not held back goes on (R14, R55). -/
theorem Block.runReapply_none (fu : Fuses) {e : Nat} (ok : Bool) (hpost : e ≠ 10) (h : b.est e = stStart) (h0 : b.est 0 = stRun)
    (hheld : b.startHeld e = false) (hrun : b.ost.runs.find? (fun r => r.engine == e) = none) :
    b.runReapply fu e ok = b.startDone fu e := by
  simp [Block.runReapply, h, h0, hheld, hrun, hpost]

/-- Settles O2: each clause by the lemma on its operation. -/
theorem engineControlEffects : Obligations.EngineControlEffects := by
  refine ⟨fun s road v hr hg => ?_, fun s road v d x hr hg => ?_, fun s e v he => congrArg s.next (s.blk.stopWrite_settles _ v he),
    fun s e v he hb hv => congrArg s.next (s.blk.holdWrite_stays (by omega) hb hv),
    fun s e he hr hi hp => congrArg s.next (s.blk.holdWrite_release (by omega) hr hi hp),
    fun s e he hb hh => ?_, fun s e he hb hh => ?_, fun s e he hb => exec_engineBoundary_link s he hb,
    fun s e hd => ⟨exec_drainComplete_no_drain s hd, congrArg s.next (s.blk.drainLate_no_drain hd)⟩,
    fun s e he hp => exec_drainComplete s (.inl he) hp, exec_drainComplete_post,
    fun s e hd hw => congrArg s.next (s.blk.drainLate_run hd hw),
    fun s e w b hd hw hs hb => congrArg s.next (s.blk.drainLate_away hd hw hs hb), fun s b h hb => ?_,
    fun s e h => congrArg s.next (s.blk.release_none _ h),
    fun s e h10 hst h0 hheld hrun ok => congrArg s.next (s.blk.runReapply_none _ ok h10 hst h0 hheld hrun)⟩
  · obtain ⟨c, hc, hget⟩ := s.blk.gateWrite_ok s.fuse hg
    exact ⟨c, by rw [exec_topEngGateWrite s v hr, hc], hget⟩
  · rw [exec_topEngGateWrite s v hr, s.blk.gateWrite_offence s.fuse hg]
  · rw [exec_engineBoundary s he hb, s.blk.boundary_held hh]
  · rw [exec_engineBoundary s he hb, s.blk.boundary_free hh]
  · subst hb
    exact congrArg s.next (s.blk.release_watchman s.fuse h)

end Sys2Proof.Machine
end

section
/-! The start sequence, step by step (R36, R37, R43, R47, R48, R51 to R54, R61, R468, R469). -/

namespace Sys2Proof.Machine

variable (b : Block) (fu : Fuses)

/-! ### The step and the registers it stands among -/

theorem Block.ostStep_setStep {n : Nat} (h : n < 16) : (b.setStep n).ostStep = n :=
  (b.get_set_same F.OST_START_STATUS.STEP n).trans (Nat.mod_eq_of_lt h)

theorem Block.get_setStep {f : Fld} (n : Nat) (h : f.key ≠ F.OST_START_STATUS.STEP.key) : (b.setStep n).get f = b.get f :=
  b.get_set_other n h

theorem Block.get_updOst (g : Ostler → Ostler) (f : Fld) : (b.updOst g).get f = b.get f := rfl

/-- Rails are no step. -/
theorem Block.ostStep_setRails (v : Nat) : (b.setRails v).ostStep = b.ostStep :=
  b.get_set_other (f := F.WATCH_POWER_STATUS.PMIC_EN) v (by decide)

/-! ### Steps 1 and 2 -/

/-- Reading VBAT changes its own field alone. -/
theorem Block.get_vbatRead (mv : Nat) {f : Fld} (h : f.key ≠ F.WATCH_POWER_STATUS.VBAT_MV.key) :
    (b.vbatRead mv).get f = b.get f := by
  unfold Block.vbatRead
  dsimp only
  split
  · exact b.get_set_other _ h
  · exact b.get_set_other _ h

theorem Block.endSession_lc : b.endSession.sec.lc = b.sec.lc := by
  unfold Block.endSession
  dsimp only
  split
  · rw [Block.debugRec, (Block.ledgerOnly_event ..).1]
    rfl
  · rfl

/-- Step 2 reads the lifecycle off the fuses (R417). -/
theorem Block.readLifecycle_lc : (b.readLifecycle fu).sec.lc = fu.lifecycle := by
  unfold Block.readLifecycle
  dsimp only [Block.updSec_sec]
  split
  · rw [Block.endSession_lc]
    rfl
  · rfl

/-- Outside RETIRED steps 1 and 2 leave the Pony in HP and the lifecycle read (R51). -/
theorem Block.startBegin_reads (mv : Nat) (hplan : b.watch.plan = 7) (hstep : b.ostStep = 1) (hhold : b.sec.hold = false)
    (hlc : fu.lifecycle ≠ 4) :
    ∃ c : Block, b.startBegin fu mv = c.readLifecycle fu ∧ c.ostStep = 2 ∧ c.get F.WATCH_POWER_STATUS.PONY_HP = 1 := by
  unfold Block.startBegin
  rw [if_neg (by simp [hplan, hstep, hhold])]
  dsimp only
  rw [if_neg (by rwa [Block.readLifecycle_lc])]
  refine ⟨_, rfl, Block.ostStep_setStep _ (by decide), ?_⟩
  have hready : ((b.set F.WATCH_POWER_STATUS.PONY_HP 1).set F.WATCH_POWER_STATUS.PONY_READY 1).get
      F.WATCH_POWER_STATUS.PONY_HP = 1 :=
    (Block.get_set_other _ _ (by decide)).trans (b.get_set_same F.WATCH_POWER_STATUS.PONY_HP 1)
  rw [Block.get_setStep _ _ (by decide), Block.get_updOst, Block.get_vbatRead _ _ (by decide)]
  split
  · rw [Block.get_setEst_11 _ _ _ (by decide), hready]
  · exact hready

/-! ### Step 3 -/

/-- A scan that finds every header and every unit readable leads to the Saddle die (R441, R448). -/
theorem Block.tallyScan_clean (hplan : b.watch.plan = 7) (hstep : b.ostStep = 2) (hlc : b.sec.lc ≠ 4) {c : Block}
    (hc : c = (((b.setStep 3).recoverBlocks none).spoilUnits []).voidSpans) :
    b.tallyScan fu none [] =
      ((if c.get F.TOP_RESET_CAUSE.KIND ≤ kindBor then c.rebuildImage else c).stageRead.countBor).saddleUp fu := by
  subst hc
  unfold Block.tallyScan
  rw [if_neg (by simp [hplan, hstep, hlc])]
  rfl

/-- Discovery without any map fails both slots (R36, R37). -/
theorem Block.norDiscover_mapless {p : NorProbe} {cause : Nat} (hcause : cause = if p.failed || p.err0 || p.err1 then 12 else 1)
    (hstep : b.inStep 3 = true) (hmap : b.ost.map = none) (htried : b.ost.tried = [])
    (h0 : mapOf ((b.norFound p).norBytes 0 64) (b.norFound p).ost.norBytes = none)
    (h1 : mapOf ((b.norFound p).norBytes 0x1000 64) (b.norFound p).ost.norBytes = none) :
    b.norDiscover p = (((b.norFound p).set F.OST_START_STATUS.FAIL_A cause).set F.OST_START_STATUS.FAIL_B cause).updOst
      (fun o => { o with tried := [0, 1] }) := by
  simp only [Block.norDiscover, hstep, hmap, htried, h0, h1, Bool.not_true, Option.isSome_none, List.isEmpty_nil, Bool.or_self,
    Bool.false_eq_true, if_false, ite_self, ← hcause]

/-- The copy of the map at 0, read and valid, is the one taken (R37). -/
theorem Block.norDiscover_map {p : NorProbe} {m : NorMap} (hstep : b.inStep 3 = true) (hmap : b.ost.map = none)
    (htried : b.ost.tried = []) (herr : p.err0 = false)
    (h0 : mapOf ((b.norFound p).norBytes 0 64) (b.norFound p).ost.norBytes = some m) :
    ∃ v, b.norDiscover p = (((b.norFound p).updOst (fun o => { o with map := some m })).setStep 4).setRails v := by
  simp only [Block.norDiscover, hstep, hmap, htried, herr, h0, Bool.not_true, Option.isSome_none, List.isEmpty_nil, Bool.or_self,
    Bool.false_eq_true, if_false]
  exact ⟨_, rfl⟩

/-! ### Step 4 -/

/-- A staging head dealt with is not installed again (R50). -/
theorem Block.install_done (ok : Bool) (hdone : b.ost.headDone = true) (howed : b.ost.headOwed = false) : b.install fu ok = b := by
  unfold Block.install
  cases b.ost.map with
  | none => rfl
  | some m => simp [hdone, howed]

/-- The slot that OST_BOOT names, or the other one after three tries of a trial (R47). -/
def Block.bootSlot (b : Block) : Nat :=
  if b.stage ≠ stageExhausted ∧ bitOf (b.tally 1) 1 = true ∧ bitsOf (b.tally 1) 3 2 = 3 then 1 - b.tally 1 % 2 else b.tally 1 % 2

/-- Whatever the choice writes, it ends in step 5 with its slot. -/
theorem Block.slotChoice_boots (hstep : b.step4 = true) (hdone : b.ost.headDone = true) (howed : b.ost.headOwed = false)
    (hroom : b.bootRoom = true) :
    ∃ c : Block, b.slotChoice fu = (c.updOst (fun o => { o with first := b.bootSlot, trying := b.bootSlot })).setStep 5 := by
  simp only [Block.slotChoice, hstep, b.install_done fu true hdone howed, hroom, howed, Bool.not_true, Bool.or_self,
    Bool.false_eq_true, if_true, if_false]
  by_cases hst : b.stage = stageExhausted
  · have hslot : b.bootSlot = b.tally 1 % 2 := if_neg fun h => h.1 hst
    rw [if_pos hst, hslot]
    exact ⟨_, rfl⟩
  rw [if_neg hst]
  by_cases htrial : bitOf (b.tally 1) 1 = true
  · rw [htrial, if_neg (by decide)]
    by_cases htries : bitsOf (b.tally 1) 3 2 = 3
    · have hslot : b.bootSlot = 1 - b.tally 1 % 2 := if_pos ⟨hst, htrial, htries⟩
      rw [if_pos htries, hslot]
      exact ⟨_, rfl⟩
    · have hslot : b.bootSlot = b.tally 1 % 2 := if_neg fun h => htries h.2.2
      rw [if_neg htries, hslot]
      exact ⟨_, rfl⟩
  · have hslot : b.bootSlot = b.tally 1 % 2 := if_neg fun h => htrial h.2.1
    rw [Bool.eq_false_of_not_eq_true htrial, if_pos (by decide), hslot]
    exact ⟨_, rfl⟩

/-! ### Step 5 -/

/-- Pass 1 keeps facts of an image only without a cause (R52). -/
theorem imgCheck_cause (slot : Nat) (l : List Byte) : (imgCheck fu slot l).1 = 0 ∨ (imgCheck fu slot l).2 = none := by
  unfold imgCheck
  split
  · exact .inr rfl
  split
  · exact .inr rfl
  split
  · exact .inr rfl
  split
  · exact .inr rfl
  split
  · exact .inr rfl
  split
  · exact .inr rfl
  dsimp only
  split
  · exact .inr rfl
  · exact .inl rfl

theorem Block.slotCheck_cause (m : NorMap) (slot : Nat) (ok : Bool) :
    (b.slotCheck fu m slot ok).1 = 0 ∨ (b.slotCheck fu m slot ok).2 = none := by
  unfold Block.slotCheck
  split
  · exact .inr rfl
  split
  · exact .inr rfl
  · exact imgCheck_cause ..

/-- The identifiers taken from a header are no slot (R57). -/
theorem Block.takeIds_first (m : NorMap) (slot : Nat) : (b.takeIds fu m slot).ost.first = b.ost.first := by
  unfold Block.takeIds
  dsimp only
  split
  · rfl
  · rfl

theorem Block.hashJob_ost (n : Nat) : (b.hashJob n).ost = b.ost := by simp [Block.hashJob, Block.lane]

theorem Block.verifyJob_ost (ok : Bool) : (b.verifyJob ok).ost = b.ost := by
  cases ok <;> simp [Block.verifyJob, Block.lane]

/-- The jobs of a signature check are counted by Locksmith and change nothing of Ostler's. -/
theorem Block.slotJobs_ost (m : NorMap) (slot : Nat) : (b.slotJobs fu m slot).ost = b.ost := by
  unfold Block.slotJobs
  dsimp only
  split
  · split
    · unfold Block.sigJobs
      dsimp only
      split
      · rfl
      split
      · exact b.hashJob_ost 64
      · rw [Block.verifyJob_ost, Block.hashJob_ost, Block.hashJob_ost]
    · rfl
  · rfl

/-- A slot of which nothing could be read fails with the cause of its check (R52). -/
theorem Block.passOne_unread {m : NorMap} {c : Nat} (hmap : b.ost.map = some m) (hstep : b.inStep 5 = true)
    (htry : b.ost.tried.contains b.ost.trying = false) (hboot : b.tallyDone 1 = true)
    (hcheck : b.slotCheck fu m b.ost.trying false = (c, none)) :
    b.passOne fu false false = b.slotFail b.ost.trying c := by
  simp only [Block.passOne, hmap, hstep, htry, hboot, hcheck, Bool.not_true, Bool.or_self, Bool.false_eq_true, if_false]

/-- The first slot, read whole, fails with its cause, or leaves the facts of its image and leads on (R52). -/
theorem Block.passOne_read {m : NorMap} {c : Block} (hmap : b.ost.map = some m) (hstep : b.inStep 5 = true)
    (htry : b.ost.tried.contains b.ost.trying = false) (hboot : b.tallyDone 1 = true) (hfirst : b.ost.trying = b.ost.first)
    (hc : c = (b.takeIds fu m b.ost.trying).slotJobs fu m b.ost.trying) :
    b.passOne fu true true = (c.slotCheck fu m b.ost.trying true).2.elim
      (c.slotFail b.ost.trying (c.slotCheck fu m b.ost.trying true).1)
      (fun x => (c.updOst (fun o => { o with img := some x.1, runs := x.2, todo := x.1.records })).setStep
        (if x.1.layout = c.tally 0 % 2 ^ 16 then 7 else 6)) := by
  have hfirst' : b.ost.trying = c.ost.first := by rw [hc, Block.slotJobs_ost, Block.takeIds_first, hfirst]
  have hcause := c.slotCheck_cause fu m b.ost.trying true
  simp only [Block.passOne, hmap, hstep, htry, hboot, Bool.not_true, Bool.or_self, Bool.false_eq_true, if_false, if_true, ← hc]
  generalize c.slotCheck fu m b.ost.trying true = result at hcause ⊢
  obtain ⟨cause, facts⟩ := result
  cases facts with
  | none => simp
  | some x =>
    obtain rfl : cause = 0 := hcause.resolve_right (Option.some_ne_none x)
    simp only [if_pos hfirst', Option.elim_some]
    exact (apply_ite (Block.setStep _) ..).symm

/-! ### Step 6 -/

/-- With its table and room for the whole span a migration ends in its record and step 7 (R468, R469). -/
theorem Block.migrate_room {f : ImgFacts} {old : Nat} {rs : List MigRec} (himg : b.ost.img = some f) (hstep : b.inStep 6 = true)
    (htable : f.migration.find? (fun x => x.1 == b.tally 0 % 2 ^ 16) = some (old, rs)) (hstage : b.stage = 0)
    (hroom : 3 * 17 + rs.length + b.flash.queue.length * 17 ≤ b.freeUnits) :
    ∃ c : Block, b.migrate = (c.updateRec 3 (c.tally 18) c.installed).setStep 7 ∧ c.get F.OST_START_STATUS.MIGRATED = 1 := by
  have hwrites : ((rs.map (fun r => (r.dst, b.migValue r))).filter (fun w => b.tally w.1 != w.2)).length ≤ rs.length :=
    (List.length_filter_le _ _).trans (List.length_map _).le
  simp only [Block.migrate, himg, hstep, htable, hstage, Bool.not_true, Bool.false_eq_true, if_false, ne_eq, not_true_eq_false]
  rw [if_neg (by omega)]
  exact ⟨_, rfl, (Block.get_count ..).trans (Block.get_set_same ..)⟩

/-- Without a table for the layout of the tallies the slot fails (R468). -/
theorem Block.migrate_tableless {f : ImgFacts} (himg : b.ost.img = some f) (hstep : b.inStep 6 = true)
    (htable : f.migration.find? (fun x => x.1 == b.tally 0 % 2 ^ 16) = none) : b.migrate = b.slotFail f.slot 10 := by
  simp only [Block.migrate, himg, hstep, htable, Bool.not_true, Bool.false_eq_true, if_false]

/-! ### Step 7 -/

theorem Block.passTwo_step7 {f : ImgFacts} (ok : Bool) (himg : b.ost.img = some f) (hstep : b.inStep 7 = true) :
    b.passTwo fu ok = if ok then b.applyAll fu b.ost.todo else b.passTwoFail f.slot 12 := by
  simp [Block.passTwo, himg, hstep]

/-- A WAIT that runs out (R43): its flags say whether it fails the slot or leaves a NOTE record, whose payload is log entry 109. -/
theorem Block.waitEnd_timeout {f : ImgFacts} {fl a m v t : Nat} {rs : List ImgRec} (himg : b.ost.img = some f)
    (htodo : b.ost.todo = .wait fl a m v t :: rs) (hstep : b.inStep 7 = true) (hwait : b.ost.waitLeft = true) :
    b.waitEnd fu = if b.waitMet fu fl a m v then b.applyAll fu rs
      else if bitOf fl 1 then b.passTwoFail f.slot 11 else (b.note 0 0 (bytesLE 4 a)).applyAll fu rs := by
  simp [Block.waitEnd, himg, htodo, hstep, hwait]

/-! ### Step 8 -/

/-- The rise to WALK begins with what the GAIT record asks for (R51, R397). -/
theorem Block.startRaise_rises {f : ImgFacts} {c d : Block} (himg : b.ost.img = some f) (hstep : b.inStep 8 = true)
    (hc : c = ((((b.set F.WATCH_GAIT_REQ.REQ f.gait).set F.WATCH_GAIT_REQ.RESUME f.gait).set F.WATCH_GAIT_REQ.LMGATE (f.gate / 32)).set
      F.WATCH_GAIT_STATUS.BUSY 1).set F.WATCH_GAIT_STATUS.TARGET 3)
    (hd : d = c.updWatch (fun w => { w with starting := true, gateAsk := decide (f.gait ≤ 1), move := some ⟨4, 3, 0⟩ })) :
    b.startRaise fu = ((List.range 9).foldl (fun b i => if b.est (i + 2) = stStart then b.engineUp fu (i + 2) else b) d).riseStep fu 3 := by
  simp only [Block.startRaise, himg, hstep, Bool.not_true, Bool.false_eq_true, if_false, ← hc, ← hd]

/-! ### The lame state -/

/-- A start that is lost enters the lame state (R61). -/
theorem Block.lameEnter_lost {c d : Block} (hlost : b.startLost = true)
    (hc : c = ((b.set F.OST_START_STATUS.LAME 1).errRecord 0 .fatal 0x84 (bytesLE 1 (b.get F.OST_START_STATUS.FAIL_A) ++
      bytesLE 1 (b.get F.OST_START_STATUS.FAIL_B) ++ bytesLE 1 b.ostStep)).updOst (fun o =>
        { o with runs := [], img := none, subsys := some (o.subsys.getD (0, 0)) }))
    (hd : d = (c.setRails (c.get F.WATCH_POWER_STATUS.PMIC_EN ||| 4)).updWatch (fun w => { w with plan := 5 })) :
    b.lameEnter fu = (((List.range 9).foldl (fun b i => if b.want (i + 2) = stOff then b.enterOff (i + 2)
      else b.enterStart fu (i + 2)) d).settleAll fu).crossSettle := by
  simp only [Block.lameEnter, hlost, Bool.not_true, Bool.false_eq_true, if_false, ← hc, ← hd]

/-- Settles O7: each clause by the lemma on its step. -/
theorem startSequenceSteps : Obligations.StartSequenceSteps := by
  refine ⟨fun s mv hplan hstep hhold hlc => ?_,
    fun s b hplan hstep hlc hb => congrArg s.next (s.blk.tallyScan_clean s.fuse hplan hstep hlc hb),
    fun s p hstep hmap htried h0 h1 => ?_, fun s p m hstep hmap htried herr h0 => ?_, fun s hstep hdone howed hroom => ?_,
    fun s m c hmap hstep htry hboot hcheck => congrArg s.next (s.blk.passOne_unread s.fuse hmap hstep htry hboot hcheck),
    fun s m b hmap hstep htry hboot hfirst hb => congrArg s.next (s.blk.passOne_read s.fuse hmap hstep htry hboot hfirst hb),
    fun s f old rs himg hstep htable hstage hroom => ?_,
    fun s f himg hstep htable => congrArg s.next (s.blk.migrate_tableless himg hstep htable),
    fun s f himg hstep => ⟨congrArg s.next (s.blk.passTwo_step7 s.fuse true himg hstep),
      congrArg s.next (s.blk.passTwo_step7 s.fuse false himg hstep)⟩,
    fun s f fl a m v t rs himg htodo hstep hwait => congrArg s.next (s.blk.waitEnd_timeout s.fuse himg htodo hstep hwait),
    fun s f b c himg hstep hb hc => congrArg s.next (s.blk.startRaise_rises s.fuse himg hstep hb hc),
    fun s b c hlost hb hc => congrArg s.next (s.blk.lameEnter_lost s.fuse hlost hb hc)⟩
  · obtain ⟨c, hc, hcstep, hpony⟩ := s.blk.startBegin_reads s.fuse mv hplan hstep hhold hlc
    exact ⟨c, congrArg s.next hc, hcstep, hpony⟩
  · refine ⟨_, congrArg s.next (s.blk.norDiscover_mapless rfl hstep hmap htried h0 h1), ?_, ?_, rfl⟩
    · rw [Block.get_updOst, Block.get_set_other _ _ (by decide), Block.get_set_same]
      split <;> rfl
    · rw [Block.get_updOst, Block.get_set_same]
      split <;> rfl
  · obtain ⟨v, hv⟩ := s.blk.norDiscover_map hstep hmap htried herr h0
    exact ⟨_, congrArg s.next hv, (Block.ostStep_setRails ..).trans (Block.ostStep_setStep _ (by decide)), rfl⟩
  · obtain ⟨c, hc⟩ := s.blk.slotChoice_boots s.fuse hstep hdone howed hroom
    exact ⟨_, congrArg s.next hc, Block.ostStep_setStep _ (by decide), rfl, rfl⟩
  · obtain ⟨c, hc, hmig⟩ := s.blk.migrate_room himg hstep htable hstage hroom
    exact ⟨c, congrArg s.next hc, hmig⟩

end Sys2Proof.Machine
end

section
/-! Settling of a trial slot (R49) and the burn of the rollback thermometer (R421, R466). -/

namespace Sys2Proof.Machine

variable (b : Block) (s : State)

/-! ### OST_SETTLE -/

theorem exec_ostSettle {road : Road} (v : Word) (h : s.blk.roadStops road R.OST_SETTLE = none) :
    exec (.ostSettle road v) s = s.next (s.blk.ostSettle road v.toNat) :=
  congrArg s.next (s.blk.viaRoad_open road _ v.toNat _ h)

/-- A trial slot settles at step 9; before it the write is remembered (R49). -/
theorem Block.ostSettle_trial (road : Road) {v : Nat} (hkey : v / 2 ^ 16 = 0x5354) (hset : bitOf v 0 = true)
    (htrial : bitOf (b.tally 1) 1 = true) :
    b.ostSettle road v = if b.ostStep = 9 then b.settleSlot else b.updOst (fun o => { o with settleReq := true }) :=
  (if_neg (not_not.mpr hkey)).trans (if_pos (by simp [hset, htrial]))

theorem Block.ostSettle_settled (road : Road) {v : Nat} (hkey : v / 2 ^ 16 = 0x5354) (htrial : bitOf (b.tally 1) 1 = false) :
    b.ostSettle road v = b :=
  (if_neg (not_not.mpr hkey)).trans (if_neg (by simp [htrial]))

/-! ### Automatic settling -/

/-- The image's own settling, 60 s from the instant it is counted from (R49). -/
theorem exec_autoSettle_counted {i : ImgFacts} {t : Nat} (himg : s.blk.ost.img = some i) (hfrom : s.blk.ost.settleFrom = some t)
    (hauto : i.autoSettle = true) (hstep : s.blk.ostStep = 9) (hceil : s.blk.ceil 1 = false) :
    exec .autoSettle s = s.next (if t + 60000000000 ≤ s.blk.ao then s.blk.settleSlot else s.blk) := by
  change execAutoSettle s = _
  simp [execAutoSettle, himg, hfrom, hauto, hstep, hceil]

/-- The FATAL ceiling holds it off (R49). -/
theorem exec_autoSettle_fatal (hceil : s.blk.ceil 1 = true) : exec .autoSettle s = s.next s.blk := by
  change execAutoSettle s = _
  unfold execAutoSettle
  dsimp only
  split
  · simp [hceil]
  · rfl

/-! ### The thermometer -/

/-- Burning the k thermometer bits from bit c on sets those bits and leaves the others. -/
theorem testBit_burnTherm (m : List (Nat × Nat)) (c k w j : Nat) (hj : j < 32) :
    (look (burnTherm m c (c + k)) (4 + w) 0).testBit j =
      ((look m (4 + w) 0).testBit j || decide (c ≤ 32 * w + j ∧ 32 * w + j < c + k)) := by
  rw [burnTherm, Nat.add_sub_cancel_left]
  induction k with
  | zero => simp
  | succ k ih =>
    rw [List.range_succ, List.foldl_append, List.foldl_cons, List.foldl_nil]
    generalize (List.range k).foldl _ m = burned at ih
    have hmore : decide (c ≤ 32 * w + j ∧ 32 * w + j < c + (k + 1)) =
        (decide (c ≤ 32 * w + j ∧ 32 * w + j < c + k) || decide (c + k = 32 * w + j)) := by
      rw [← Bool.decide_or, decide_eq_decide]
      omega
    rw [hmore, ← Bool.or_assoc, ← ih]
    by_cases hw : (c + k) / 32 = w
    · have hbit : (c + k) % 32 = j ↔ c + k = 32 * w + j := by omega
      rw [hw, look_put_same, Nat.testBit_or, Nat.testBit_two_pow, decide_eq_decide.mpr hbit]
    · rw [look_put_other _ _ _ _ (by omega), decide_eq_false (by omega), Bool.or_false]

theorem bitOf_burnTherm (m : List (Nat × Nat)) {c n : Nat} (hn : c ≤ n) (w : Nat) {j : Nat} (hj : j < 32) :
    bitOf (look (burnTherm m c n) (4 + w) 0) j = (bitOf (look m (4 + w) 0) j || decide (c ≤ 32 * w + j ∧ 32 * w + j < n)) := by
  obtain ⟨k, rfl⟩ := Nat.exists_eq_add_of_le hn
  rw [bitOf_eq_testBit, bitOf_eq_testBit, testBit_burnTherm _ _ _ _ _ hj]

/-! ### ROLLBACK_BURN -/

/-- A burn that is owed and allowed waits for 3,000 mV (R421, R466). -/
theorem exec_rollbackBurn_owed {i : ImgFacts} {mv : Nat} (himg : s.blk.ost.img = some i) (hwait : s.blk.ost.burnWait = true)
    (hbelow : s.fuse.rollback < i.rollback) (hmaker : 1 ≤ s.blk.sec.lc) (hreturn : s.blk.sec.lc ≤ 3) :
    exec (.rollbackBurn mv) s = if mv < 3000 then s.next s.blk else
      .next { s with
        blk := (s.blk.updOst (fun o => { o with burnWait := false })).updateRec 5 i.rollback s.blk.installed
        fuse := { s.fuse with sec := burnTherm s.fuse.sec s.fuse.rollback i.rollback } } := by
  have hallowed : ¬ (i.rollback ≤ s.fuse.rollback ∨ (!decide (1 ≤ s.blk.sec.lc ∧ s.blk.sec.lc ≤ 3)) = true) := by
    simp [hmaker, hreturn, hbelow]
  change execRollbackBurn mv s = _
  simp only [execRollbackBurn, himg, hwait, if_neg hallowed, Bool.not_true, Bool.false_eq_true, if_false]

/-- Settles O8: settling by the cases of the write and of the instant, the burn by `bitOf_burnTherm`. -/
theorem settlingAndRollback : Obligations.SettlingAndRollback := by
  refine ⟨fun s road v hroad hkey hset htrial => ?_, fun s road v hroad hkey htrial => ?_,
    fun s i t himg hfrom hauto hstep hceil => exec_autoSettle_counted s himg hfrom hauto hstep hceil, exec_autoSettle_fatal,
    fun s i mv himg hwait hbelow hmaker hreturn hmv => ?_, fun s i mv himg hwait hbelow hmaker hreturn hmv => ?_⟩
  · rw [exec_ostSettle s v hroad, s.blk.ostSettle_trial road hkey hset htrial]
    rfl
  · rw [exec_ostSettle s v hroad, s.blk.ostSettle_settled road hkey htrial]
  · refine ⟨_, _, (exec_rollbackBurn_owed s himg hwait hbelow hmaker hreturn).trans (if_neg (by omega)), rfl, fun k hc hn => ?_,
      fun w k hk hout => ?_⟩
    · rw [bitOf_burnTherm _ hbelow.le _ (Nat.mod_lt k (by decide)), Nat.div_add_mod, decide_eq_true ⟨hc, hn⟩, Bool.or_true]
    · rw [bitOf_burnTherm _ hbelow.le _ hk, decide_eq_false hout, Bool.or_false]
  · exact (exec_rollbackBurn_owed s himg hwait hbelow hmaker hreturn).trans (if_pos hmv)

end Sys2Proof.Machine
end

section
/-! Reception, restart searches, transmission starts and spatial reuse of the PHY (R68, R74 to R84, R91, R251). -/

namespace Sys2Proof.Machine

variable (b : Block) (s : State) (r : Fin 3)

/-! ### The radios' parts -/

theorem nth_upd_same {α : Type} (l : List α) {i : Nat} (f : α → α) (d : α) (h : i < l.length) :
    nth (upd l i f) i d = f (nth l i d) := by
  induction l generalizing i with
  | nil => exact absurd h (Nat.not_lt_zero i)
  | cons x t ih =>
    cases i with
    | zero => rfl
    | succ i => exact ih (Nat.lt_of_succ_lt_succ h)

theorem nth_upd_other {α : Type} (l : List α) {i j : Nat} (f : α → α) (d : α) (h : j ≠ i) :
    nth (upd l i f) j d = nth l j d := by
  induction l generalizing i j with
  | nil => rfl
  | cons x t ih =>
    cases i with
    | zero =>
      obtain ⟨k, rfl⟩ := Nat.exists_eq_succ_of_ne_zero h
      rfl
    | succ i =>
      cases j with
      | zero => rfl
      | succ j => exact ih (fun hij => h (congrArg _ hij))

theorem Block.phyAt_updPhy_same (f : PhyRadio → PhyRadio) (h : b.phy.length = 3) :
    (b.updPhy r.val f).phyAt r.val = f (b.phyAt r.val) :=
  nth_upd_same b.phy f {} (r.isLt.trans_eq h.symm)

theorem Block.phyAt_updPhy_other (f : PhyRadio → PhyRadio) {q : Fin 3} (h : q ≠ r) :
    (b.updPhy r.val f).phyAt q.val = b.phyAt q.val :=
  nth_upd_other b.phy f {} (Fin.val_ne_of_ne h)

/-! ### Detections -/

section
variable {s r} {level : RxLevel} {c : Block} (hc : c = s.blk.measure r.val level.cca)
include hc

/-- Below PD there is no detection (R82). -/
theorem exec_rxDetection_weak (hpd : level.power < c.ccaPd r.val) : exec (.rxDetection r level) s = s.next c := by
  subst hc
  exact congrArg s.next (if_pos hpd)

theorem exec_rxDetection_ready (hpd : c.ccaPd r.val ≤ level.power) (hfree : c.yokeBlanked r.val = false)
    (hfe : c.fe r.val = feReady) : exec (.rxDetection r level) s =
      s.next (((c.count (.phy r) C.PHY.RX_DETECT).setFe r.val feRx).setRx r.val (some { power := level.power })) := by
  subst hc
  exact congrArg s.next ((if_neg hpd.not_gt).trans ((if_neg (ne_true_of_eq_false hfree)).trans (if_pos hfe)))

/-- A detection not yet valid gives way to one that is no weaker (R80). -/
theorem exec_rxDetection_replaces {x : PhyRx} (hpd : c.ccaPd r.val ≤ level.power) (hfree : c.yokeBlanked r.val = false)
    (hfe : c.fe r.val = feRx) (hrx : (c.phyAt r.val).rx = some x) (hinvalid : x.valid = false) (hpower : x.power ≤ level.power) :
    exec (.rxDetection r level) s = s.next
      (((c.count (.phy r) C.PHY.RX_DETECT).count (.phy r) C.PHY.RX_FALSE).setRx r.val (some { power := level.power })) := by
  subst hc
  have hbusy : ¬ feRx = feReady := by decide
  change execRxDetection r level s = _
  simp only [execRxDetection, if_neg hpd.not_gt, hfree, hfe, if_neg hbusy, hrx, hinvalid, hpower, Bool.false_eq_true, if_false,
    Bool.not_false, decide_true, Bool.and_self, if_true]

end

/-! ### One reception -/

theorem exec_rxFalseRelease_invalid {x : PhyRx} (hrx : (s.blk.phyAt r.val).rx = some x) (hinvalid : x.valid = false) :
    exec (.rxFalseRelease r) s = s.next ((s.blk.count (.phy r) C.PHY.RX_FALSE).setRx r.val none) := by
  change execRxFalseRelease r s = _
  simp only [execRxFalseRelease, hrx, hinvalid, Bool.false_eq_true, if_false]

/-- A valid L-SIG is noted in the reception of its radio and nowhere else (R74). -/
theorem exec_lsigValid_received {x : PhyRx} (hrx : (s.blk.phyAt r.val).rx = some x) (hlen : s.blk.phy.length = 3) :
    blockStep (.lsigValid r) s (fun b => (b.phyAt r.val).rx = some { x with valid := true } ∧
      b = { s.blk with phy := b.phy } ∧ ∀ q : Fin 3, q ≠ r → b.phyAt q.val = s.blk.phyAt q.val) := by
  refine ⟨_, rfl, ?_, rfl, fun q hq => s.blk.phyAt_updPhy_other r _ hq⟩
  rw [s.blk.phyAt_updPhy_same r _ hlen]
  exact congrArg (Option.map _) hrx

/-- What is not decoded is counted and deferred to; a restart search ends with it (R68, R75; log entry 152). -/
theorem Block.deferRx_valid {x : PhyRx} (n : Nat) (hrx : (b.phyAt r.val).rx = some x) (hvalid : x.valid = true)
    (hdecoded : x.defer = false) : b.deferRx r.val n =
      (b.count (.phy r) n).updPhy r.val (fun p => { p with rx := some { x with defer := true }, search := none }) := by
  simp only [Block.deferRx, hrx, hvalid, hdecoded, Bool.not_false, Bool.and_self, if_true, Fin.ofNat_val_eq_self]

/-! ### Restart searches -/

/-- A power step of MARGIN or more starts a search (R77). -/
theorem exec_capturePowerStep_decoding {x : PhyRx} (p : Int) (hrx : (s.blk.phyAt r.val).rx = some x) (hvalid : x.valid = true)
    (hdecoded : x.defer = false) (hidle : (s.blk.phyAt r.val).search = none) (hen : s.blk.on (F.PHY_CAPTURE.EN r.val) = true)
    (hrestart : s.blk.on (F.PHY_CAPTURE.RESTART_EN r.val) = true) : exec (.capturePowerStep r p) s = s.next
      (if x.power + (clampTo 3 12 (s.blk.get (F.PHY_CAPTURE.MARGIN r.val)) : Nat) ≤ p then
        s.blk.updPhy r.val (fun q => { q with search := some p }) else s.blk) := by
  change execCapturePowerStep r p s = _
  simp only [execCapturePowerStep, hrx, hvalid, hdecoded, hidle, hen, hrestart, Option.isNone_none, Bool.not_false, Bool.and_self,
    Bool.true_and, decide_eq_true_eq]

theorem exec_captureRestart_searching {p : Int} (hsearch : (s.blk.phyAt r.val).search = some p) :
    exec (.captureRestart r) s = s.next ((((s.blk.count (.phy r) C.PHY.RX_DISPLACED).undoRx r.val).updLm r.val
      (fun l => { l with resp := none })).setRx r.val (some { power := p, valid := true })) := by
  change execCaptureRestart r s = _
  simp only [execCaptureRestart, hsearch]

theorem exec_captureRestartFail_searching {p : Int} (hsearch : (s.blk.phyAt r.val).search = some p) :
    exec (.captureRestartFail r) s = s.next
      ((s.blk.count (.phy r) C.PHY.RX_RESTART_FAIL).updPhy r.val (fun q => { q with search := none })) :=
  congrArg s.next (if_pos (Option.isSome_of_eq_some hsearch))

/-! ### The end of a PPDU -/

section
variable {s r} {x : PhyRx} {tail : RxTail} {m : Block} (rssi : Int) (n : Nat) (hm : m = s.blk.measure r.val tail.cca)
  (hrx : (m.phyAt r.val).rx = some x) (hvalid : x.valid = true)
include hm hrx hvalid

/-- The end of a PPDU deferred to frees the receiver or leaves it to the search. -/
theorem exec_phyRxend_deferred (own : Bool) (hdefer : x.defer = true) : exec (.phyRxend r rssi own n tail) s =
    s.next (m.setRx r.val ((m.phyAt r.val).search.map (fun p => ({ power := p } : PhyRx)))) := by
  subst hm
  change execPhyRxend r rssi own n tail s = _
  simp only [execPhyRxend, hrx, hvalid, hdefer, Bool.not_true, Bool.false_eq_true, if_false, if_true]

/-- The end of an own-BSS PPDU of which no chain's lane counts: counters, LAST_RSSI and one RSSI more (R81, R83). -/
theorem exec_phyRxend_own {c : Block} (hdecoded : x.defer = false) (hchains : tail.chains = 0)
    (hc : c = ((m.count (.phy r) C.PHY.RX_PPDU).count (.phy r) C.PHY.RX_LDPC_FAIL n).set (F.PHY_STATUS.LAST_RSSI r.val)
      (unsignedOf 8 rssi)) : exec (.phyRxend r rssi true n tail) s =
    s.next ((c.updPhy r.val (fun p => { p with rssi := rssi :: p.rssi })).setRx r.val
      ((m.phyAt r.val).search.map (fun p => ({ power := p } : PhyRx)))) := by
  subst hm
  have hnone : ∀ i, bitOf 0 i = false := fun i => by rw [bitOf_eq_testBit, Nat.zero_testBit]
  change execPhyRxend r rssi true n tail s = _
  simp only [execPhyRxend, hrx, hvalid, hdecoded, hchains, hnone, Bool.not_true, Bool.and_false, List.filter_false, List.foldl_nil,
    Bool.false_eq_true, if_false, if_true, ← hc]

end

/-! ### Transmission starts -/

/-- A front end without a calibration step under way has none to abort. -/
theorem Block.calAbort_other {f : Nat} (h : b.fe f ≠ feCal) : b.calAbort f = b :=
  if_neg (by simp [h])

section
variable {s r} {cca : List (Int × Int)} {p : Plan} {c : Block} (hc : c = s.blk.measure r.val cca)
include hc

theorem exec_txStartCommand_planless (hplan : c.committedPlan r.val = none) : exec (.txStartCommand r cca) s = s.next c := by
  subst hc
  change execTxStartCommand r cca s = _
  simp only [execTxStartCommand, hplan]

variable (hplan : c.committedPlan r.val = some p) (htrigger : p.form ≠ .trigger) (hsounding : p.form ≠ .sounding)
include hplan htrigger hsounding

theorem exec_txStartCommand_data : exec (.txStartCommand r cca) s = s.next (c.txStart s.fuse r.val (c.planJob p)) := by
  subst hc
  change execTxStartCommand r cca s = _
  simp only [execTxStartCommand, hplan, beq_eq_false_iff_ne.mpr htrigger, beq_eq_false_iff_ne.mpr hsounding, Bool.or_self,
    Bool.false_eq_true, if_false]

end

theorem Block.txStart_ready (fu : Fuses) (j : TxJob) (hruns : b.runs (lmEngine r.val) = true) (hfe : b.fe r.val = feReady) :
    b.txStart fu r.val j = b.sendPpdu fu r.val j := by
  have hnocal : b.fe r.val ≠ feCal := by rw [hfe]; decide
  unfold Block.txStart
  rw [if_neg (by simp [hruns]), b.calAbort_other hnocal]
  exact if_pos (.inl hfe)

/-- A front end in SETTLE holds the transmission back (R251). -/
theorem Block.txStart_settle (fu : Fuses) (j : TxJob) (hruns : b.runs (lmEngine r.val) = true) (hfe : b.fe r.val = feSettle) :
    b.txStart fu r.val j =
      (b.count (.rfc (Fin.ofNat 4 r.val)) C.RFC.TX_WAITED).updFe r.val (fun e => { e with wifi := some j }) := by
  have hnocal : b.fe r.val ≠ feCal := by rw [hfe]; decide
  unfold Block.txStart
  rw [if_neg (by simp [hruns]), b.calAbort_other hnocal]
  simp only [hfe]
  rfl

/-! ### Spatial reuse -/

theorem exec_obssPpduIgnored_weak {x : PhyRx} {rssi : Int} (hrx : (s.blk.phyAt r.val).rx = some x) (hvalid : x.valid = true)
    (hdecoded : x.defer = false) (hon : s.blk.on (F.PHY_OBSS_LOOP.EN r.val) = true)
    (hweak : 2 * rssi < (s.blk.phyAt r.val).obssHalf) : exec (.obssPpduIgnored r rssi) s =
      s.next (((s.blk.count (.phy r) C.PHY.OBSS_IGNORED).setRx r.val none).updPhy r.val
        (fun p => { p with obssTxop := some (s.blk.phyAt r.val).obssHalf })) := by
  change execObssPpduIgnored r rssi s = _
  simp only [execObssPpduIgnored, hrx, hvalid, hdecoded, hon, hweak, Bool.not_false, decide_true, Bool.and_self, if_true]

theorem exec_obssPdUpdate_off (hoff : s.blk.on (F.PHY_OBSS_LOOP.EN r.val) = false) :
    exec (.obssPdUpdate r) s = s.next (s.blk.updPhy r.val (fun p => { p with rssi := [] })) :=
  congrArg s.next (if_pos (by rw [hoff]; rfl))

theorem clampInt_within {lo hi : Int} (h : lo ≤ hi) (v : Int) : lo ≤ clampInt lo hi v ∧ clampInt lo hi v ≤ hi := by
  unfold clampInt
  split
  · exact ⟨le_rfl, h⟩
  split
  · exact ⟨h, le_rfl⟩
  · omega

/-- Whatever the samples give, the level left is one between the bounds, and the samples are gone (R84, R381). -/
theorem exec_obssPdUpdate_on (hon : s.blk.on (F.PHY_OBSS_LOOP.EN r.val) = true) :
    ∃ (half : Int) (c : Block), exec (.obssPdUpdate r) s = s.next c ∧
      c.phy = (s.blk.updPhy r.val (fun p => { p with obssHalf := half, rssi := [] })).phy ∧
      2 * s.blk.obssMin r.val ≤ half ∧ half ≤ 2 * s.blk.obssMax r.val := by
  have horder : 2 * s.blk.obssMin r.val ≤ 2 * s.blk.obssMax r.val := by
    have := min_le_left (s.blk.obssMax r.val) (clampInt (-82) (-62) (s.blk.getS (F.PHY_OBSS_LOOP.MIN r.val)))
    unfold Block.obssMin
    omega
  refine ⟨_, _, congrArg s.next (if_neg (by rw [hon]; decide)), (apply_ite Block.phy ..).trans (ite_self _), ?_⟩
  split
  · exact clampInt_within horder _
  next hin =>
    split
    · exact clampInt_within horder _
    · simp only [decide_eq_true_eq] at hin
      omega

theorem exec_obssPdUpdate_bounded (hlen : s.blk.phy.length = 3) (hon : s.blk.on (F.PHY_OBSS_LOOP.EN r.val) = true) :
    blockStep (.obssPdUpdate r) s (fun b => (b.phyAt r.val).rssi = [] ∧
      2 * s.blk.obssMin r.val ≤ (b.phyAt r.val).obssHalf ∧ (b.phyAt r.val).obssHalf ≤ 2 * s.blk.obssMax r.val) := by
  obtain ⟨half, c, hexec, hphy, hmin, hmax⟩ := exec_obssPdUpdate_on s r hon
  have hradio : c.phyAt r.val = { s.blk.phyAt r.val with obssHalf := half, rssi := [] } := by
    rw [Block.phyAt, hphy]
    exact s.blk.phyAt_updPhy_same r _ hlen
  exact ⟨c, hexec, by simp only [hradio, hmin, hmax, and_self]⟩

/-! ### Standard power -/

theorem exec_spExpired_now (hen : s.blk.on F.PHY_SP_CTRL.EN = true) (hpast : s.blk.btab 12 2 0x3402000 8 ≤ s.blk.now)
    (hfirst : s.blk.on F.PHY_SP_STATUS.EXPIRED = false) : exec .spExpired s =
      s.next ((s.blk.set F.PHY_SP_STATUS.EXPIRED 1).fire 7 19 (bytesLE 8 (s.blk.btab 12 2 0x3402000 8))) :=
  congrArg s.next (if_pos (by simp [hen, hpast, hfirst]))

/-- Settles O9: each clause by the lemma on its command. -/
theorem phyReceptionAndSpatialReuse : Obligations.PhyReceptionAndSpatialReuse :=
  ⟨⟨fun _ _ _ _ _ hb hpd => exec_rxDetection_weak hb hpd,
    fun _ _ _ _ _ hb hpd hfree hfe => exec_rxDetection_ready hb hpd hfree hfe,
    fun _ _ _ _ _ _ hb hpd hfree hfe hrx hinvalid hpower => exec_rxDetection_replaces hb hpd hfree hfe hrx hinvalid hpower,
    fun s r _ => exec_rxFalseRelease_invalid s r,
    fun s r _ => exec_lsigValid_received s r,
    fun s r _ hrx hvalid hdecoded => ⟨congrArg s.next (s.blk.deferRx_valid r _ hrx hvalid hdecoded),
      congrArg s.next (s.blk.deferRx_valid r _ hrx hvalid hdecoded)⟩,
    fun s r _ p => exec_capturePowerStep_decoding s r p,
    fun s r _ hsearch => ⟨⟨_, rfl, exec_captureRestart_searching s r hsearch⟩, exec_captureRestartFail_searching s r hsearch⟩,
    fun _ _ rssi own n _ _ _ _ hm hrx hvalid => exec_phyRxend_deferred rssi n hm hrx hvalid own,
    fun _ _ rssi n _ _ _ _ hm hrx hvalid hdecoded => exec_phyRxend_own rssi n hm hrx hvalid hdecoded rfl,
    fun s r _ _ => exec_obssPpduIgnored_weak s r⟩,
    fun s r _ _ b hb hplan htrigger hsounding hruns hfe => (exec_txStartCommand_data hb hplan htrigger hsounding).trans
      (congrArg s.next (b.txStart_settle r s.fuse _ hruns hfe)),
    fun s r _ _ b hb hplan htrigger hsounding hruns hfe => (exec_txStartCommand_data hb hplan htrigger hsounding).trans
      (congrArg s.next (b.txStart_ready r s.fuse _ hruns hfe)),
    fun _ _ _ _ => exec_txStartCommand_planless, exec_obssPdUpdate_off, exec_obssPdUpdate_bounded, exec_spExpired_now⟩

end Sys2Proof.Machine
end

section
/-! A list with one element changed, and the part of the block that a link MAC holds. -/

namespace Sys2Proof.Machine

variable (b : Block) (r : Fin 3)

theorem upd_of_fixed {α : Type} (l : List α) {i : Nat} (f : α → α) (d : α) (h : f (nth l i d) = nth l i d) :
    upd l i f = l := by
  induction l generalizing i with
  | nil => rfl
  | cons x t ih =>
    cases i with
    | zero => exact congrArg (· :: t) h
    | succ i => exact congrArg (x :: ·) (ih h)

@[simp] theorem length_upd {α : Type} (l : List α) (i : Nat) (f : α → α) : (upd l i f).length = l.length := by
  induction l generalizing i with
  | nil => rfl
  | cons x t ih =>
    cases i with
    | zero => rfl
    | succ i => exact congrArg (· + 1) (ih i)

/-- A change that leaves a link MAC as it stands changes nothing. -/
theorem Block.updLm_of_fixed {q : Nat} (f : LinkMac → LinkMac) (h : f (b.lmAt q) = b.lmAt q) : b.updLm q f = b :=
  congrArg (fun l => ({ b with lm := l } : Block)) (upd_of_fixed b.lm f {} h)

theorem Block.lmAt_updLm_same (f : LinkMac → LinkMac) (h : b.lm.length = 3) : (b.updLm r.val f).lmAt r.val = f (b.lmAt r.val) :=
  nth_upd_same b.lm f {} (r.isLt.trans_eq h.symm)

end Sys2Proof.Machine
end

section
/-! Provisional MPDUs, verdicts, responses, reorder windows and agreements of the link MACs (R97, R102, R109 to R114). -/

namespace Sys2Proof.Machine

variable (b : Block) (s : State) (r : Fin 3)

/-! ### Provisional MPDUs -/

/-- An unprotected MPDU that is no data takes its cells and is kept, under no agreement and without decryption (R111). -/
theorem Block.mpduStart_unprotected {m : MpduHdr} {x : PhyRx} {c : Block} (hrx : (b.phyAt r.val).rx = some x)
    (hvalid : x.valid = true) (hdecoded : x.defer = false) (hruns : b.runs (lmEngine r.val) = true) (hprot : m.prot = false)
    (hkind : m.kind ≠ 0) (hcells : b.takeCells (cellsFor m.octets) = some c) :
    b.mpduStart r.val m = c.updLm r.val (fun l => { l with
      prov := l.prov ++ [{ id := (c.lmAt r.val).nextId, ppdu := (c.phyAt r.val).rxNo, hdr := m, sta := c.staOf r.val m.ta,
                           agr := none, cells := cellsFor m.octets }]
      nextId := (c.lmAt r.val).nextId + 1 }) := by
  unfold Block.mpduStart
  simp only [hrx, hvalid, hdecoded, hruns, hcells, hprot, if_neg hkind, Bool.not_true, Bool.true_or, Bool.or_self, Bool.false_and,
    Bool.false_eq_true, if_false]
  split <;> rfl

/-! ### Verdicts -/

section
variable {id : Nat} {p : ProvMpdu} (hfind : (b.lmAt r.val).prov.find? (fun p => p.id == id) = some p)
include hfind

/-- A bad FCS undoes the MPDU, whatever its MIC (R112). -/
theorem Block.mpduVerdict_bad_fcs (mic : Bool) : b.mpduVerdict r.val id false mic =
    (b.undoMpdu r.val p).count (.lm (Fin.ofNat 3 r.val)) C.LM.RX_FCS_FAIL := by
  unfold Block.mpduVerdict
  rw [hfind]
  rfl

/-- A good unprotected frame for another BSS, from no known station: the NAV, its cells, one count more (R102, R106, R112). -/
theorem Block.mpduVerdict_stranger (hprot : p.hdr.prot = false) (hsta : p.sta = none) (hbss : p.hdr.bss = none)
    (hkind : p.hdr.kind ≠ 2) : b.mpduVerdict r.val id true true =
      (((((b.updLm r.val (fun l => { l with prov := l.prov.filter (fun q => q.id != id) })).count (.lm (Fin.ofNat 3 r.val))
        C.LM.RX_MPDU_OK).navUpdate r.val p.hdr).freeCells p.cells).count (.lm (Fin.ofNat 3 r.val)) C.LM.RX_UNKNOWN_TA) := by
  simp only [Block.mpduVerdict, hfind, hprot, hsta, hbss, bne_iff_ne.mpr hkind, Bool.not_true, Bool.false_and, Bool.or_self,
    Bool.false_eq_true, if_false, Option.isNone_none, Bool.and_self, if_true]
  rfl

end

/-! ### Responses -/

/-- With no verdict missing nothing is left out of a response: the one owed is sent (R97, R114). -/
theorem exec_responseSend_owed {x : RespOwed} {c : Block} (hresp : (s.blk.lmAt r.val).resp = some x)
    (hprov : (s.blk.lmAt r.val).prov = []) (hruns : s.blk.runs (lmEngine r.val) = true)
    (hc : c = (s.blk.updLm r.val (fun l => { l with resp := none })).count (.lm (Fin.ofNat 3 r.val)) C.LM.RESP_SENT) :
    exec (.responseSend r) s = s.next (c.sendOwn s.fuse r.val x.airKind
      (if x.airKind = 2 then 2 ^ 48 - 1 else (x.parts.head?.map (fun p => p.dst)).getD (2 ^ 48 - 1)) (bitsOf x.rate 9 7)
      (c.respRate r.val x.bss x.rate)
      (if x.airKind = 3 ∨ x.airKind = 0 then .plain else .blockAck (x.parts.map (fun p => s.blk.baPart r.val p)))) := by
  subst hc
  have hkeep : s.blk.updLm r.val (fun l => { l with
      prov := l.prov.map (fun (p : ProvMpdu) => { p with late := p.late || p.hdr.prot }) }) = s.blk := by
    refine s.blk.updLm_of_fixed _ ?_
    rw [hprov, List.map_nil, ← hprov]
  change execResponseSend r s = _
  simp only [execResponseSend, hprov, List.filter_nil, List.foldl_nil, hkeep, hresp, hruns, Bool.true_or, Bool.not_true,
    Bool.false_eq_true, if_false]
  rfl

/-! ### Reorder windows -/

section
variable {i : Fin 1024}

/-- An active agreement releases what is in order (R110). -/
theorem exec_reorderRelease_inOrder (hactive : s.blk.tab (agrAddr r.val i.val + 3) 1 = 1) :
    exec (.reorderRelease r i none) s = s.next ((s.blk.releaseRun r.val i.val 1024).heldCount r.val i.val) :=
  congrArg s.next (if_neg (fun h => h.1 hactive))

/-- A SN ahead of WIN_START moves the window (R110). -/
theorem exec_reorderRelease_ahead {sn : Nat} (hactive : s.blk.tab (agrAddr r.val i.val + 3) 1 = 1)
    (hahead : 0 < snDist (s.blk.winStart r.val i.val) sn ∧ snDist (s.blk.winStart r.val i.val) sn < 2048) :
    exec (.reorderRelease r i (some sn)) s = s.next (s.blk.moveWindow r.val i.val sn) :=
  congrArg s.next ((if_neg (fun h => h.1 hactive)).trans (if_pos hahead))

/-- The first held MPDU past TIMEOUT_MS moves the window to itself (R110). -/
theorem exec_reorderTimeout_past {h : HeldMpdu} {t : List HeldMpdu} (hheld : s.blk.heldOf r.val i.val = h :: t)
    (hpast : h.arrival + 1000000 * clampTo 1 1000 (s.blk.tab (agrAddr r.val i.val + 0xA) 2) ≤ s.blk.ao) :
    exec (.reorderTimeout r i) s =
      s.next ((s.blk.moveWindow r.val i.val h.sn).count (.lm (Fin.ofNat 3 r.val)) C.LM.RX_REORDER_TIMEOUT) := by
  change execReorderTimeout r i s = _
  simp only [execReorderTimeout, hheld, List.any_cons, decide_eq_true hpast, Bool.true_or, if_true]
  rfl

/-- VALID is written alone, and the agreement starts or ends with it (R109). -/
theorem exec_agreementValidWrite_running (v : Bool) (hruns : s.blk.runs (lmEngine r.val) = true) :
    exec (.agreementValidWrite r i v) s = s.next
      ((s.blk.setTab (agrAddr r.val i.val) 2 (s.blk.tab (agrAddr r.val i.val) 2 % 2 ^ 15 + b2n v * 2 ^ 15)).agrWritten
        r.val i.val (bitOf (s.blk.tab (agrAddr r.val i.val) 2) 15)) :=
  congrArg s.next (if_neg (by simp [hruns]))

end

/-- Settles O10: each clause by the lemma on its command. -/
theorem mpduAndReorderEffects : Obligations.MpduAndReorderEffects :=
  ⟨fun s r _ _ _ hrx hvalid hdecoded hruns hprot hkind hcells =>
      congrArg s.next (s.blk.mpduStart_unprotected r hrx hvalid hdecoded hruns hprot hkind hcells),
    fun s r _ mic _ hfind => congrArg s.next (s.blk.mpduVerdict_bad_fcs r hfind mic),
    fun s r _ _ hfind hprot hsta hbss hkind =>
      ⟨_, rfl, congrArg s.next (s.blk.mpduVerdict_stranger r hfind hprot hsta hbss hkind)⟩,
    fun s r _ _ hresp hprov _ hruns hc => exec_responseSend_owed s r hresp hprov hruns hc,
    fun s r _ hactive => ⟨exec_reorderRelease_inOrder s r hactive,
      fun _ hpos hnear => exec_reorderRelease_ahead s r hactive ⟨hpos, hnear⟩⟩,
    fun s r _ _ _ hheld hpast => exec_reorderTimeout_past s r hheld hpast,
    fun s r _ v hruns => ⟨_, rfl, exec_agreementValidWrite_running s r v hruns⟩⟩

end Sys2Proof.Machine
end

section
/-! Contention, TXOPs lost, protection, triggers, sounding of the link MACs (R99 to R101, R103, R128 to R131). -/

namespace Sys2Proof.Machine

variable (b : Block) (fu : Fuses) (s : State) (r : Fin 3)

/-! ### Contention -/

/-- On a busy medium there is nothing to gain. -/
theorem Block.edcaGain_busy (slots : Nat) (draws : List Nat) (pifs : Bool) (hbusy : b.mediumFree r.val = false) :
    b.edcaGain fu r.val slots draws pifs = b :=
  if_pos (.inr (by rw [hbusy]; rfl))

/-- The radio is free to contend: its medium is idle, the yoked link idle, no beacon or group-addressed frame waits, Drover
runs. -/
def Block.contends (b : Block) (q : Nat) : Prop :=
  b.est (lmEngine q) = stRun ∧ b.mediumFree q = true ∧ b.mateBusy q = false ∧ (b.lmAt q).beacons = [] ∧ b.est 4 = stRun ∧
    (b.lmAt q).groups = []

/-- The slot after SIFS in which the first of the contenders may begin, one past the idle ones where none may (R99). -/
def Block.contentionEnd (b : Block) (q slots : Nat) : Nat :=
  (b.contenders q).foldl (fun m ac => min m (b.slotsLeft q ac)) (slots + 1)

section
variable {b r} (hready : b.contends r.val)
include hready

/-- A radio free to contend counts its backoffs down, or the access categories whose backoff ends first win (R99). -/
theorem Block.edcaGain_contending (slots : Nat) (draws : List Nat) (pifs : Bool) :
    (slots < b.contentionEnd r.val slots → b.edcaGain fu r.val slots draws pifs = b.idleSlots r.val slots) ∧
    ∀ ac others, b.contentionEnd r.val slots ≤ slots →
      (b.contenders r.val).filter (fun ac => b.slotsLeft r.val ac == b.contentionEnd r.val slots) = ac :: others →
      b.edcaGain fu r.val slots draws pifs =
        (b.idleSlots r.val (b.contentionEnd r.val slots)).edcaWin fu r.val ac others draws pifs := by
  obtain ⟨hrun, hfree, hmate, hbeacons, hdrover, hgroups⟩ := hready
  have hstarted : ¬ (stRun = stReset ∨ stRun = stStart) := by decide
  unfold Block.edcaGain
  rw [if_neg (by simp [hrun, hfree]), if_neg (ne_true_of_eq_false hmate), if_neg (by simp [hbeacons]), hdrover, if_neg hstarted,
    if_neg (by simp [hgroups])]
  refine ⟨fun hidle => if_pos hidle, fun ac others hend hwon => (if_neg hend.not_gt).trans ?_⟩
  unfold Block.contentionEnd at hwon ⊢
  rw [hwon]

/-- Without a contender the backoffs count down. -/
theorem Block.edcaGain_alone (slots : Nat) (draws : List Nat) (pifs : Bool) (hnone : b.contenders r.val = []) :
    b.edcaGain fu r.val slots draws pifs = b.idleSlots r.val slots := by
  refine (Block.edcaGain_contending fu hready slots draws pifs).1 ?_
  rw [Block.contentionEnd, hnone]
  exact Nat.lt_succ_self slots

/-- A single contender whose AIFSN and backoff fit in the slots wins (R99). -/
theorem Block.edcaGain_single {ac slots : Nat} (draws : List Nat) (pifs : Bool) (hone : b.contenders r.val = [ac])
    (hfit : b.slotsLeft r.val ac ≤ slots) :
    b.edcaGain fu r.val slots draws pifs = (b.idleSlots r.val (b.slotsLeft r.val ac)).edcaWin fu r.val ac [] draws pifs := by
  have hend : b.contentionEnd r.val slots = b.slotsLeft r.val ac := by
    rw [Block.contentionEnd, hone]
    exact min_eq_right (Nat.le_succ_of_le hfit)
  have hwins := (Block.edcaGain_contending fu hready slots draws pifs).2 ac []
  rw [hend, hone] at hwins
  exact hwins hfit (List.filter_cons_of_pos (beq_self_eq_true _))

end

/-- A winner alone, and no yoked link joining, draws its next backoff and begins its TXOP (R100; log entry 161). -/
theorem Block.edcaWin_alone {ac : Nat} (d : Nat) (draws : List Nat) (hvo : ac ≠ 3) :
    b.edcaWin fu r.val ac [] (d :: draws) false =
      (b.setEdca r.val ac (fun e => { e with backoff := d % (e.cw + 1) })).txopBegin r.val ac := by
  unfold Block.edcaWin
  simp only [hvo, false_and, if_false, List.zip_nil_left, List.foldl_nil, List.headD_cons, Bool.and_false, Bool.false_and,
    Bool.false_eq_true]
  split <;> rfl

/-! ### TXOPs lost -/

theorem exec_txopLost_held (cause : LossCause) (hruns : s.blk.runs (lmEngine r.val) = true)
    (hheld : (s.blk.lmAt r.val).txop.isSome = true) : exec (.txopLost r cause) s = s.next (s.blk.txopLost r.val cause) :=
  congrArg s.next (if_pos (by rw [hruns, hheld]; rfl))

/-- A missing CTS doubles the contention window, drawn from a free value, and loses the TXOP (R101; log entry 11). -/
theorem Block.txopLost_noCts {t : Txop} (htxop : (b.lmAt r.val).txop = some t) : b.txopLost r.val .noCts =
    (((({ b with free := b.free + 1 } : Block).cwDouble r.val t.ac (Config.freeValue b.free).toNat).count (.lm (Fin.ofNat 3 r.val))
      C.LM.RESP_TIMEOUT).loseTxop r.val).soundingEnd r.val := by
  simp only [Block.txopLost, htxop]
  rfl

/-! ### Protection -/

/-- The first plan of a TXOP held waits for its protection (R103). -/
def Block.guards (b : Block) (q : Nat) (p : Plan) (t : Txop) : Prop :=
  b.runs (lmEngine q) = true ∧ b.planAt q 0 = some p ∧ (b.lmAt q).txop = some t ∧ p.committed = false ∧ p.protect = true ∧
    p.guarded = false

/-- The RTS of a plan to the first of the stations it is for; without one the plan is guarded as it stands (R103). -/
def Block.rtsSent (fu : Fuses) (b : Block) (q : Nat) (dest : List Nat) (width : Nat) : Block :=
  match dest with
  | n :: _ => (b.guardSent q true).sendOwn fu q 8 n width 12
  | [] => b.guardSent q true

/-- The protection that comes next is sent: a CTS-to-self at 1 Mb/s DSSS, else what is no MU-RTS (R103; rates of log entry 30). -/
theorem exec_rtsProtection_next {p : Plan} {t : Txop} {toSelf : Bool} {dest : List Nat} {width : Nat}
    (hguards : s.blk.guards r.val p t) (hframe : s.blk.guardFrame r.val p = ⟨toSelf, false, dest, width⟩) :
    exec (.rtsProtection r toSelf false dest width) s = s.next
      (if toSelf then (s.blk.guardSent r.val (!s.blk.rtsDue r.val p.ac p.first p.users)).sendOwn s.fuse r.val 3 0 0 2
       else s.blk.rtsSent s.fuse r.val dest width) := by
  obtain ⟨hruns, hplan, htxop, hplanned, hprotect, hunguarded⟩ := hguards
  change execRtsProtection r toSelf false dest width s = _
  unfold execRtsProtection
  simp only [hplan, htxop]
  exact congrArg s.next (if_neg (by simp [hruns, hplanned, hprotect, hunguarded, hframe]))

/-- Only LM-2G4 protects against ERP (R103). -/
theorem Block.erpDue_other (h : r.val ≠ 2) : b.erpDue r.val = false := by simp [Block.erpDue, h]

theorem Block.guardFrame_erp {p : Plan} (hdue : b.erpDue r.val = true) (hself : p.selfCts = false) :
    b.guardFrame r.val p = ⟨true, false, [], 0⟩ :=
  if_pos (by rw [hdue, hself]; rfl)

theorem Block.guardFrame_none {p : Plan} (hself : b.erpDue r.val = false ∨ p.selfCts = true)
    (hrts : b.rtsDue r.val p.ac p.first p.users = false) : b.guardFrame r.val p = ⟨false, false, [], p.width⟩ :=
  (if_neg (by rcases hself with h | h <;> simp [h])).trans (if_pos (by rw [hrts]; rfl))

/-- A single user that is no EMLSR station takes an RTS (R103, R141). -/
theorem Block.guardFrame_single {p : Plan} {u : PlanUser} (hradio : r.val ≠ 2)
    (hrts : b.rtsDue r.val p.ac p.first p.users = true) (husers : p.users = [u]) (hfull : u.empty = false)
    (hemlsr : b.isEmlsr u.sta = false) : b.guardFrame r.val p = ⟨false, false, [u.sta], p.width⟩ := by
  rw [husers] at hrts
  simp [Block.guardFrame, b.erpDue_other r hradio, hrts, husers, hfull, hemlsr]

/-! ### Triggers and TB PPDUs -/

/-- The trigger of a COMMITTED trigger sequence (R128; log entry 177). -/
theorem exec_triggerFrameSend_committed {p : Plan} (hruns : s.blk.runs (lmEngine r.val) = true)
    (hplan : s.blk.committedPlan r.val = some p) (hform : p.form = .trigger) :
    exec (.triggerFrameSend r p.trig) s = s.next (s.blk.triggerSend s.fuse p p.trig p.dur 0) := by
  have hkind : trigKind p = p.trig := by rw [trigKind, hform]; rfl
  change execTriggerFrameSend r p.trig s = _
  simp only [execTriggerFrameSend, hplan, hruns, hkind, hform, bne_self_eq_false, Bool.not_true, Bool.or_self, Bool.false_eq_true,
    if_false]
  rfl

/-- Two decoded users owe one response to both (R129). -/
theorem exec_tbPpduReceive_two {u v : TbUser} (hruns : s.blk.runs (lmEngine r.val) = true) (hu : u.decoded = true)
    (hv : v.decoded = true) (hubsr : u.bsr = none) (hvbsr : v.bsr = none) (hresp : (s.blk.lmAt r.val).resp = none) :
    exec (.tbPpduReceive r [u, v]) s = s.next (s.blk.updLm r.val (fun l => { l with
      resp := some { kind := 0, parts := [{ dst := s.blk.macTab (staAddr r.val u.sta), sta := some u.sta },
        { dst := s.blk.macTab (staAddr r.val v.sta), sta := some v.sta }], bss := s.blk.staBss r.val u.sta } })) := by
  have hgot : [u, v].filter (fun u => u.decoded) = [u, v] := by simp [hu, hv]
  have hmissed : [u, v].filter (fun u => !u.decoded) = [] := by simp [hu, hv]
  change execTbPpduReceive r [u, v] s = _
  simp only [execTbPpduReceive, hruns, hgot, hmissed, List.foldl_cons, List.foldl_nil, hubsr, hvbsr, hresp, Bool.not_true,
    Bool.false_eq_true, if_false]
  rfl

/-- No user at all loses the TXOP (R129). -/
theorem exec_tbPpduReceive_none (hruns : s.blk.runs (lmEngine r.val) = true) :
    exec (.tbPpduReceive r []) s = s.next (s.blk.txopLost r.val .noResponse) :=
  congrArg s.next (if_neg (by simp [hruns]))

/-! ### Sounding -/

section
variable {s r} {p : Plan} {u : PlanUser} (hplan : s.blk.committedPlan r.val = some p) (hform : p.form = .sounding)
  (hruns : s.blk.runs (lmEngine r.val) = true) (husers : p.users = [u]) (hfull : u.empty = false)
  (hmode : 3 ≤ s.blk.staMode r.val u.sta)
include hplan hform hruns husers hfull hmode

/-- A sounding plan of one HE or EHT station begins with its announcement (R130, R131). -/
theorem exec_soundingSequence_announce (hsound : (s.blk.lmAt r.val).sound = none) :
    exec (.soundingSequence r) s = s.next (((s.blk.updLm r.val (fun l => { l with reports := [] })).updLm r.val
      (fun l => { l with sound := some ⟨1, [u.sta], []⟩ })).sendOwn s.fuse r.val 10 (2 ^ 48 - 1) p.width 48
        (.ndpAnnounce [u.sta])) := by
  have hnovht : ¬ s.blk.staMode r.val u.sta < 3 := hmode.not_gt
  change execSoundingSequence r s = _
  simp [execSoundingSequence, hplan, hform, hruns, husers, hfull, hnovht, hsound]

/-- Then the NDP; the report trigger comes next (R130). -/
theorem exec_soundingSequence_ndp {x : SoundSeq} (hsound : (s.blk.lmAt r.val).sound = some x) (hstas : x.stas = [u.sta])
    (hnext : x.next = 1) : exec (.soundingSequence r) s = s.next ((s.blk.updLm r.val
      (fun l => { l with sound := some { x with next := 2 } })).sendOwn s.fuse r.val 10 (2 ^ 48 - 1) p.width 0 .ndp) := by
  change execSoundingSequence r s = _
  simp [execSoundingSequence, hplan, hform, hruns, husers, hfull, hmode, hsound, hstas, hnext]

end

/-- The first of two segments opens a station's report, which is not yet complete (R131). -/
theorem exec_beamformingReport_first {sta : Fin 2048} (hruns : s.blk.runs (lmEngine r.val) = true)
    (hreports : (s.blk.lmAt r.val).reports = []) : exec (.beamformingReport r sta 0 2 false) s = s.next (s.blk.updLm r.val
      (fun l => { l with reports := l.reports.filter (fun x => x.sta != sta.val) ++ [⟨sta.val, 2, [0]⟩] })) := by
  have hpart : (⟨sta.val, 2, [0]⟩ : BfReport).complete = false := rfl
  change execBeamformingReport r sta 0 2 false s = _
  simp only [execBeamformingReport, hreports, hruns, List.find?_nil, Option.getD_none, Bool.not_true, Bool.false_eq_true, if_false]
  rfl

/-- Settles O11: each clause by the lemma on its command. -/
theorem mediumAccessEffects : Obligations.MediumAccessEffects := by
  refine ⟨fun s r slots draws pifs hrun hfree hmate hbeacons hdrover hgroups hnone => congrArg s.next
      (Block.edcaGain_alone s.fuse ⟨hrun, hfree, hmate, hbeacons, hdrover, hgroups⟩ slots _ pifs hnone),
    fun s r slots d ac draws c hrun hfree hmate hbeacons hdrover hgroups hone hvo hfit hc => congrArg s.next ?_,
    fun s r slots draws pifs hbusy => congrArg s.next (s.blk.edcaGain_busy s.fuse r slots _ pifs hbusy),
    fun s r hruns hheld => ⟨exec_txopLost_held s r .cca hruns hheld, exec_txopLost_held s r .refused hruns hheld⟩,
    fun s r t hruns htxop => (exec_txopLost_held s r .noCts hruns (Option.isSome_of_eq_some htxop)).trans
      (congrArg s.next (s.blk.txopLost_noCts r htxop)),
    fun s r p t u hruns hplan htxop hplanned hprotect hunguarded hradio hrts husers hfull hemlsr =>
      exec_rtsProtection_next s r ⟨hruns, hplan, htxop, hplanned, hprotect, hunguarded⟩
        (s.blk.guardFrame_single r hradio hrts husers hfull hemlsr),
    fun s r p t hruns hplan htxop hplanned hprotect hunguarded hrts => ?_,
    fun s r p hruns hplan hform => exec_triggerFrameSend_committed s r hruns hplan hform,
    fun s r u v hruns hu hv hubsr hvbsr hresp => exec_tbPpduReceive_two s r hruns hu hv hubsr hvbsr hresp,
    exec_tbPpduReceive_none,
    fun s r p u hplan hform hruns husers hfull hmode hsound =>
      exec_soundingSequence_announce hplan hform hruns husers hfull hmode hsound,
    fun s r p u x hplan hform hruns husers hfull hmode hsound hstas hnext =>
      exec_soundingSequence_ndp hplan hform hruns husers hfull hmode hsound hstas hnext,
    fun s r sta hruns hreports _ => ⟨_, rfl, exec_beamformingReport_first s r hruns hreports⟩⟩
  · subst hc
    rw [Block.edcaGain_single s.fuse ⟨hrun, hfree, hmate, hbeacons, hdrover, hgroups⟩ _ false hone hfit]
    exact Block.edcaWin_alone _ s.fuse r d draws hvo
  · have hguards : s.blk.guards r.val p t := ⟨hruns, hplan, htxop, hplanned, hprotect, hunguarded⟩
    refine ⟨fun hdue hself => ?_, fun hnone => exec_rtsProtection_next s r hguards (s.blk.guardFrame_none r hnone hrts)⟩
    rw [exec_rtsProtection_next s r hguards (s.blk.guardFrame_erp r hdue hself), hrts]
    rfl

end Sys2Proof.Machine
end

section
/-! Beacons, probe responses, power save, target wake times and the backhaul link of the link MACs (R120, R122, R123, R125, R126,
R132 to R134). -/

namespace Sys2Proof.Machine

variable (b : Block) (s : State) (r : Fin 3)

/-! ### Beacons -/

/-- The medium of a radio depends on its link MAC through the NAVs, the response owed and the TXOP alone (R102). -/
theorem Block.mediumFree_updLm (f : LinkMac → LinkMac) (hlen : b.lm.length = 3)
    (hbasic : (f (b.lmAt r.val)).navBasic = (b.lmAt r.val).navBasic)
    (hintra : (f (b.lmAt r.val)).navIntra = (b.lmAt r.val).navIntra) (hresp : (f (b.lmAt r.val)).resp = (b.lmAt r.val).resp)
    (htxop : (f (b.lmAt r.val)).txop = (b.lmAt r.val).txop) : (b.updLm r.val f).mediumFree r.val = b.mediumFree r.val := by
  unfold Block.mediumFree Block.navBusy
  rw [b.lmAt_updLm_same r f hlen, hbasic, hintra, hresp, htxop]
  rfl

/-- A TBTT of BSS i is due on radio q and not yet taken (R120). -/
def Block.tbttDue (b : Block) (q i : Nat) : Prop :=
  b.beaconing q i = true ∧ ((b.lmAt q).tsf / 1024 + b.bss q i 6 2 * 65536 - b.bss q i 0xA 2) % b.bss q i 6 2 = 0 ∧
    look (b.lmAt q).tbttAt i 0 ≠ (b.lmAt q).tsf / 1024 + 1

/-- A link MAC at a TBTT of BSS i (R120): the DTIM count moved on, the TBTT taken, the beacon of a template queued. -/
def Block.tbttNoted (b : Block) (q i : Nat) (l : LinkMac) : LinkMac :=
  { l with
    dtim := put l.dtim i
      (if look (b.lmAt q).dtim i 1 = 0 then max 1 (b.bss q i 8 1) - 1 else look (b.lmAt q).dtim i 1 - 1) 1
    tbttAt := put l.tbttAt i ((b.lmAt q).tsf / 1024 + 1) 0
    beacons := l.beacons.filter (fun x => x.1 != i) ++
      (if b.templateLen q 1 i = 0 then [] else [(i, (b.lmAt q).tsf / 1024 * 1024)]) }

/-- On a busy medium a TBTT is noted and nothing starts (R120; log entry 74). -/
theorem Block.tbtt_busy (fu : Fuses) {i : Nat} (hruns : b.runs (lmEngine r.val) = true) (hdue : b.tbttDue r.val i)
    (hbusy : b.mediumFree r.val = false) (hnone : (b.lmAt r.val).beacons = []) (hlen : b.lm.length = 3) :
    b.tbtt fu r.val i = b.updLm r.val (b.tbttNoted r.val i) := by
  obtain ⟨hbeaconing, htime, hfirst⟩ := hdue
  have hstill : (b.updLm r.val (b.tbttNoted r.val i)).mediumFree r.val = false :=
    (b.mediumFree_updLm r _ hlen rfl rfl rfl rfl).trans hbusy
  unfold Block.tbtt
  simp only [hruns, hbeaconing, decide_eq_true htime, bne_iff_ne.mpr hfirst, hnone, List.any_nil, Bool.and_self, Bool.not_true,
    Bool.or_self, Bool.false_eq_true, if_false]
  exact if_neg (ne_true_of_eq_false hstill)

theorem exec_tbtt_busy (i : Fin 16) (hruns : s.blk.runs (lmEngine r.val) = true) (hdue : s.blk.tbttDue r.val i.val)
    (hbusy : s.blk.mediumFree r.val = false) (hnone : (s.blk.lmAt r.val).beacons = []) (hlen : s.blk.lm.length = 3) :
    blockStep (.tbtt r i) s (fun b => b = { s.blk with lm := b.lm } ∧ (b.lmAt r.val).beacons =
      if s.blk.templateLen r.val 1 i.val = 0 then [] else [(i.val, (s.blk.lmAt r.val).tsf / 1024 * 1024)]) := by
  refine ⟨_, congrArg s.next (s.blk.tbtt_busy r s.fuse hruns hdue hbusy hnone hlen), rfl, ?_⟩
  rw [s.blk.lmAt_updLm_same r _ hlen]
  simp only [Block.tbttNoted, hnone, List.filter_nil, List.nil_append]

/-- A beacon not started within a LATE_MAX set is dropped and counted (R120). -/
theorem exec_beaconDropped_late {i : Fin 16} {t : Nat} (hqueued : (i.val, t) ∈ (s.blk.lmAt r.val).beacons)
    (hmax : s.blk.get (F.LM_BCN_CTRL.LATE_MAX r.val) ≠ 0)
    (hlate : t + 1024 * s.blk.get (F.LM_BCN_CTRL.LATE_MAX r.val) ≤ (s.blk.lmAt r.val).tsf) :
    exec (.beaconDropped r i) s =
      s.next ((s.blk.updLm r.val (fun l => { l with beacons := l.beacons.filter (fun x => x.1 != i.val) })).count
        (.lm (Fin.ofNat 3 r.val)) C.LM.BCN_DROPPED) := by
  refine congrArg s.next (if_pos (List.any_eq_true.mpr ⟨_, hqueued, ?_⟩))
  rw [if_neg hmax, beq_self_eq_true, decide_eq_true hlate, Bool.and_self]

/-! ### Probe requests -/

/-- A request that matches queues one response where none waits, to everyone for a broadcast one on LM-6G (R123). -/
theorem exec_probeRequest_match {q : ProbeReq} (hruns : s.blk.runs (lmEngine r.val) = true)
    (hmatch : s.blk.probeMatch r.val q = true) (htemplate : s.blk.templateLen r.val 2 (s.blk.txBss r.val) ≠ 0)
    (hnone : (s.blk.lmAt r.val).probes = []) : exec (.probeRequest r q) s = s.next (s.blk.updLm r.val
      (fun l => { l with probes := l.probes ++ [⟨if r.val = 0 ∧ q.bcast then none else some q.ta, s.blk.mono⟩] })) :=
  congrArg s.next (if_neg (by simp [hruns, hmatch, htemplate, hnone]))

/-! ### Power save -/

/-- The acknowledgement of a PS-Poll (R125). -/
def Block.pollAck (b : Block) (q sta : Nat) : RespOwed :=
  { kind := 0, parts := [{ dst := b.macTab (staAddr q sta), sta := some sta }], bss := b.staBss q sta }

/-- A PS-Poll remembered, once, for Drover to plan one frame for a station that dozes (R125). -/
def Block.pollNoted (b : Block) (q sta : Nat) : Block :=
  if bitOf (b.psBits q sta) 0 && !(b.lmAt q).polls.contains sta then b.updLm q (fun l => { l with polls := l.polls ++ [sta] }) else b

theorem exec_psPoll_valid {sta : Fin 2048} (hruns : s.blk.runs (lmEngine r.val) = true)
    (hvalid : s.blk.staValid r.val sta.val = true) : exec (.psPoll r sta) s =
      s.next ((s.blk.updLm r.val (fun l => { l with resp := some (s.blk.pollAck r.val sta.val) })).pollNoted r.val sta.val) :=
  congrArg s.next (if_neg (by simp [hruns, hvalid]))

theorem Block.pollNoted_sameBeyondLm (q sta : Nat) : b.pollNoted q sta = { b with lm := (b.pollNoted q sta).lm } := by
  unfold Block.pollNoted
  split <;> rfl

theorem Block.pollNoted_resp (sta : Nat) (hlen : b.lm.length = 3) :
    ((b.pollNoted r.val sta).lmAt r.val).resp = (b.lmAt r.val).resp := by
  unfold Block.pollNoted
  split
  · rw [b.lmAt_updLm_same r _ hlen]
  · rfl

/-- The poll of a station that dozes is among those remembered, added now or before. -/
theorem Block.mem_pollNoted {sta : Nat} (hlen : b.lm.length = 3) (hdozes : bitOf (b.psBits r.val sta) 0 = true) :
    sta ∈ ((b.pollNoted r.val sta).lmAt r.val).polls := by
  unfold Block.pollNoted
  by_cases hmem : sta ∈ (b.lmAt r.val).polls
  · rwa [if_neg (by simp [hmem])]
  · rw [if_pos (by simp [hdozes, hmem]), b.lmAt_updLm_same r _ hlen]
    exact List.mem_append_right _ (List.mem_singleton_self sta)

theorem exec_psPoll_acknowledged (sta : Fin 2048) (hruns : s.blk.runs (lmEngine r.val) = true)
    (hvalid : s.blk.staValid r.val sta.val = true) (hlen : s.blk.lm.length = 3) :
    blockStep (.psPoll r sta) s (fun b => b = { s.blk with lm := b.lm } ∧
      (b.lmAt r.val).resp = some (s.blk.pollAck r.val sta.val) ∧
      (bitOf (s.blk.psBits r.val sta.val) 0 = true → sta.val ∈ (b.lmAt r.val).polls)) := by
  have hlen' : (s.blk.updLm r.val (fun l => { l with resp := some (s.blk.pollAck r.val sta.val) })).lm.length = 3 :=
    (length_upd ..).trans hlen
  refine ⟨_, exec_psPoll_valid s r hruns hvalid, Block.pollNoted_sameBeyondLm .., ?_, Block.mem_pollNoted _ r hlen'⟩
  rw [Block.pollNoted_resp _ r _ hlen', s.blk.lmAt_updLm_same r _ hlen]

/-- A U-APSD trigger of an enabled access category opens a service period of a station that dozes (R125). -/
theorem exec_uapsdTrigger_opens {sta : Fin 2048} {ac : Fin 4} (hruns : s.blk.runs (lmEngine r.val) = true)
    (hvalid : s.blk.staValid r.val sta.val = true) (hdozes : bitOf (s.blk.psBits r.val sta.val) 0 = true)
    (henabled : bitOf (s.blk.staFlags r.val sta.val) (18 + ac.val) = true) :
    exec (.uapsdTrigger r sta ac false) s = s.next (s.blk.setTab (staAddr r.val sta.val + 0x34) 1 3) := by
  change execUapsdTrigger r sta ac false s = _
  simp only [execUapsdTrigger, hruns, hvalid, hdozes, henabled, Bool.not_true, Bool.or_self, Bool.and_self, Bool.false_eq_true,
    if_false, if_true]

/-! ### Target wake times -/

/-- A service period that is over moves NEXT_WAKE on by the larger of INTERVAL and duration (R126). -/
theorem exec_twtServicePeriodEnd_past {i : Fin 256} {a dur nxt : Nat} (ha : a = lmWin r.val + 0x12000 + 32 * i.val)
    (hdur : dur = 256 * s.blk.tab (a + 4) 1) (hnxt : nxt = s.blk.tab (a + 0x10) 8) (hvalid : bitOf (s.blk.tab a 2) 15 = true)
    (hruns : s.blk.runs (lmEngine r.val) = true) (hpast : nxt + dur ≤ (s.blk.lmAt r.val).tsf) :
    exec (.twtServicePeriodEnd r i) s = s.next (s.blk.setTab (a + 0x10) 8 (nxt + max dur (s.blk.tab (a + 8) 4))) := by
  subst ha hdur hnxt
  exact congrArg s.next (if_pos (by simp only [hvalid, hruns, decide_eq_true hpast, Bool.and_self]))

/-! ### The backhaul link -/

/-- A missed upstream beacon below BCN_LOSS moves MISSED alone (R134). -/
theorem exec_bhBeaconLoss_below (hradio : s.blk.bhRadio = some r.val)
    (hbelow : s.blk.get (F.LM_BH_STATUS.MISSED r.val) + 1 < s.blk.get (F.LM_BH_CTRL.BCN_LOSS r.val))
    (hroom : s.blk.get (F.LM_BH_STATUS.MISSED r.val) < 2 ^ 16 - 1) : exec (.bhBeaconLoss r) s =
      s.next (s.blk.set (F.LM_BH_STATUS.MISSED r.val) (s.blk.get (F.LM_BH_STATUS.MISSED r.val) + 1)) := by
  have hsat : s.blk.sat (F.LM_BH_STATUS.MISSED r.val) 1 =
      s.blk.set (F.LM_BH_STATUS.MISSED r.val) (s.blk.get (F.LM_BH_STATUS.MISSED r.val) + 1) :=
    congrArg _ (min_eq_left hroom)
  have hkey : (F.LM_BH_CTRL.BCN_LOSS r.val).key ≠ (F.LM_BH_STATUS.MISSED r.val).key := by
    simp only [Fld.key, F.LM_BH_CTRL.BCN_LOSS, F.LM_BH_STATUS.MISSED, fld]
    omega
  have hmissed : (s.blk.get (F.LM_BH_STATUS.MISSED r.val) + 1) % 2 ^ (F.LM_BH_STATUS.MISSED r.val).width =
      s.blk.get (F.LM_BH_STATUS.MISSED r.val) + 1 := Nat.mod_eq_of_lt (Nat.add_lt_of_lt_sub hroom)
  change execBhBeaconLoss r s = _
  unfold execBhBeaconLoss
  dsimp only
  rw [if_neg (fun h => h hradio), hsat, if_neg]
  rw [Block.get_set_other _ _ hkey, Block.get_set_same, hmissed]
  omega

/-- An upstream beacon ends the count, links, and leaves its EDCA set and TSF (R133, R134). -/
theorem exec_bhBeaconReceived_upstream (x : BhBeacon) (hradio : s.blk.bhRadio = some r.val) :
    exec (.bhBeaconReceived r x) s =
      s.next (((s.blk.set (F.LM_BH_STATUS.MISSED r.val) 0).setB (F.LM_BH_STATUS.LINKED r.val) true).updLm r.val
        (fun l => { l with bhEdca := some x.edca, bhTsf := (x.tsf : Int) - (l.tsf : Int) })) :=
  congrArg s.next (if_neg (fun h => h hradio))

/-- Settles O12: each clause by the lemma on its command. -/
theorem beaconAndPowerSaveEffects : Obligations.BeaconAndPowerSaveEffects :=
  ⟨fun s r i hruns hbeaconing htime hfirst hbusy hnone hlen =>
      exec_tbtt_busy s r i hruns ⟨hbeaconing, htime, hfirst⟩ hbusy hnone hlen,
    fun s r _ _ hqueued hmax hlate => exec_beaconDropped_late s r hqueued hmax hlate,
    fun s r _ hruns hmatch htemplate hnone => exec_probeRequest_match s r hruns hmatch htemplate hnone,
    fun _ _ => rfl,
    exec_psPoll_acknowledged,
    fun s r _ _ hruns hvalid hdozes henabled => exec_uapsdTrigger_opens s r hruns hvalid hdozes henabled,
    fun s r _ _ _ _ ha hdur hnxt hvalid hruns hpast => exec_twtServicePeriodEnd_past s r ha hdur hnxt hvalid hruns hpast,
    exec_bhBeaconLoss_below, exec_bhBeaconReceived_upstream⟩

end Sys2Proof.Machine
end

section
/-! Plans of Drover from made to undone, its queues, sounding and precoders, and Marshal's placement loop (R146, R149, R150, R155,
R162 to R169, R281). -/

namespace Sys2Proof.Machine

variable (b : Block) (fu : Fuses) (s : State) (r : Fin 3)

/-! ### Plans made -/

theorem Block.planMake_idle {p : PlanInput} (hidle : b.est 4 ≠ stRun ∨ b.slotFree p.radio.val p.slot.val = false) :
    b.planMake fu p = b :=
  if_pos (hidle.imp_right fun hslot => .inr (by rw [hslot]; rfl))

/-- With no sounding due a ready group queue comes first (R150, R155). -/
theorem Block.planMake_group {p : PlanInput} {c : Block} {key : Nat} (hrun : b.est 4 = stRun) (hup : b.upRadio p.radio.val = true)
    (hfree : b.slotFree p.radio.val p.slot.val = true) (htxop : b.txopRoom p.radio.val p.slot.val = none)
    (hc : c = b.countNoLink (b.contendAc p.radio.val)) (hdue : c.drov.soundDue = [])
    (hgroup : c.groupReady p.radio.val = some key) :
    b.planMake fu p = c.groupPlan p.radio.val p.slot.val (b.contendAc p.radio.val) key := by
  subst hc
  unfold Block.planMake
  rw [if_neg (by simp [hrun, hup, hfree])]
  simp only [htxop, hdue, hgroup, List.contains_nil, Bool.false_and, Bool.false_eq_true, if_false]

/-- The frames of a group queue that fit its room at 6 Mb/s (R150; the rate of log entry 30). -/
def Block.groupFit (b : Block) (q k ac key : Nat) : List QFrame :=
  fitFrames (ppduOctets 0 600 (min (min b.maxPpdu (b.planRoom q k ac).2) (b.planRoom q k ac).1))
    ((b.queue key).filter (fun f => f.reserved.isNone))

/-- A plan for frames of a group queue. -/
def Block.groupOf (b : Block) (q k ac key : Nat) (fs : List QFrame) : Plan :=
  { radio := q, slot := k, ac := ac, form := .group, users := [{ sta := key, tones := 48, frames := fs.map (fun f => f.id) }],
    dur := ppduUs 0 600 (psduLen fs), total := ppduUs 0 600 (psduLen fs), first := (b.txopRoom q k).isNone || k == 0 }

theorem Block.groupPlan_fits {q k ac key : Nat} (hfits : b.groupFit q k ac key ≠ []) :
    b.groupPlan q k ac key = b.putPlan (b.groupOf q k ac key (b.groupFit q k ac key)) :=
  if_neg (by rwa [List.isEmpty_iff])

/-! ### Plans committed -/

/-- The plan as it is from its commit on (R165). -/
def Plan.begun (p : Plan) (now : Nat) : Plan := { p with committed := true, stop := now + 1000 * p.total }

/-- The only plan is PLANNED in the first slot of radio q, and nothing holds its commit back (R103, R144, R164). -/
structure Block.CommitsNext (b : Block) (q : Nat) (p : Plan) : Prop where
  only : b.drov.plans = [p]
  radio : p.radio = q
  slot : p.slot = 0
  planned : p.committed = false
  runs : b.est 4 = stRun
  guarded : p.protect = false ∨ p.guarded = true
  unyoked : b.pairWaits q = false

section
variable {b r} {p : Plan} (hnext : b.CommitsNext r.val p)
include hnext

theorem Block.CommitsNext.find :
    b.drov.plans.find? (fun p => p.radio == r.val && p.slot == 0 && !p.committed) = some p := by
  rw [hnext.only]
  exact List.find?_cons_of_pos (by simp [hnext.radio, hnext.slot, hnext.planned])

theorem Block.CommitsNext.planAt : b.planAt r.val 0 = some p := by
  rw [Block.planAt, hnext.only]
  exact List.find?_cons_of_pos (by simp [hnext.radio, hnext.slot])

theorem Block.CommitsNext.committedPlan : b.committedPlan r.val = none := by
  simp [Block.committedPlan, hnext.only, hnext.planned]

theorem Block.CommitsNext.commitFacts : b.commitFacts r.val = (b.overruns p, b.failing p) := by
  simp only [Block.commitFacts, hnext.find]

theorem Block.CommitsNext.free : ¬ (b.est 4 ≠ stRun ∨ (b.committedPlan r.val).isSome = true ∨
    (p.protect && !p.guarded) = true ∨ b.pairWaits r.val = true) := by
  rcases hnext.guarded with h | h <;> simp [hnext.runs, hnext.committedPlan, hnext.unyoked, h]

/-- A plan that overruns its limits is undone (R165). -/
theorem Block.planCommit_overrun (hover : b.overruns p = true) : b.planCommit r.val = b.undoFrom r.val 0 := by
  simp only [Block.planCommit, hnext.find, if_neg hnext.free, hover, if_true]

/-- A group plan of a TXOP under way, without users, only changes to COMMITTED, with its TXOP and its counters (R165). -/
theorem Block.planCommit_group (hfits : b.overruns p = false) (hform : p.form = .group) (hfirst : p.first = false)
    (husers : p.users = []) : b.planCommit r.val =
      (((((b.updDrov (fun d => { d with plans := [p.begun b.mono] })).yokeAlign r.val p.dur).updLm r.val (fun l => { l with
        txop := l.txop.map (fun (t : Txop) => { t with ppdus := t.ppdus + 1 }) })).drovCount r.val C.DROV.PLAN_COMMIT).drovCount
          r.val C.DROV.GROUP_US p.dur).boundary 4 := by
  have hnone : b.failing p = [] := by rw [Block.failing, husers]; rfl
  have hbegun : ({ p with committed := true, slot := 0, stop := b.mono + 1000 * p.total } : Plan) = p.begun b.mono := by
    rw [← hnext.slot]
    rfl
  simp only [Block.planCommit, hnext.find, if_neg hnext.free, hfits, hform, hnone, hnext.planAt, husers, hfirst, List.foldl_nil,
    Option.elim_some, Bool.false_eq_true, if_false, false_and, formCount]
  simp [Block.updDrov, hnext.only, hnext.radio, hnext.slot, ← hbegun]

end

/-! ### Plans settled, swapped away, undone -/

/-- A plan that no user answered settles, is dropped and refilled, and its TXOP ends where its AC has no limit (R100, R169). -/
theorem Block.planSettle_unheard {p : Plan} {us : List SettleUser} {c : Block} (hplan : b.committedPlan r.val = some p)
    (hdata : p.form ≠ .sounding) (hunheard : us.any (fun u => u.heard) = false)
    (hc : c = (((p.users.foldl (fun b u => b.settleUser p us u) b).dropPlan r.val p.slot).refill r.val p.ac).groupsGone r.val)
    (hlimit : c.txopLimit r.val p.ac = 0) : b.planSettle r.val us = c.endTxop r.val := by
  subst hc
  unfold Block.planSettle
  simp only [hplan, beq_eq_false_iff_ne.mpr hdata, hunheard, Bool.false_eq_true, if_false]
  exact if_pos (.inl hlimit)

/-- A plan of another AC gives way (R156). -/
theorem exec_planSwap_other {p : Plan} {ac : Fin 4} (hplan : s.blk.planAt r.val 0 = some p) (hplanned : p.committed = false)
    (hother : p.ac ≠ ac.val) :
    exec (.planSwap r ac) s = s.next ((s.blk.undoFrom r.val 0).drovCount r.val C.DROV.PLAN_SWAP) := by
  change execPlanSwap r ac s = _
  simp only [execPlanSwap, hplan, hplanned, bne_iff_ne.mpr hother, Bool.not_false, Bool.and_self, if_true]

section
variable {s r} {k : Fin 2} {p : Plan} (hplan : s.blk.planAt r.val k.val = some p) (hplanned : p.committed = false)
include hplan hplanned

theorem exec_planUndo_whole : exec (.planUndo r k none) s = s.next (s.blk.undoFrom r.val k.val) := by
  change execPlanUndo r k none s = _
  simp only [execPlanUndo, hplan, hplanned, Bool.false_eq_true, if_false]

/-- One user is undone alone, but a single-user plan as a whole (R166, R167). -/
theorem exec_planUndo_user (sta : Nat) : exec (.planUndo r k (some sta)) s = s.next
    (if (p.form == .su) = true then s.blk.undoFrom r.val k.val else s.blk.removeUser p sta) := by
  change execPlanUndo r k (some sta) s = _
  simp only [execPlanUndo, hplan, hplanned, Bool.false_eq_true, if_false]

end

/-! ### Queues -/

/-- A frame as it comes into a queue (R149). -/
def Block.newFrame (b : Block) (tid : Nat) (f : EthFrame) (cells pool : Nat) : QFrame :=
  { id := b.drov.nextId, tid := tid, len := frameLen f, cells := cells, pool := pool, arrival := b.ao / 1000000, frame := f }

/-- A frame within the limit of its queue, its station VALID, comes last in it under a number of its own (R149). -/
theorem Block.airPut_fits {sta ac tid : Nat} (hac : ac < 4) (f : EthFrame) (cells pool : Nat) (hvalid : b.drovValid sta = true)
    (hruns : b.runs 4 = true)
    (hfits : sumNat ((b.queue (4 * sta + ac)).map (fun y => y.len)) + frameLen f ≤ b.queueLimit (4 * sta + ac)) :
    b.airPut (4 * sta + ac) tid f cells pool =
      ({ b with drov := { b.drov with nextId := b.drov.nextId + 1 } } : Block).setQueue (4 * sta + ac)
        (b.queue (4 * sta + ac) ++ [b.newFrame tid f cells pool]) := by
  have hsta : (4 * sta + ac) / 4 = sta := by omega
  exact if_neg (by simp [hsta, hvalid, hruns, hfits])

theorem Block.takeCells_enough {n : Nat} (h : n ≤ b.cart.cellar) :
    b.takeCells n = some (b.updCart (fun c => { c with cellar := c.cellar - n })) :=
  if_pos h

theorem Block.takeCells_short {n : Nat} (h : b.cart.cellar < n) : b.takeCells n = none :=
  if_neg h.not_ge

theorem acOf_lt (tid : Nat) : acOf tid < 4 := by
  unfold acOf
  split <;> decide

/-- A frame of a station that fits takes its cells and joins its queue (R149, R281). -/
theorem exec_airEnqueue_fits {sta : Fin 2048} (bss : Fin 16) {tid : Fin 8} {f : EthFrame} {c : Block}
    (hcells : cellsFor (frameLen f) ≤ s.blk.cart.cellar)
    (hc : c = s.blk.updCart (fun x => { x with cellar := x.cellar - cellsFor (frameLen f) })) (hvalid : c.drovValid sta.val = true)
    (hruns : c.runs 4 = true) (hfits : sumNat ((c.queue (4 * sta.val + acOf tid.val)).map (fun y => y.len)) + frameLen f ≤
      c.queueLimit (4 * sta.val + acOf tid.val)) :
    exec (.airEnqueue r (some sta) bss tid f) s = s.next
      (({ c with drov := { c.drov with nextId := c.drov.nextId + 1 } } : Block).setQueue (4 * sta.val + acOf tid.val)
        (c.queue (4 * sta.val + acOf tid.val) ++ [c.newFrame tid.val f (cellsFor (frameLen f)) 0])) := by
  subst hc
  change execAirEnqueue r (some sta) bss tid f s = _
  simp only [execAirEnqueue, s.blk.takeCells_enough hcells]
  exact congrArg s.next (Block.airPut_fits _ (acOf_lt _) f _ 0 hvalid hruns hfits)

/-- A frame without cells is dropped and counted (R281). -/
theorem exec_airEnqueue_noCells (sta : Option (Fin 2048)) (bss : Fin 16) (tid : Fin 8) {f : EthFrame}
    (hcells : s.blk.cart.cellar < cellsFor (frameLen f)) :
    exec (.airEnqueue r sta bss tid f) s = s.next (s.blk.cartCount 4 C.CART.NOCELL_DROP) := by
  change execAirEnqueue r sta bss tid f s = _
  simp only [execAirEnqueue, s.blk.takeCells_short hcells]

/-- A frame at the head for AGE_MS is dropped and counted (R149; times of log entries 31 and 164). -/
theorem exec_queueAgeDrop_aged {q : Nat} {f : QFrame} {rest : List QFrame} (hqueue : s.blk.queue q = f :: rest)
    (hage : s.blk.get F.DROV_QCFG.AGE_MS ≠ 0) (hfree : f.reserved = none) (hhead : f.head ≠ 0)
    (hpast : f.head + s.blk.get F.DROV_QCFG.AGE_MS ≤ s.blk.ao / 1000000 + 1) (hruns : s.blk.runs 4 = true) :
    exec (.queueAgeDrop q) s =
      s.next (((s.blk.setQueue q rest).dropFrame f).drovCount (s.blk.queueRadio q) C.DROV.AGED) := by
  change execQueueAgeDrop q s = _
  simp only [execQueueAgeDrop, hqueue]
  exact congrArg s.next (if_pos ⟨hage, by rw [hfree]; rfl, hhead, hpast, hruns⟩)

/-! ### Sounding, BSRP, precoders -/

theorem exec_soundingDue_on (hrun : s.blk.est 4 = stRun) (hperiod : s.blk.get F.DROV_SOUND.SOUND_MS ≠ 0) :
    exec .soundingDue s = s.next (s.blk.updDrov (fun d => { d with soundDue := [0, 1, 2] })) :=
  congrArg s.next (if_pos ⟨hrun, hperiod⟩)

theorem exec_bsrpDue_first (hrun : s.blk.est 4 = stRun) (hperiod : s.blk.get F.DROV_UL.BSRP_MS ≠ 0)
    (hon : s.blk.on F.DROV_UL.UL_EN = true) (hfirst : r.val ∉ s.blk.drov.bsrpDue) :
    exec (.bsrpDue r) s = s.next (s.blk.updDrov (fun d => { d with bsrpDue := d.bsrpDue ++ [r.val] })) :=
  congrArg s.next (if_pos ⟨hrun, hperiod, hon, by simp [hfirst]⟩)

/-- c is b but for its counters. -/
def Block.sameBeyondCounts (b c : Block) : Prop := c = { b with counts := c.counts }

theorem Block.sameBeyondCounts_refl : b.sameBeyondCounts b := rfl

theorem Block.sameBeyondCounts.count {b c : Block} (h : b.sameBeyondCounts c) (x : CntSet) (n k : Nat) :
    b.sameBeyondCounts (c.count x n k) := by
  unfold Block.sameBeyondCounts at h
  unfold Block.count
  split
  · exact h
  · rw [h]; rfl

theorem Block.sameBeyondCounts.ite {b c d : Block} {x : Prop} [Decidable x] (hc : b.sameBeyondCounts c)
    (hd : b.sameBeyondCounts d) : b.sameBeyondCounts (if x then c else d) := by
  split
  · exact hc
  · exact hd

section
variable {s} {k : Fin 2} (us : Nat) {g : Precoder} (hsolving : s.blk.drov.solving = [(k.val, g)]) (hready : s.blk.drov.ready = [])
include hsolving hready

/-- The only solver at work leaves its precoder ready and is free; beyond that a precoder is counted and the lane moves (R163). -/
theorem exec_precoderReady_counts : blockStep (.precoderReady k us) s (fun c =>
    (s.blk.updDrov (fun d => { d with solving := [], ready := [g] })).sameBeyondCounts c) := by
  have hfind : s.blk.drov.solving.find? (fun x => x.1 == k.val) = some (k.val, g) := by
    rw [hsolving]
    exact List.find?_cons_of_pos (beq_self_eq_true _)
  have hfreed : [(k.val, g)].filter (fun y => y.1 != k.val) = [] := List.filter_cons_of_neg (by simp)
  change ∃ c : Block, execPrecoderReady k us s = s.next c ∧ _
  simp only [execPrecoderReady, hfind]
  simp only [Block.updDrov, hsolving, hready, hfreed, List.filter_nil, List.nil_append]
  refine ⟨_, rfl, ?_⟩
  exact .ite ((((Block.sameBeyondCounts_refl _).count ..).count ..).count ..)
    (((Block.sameBeyondCounts_refl _).count ..).count ..)

theorem exec_precoderReady_single : blockStep (.precoderReady k us) s (fun b =>
    b = { s.blk with drov := b.drov, counts := b.counts } ∧ b.drov = { s.blk.drov with solving := [], ready := [g] }) := by
  obtain ⟨c, hexec, hsame⟩ := exec_precoderReady_counts us hsolving hready
  unfold Block.sameBeyondCounts at hsame
  exact ⟨c, hexec, by rw [hsame]; rfl, by rw [hsame]; rfl⟩

end

/-! ### The placement loop -/

theorem Block.mlValid_congr {b c : Block} (h : c.tabs = b.tabs) (i : Nat) : c.mlValid i = b.mlValid i := by
  simp only [Block.mlValid, Block.tab, h]

/-- The radios' utilisation shown (R146). -/
def Block.utilShown (b : Block) (u0 u1 u2 : BitVec 8) : Block :=
  ((b.set F.MARS_UTIL.U0 u0.toNat).set F.MARS_UTIL.U1 u1.toNat).set F.MARS_UTIL.U2 u2.toNat

theorem Block.mlValid_utilShown (u0 u1 u2 : BitVec 8) (i : Nat) : (b.utilShown u0 u1 u2).mlValid i = b.mlValid i :=
  Block.mlValid_congr rfl i

theorem Block.freeze_utilShown (u0 u1 u2 : BitVec 8) :
    (b.utilShown u0 u1 u2).on F.MARS_LOOP.FREEZE = b.on F.MARS_LOOP.FREEZE := by
  rw [Block.on, Block.utilShown, Block.get_set_other _ _ (by decide), Block.get_set_other _ _ (by decide),
    Block.get_set_other _ _ (by decide), ← Block.on]

/-- With every link invalid and the loop frozen a period shows the utilisation, counts, and moves nothing (R146). -/
theorem exec_placementPeriod_frozen (u0 u1 u2 : BitVec 8) (hrun : s.blk.est 8 = stRun)
    (hfrozen : s.blk.on F.MARS_LOOP.FREEZE = true) (hinvalid : ∀ i, s.blk.mlValid i = false) :
    exec (.placementPeriod u0 u1 u2) s = s.next
      ((((((s.blk.utilShown u0 u1 u2).set F.MARS_STATUS.MOVED 0).wrap F.MARS_STATUS.PERIODS 1).updMars
        (fun m => { m with carried := [], counted := [] })).count .mars C.MARS.LOOP_PERIODS).boundary 8) := by
  have hshown (i : Nat) := (s.blk.mlValid_utilShown u0 u1 u2 i).trans (hinvalid i)
  have hstill := (s.blk.freeze_utilShown u0 u1 u2).trans hfrozen
  unfold Block.utilShown at hshown hstill ⊢
  change execPlacementPeriod u0 u1 u2 s = _
  simp only [execPlacementPeriod, hrun, hshown, hstill, ne_eq, not_true_eq_false, if_false, if_true,
    List.filter_false, List.filter_nil, List.foldl_nil, List.length_nil, List.isEmpty_nil]

/-- Settles O13: each clause by the lemma on its command. -/
theorem planQueueAndLoopEffects : Obligations.PlanQueueAndLoopEffects := by
  refine ⟨⟨fun s p c r ac key room fs hr hrun hup hfree htxop hac hc hdue hgroup hroom hfs hfits => ?_,
      fun s p hidle => congrArg s.next (s.blk.planMake_idle s.fuse hidle),
      fun s r p honly hradio hslot hplanned hrun hguard hpair => ?_,
      fun s r p us c hplan hdata hunheard hc hlimit =>
        congrArg s.next (s.blk.planSettle_unheard r hplan hdata hunheard hc hlimit),
      fun s r p ac => exec_planSwap_other s r,
      fun s r k p hplan hplanned => ⟨exec_planUndo_whole hplan hplanned, exec_planUndo_user hplan hplanned⟩⟩,
    fun s r sta bss tid f n key c hn hkey hcells hc hvalid hruns hfits => ?_,
    fun s r sta bss tid f => exec_airEnqueue_noCells s r sta bss tid,
    fun s q f rest hqueue hage hfree hhead hpast hruns =>
      ⟨_, rfl, exec_queueAgeDrop_aged s hqueue hage hfree hhead hpast hruns⟩,
    exec_soundingDue_on, exec_bsrpDue_first,
    fun s k us g => exec_precoderReady_single us,
    fun s u0 u1 u2 hrun hfrozen hinvalid => ⟨_, rfl, exec_placementPeriod_frozen s u0 u1 u2 hrun hfrozen hinvalid⟩⟩
  · subst hr hac hroom hfs
    exact congrArg s.next ((s.blk.planMake_group s.fuse hrun hup hfree htxop hc hdue hgroup).trans (c.groupPlan_fits hfits))
  · have hnext : s.blk.CommitsNext r.val p := ⟨honly, hradio, hslot, hplanned, hrun, hguard, hpair⟩
    refine ⟨fun hover => congrArg s.next ?_, fun hfits hform hfirst husers => congrArg s.next ?_⟩
    · rw [if_pos (by rw [hnext.commitFacts, hover])]
      exact Block.planCommit_overrun hnext hover
    · rw [if_pos (by rw [hnext.commitFacts, hfits, Block.failing, husers]; rfl)]
      exact Block.planCommit_group hnext hfits hform hfirst husers
  · subst hn hkey
    exact exec_airEnqueue_fits s r bss hcells hc hvalid hruns hfits

end Sys2Proof.Machine
end

section
/-! Mesh reception: detections, SFDs, headers and verdicts of Sieve's stalls (R181 to R190). -/

namespace Sys2Proof.Machine

variable (b : Block) (s : State)

/-! ### What counters and releases leave of Sieve -/

@[simp] theorem Block.count_sieve (c : CntSet) (n k : Nat) : (b.count c n k).sieve = b.sieve := by
  unfold Block.count
  split <;> rfl

@[simp] theorem Block.est_count (c : CntSet) (n k e : Nat) : (b.count c n k).est e = b.est e := b.get_count c n k _

theorem Block.releaseStalls_unpicked {p : Stall → Bool} (n : Nat) (h : ∀ q ∈ b.sieve.stalls, p q = false) :
    b.releaseStalls p n = b := by
  rw [Block.releaseStalls, List.filter_eq_nil_iff.mpr fun q hq => ne_true_of_eq_false (h q hq), List.foldl_nil]

/-! ### Detections -/

theorem Block.detectAll_nil (ns : Nat) : b.detectAll ns [] =
    { b with sieve := { b.sieve with recent := b.sieve.recent.filter (fun d => decide (ns ≤ d.ns + b.h2Ns 8)) } } := by
  change ({ b with sieve := { b.sieve with recent := _ ++ [] } } : Block) = _
  rw [List.append_nil]
  rfl

/-- One detection is counted, kept for R182 and seated. -/
theorem Block.detectAll_single (ns : Nat) (d : MeshDet) {c : Block}
    (hc : c = ((b.count .sieve C.SIEVE.DETECT).chCount d.ch 4).lane 9 (128 + d.hyp) 0) : b.detectAll ns [d] =
      ({ c with sieve := { c.sieve with recent := c.sieve.recent.filter (fun d => decide (ns ≤ d.ns + c.h2Ns 8)) ++ [d] } } :
        Block).seat d.ch d.hyp d.power ns := by
  subst hc
  rfl

/-- The window of one detector, whatever its number, is a detection or none. -/
theorem exec_sieveDetection_single (ns : Nat) (h : RoundHit) :
    exec (.sieveDetection ns h.ch h.hyp { corr := h.corr, power := h.power } []) s =
      s.next (s.blk.detectAll ns (if s.blk.hitDeclared ns h = true then [hitDet ns h] else [])) := by
  change s.next (s.blk.detectAll ns (([{ h with win := 0 }].filter (s.blk.hitDeclared ns)).map (hitDet ns))) = _
  rw [List.filter_cons, List.filter_nil, apply_ite (List.map _)]
  rfl

/-! ### SFDs and preambles -/

/-- The SFD of the only stall: it goes to HEADER, and no other reception is there to be released (R184, R188). -/
theorem Block.sfdHit_alone {ns : Nat} {h : SfdHit} {coded : Bool} {x : Stall} {c : Block} (honly : b.sieve.stalls = [x])
    (hidx : x.idx = h.stall.val) (hhunt : x.st = .hunt) (htime : ns ≤ b.preDeadline x)
    (hsfd : sfdCoded (b.on F.SIEVE_RXCFG.SFD_SET) x.hyp h.sfd.toNat = some coded) (hpost : b.est 10 = stRun)
    (hc : c = (b.lane 9 (128 + x.hyp) 1).setStall
      { x with st := .header, cand := false, sfd := ns, coded := coded, cfo := h.cfo }) :
    b.sfdHit ns h = { c with post := { c.post with streams := c.post.streams ++ [⟨x.idx, 0, 0⟩] } } := by
  have hstall : b.stallAt h.stall.val = some x := by simp [Block.stallAt, honly, hidx]
  have hothers : ∀ (p : Stall → Bool), ∀ q ∈ (b.lane 9 (128 + x.hyp) 1).sieve.stalls,
      (q.ch == x.ch && q.idx != x.idx && p q) = false := by
    simp [Block.lane, honly]
  have hhears : c.postHears = true := by
    have hrun : c.est 10 = stRun := by
      rw [hc, ← hpost]
      exact b.est_count _ _ _ _
    simp [Block.postHears, Block.runs, hrun]
  simp only [Block.sfdHit, hstall, hhunt, hsfd, if_neg htime.not_gt, Block.releaseStalls_unpicked _ _ (hothers _), ← hc, hhears,
    bne_self_eq_false, Bool.false_eq_true, if_false, if_true]

/-- An SFD past PRE_TIMEOUT ends the stall (R183). -/
theorem Block.sfdHit_late {ns : Nat} {h : SfdHit} {x : Stall} (hstall : b.stallAt h.stall.val = some x) (hhunt : x.st = .hunt)
    (htime : b.preDeadline x < ns) : b.sfdHit ns h = b.preTimeout x := by
  simp only [Block.sfdHit, hstall, hhunt, if_pos htime, bne_self_eq_false, Bool.false_eq_true, if_false]

theorem exec_preambleTimeout_hunting {i : Fin 128} {x : Stall} (hstall : s.blk.stallAt i.val = some x) (hhunt : x.st = .hunt) :
    exec (.preambleTimeout i) s = s.next (if s.blk.reached (s.blk.preDeadline x) = true then s.blk.preTimeout x else s.blk) := by
  change execPreambleTimeout i s = _
  simp only [execPreambleTimeout, hstall, hhunt, beq_self_eq_true, Bool.true_and]

/-! ### Headers -/

theorem phrValid_eq_false_iff {p : PhrRead} (hms : p.ms = false) :
    phrValid p = false ↔ p.len < (if p.fcs4 = true then 5 else 3) := by
  rw [phrValid, hms, Bool.not_false, Bool.true_and, decide_eq_false_iff_not, not_le]

/-- A PHR with one reading is judged by that reading's mode switch and length (R179). -/
theorem exec_phrJudgement_single {i : Fin 128} {x : Stall} (p : PhrRead) (m : Nat × Nat) (hstall : s.blk.stallAt i.val = some x)
    (hheader : x.st = .header) : exec (.phrJudgement i p none m) s = s.next
    (if p.ms = true then s.blk.releaseStall x.idx C.SIEVE.UNSUPP
    else if p.len < (if p.fcs4 = true then 5 else 3) then s.blk.releaseStall x.idx C.SIEVE.PHR_ERR
    else (s.blk.setStall { x with st := .body, len := p.len, fcs4 := p.fcs4, dw := p.dw, rsc := false }).reserveFor x.idx
      (p.len - (if p.fcs4 = true then 4 else 2))) := by
  change execPhrJudgement i p none m s = _
  simp only [execPhrJudgement, hstall, hheader, phrChoice, bne_self_eq_false, Bool.false_eq_true, if_false]
  refine congrArg s.next (ite_congr rfl (fun _ => rfl) fun hms => ite_congr ?_ (fun _ => rfl) fun _ => rfl)
  rw [Bool.not_eq_true', phrValid_eq_false_iff (eq_false_of_ne_true hms)]

/-! ### Verdicts -/

section
variable {s} {i : Fin 128} {x : Stall} {psdu fcs : List Byte} {c : Block} (hstall : s.blk.stallAt i.val = some x)
  (hbody : x.st = .body)
  (hc : c = { s.blk with sieve := { s.blk.sieve with stalls := s.blk.sieve.stalls.filter (fun q => q.idx != x.idx) } })
include hstall hbody hc

theorem exec_meshFrameVerdict_bad (hbad : (psdu ++ fcs).length ≠ x.len ∨ meshChecked x.fcs4 (psdu ++ fcs) = none) :
    exec (.meshFrameVerdict i psdu fcs) s =
      s.next (((c.count .sieve C.SIEVE.FCS_FAIL).chCount x.ch 0xC).undoStream x.idx).sieveIdle := by
  have hverdict : (if (psdu ++ fcs).length = x.len then meshChecked x.fcs4 (psdu ++ fcs) else none) = none :=
    hbad.elim (fun h => if_neg h) (fun h => by rw [h, ite_self])
  change execMeshFrameVerdict i psdu fcs s = _
  simp only [execMeshFrameVerdict, hstall, hbody, hverdict, bne_self_eq_false, Bool.false_eq_true, if_false, ← hc]

theorem exec_meshFrameVerdict_good {body : List Byte} {d : Block} (hlen : (psdu ++ fcs).length = x.len)
    (hgood : meshChecked x.fcs4 (psdu ++ fcs) = some body)
    (hd : d = (((c.count .sieve C.SIEVE.FRAME_OK).chCount x.ch 8).lane 9 x.idx 0).setTab (chState x.ch + 3) 1
      (unsignedOf 8 (x.power / 2) ^^^ 0x80)) :
    exec (.meshFrameVerdict i psdu fcs) s = s.next ({ d with post := { d.post with
      good := d.post.good ++ (d.post.streams.filter (fun (q : PostStream) => q.stall == x.idx)).map (d.goodFrame x body)
      streams := d.post.streams.filter (fun q => q.stall != x.idx) } } : Block).sieveIdle := by
  change execMeshFrameVerdict i psdu fcs s = _
  simp only [execMeshFrameVerdict, hstall, hbody, if_pos hlen, hgood, bne_self_eq_false, Bool.false_eq_true, if_false, ← hc, ← hd]

end

/-! ### The noise floor -/

theorem exec_nfLoopUpdate_single {k : Nat} (xs : List Int) (hruns : s.blk.runs 9 = true) (hen : s.blk.on F.SIEVE_NF_LOOP.EN = true)
    (honly : (List.range s.blk.meshChannels).filter (fun k => bitOf (s.blk.chEntry k) 0) = [k]) :
    exec (.nfLoopUpdate [(k, xs)]) s = s.next (s.blk.nfChannel k xs) := by
  change execNfLoopUpdate [(k, xs)] s = _
  simp only [execNfLoopUpdate, hruns, hen, honly, Bool.and_self, if_true, List.foldl_cons, List.foldl_nil, look, if_true]

/-- Settles O14: each clause by the lemma on its command. -/
theorem meshReceptionEffects : Obligations.MeshReceptionEffects :=
  ⟨fun s ns h _ hhit hb => (exec_sieveDetection_single s ns h).trans
      (congrArg s.next ((congrArg _ (if_pos hhit)).trans (s.blk.detectAll_single ns (hitDet ns h) hb))),
    fun s ns h hhit => (exec_sieveDetection_single s ns h).trans
      (congrArg s.next ((congrArg _ (if_neg (ne_true_of_eq_false hhit))).trans (s.blk.detectAll_nil ns))),
    fun s _ _ _ _ _ honly hidx hhunt htime hsfd hpost hb =>
      congrArg s.next (s.blk.sfdHit_alone honly hidx hhunt htime hsfd hpost hb),
    fun s _ _ _ hstall hhunt htime => congrArg s.next (s.blk.sfdHit_late hstall hhunt htime),
    fun s _ _ => exec_preambleTimeout_hunting s,
    fun s _ _ p hstall hheader =>
      ⟨fun hms m => (exec_phrJudgement_single s p m hstall hheader).trans (congrArg s.next (if_pos hms)),
      fun hms hshort m => (exec_phrJudgement_single s p m hstall hheader).trans
        (congrArg s.next ((if_neg (ne_true_of_eq_false hms)).trans (if_pos hshort))),
      fun hms hlong m => (exec_phrJudgement_single s p m hstall hheader).trans
        (congrArg s.next ((if_neg (ne_true_of_eq_false hms)).trans (if_neg hlong.not_gt)))⟩,
    fun _ _ _ _ _ _ hstall hbody hb => ⟨exec_meshFrameVerdict_bad hstall hbody hb,
      fun _ _ => exec_meshFrameVerdict_good hstall hbody hb⟩,
    fun s _ => exec_nfLoopUpdate_single s⟩

end Sys2Proof.Machine
end

section
/-! The bounds of the loops: noise floors (R190), the AVS set point (R384) and the coefficients of the ring receivers (R391). -/

namespace Sys2Proof.Machine

variable (b : Block) (s : State)

/-! ### Two's complement -/

theorem signedOf_mod (w v : Nat) : signedOf w (v % 2 ^ w) = signedOf w v := by
  rw [signedOf, Nat.mod_mod, ← signedOf]

theorem signedOf_unsignedOf {w : Nat} {v : Int} (hw : 0 < w) (hlo : -2 ^ (w - 1) ≤ v) (hhi : v < 2 ^ (w - 1)) :
    signedOf w (unsignedOf w v) = v :=
  calc signedOf w (unsignedOf w v) = (BitVec.ofNat w (BitVec.ofInt w v).toNat).toInt := by
        rw [BitVec.toNat_ofInt]
        rfl
    _ = v := by rw [BitVec.ofNat_toNat, BitVec.setWidth_eq, BitVec.toInt_ofInt_eq_self hw hlo hhi]

theorem Block.getS_setS_same {f : Fld} {v : Int} (hw : 0 < f.width) (hlo : -2 ^ (f.width - 1) ≤ v) (hhi : v < 2 ^ (f.width - 1)) :
    (b.setS f v).getS f = v := by
  rw [Block.getS, Block.setS, b.get_set_same, signedOf_mod, signedOf_unsignedOf hw hlo hhi]

theorem Block.getS_set_other {f g : Fld} (v : Nat) (h : g.key ≠ f.key) : (b.set f v).getS g = b.getS g := by
  rw [Block.getS, b.get_set_other v h, ← Block.getS]

/-! ### Noise floors -/

theorem Block.noiseFloor_setTab (k : Nat) {v : Int} (hlo : -32768 ≤ v) (hhi : v ≤ 32767) :
    (b.setTab (chState k) 2 (unsignedOf 16 v)).noiseFloor k = v := by
  rw [Block.noiseFloor, Block.tab, Block.setTab, readLE_writeBytes, signedOf_mod]
  exact signedOf_unsignedOf (by decide) hlo (Int.lt_add_one_of_le hhi)

/-- The flags of a channel stand behind its noise floor. -/
theorem Block.noiseFloor_setTab_flags (k v : Nat) : (b.setTab (chState k + 2) 1 v).noiseFloor k = b.noiseFloor k := by
  rw [Block.noiseFloor, Block.tab, Block.setTab, readLE_writeBytes_other _ _ _ _ _ _ (.inl le_rfl), ← Block.tab, ← Block.noiseFloor]

theorem Block.noiseFloor_nfChannel (k : Nat) (xs : List Int) (hlo : -32768 ≤ b.nfMin) (hhi : b.nfMax ≤ 32767) :
    b.nfMin ≤ (b.nfChannel k xs).noiseFloor k ∧ (b.nfChannel k xs).noiseFloor k ≤ b.nfMax := by
  have hclamp : ∀ v, b.nfMin ≤ clampInt b.nfMin b.nfMax v ∧ clampInt b.nfMin b.nfMax v ≤ b.nfMax :=
    clampInt_within (min_le_left _ _)
  have hkept : ∀ v, (b.setTab (chState k) 2 (unsignedOf 16 (clampInt b.nfMin b.nfMax v))).noiseFloor k = clampInt b.nfMin b.nfMax v :=
    fun v => b.noiseFloor_setTab k (hlo.trans (hclamp v).1) ((hclamp v).2.trans hhi)
  unfold Block.nfChannel
  dsimp only
  split
  · rw [hkept]
    exact hclamp _
  · rw [Block.noiseFloor_setTab_flags, hkept]
    exact hclamp _

/-! ### The AVS set point -/

theorem clampTo_within {lo hi : Nat} (h : lo ≤ hi) (v : Nat) : lo ≤ clampTo lo hi v ∧ clampTo lo hi v ≤ hi := by
  unfold clampTo
  split_ifs <;> omega

theorem Block.avsBounds_within : 130 ≤ b.avsMin ∧ b.avsMax ≤ 170 := by
  have hmax := clampTo_within (by decide : 130 ≤ 170) (b.get F.TOP_AVS_BOUND.VMAX)
  have hmin := clampTo_within (by decide : 130 ≤ 170) (b.get F.TOP_AVS_BOUND.VMIN)
  exact ⟨le_min hmax.1 hmin.1, hmax.2⟩

/-- Writing a set point leaves the fields outside TOP_AVS_STATUS. -/
theorem Block.get_avsPut_other {g : Fld} (v : Nat) (hbus : g.key ≠ F.TOP_AVS_STATUS.BUS_ERR.key)
    (hfault : g.key ≠ F.TOP_AVS_STATUS.AVS_FAULT.key) (hv : g.key ≠ F.TOP_AVS_STATUS.V.key) : (b.avsPut v).get g = b.get g := by
  change (((b.set F.TOP_AVS_STATUS.BUS_ERR 0).set F.TOP_AVS_STATUS.AVS_FAULT _).set F.TOP_AVS_STATUS.V v).get g = _
  rw [Block.get_set_other _ _ hv, Block.get_set_other _ _ hfault, Block.get_set_other _ _ hbus]

@[simp] theorem Block.avsMax_avsPut (v : Nat) : (b.avsPut v).avsMax = b.avsMax :=
  congrArg (clampTo 130 170) (b.get_avsPut_other v (by decide) (by decide) (by decide))

@[simp] theorem Block.avsMin_avsPut (v : Nat) : (b.avsPut v).avsMin = b.avsMin :=
  congrArg₂ (fun hi v => min hi (clampTo 130 170 v)) (b.avsMax_avsPut v)
    (b.get_avsPut_other v (by decide) (by decide) (by decide))

theorem Block.avsWrite_valid {v : Nat} (n : Nat) (hhi : v ≤ b.avsMax) : (b.avsWrite v n true).avsMin = b.avsMin ∧
    (b.avsWrite v n true).avsMax = b.avsMax ∧ (b.avsWrite v n true).get F.TOP_AVS_STATUS.V = v := by
  unfold Block.avsWrite
  split
  next hsame => exact ⟨rfl, rfl, hsame.symm⟩
  · have hwidth : v < 2 ^ F.TOP_AVS_STATUS.V.width := (hhi.trans b.avsBounds_within.2).trans_lt (by decide)
    exact ⟨b.avsMin_avsPut v, b.avsMax_avsPut v, (Block.get_set_same _ _ v).trans (Nat.mod_eq_of_lt hwidth)⟩

/-! ### The ring receivers -/

/-- A tap moved by its accumulated error, within its bound (R391). -/
def Block.moveTap (shift lim : Nat) (b : Block) (x : Fld × Int) : Block :=
  b.setS x.1 (clampInt (-(tapMax x.1 : Int)) (tapMax x.1) (b.getS x.1 + loopStep x.2 shift lim))

/-! The fields of a port's receiver lie apart, and a tap's bound fits its width. -/

theorem eqTaps_length : ∀ p : Fin 2, (eqTaps p.val).length = 5 := by decide

theorem eqTaps_width : ∀ p : Fin 2, ∀ f ∈ eqTaps p.val, 0 < f.width ∧ tapMax f < 2 ^ (f.width - 1) := by decide

theorem eqTaps_key_inj : ∀ p : Fin 2, ∀ f ∈ eqTaps p.val, ∀ g ∈ eqTaps p.val, f.key = g.key → f = g := by decide

theorem ctle_key_ne_tap : ∀ p : Fin 2, ∀ f ∈ eqTaps p.val, (eqFld p.val 0).key ≠ f.key := by decide

theorem ctle_key_ne_atBound : ∀ p : Fin 2, (eqFld p.val 0).key ≠ (eqFld p.val 1).key := by decide

theorem tap_key_ne_atBound : ∀ p : Fin 2, ∀ f ∈ eqTaps p.val, f.key ≠ (eqFld p.val 1).key := by decide

section
variable {p : Fin 2}

theorem Block.natAbs_moveTap_same (shift lim : Nat) {x : Fld × Int} (hx : x.1 ∈ eqTaps p.val) :
    ((b.moveTap shift lim x).getS x.1).natAbs ≤ tapMax x.1 := by
  obtain ⟨hpos, hfits⟩ := eqTaps_width p x.1 hx
  obtain ⟨hlo, hhi⟩ := clampInt_within (by omega : -(tapMax x.1 : Int) ≤ tapMax x.1) (b.getS x.1 + loopStep x.2 shift lim)
  have hsize : (tapMax x.1 : Int) < 2 ^ (x.1.width - 1) := by exact_mod_cast hfits
  rw [Block.moveTap, b.getS_setS_same hpos (by omega) (by omega)]
  omega

/-- After the taps of l have moved, a tap of the port is within its bound if it is of l or was within it. -/
theorem Block.natAbs_moveTaps (shift lim : Nat) {l : List (Fld × Int)} (hl : ∀ x ∈ l, x.1 ∈ eqTaps p.val) {f : Fld}
    (hf : f ∈ eqTaps p.val) (h : (b.getS f).natAbs ≤ tapMax f ∨ f ∈ l.map Prod.fst) :
    ((l.foldl (Block.moveTap shift lim) b).getS f).natAbs ≤ tapMax f := by
  induction l generalizing b with
  | nil => exact h.resolve_right List.not_mem_nil
  | cons x t ih =>
    have hx := hl x List.mem_cons_self
    refine ih _ (fun y hy => hl y (List.mem_cons_of_mem _ hy)) ?_
    by_cases hsame : f = x.1
    · subst hsame
      exact .inl (b.natAbs_moveTap_same shift lim hx)
    · have hkept : (b.moveTap shift lim x).getS f = b.getS f :=
        b.getS_set_other _ fun hkey => hsame (eqTaps_key_inj p f hf x.1 hx hkey)
      rw [hkept]
      exact h.imp_right fun hmem => (List.mem_cons.mp hmem).resolve_left hsame

theorem Block.ctle_moveTaps (shift lim : Nat) {l : List (Fld × Int)} (hl : ∀ x ∈ l, x.1 ∈ eqTaps p.val) :
    (l.foldl (Block.moveTap shift lim) b).get (eqFld p.val 0) = b.get (eqFld p.val 0) := by
  induction l generalizing b with
  | nil => rfl
  | cons x t ih =>
    exact (ih _ fun y hy => hl y (List.mem_cons_of_mem _ hy)).trans
      (b.get_set_other _ (ctle_key_ne_tap p x.1 (hl x List.mem_cons_self)))

/-- The CTLE setting moved by one in period n = 16, within 0 to 15 (R391). -/
def Block.moveCtle (b : Block) (p n : Nat) (peaking : Int) : Block :=
  if n = 16 then b.set (eqFld p 0) (if 0 < peaking then min 15 (b.get (eqFld p 0) + 1)
    else if peaking < 0 then b.get (eqFld p 0) - 1 else b.get (eqFld p 0)) else b

theorem Block.ctle_moveCtle (n : Nat) (peaking : Int) (h : b.get (eqFld p.val 0) ≤ 15) :
    (b.moveCtle p.val n peaking).get (eqFld p.val 0) ≤ 15 := by
  unfold Block.moveCtle
  split
  · rw [Block.get_set_same]
    refine (Nat.mod_le _ _).trans ?_
    split_ifs <;> omega
  · exact h

theorem Block.getS_moveCtle_tap (n : Nat) (peaking : Int) {f : Fld} (hf : f ∈ eqTaps p.val) :
    (b.moveCtle p.val n peaking).getS f = b.getS f := by
  unfold Block.moveCtle
  split
  · exact b.getS_set_other _ (ctle_key_ne_tap p f hf).symm
  · rfl

/-- An update that is not frozen moves the taps, then the CTLE setting, and shows whether one stands at a bound (R391). -/
theorem exec_dfeUpdate_unfrozen {accs : List Int} {peaking : Int} {c : Block} (hring : s.blk.ringRx p.val = true)
    (hopen : s.blk.on (if p.val = 0 then F.CART_EQ_CTRL.FREEZE_A else F.CART_EQ_CTRL.FREEZE_B) = false)
    (hc : c = (((eqTaps p.val).zip (accs ++ List.replicate 5 0)).foldl (Block.moveTap
      (if s.blk.on (eqFld p.val 2) then s.blk.get F.CART_EQ_CTRL.ACQ_SHIFT else s.blk.get F.CART_EQ_CTRL.GAIN_SHIFT)
      (max 1 (s.blk.get F.CART_EQ_CTRL.STEP)))
      (s.blk.updEq p.val (fun e => { e with periods := ((nth s.blk.eq p.val {}).periods + 1) % 16 }))).moveCtle p.val
        ((nth s.blk.eq p.val {}).periods + 1) peaking) :
    exec (.dfeUpdate p accs peaking) s = s.next (c.setB (eqFld p.val 1) (c.eqBound p.val)) := by
  subst hc
  change execDfeUpdate p accs peaking s = _
  simp only [execDfeUpdate, hring, hopen, Bool.not_true, Bool.false_eq_true, if_false]
  rfl

theorem exec_dfeUpdate_bounded {t : State} {accs : List Int} {peaking : Int} (hring : s.blk.ringRx p.val = true)
    (hopen : s.blk.on (if p.val = 0 then F.CART_EQ_CTRL.FREEZE_A else F.CART_EQ_CTRL.FREEZE_B) = false)
    (hctle : s.blk.get (eqFld p.val 0) ≤ 15) (hexec : exec (.dfeUpdate p accs peaking) s = .next t) :
    t.blk.get (eqFld p.val 0) ≤ 15 ∧ ∀ f ∈ eqTaps p.val, (t.blk.getS f).natAbs ≤ tapMax f := by
  have hfirsts : ((eqTaps p.val).zip (accs ++ List.replicate 5 0)).map Prod.fst = eqTaps p.val :=
    List.map_fst_zip (by simp [eqTaps_length])
  have htaps : ∀ x ∈ (eqTaps p.val).zip (accs ++ List.replicate 5 0), x.1 ∈ eqTaps p.val := fun x hx =>
    hfirsts ▸ List.mem_map_of_mem hx
  rw [exec_dfeUpdate_unfrozen s hring hopen rfl] at hexec
  cases hexec
  refine ⟨?_, fun f hf => ?_⟩
  · change Block.get (Block.set _ _ _) _ ≤ 15
    rw [Block.get_set_other _ _ (ctle_key_ne_atBound p)]
    exact Block.ctle_moveCtle _ _ _ ((Block.ctle_moveTaps _ _ _ htaps).trans_le hctle)
  · change (Block.getS (Block.set _ _ _) f).natAbs ≤ _
    rw [Block.getS_set_other _ _ (tap_key_ne_atBound p f hf), Block.getS_moveCtle_tap _ _ _ hf]
    exact Block.natAbs_moveTaps _ _ _ htaps hf (.inr (by rwa [hfirsts]))

end

/-- Settles O36: each loop by the lemma on its update. -/
theorem loopValuesStayInBounds : Obligations.LoopValuesStayInBounds :=
  ⟨fun b k xs _ => b.noiseFloor_nfChannel k xs,
    fun b _ n _ hhi _ _ =>
      have ⟨hmin, hmax, hv⟩ := b.avsWrite_valid n hhi
      ⟨hmin, hmax, hv, b.avsBounds_within⟩,
    fun s _ _ _ _ => exec_dfeUpdate_bounded s⟩

end Sys2Proof.Machine
end

section
/-! Mesh transmission: requests, their commitment, blanking and end, and the span (R174, R191 to R199, R259, R265). -/

namespace Sys2Proof.Machine

variable (b : Block) (s : State)

/-! ### Requests -/

section
variable {b} (fu : Fuses) {t u : MeshTx} (hsends : b.sieveSends = true) (hu : u = { t with pre := clampTo 4 1000 t.pre })
include hsends hu

theorem Block.meshRequest_refused (hjudge : b.meshJudge fu t.ch ≠ .ok) :
    b.meshRequest fu t = b.meshRefuse u (b.meshJudge fu t.ch) := by
  subst hu
  simp only [Block.meshRequest, if_pos hsends, if_pos hjudge]

theorem Block.meshRequest_late (hjudge : b.meshJudge fu t.ch = .ok) (hlate : t.start < b.now + b.leadNs) :
    b.meshRequest fu t = (b.count .sieve C.SIEVE.TX_LATE).meshUnsent u := by
  subst hu
  simp only [Block.meshRequest, if_pos hsends, hjudge, if_pos hlate, ne_eq, not_true_eq_false, if_false]

/-- A request in time is held for its start; a front end in READY has no wait to count (R191, R251). -/
theorem Block.meshRequest_held {c : Block} (hjudge : b.meshJudge fu t.ch = .ok) (htime : b.now + b.leadNs ≤ t.start)
    (hc : c = ({ b with sieve := { b.sieve with nextTx := b.sieve.nextTx + 1, txs := b.sieve.txs ++
      [({ id := b.sieve.nextTx, req := u, power := t.power } : SieveTx)] } } : Block).calAbort 3)
    (hfe : c.fe 3 = feReady) : b.meshRequest fu t = c := by
  subst hu
  have hready : ¬ (c.fe 3 = feWarm ∨ c.fe 3 = feSettle ∨ c.fe 3 = feCal) := by
    rw [hfe]
    decide
  simp only [Block.meshRequest, if_pos hsends, hjudge, if_neg htime.not_gt, ne_eq, not_true_eq_false, if_false, ← hc, if_neg hready]

end

/-! ### Commitment -/

theorem exec_sieveTxCommit_early {n : Nat} {t : SieveTx}
    (hwaits : s.blk.sieve.txs.find? (fun t => t.id == n && !t.committed) = some t)
    (hearly : s.blk.reached (s.blk.commitNs t.req) = false) : exec (.sieveTxCommit n) s = s.next s.blk := by
  change execSieveTxCommit n s = _
  simp only [execSieveTxCommit, hwaits, hearly, Bool.not_false, if_true]

theorem Block.maxTx_pos : 0 < b.maxTx := by
  have hset : 0 < clampTo 1 16 (b.get F.SIEVE_TXCFG.MAX_TX) := (clampTo_within (by decide : 1 ≤ 16) _).1
  unfold Block.maxTx
  split
  · exact lt_min hset Nat.two_pos
  · exact hset

/-- What a request finds at its commitment when nothing prevents it: its instant has come and its start has not passed, front end 3
and Sieve can send it, its channel is permitted (R191, R192). -/
def Block.commitsNow (fu : Fuses) (b : Block) (t : MeshTx) : Prop :=
  b.reached (b.commitNs t) = true ∧ b.now ≤ t.start ∧ feReady ≤ b.fe 3 ∧ b.fe 3 ≠ feCal ∧ b.sieveSends = true ∧
    b.meshJudge fu t.ch = .ok

/-- A request with nothing else on air, whose power the regulatory cap leaves and the sum of powers allows, is charged to its
sub-band and committed (R193, R259, R265). -/
theorem exec_sieveTxCommit_alone {n : Nat} {t : SieveTx} {p : Int} {u : Nat} {c : Block}
    (hwaits : s.blk.sieve.txs.find? (fun t => t.id == n && !t.committed) = some t) (hnow : s.blk.commitsNow s.fuse t.req)
    (halone : s.blk.onAirAt t.req.start = []) (hp : p = s.blk.capPower s.fuse t.req.ch (clampInt (-40) 28 t.req.power))
    (hcap : clampInt (-40) 28 t.req.power ≤ p) (hcut : leastCut [] p = 0) (hu : u = (s.blk.meshSub s.fuse t.req.ch).getD 0)
    (hduty : s.blk.dutyGrants s.fuse u (s.blk.airUnits t.req) = true)
    (hc : c = (s.blk.dutyCharge s.fuse u (s.blk.airUnits t.req)).updFe 3
      (fun e => { e with waiting := e.waiting.filter (· != n) })) :
    exec (.sieveTxCommit n) s = s.next { c with sieve := { c.sieve with txs := c.sieve.txs.map (fun (q : SieveTx) =>
      if q.id = n then { q with committed := true, power := p } else q) } } := by
  obtain ⟨hreached, hstart, hready, hnocal, hsends, hjudge⟩ := hnow
  subst hc
  have hfe : ¬ (s.blk.fe 3 < feReady ∨ s.blk.fe 3 = feCal) := not_or_intro hready.not_gt hnocal
  change execSieveTxCommit n s = _
  simp only [execSieveTxCommit, hwaits, hreached, if_neg hfe, hsends, decide_eq_false hstart.not_gt, hjudge, halone, List.map_nil,
    List.length_nil, ← hp, hcut, ← hu, hduty, if_neg hcap.not_gt, if_neg s.blk.maxTx_pos.not_ge, Bool.not_true, Bool.or_self,
    Bool.false_eq_true, if_false, ne_eq, not_true_eq_false, Nat.not_lt_zero, lt_irrefl, Nat.cast_zero, sub_zero]

/-! ### Blanking -/

/-- b with front end 3 in TX and the power target of chain 16 for what is on air (R260). -/
def Block.keyed (b : Block) : Block :=
  (b.setFe 3 feTx).updChain 16 (fun c => { c with target := some b.target16, viol := false })

section
variable {s} {n : Nat} {t : SieveTx}
  (hcommitted : s.blk.sieve.txs.find? (fun t => t.id == n && t.committed && !t.air) = some t)
include hcommitted

theorem exec_channelBlanking_early (hearly : s.blk.reached (t.req.start - 1000 * s.blk.rampUs) = false) :
    exec (.channelBlanking false n) s = s.next s.blk := by
  change execChannelBlanking false n s = _
  simp only [execChannelBlanking, hcommitted, hearly, Bool.not_false, Bool.false_eq_true, if_false, if_true]

/-- At its ramp a committed transmission goes on air and releases the stalls whose channels it blanks (R194). -/
theorem exec_channelBlanking_ramp {b c d : Block} (hramp : s.blk.reached (t.req.start - 1000 * s.blk.rampUs) = true)
    (hready : feReady ≤ s.blk.fe 3) (hnocal : s.blk.fe 3 ≠ feCal) (hwalk : s.blk.sieveWalk = false)
    (hb : b = { s.blk with sieve := { s.blk.sieve with txs := s.blk.sieve.txs.map (fun (q : SieveTx) =>
      if q.id = n then { q with air := true } else q) } })
    (hc : c = b.keyed.releaseStalls (fun q => b.keyed.blanks t.req.ch q.ch) C.SIEVE.BLINKED)
    (hd : d = (c.count .sieve C.SIEVE.TX_FRAME).lane 9 132 0) : exec (.channelBlanking false n) s =
      s.next ((d.emit (.mesh { t.req with power := t.power } (d.meshAir t.req t.power))).meshSent t.req) := by
  have hfe : ¬ (s.blk.fe 3 < feReady ∨ s.blk.fe 3 = feCal) := not_or_intro hready.not_gt hnocal
  subst hb hc hd
  change execChannelBlanking false n s = _
  simp only [execChannelBlanking, hcommitted, hramp, if_neg hfe, hwalk, Bool.not_true, Bool.false_and, Bool.false_eq_true, if_false]
  rfl

end

/-! ### The end of a transmission -/

/-- The only transmission ends with no reception under way: front end 3 goes to READY (R194, R244). -/
theorem exec_sieveTxEnd_only {t : SieveTx} {u : Nat} {c : Block} (honly : s.blk.sieve.txs = [t]) (hair : t.air = true)
    (hu : u = s.blk.sieve.airRem + s.blk.airUnits t.req) (hfe : s.blk.fe 3 = feTx) (hidle : s.blk.sieve.stalls = [])
    (hc : c = { s.blk with sieve := { s.blk.sieve with
      txs := [], tails := s.blk.sieve.tails ++ [(t.id, t.req.ch, s.blk.tailEnd)], airRem := u % 100 } }) :
    exec (.sieveTxEnd t.id false) s =
      s.next (((if u / 100 = 0 then c else c.lane 9 132 1 (u / 100)).setFe 3 feReady).feBoundary 3) := by
  subst hu
  have hfound : s.blk.sieve.txs.find? (fun q => q.id == t.id && q.air) = some t := by simp [honly, hair]
  have hgone : s.blk.sieve.txs.filter (fun q => q.id != t.id) = [] := by simp [honly]
  change execSieveTxEnd t.id false s = _
  simp only [execSieveTxEnd, hfound, hgone, Bool.false_eq_true, if_false, ← hc]
  generalize hd : (if _ = 0 then c else c.lane 9 132 1 _) = d
  have hsieve : d.sieve = c.sieve := by
    rw [← hd]
    split
    · rfl
    · exact c.count_sieve _ _ _
  have hsends : d.fe 3 = c.fe 3 := by
    rw [← hd]
    split
    · rfl
    · exact c.get_count _ _ _ _
  have hon : c.fe 3 = feTx := by rw [← hfe, hc]; rfl
  have htxs : d.sieve.txs = [] := by rw [hsieve, hc]
  have hstalls : d.sieve.stalls = [] := by rw [hsieve, hc, hidle]
  simp only [hsends, hon, htxs, hstalls, List.any_nil, Bool.not_false, decide_true, Bool.and_self, List.isEmpty_nil, if_true]

/-- Settles O15: each clause by the lemma on its command. -/
theorem meshTransmissionEffects : Obligations.MeshTransmissionEffects :=
  ⟨fun s hcal => congrArg s.next (if_pos hcal),
    fun _ _ _ _ hcommitted hramp hready hnocal hwalk hb =>
      ⟨_, _, rfl, rfl, exec_channelBlanking_ramp hcommitted hramp hready hnocal hwalk hb rfl rfl⟩,
    fun _ _ _ => exec_channelBlanking_early,
    fun s _ _ hsends hu => ⟨fun hjudge => congrArg s.next (Block.meshRequest_refused s.fuse hsends hu hjudge),
      fun hjudge hlate => congrArg s.next (Block.meshRequest_late s.fuse hsends hu hjudge hlate)⟩,
    fun s _ _ _ hsends hu hjudge htime hb hfe => congrArg s.next (Block.meshRequest_held s.fuse hsends hu hjudge htime hb hfe),
    fun s _ _ hwaits hreached hstart hready hnocal hsends hjudge halone _ _ hp hcap hcut hu hduty =>
      ⟨_, rfl, exec_sieveTxCommit_alone s hwaits ⟨hreached, hstart, hready, hnocal, hsends, hjudge⟩ halone
        hp hcap hcut hu hduty rfl⟩,
    fun s _ _ => exec_sieveTxCommit_early s,
    fun _ _ => rfl,
    fun s _ _ _ honly hair hu hfe hidle hb => exec_sieveTxEnd_only s honly hair hu hfe hidle hb,
    fun s hruns hspan => congrArg s.next (if_pos (by rw [hruns, hspan]; rfl))⟩

end Sys2Proof.Machine
end

section
/-! Post's node commands and its tether events (R215, R216, R223, R226, R230, R231, R240, R242), the downlink that finds nothing to send
(R213, R226, R233, R234), and what a stopped or idle Post does (R205, R218, R237). -/

namespace Sys2Proof.Machine

variable (b : Block) (s : State)

/-! ### What Post serves by the state of its engine -/

theorem Block.runs_of_run {e : Nat} (hrun : b.est e = stRun) : b.runs e = true := by
  rw [Block.runs, hrun]
  rfl

theorem Block.postWalk_of_run (hrun : b.est 10 = stRun) : b.postWalk = false := by
  rw [Block.postWalk, hrun]
  rfl

theorem Block.postSends_of_run (hrun : b.est 10 = stRun) : b.postSends = true := by
  rw [Block.postSends, hrun]
  rfl

theorem Block.postHears_of_runs (hruns : b.runs 10 = true) : b.postHears = true := Bool.or_eq_true_iff.mpr (.inl hruns)

theorem Block.postHears_of_stop (hstop : b.est 10 = stStop) : b.postHears = false := by
  rw [Block.postHears, Block.runs, hstop]
  rfl

@[simp] theorem Block.postHears_updPost (f : Post → Post) : (b.updPost f).postHears = b.postHears := rfl

/-! ### What the operations on queues, grants and deliveries leave of Post -/

@[simp] theorem Block.count_post (c : CntSet) (n k : Nat) : (b.count c n k).post = b.post := by
  unfold Block.count
  split <;> rfl

/-- PEND is all that `fixPend` moves: it lies in the hot table. -/
theorem Block.fixPend_eq_tabs (n : Nat) : b.fixPend n = { b with tabs := (b.fixPend n).tabs } := by
  simp only [Block.fixPend]
  split <;> rfl

@[simp] theorem Block.fixPend_post (n : Nat) : (b.fixPend n).post = b.post := by rw [b.fixPend_eq_tabs]

/-! A hot entry written is written to the tables, and to nothing else. -/

@[simp] theorem Block.setHot_regs (n : Nat) (h : Hot) : (b.setHot n h).regs = b.regs := by rw [Block.setHot, Block.setTab_regs]

@[simp] theorem Block.setHot_watch (n : Nat) (h : Hot) : (b.setHot n h).watch = b.watch := by rw [Block.setHot, Block.setTab_watch]

@[simp] theorem Block.setTab_eng (a n v : Nat) : (b.setTab a n v).eng = b.eng := rfl

@[simp] theorem Block.setHot_eng (n : Nat) (h : Hot) : (b.setHot n h).eng = b.eng := by rw [Block.setHot, Block.setTab_eng]

@[simp] theorem Block.ao_setHot (n : Nat) (h : Hot) : (b.setHot n h).ao = b.ao := by
  rw [Block.ao, Block.setHot, Block.setTab_time, ← Block.ao]

@[simp] theorem Block.lifeNs_setHot (n : Nat) (h : Hot) (t : Nat) : (b.setHot n h).lifeNs t = b.lifeNs t := by
  rw [Block.lifeNs, Block.get_congr (b.setHot_regs n h), Block.lifeNs]

/-- Whether Post serves its hot table alone is told by the registers, the drains and the Watchman's plan. -/
theorem Block.postWalk_congr {b c : Block} (hregs : c.regs = b.regs) (heng : c.eng = b.eng) (hwatch : c.watch = b.watch) :
    c.postWalk = b.postWalk := by
  simp only [Block.postWalk, Block.est, Block.get_congr hregs, heng, hwatch]

@[simp] theorem Block.postWalk_updPost (f : Post → Post) : (b.updPost f).postWalk = b.postWalk := Block.postWalk_congr rfl rfl rfl

@[simp] theorem Block.postWalk_setHot (n : Nat) (h : Hot) : (b.setHot n h).postWalk = b.postWalk :=
  Block.postWalk_congr (b.setHot_regs n h) (b.setHot_eng n h) (b.setHot_watch n h)

@[simp] theorem Block.postWalk_fixPend (n : Nat) : (b.fixPend n).postWalk = b.postWalk := by
  rw [b.fixPend_eq_tabs]
  exact Block.postWalk_congr rfl rfl rfl

@[simp] theorem Block.poolDrop_post (n : Nat) : (b.poolDrop n).post = b.post := by
  unfold Block.poolDrop
  split
  · rfl
  · dsimp only
    split
    · rfl
    · split <;> rfl

@[simp] theorem Block.troughPut_post (t size : Nat) (f : CartFrame) : (b.troughPut t size f).post = b.post := by
  simp only [Block.troughPut]
  split
  · exact ((b.poolDrop f.pool).count_post _ _ _).trans (b.poolDrop_post f.pool)
  · rfl

@[simp] theorem Block.stewardPath_post (f : CartFrame) : (b.stewardPath f).post = b.post := by
  unfold Block.stewardPath
  split
  · exact b.troughPut_post _ _ _
  · split
    · exact (Block.count_post _ _ _ _).trans (b.poolDrop_post f.pool)
    · rfl

@[simp] theorem Block.stewDeliver_post (src vlan : Nat) (octets : List Byte) (ts : Option Nat) :
    (b.stewDeliver src vlan octets ts).post = b.post := by
  rcases Nat.lt_or_ge b.cart.cellar (cellsFor octets.length) with hshort | hfits
  · simp only [Block.stewDeliver, b.takeCells_short hshort]
    exact b.count_post _ _ _
  · simp only [Block.stewDeliver, b.takeCells_enough hfits]
    exact Block.stewardPath_post _ _

@[simp] theorem Block.confirm_post (h : SendHdr) (outcome : Nat) : (b.confirm h outcome).post = b.post := by
  unfold Block.confirm
  split
  · exact b.stewDeliver_post _ _ _ _
  · rfl

@[simp] theorem Block.setDlQueue_held (n : Nat) (fs : List DlFrame) : (b.setDlQueue n fs).post.held = b.post.held := by
  rw [Block.setDlQueue, Block.fixPend_post]
  rfl

@[simp] theorem Block.dlDrop_held (n : Nat) (f : DlFrame) (outcome : Nat) : (b.dlDrop n f outcome).post.held = b.post.held := by
  simp only [Block.dlDrop, Block.dlLeave, Block.lane, Block.confirm_post, Block.count_post, Block.updPost_post, Block.setDlQueue_held]

@[simp] theorem Block.dlFlush_held (n : Nat) : (b.dlFlush n).post.held = b.post.held :=
  b.foldl_keeps (fun c => c.post.held) (fun c f => c.dlDrop_held n f 4) rfl

@[simp] theorem Block.dropGrant_held (n : Nat) : (b.dropGrant n).post.held = b.post.held := by
  rw [Block.dropGrant, Block.fixPend_post]
  rfl

/-! ### Node commands -/

/-- A write to POST_TCMD finds Post running, no command before it and no event of its node: it is carried out at once (R216). -/
def Block.hearsCommand (b : Block) (node : Nat) : Prop :=
  b.runs 10 = true ∧ b.postWalk = false ∧ b.get F.POST_TCMD_STATUS.STATE ≠ 1 ∧ b.eventOf node = none

section
variable {b} {n r : Nat} {args : List Nat} {c : Block}

theorem Block.tcmdWrite_hears {op : Nat} {err : Bool} (road : Road) (hhears : b.hearsCommand n) (hop : op ≠ 0 ∧ op < 8) :
    b.tcmdWrite road op n err = b.tcmdDo op n b.tcmdArgs err := by
  obtain ⟨hruns, -, hidle, hevent⟩ := hhears
  simp only [Block.tcmdWrite, hruns, decide_eq_false hop.1, decide_eq_false hop.2.not_ge, hidle, hevent, Bool.not_true, Bool.or_self,
    Bool.false_eq_true, if_false]

theorem Block.tcmdWrite_done {op : Nat} {err : Bool} (hhears : b.hearsCommand n) (hop : op ≠ 0 ∧ op < 8)
    (hdone : b.tcmdRun op n b.tcmdArgs err = (0, c)) : b.tcmdWrite .bar0 op n err = c.tcmdStatus 2 0 n := by
  simp only [Block.tcmdWrite_hears _ hhears hop, Block.tcmdDo, hdone, if_true]

theorem Block.tcmdWrite_refused {op : Nat} {err : Bool} (hhears : b.hearsCommand n) (hop : op ≠ 0 ∧ op < 8)
    (hrefused : b.tcmdRun op n b.tcmdArgs err = (r + 1, c)) : b.tcmdWrite .bar0 op n err = c.tcmdStatus 3 (r + 1) n := by
  simp only [Block.tcmdWrite_hears _ hhears hop, Block.tcmdDo, hrefused, Nat.add_one_ne_zero, if_false]

variable (hwalk : b.postWalk = false)
include hwalk

theorem Block.tcmdRun_admit_free (hfree : (b.hot n).st = stFree) : b.tcmdRun 1 n args false =
    (0, (((({ b with dram := clearRange b.dram (recAddr n + 10) 0x76 } : Block).bufToRec n).setHot n
      { st := stKnown }).fixPend n).saveHot n) := by
  simp only [Block.tcmdRun, hwalk, hfree, Bool.false_eq_true, if_false, if_true, ne_eq, not_true_eq_false]

/-- ADMIT, READ and WRITE touch the record; found in error it is lost, and the command is not done (R216, R242). -/
theorem Block.tcmdRun_recordLost {op : Nat}
    (hread : op = 1 ∧ (b.hot n).st = stFree ∨ (op = 5 ∨ op = 6) ∧ (b.hot n).st ≠ stFree) :
    b.tcmdRun op n args true = (4, (b.recordLost n true).note 10 3) := by
  rcases hread with ⟨rfl, hfree⟩ | ⟨rfl | rfl, htaken⟩
  · simp only [Block.tcmdRun, hwalk, hfree, Bool.false_eq_true, if_false, if_true, ne_eq, not_true_eq_false]
  · simp only [Block.tcmdRun, hwalk, htaken, Bool.false_eq_true, OfNat.ofNat_ne_one, Nat.reduceEqDiff, if_false, if_true]
  · simp only [Block.tcmdRun, hwalk, htaken, Bool.false_eq_true, OfNat.ofNat_ne_one, Nat.reduceEqDiff, if_false, if_true]

theorem Block.tcmdRun_admit_taken (err : Bool) (htaken : (b.hot n).st ≠ stFree) : b.tcmdRun 1 n args err = (1, b) := by
  simp only [Block.tcmdRun, hwalk, htaken, Bool.false_eq_true, if_false, if_true, ne_eq, not_false_eq_true]

theorem Block.tcmdRun_create (err : Bool) : b.tcmdRun 3 n args err = b.create n args := by
  simp only [Block.tcmdRun, hwalk, Bool.false_eq_true, if_false, OfNat.ofNat_ne_one, if_true]

theorem Block.tcmdRun_throw_tethered (err : Bool) (htethered : (b.hot n).st = stTethered) :
    b.tcmdRun 4 n args err = (0, b.throwTether n 2) := by
  have htaken : stTethered ≠ stFree := by decide
  simp only [Block.tcmdRun, hwalk, htethered, htaken, Bool.false_eq_true, OfNat.ofNat_ne_one, Nat.reduceEqDiff, if_false, if_true]

theorem Block.tcmdRun_throw_granting (err : Bool) (hgranting : (b.hot n).st = stGranting) : b.tcmdRun 4 n args err =
    (0, ((b.setHot n { b.hot n with st := stKnown }).dropGrant n).saveHot n) := by
  have htaken : stGranting ≠ stFree := by decide
  have hother : stGranting ≠ stTethered := by decide
  simp only [Block.tcmdRun, hwalk, hgranting, htaken, hother, Bool.false_eq_true, OfNat.ofNat_ne_one, Nat.reduceEqDiff, if_false,
    if_true]

section
variable (htaken : (b.hot n).st ≠ stFree)
include htaken

theorem Block.tcmdRun_read : b.tcmdRun 5 n args false = (0, b.setTabBytes recBuf (readBytes b.dram 0 (recAddr n) 256)) := by
  simp only [Block.tcmdRun, hwalk, htaken, Bool.false_eq_true, OfNat.ofNat_ne_one, Nat.reduceEqDiff, if_false]

theorem Block.tcmdRun_write : b.tcmdRun 6 n args false = (0, b.bufToRec n) := by
  simp only [Block.tcmdRun, hwalk, htaken, Bool.false_eq_true, OfNat.ofNat_ne_one, Nat.reduceEqDiff, if_false]

theorem Block.tcmdRun_flush (err : Bool) : b.tcmdRun 7 n args err = (0, b.dlFlush n) := by
  simp only [Block.tcmdRun, hwalk, htaken, Bool.false_eq_true, OfNat.ofNat_ne_one, Nat.reduceEqDiff, if_false]

/-- With no frame held for the Vault there are no cells of the node's held frames to return (R216, R205). -/
theorem Block.tcmdRun_forget (err : Bool) (hheld : b.post.held = [])
    (hc : c = ((((b.dlFlush n).dropGrant n).dropTether n).exchEnd n).updPost (fun p => { p with
      await := p.await.filter (fun a => a.node != n), held := p.held.filter (fun f => f.node != n) })) :
    b.tcmdRun 2 n args err = (0, ((c.dropWindows n).setHot n {}).saveHot n) := by
  have hnone : ((((b.dlFlush n).dropGrant n).dropTether n).exchEnd n).post.held = [] := by
    simp only [Block.exchEnd, Block.dropTether, Block.updPost_post, Block.dropGrant_held, Block.dlFlush_held, hheld]
  simp only [Block.tcmdRun, hwalk, htaken, hnone, List.filter_nil, List.foldl_nil, Bool.false_eq_true, OfNat.ofNat_ne_one,
    Nat.reduceEqDiff, if_false, ← hc]

end

end

/-! ### Grants -/

section
variable {b} {n : Nat} {args : List Nat}

theorem Block.create_notKnown (hother : (b.hot n).st ≠ stKnown) : b.create n args = (1, b) := by
  simp only [Block.create, if_pos hother]

theorem Block.create_badProfile (hknown : (b.hot n).st = stKnown) (hprofile : b.profValid (nth args 0 0) = false) :
    b.create n args = (2, b) := by
  simp only [Block.create, hknown, hprofile, ne_eq, not_true_eq_false, Bool.not_false, Bool.true_or, if_false, if_true]

/-- A KNOWN node with a valid profile and channels in its map is granted; its entry is saved to its record (R216, R218, R223). -/
theorem Block.create_grants {g : Grant} (hwalk : b.postWalk = false) (hknown : (b.hot n).st = stKnown)
    (hprofile : b.profValid (nth args 0 0) = true) (hmap : b.effMap (nth args 1 0) ≠ 0)
    (hg : g = { node := n, profile := nth args 0 0, map := nth args 1 0, first := nth args 3 0
                expiry := b.ao + b.lifeNs (nth args 4 0) }) :
    b.create n args = (0, (((b.setHot n { st := stGranting, profile := g.profile, map := g.map, counter := nth args 2 0 }).updPost
      (fun p => { p with grants := p.grants ++ [g] })).fixPend n).saveHot n) := by
  subst hg
  simp only [Block.create, hknown, hprofile, beq_eq_false_iff_ne.mpr hmap, ne_eq, not_true_eq_false, Bool.not_true, Bool.or_self,
    Bool.false_eq_true, if_false, Block.keepHot, Block.postWalk_fixPend, Block.postWalk_updPost, Block.postWalk_setHot, hwalk,
    Block.ao_setHot, Block.lifeNs_setHot]

end

/-! ### Tether events -/

section
variable {s} {n : Fin 131072}

/-- An event whose widening its profile's guard covers gets its window (R226, R228). -/
theorem exec_tetherWindowOpen_reached {w : Nat} {e : TetherEvent} {c : Block} (htethered : (s.blk.hot n.val).st = stTethered)
    (hevent : s.blk.eventOf n.val = none) (hrun : s.blk.est 10 = stRun) (hw : w = s.blk.widening (s.blk.hot n.val))
    (hreach : n.val ∉ s.blk.post.outReach) (hguard : w ≤ s.blk.guardUs (s.blk.hot n.val).profile)
    (hmap : s.blk.effMap (s.blk.hot n.val).map ≠ 0) (he : e = s.blk.newEvent n.val false)
    (hc : c = (s.blk.updPost (fun p => { p with events := p.events ++ [e] })).lane 10 2 0) :
    exec (.tetherWindowOpen n) s = s.next (({ c with sieve := { c.sieve with windows := c.sieve.windows ++
      [(⟨n.val, e.ch, e.hyp, e.anchor - 1000 * w - s.blk.tshrNs (s.blk.hot n.val).profile, e.anchor + 1000 * w⟩ : RxWindow)] } } :
        Block).calAbort 3) := by
  have hstart : ¬ (s.blk.est 10 = stStart ∧ s.blk.post.rebuild = true) := fun h => absurd (hrun.symm.trans h.1) (by decide)
  have hopen : ¬ ((s.blk.hot n.val).st ≠ stTethered ∨ (s.blk.eventOf n.val).isSome = true) := by simp [htethered, hevent]
  have hinside : ¬ (s.blk.post.outReach.contains n.val = true ∨ s.blk.guardUs (s.blk.hot n.val).profile < w ∨
      s.blk.effMap (s.blk.hot n.val).map = 0) := by simp [hreach, hguard, hmap]
  have hserves : ∀ x, ({ c with sieve := x } : Block).postWalk = false := fun x => by
    refine Block.postWalk_of_run _ ?_
    rw [hc]
    exact (Block.est_count _ _ _ _ _).trans hrun
  change execTetherWindowOpen n s = _
  simp only [execTetherWindowOpen, if_neg hstart, if_neg hopen, s.blk.runs_of_run hrun, ← hw, if_neg hinside, ← he, ← hc, hserves,
    Bool.not_true, Bool.false_and, Bool.false_eq_true, if_false]

/-- An event that was hit and defers no command ends (R226, R230, R231). -/
theorem exec_tetherEventEnd_hit {e : TetherEvent} {c : Block} (hevent : s.blk.eventOf n.val = some e) (hnone : e.deferred = none)
    (hhit : e.hit = true)
    (hc : c = (((((s.blk.updPost (fun p => { p with events := p.events.filter (fun q => q.node != n.val) })).dropWindows
      n.val).exchEnd n.val).count .post C.POST.EVT_HIT).recCount n.val 3)) :
    exec (.tetherEventEnd n) s = s.next (if (c.hot n.val).st = stTethered then
      ((c.advance n.val e.interval false).keepHot n.val).supervise n.val e.interval e.sup else c) := by
  change execTetherEventEnd n s = _
  simp only [execTetherEventEnd, hevent, hnone, hhit, if_true, Bool.not_true, ← hc]

/-- The acknowledgement of a grant tethers its node (R223, R240). -/
theorem exec_grantAcknowledged_tethers {a : Await} {g : Grant} {c : Block}
    (hawait : s.blk.post.await.find? (fun a => a.node == n.val && a.grant) = some a) (hnode : a.node = n.val)
    (hgrant : a.grant = true) (hrun : s.blk.est 10 = stRun)
    (hc : c = (s.blk.updPost (fun p => { p with await := p.await.erase a })).dropWindows n.val)
    (hpending : c.grantFor n.val = some g) :
    exec (.grantAcknowledged n) s = s.next (((((c.setHot n.val { c.hot n.val with
      st := stTethered, anchor := g.sentA / 2000, counter := g.sentC, miss := 0, anchN := 0, drift := 0 }).dropTether
        n.val).dropGrant n.val).keepHot n.val).postEvent 17 n.val 0) := by
  change execGrantAcknowledged n s = _
  simp only [execGrantAcknowledged, hawait, s.blk.postSends_of_run hrun, Block.ackArrived, hnode, hgrant, ← hc, hpending, if_true]

theorem exec_grantExpired_past {g : Grant} (hpending : s.blk.grantFor n.val = some g) (hruns : s.blk.runs 10 = true)
    (hpast : g.expiry ≤ s.blk.ao) : exec (.grantExpired n) s =
      s.next ((((s.blk.setHot n.val { s.blk.hot n.val with st := stKnown }).dropGrant n.val).keepHot n.val).postEvent 18 n.val 0) := by
  change execGrantExpired n s = _
  simp only [execGrantExpired, hpending, hruns, hpast, decide_true, Bool.and_self, if_true]

end

/-! ### The next downlink of an exchange -/

/-- An exchange may send by what is around it: a poll outside an event, or within its event's count and its half interval
(R213, R226). -/
def Block.exchFits (b : Block) (x : Exch) : Prop :=
  x.event = false ∧ b.eventOf x.node = none ∨
    x.event = true ∧ ∃ e, b.eventOf x.node = some e ∧ e.dlSent < e.maxDl ∧ x.next ≤ e.anchor + 500000 * e.interval

/-- b as an exchange sends: the frames past their lifetime dropped, and the exchange of a poll over (R213, R232). -/
def Block.exchReady (b : Block) (x : Exch) : Block :=
  if x.event = true then b.dlAge x.node (b.dlQueue x.node).length else (b.dlAge x.node (b.dlQueue x.node).length).exchEnd x.node

/-- What an exchange sends: the pending grant first, then the first sendable frame; without one it ends (R213, R223, R226). -/
def Block.sendHead (fu : Fuses) (b : Block) (x : Exch) : Block :=
  match b.grantFor x.node with
  | some g => b.sendGrant fu x g
  | none => match sendable x.event (b.dlQueue x.node) with
    | some f => b.sendFrame fu x f
    | none => b.exchEnd x.node

section
variable {b} (fu : Fuses) {x : Exch}

/-- An event that has sent all its downlink frames sends no more (R226). -/
theorem Block.sendNext_spent {e : TetherEvent} (hexch : x.event = true) (hevent : b.eventOf x.node = some e)
    (hspent : e.maxDl ≤ e.dlSent) : b.sendNext fu x = b := by
  simp only [Block.sendNext, hevent, hexch, decide_eq_false hspent.not_gt, Bool.not_true, Bool.false_and, Bool.or_self,
    Bool.not_false, true_or, or_true, if_true]

theorem Block.sendNext_ready (hrun : b.est 10 = stRun) (hmore : x.more = false) (hawait : b.post.await = [])
    (hfits : b.exchFits x) : b.sendNext fu x = (b.exchReady x).sendHead fu x := by
  have hsends : b.postSends = true := b.postSends_of_run hrun
  refine if_neg ?_
  rcases hfits with ⟨hpoll, hevent⟩ | ⟨hexch, e, hevent, hleft, hearly⟩
  · simp only [hsends, hmore, hawait, hpoll, hevent, List.any_nil, Bool.not_true, Bool.not_false, Bool.false_eq_true, or_self,
      not_false_eq_true]
  · simp only [hsends, hmore, hawait, hexch, hevent, hleft, hearly, decide_true, List.any_nil, Bool.not_true, Bool.and_self,
      Bool.or_true, Bool.false_eq_true, or_self, not_false_eq_true]

theorem Block.exchReady_poll (hpoll : x.event = false) :
    b.exchReady x = (b.dlAge x.node (b.dlQueue x.node).length).exchEnd x.node := if_neg (ne_true_of_eq_false hpoll)

theorem Block.exchReady_event (hexch : x.event = true) : b.exchReady x = b.dlAge x.node (b.dlQueue x.node).length := if_pos hexch

section
variable {n : Nat} (hnode : x.node = n)
include hnode

theorem Block.sendHead_grant {g : Grant} (hgrant : b.grantFor n = some g) : b.sendHead fu x = b.sendGrant fu x g := by
  simp only [Block.sendHead, hnode, hgrant]

variable {event : Bool} (hevent : x.event = event) (hnone : b.grantFor n = none)
include hevent hnone

theorem Block.sendHead_frame {f : DlFrame} (hfirst : sendable event (b.dlQueue n) = some f) :
    b.sendHead fu x = b.sendFrame fu x f := by
  simp only [Block.sendHead, hnode, hevent, hnone, hfirst]

theorem Block.sendHead_none (hempty : sendable event (b.dlQueue n) = none) : b.sendHead fu x = b.exchEnd n := by
  simp only [Block.sendHead, hnode, hevent, hnone, hempty]

end

end

section
variable {s} {n : Fin 131072} {x : Exch}

theorem exec_dataRequestPoll_found (hfound : s.blk.post.exch.find? (fun x => x.node == n.val && !x.event) = some x) :
    exec (.dataRequestPoll n) s = s.next (s.blk.sendNext s.fuse x) := by
  change execDataRequestPoll n s = _
  simp only [execDataRequestPoll, hfound]

theorem exec_downlinkSend_found (hfound : s.blk.post.exch.find? (fun x => x.node == n.val && x.event) = some x) :
    exec (.downlinkSend n) s = s.next (s.blk.sendNext s.fuse x) := by
  change execDownlinkSend n s = _
  simp only [execDownlinkSend, hfound]

/-- A poll outside an event is answered with what its node's grant and queue hold (R213). -/
theorem exec_dataRequestPoll_ready {c : Block} (hfound : s.blk.post.exch.find? (fun x => x.node == n.val && !x.event) = some x)
    (hpoll : x.event = false) (hnode : x.node = n.val) (hevent : s.blk.eventOf n.val = none) (hrun : s.blk.est 10 = stRun)
    (hmore : x.more = false) (hawait : s.blk.post.await = [])
    (hc : c = (s.blk.dlAge n.val (s.blk.dlQueue n.val).length).exchEnd n.val) :
    exec (.dataRequestPoll n) s = s.next (c.sendHead s.fuse x) := by
  subst hc
  rw [← hnode] at hevent ⊢
  rw [exec_dataRequestPoll_found hfound, Block.sendNext_ready s.fuse hrun hmore hawait (.inl ⟨hpoll, hevent⟩),
    Block.exchReady_poll hpoll]

end

/-! ### Downlink queues -/

section
variable {s} {h : SendHdr} {body : List Byte}

/-- A frame that Carter hands to a Post in RUN joins its node's queue, unless it is marked broadcast (R233, R235). -/
theorem exec_meshEnqueue_queued (hrun : s.blk.est 10 = stRun) (hqueued : h.broadcast = false) :
    exec (.meshEnqueue h body) s = s.next (s.blk.dlEnqueue h body) := by
  change execMeshEnqueue h body s = _
  simp only [execMeshEnqueue, Block.meshEnqueue, hrun, hqueued, ne_eq, not_true_eq_false, Bool.false_eq_true, if_false]

theorem exec_meshEnqueue_broadcast (hbroadcast : h.broadcast = true) :
    exec (.meshEnqueue h body) s = exec (.meshBroadcast h body) s := by
  change s.next (s.blk.meshEnqueue s.fuse h body) = s.next (s.blk.broadcast s.fuse h body)
  by_cases hrun : s.blk.est 10 = stRun
  · rw [Block.meshEnqueue, if_neg (not_not.mpr hrun), if_pos hbroadcast]
  · rw [Block.meshEnqueue, if_pos hrun, Block.broadcast, if_pos hrun]

theorem Block.dlEnqueue_refused (hrefused : (s.blk.hot h.node).st = stFree ∨
    max 1 (s.blk.get F.POST_DLQ.MAX_FRAMES) ≤ (s.blk.dlQueue h.node).length ∨ s.blk.post.freeQ < dlCells body) :
    s.blk.dlEnqueue h body = (s.blk.count .post C.POST.DL_FULL_DROP).confirm h 5 := by
  simp only [Block.dlEnqueue, if_pos hrefused]

theorem exec_downlinkExpired_intime {n : Fin 131072} {f : DlFrame} {t : List DlFrame} (hqueue : s.blk.dlQueue n.val = f :: t)
    (hintime : s.blk.dlLate f = false) : exec (.downlinkExpired n) s = s.next s.blk := by
  change execDownlinkExpired n s = _
  simp only [execDownlinkExpired, hqueue, hintime, Bool.false_eq_true, if_false, ite_self]

end

/-! ### A Post that is stopped, or has nothing due -/

/-- A good frame that Post does not hear is dropped with its cells (R205, R239). -/
theorem exec_postFrameAccept_unheard {i : Fin 128} {g : GoodFrame}
    (hgood : s.blk.post.good.find? (fun g => g.stall == i.val) = some g) (hstop : s.blk.est 10 = stStop) :
    exec (.postFrameAccept i) s = s.next ((s.blk.updPost (fun p => { p with good := p.good.erase g })).freeCells g.cells) := by
  change execPostFrameAccept i s = _
  simp only [execPostFrameAccept, hgood, Block.postHears_updPost, s.blk.postHears_of_stop hstop, Bool.not_false, if_true]

/-- Settles O16: each clause by the lemma on its command. -/
theorem nodeAndTetherEffects : Obligations.NodeAndTetherEffects := by
  refine ⟨fun s n hruns hwalk hidle hevent => ?_, ⟨fun s _ _ _ htethered hevent hrun hw hreach hguard hmap he =>
      ⟨_, rfl, exec_tetherWindowOpen_reached htethered hevent hrun hw hreach hguard hmap he rfl⟩, fun s _ _ _ hevent hnone hhit hb =>
      ⟨fun hother => ?_, fun htethered => ?_⟩, fun s _ _ _ _ => exec_grantAcknowledged_tethers, fun s _ _ => exec_grantExpired_past⟩,
    ⟨fun s _ _ _ _ hfound hpoll hnode hev hrun hmore hawait hb hgrant => ⟨fun hfirst => ?_, fun hempty => ?_⟩,
      fun s n x e hfound hexch hnode hev hspent => ?_, fun s h body hrun hqueued _ hfull => ?_,
      fun s _ _ => exec_meshEnqueue_broadcast, fun s _ _ _ => exec_downlinkExpired_intime, fun s _ _ => exec_postFrameAccept_unheard s,
      fun s hdue => ?_, fun s hbuilt => ?_⟩⟩
  · have hhears : s.blk.hearsCommand n.val := ⟨hruns, hwalk, hidle, hevent⟩
    refine ⟨fun hfree => ?_, fun hfree => ?_, fun htaken err => ?_, fun hother => ?_,
      fun hknown => ⟨fun hprofile => ?_, fun hprofile hmap => ?_⟩,
      fun htethered => ?_, fun hgranting => ?_, fun htaken => ⟨?_, ?_, ?_, ?_, ?_, fun hheld => ?_⟩⟩
    · exact congrArg s.next (Block.tcmdWrite_done hhears (by decide) (Block.tcmdRun_admit_free hwalk hfree))
    · exact congrArg s.next (Block.tcmdWrite_refused hhears (by decide) (Block.tcmdRun_recordLost hwalk (.inl ⟨rfl, hfree⟩)))
    · exact congrArg s.next (Block.tcmdWrite_refused hhears (by decide) (Block.tcmdRun_admit_taken hwalk err htaken))
    · exact congrArg s.next (Block.tcmdWrite_refused hhears (by decide)
        ((Block.tcmdRun_create hwalk false).trans (Block.create_notKnown hother)))
    · exact congrArg s.next (Block.tcmdWrite_refused hhears (by decide)
        ((Block.tcmdRun_create hwalk false).trans (Block.create_badProfile hknown hprofile)))
    · exact ⟨_, rfl, congrArg s.next (Block.tcmdWrite_done hhears (by decide)
        ((Block.tcmdRun_create hwalk false).trans (Block.create_grants hwalk hknown hprofile hmap rfl)))⟩
    · exact congrArg s.next (Block.tcmdWrite_done hhears (by decide) (Block.tcmdRun_throw_tethered hwalk false htethered))
    · exact congrArg s.next (Block.tcmdWrite_done hhears (by decide) (Block.tcmdRun_throw_granting hwalk false hgranting))
    · exact congrArg s.next (Block.tcmdWrite_done hhears (by decide) (Block.tcmdRun_read hwalk htaken))
    · exact congrArg s.next (Block.tcmdWrite_done hhears (by decide) (Block.tcmdRun_write hwalk htaken))
    · exact congrArg s.next (Block.tcmdWrite_refused hhears (by decide) (Block.tcmdRun_recordLost hwalk (.inr ⟨.inl rfl, htaken⟩)))
    · exact congrArg s.next (Block.tcmdWrite_refused hhears (by decide) (Block.tcmdRun_recordLost hwalk (.inr ⟨.inr rfl, htaken⟩)))
    · exact congrArg s.next (Block.tcmdWrite_done hhears (by decide) (Block.tcmdRun_flush hwalk htaken false))
    · exact ⟨_, rfl, congrArg s.next (Block.tcmdWrite_done hhears (by decide)
        (Block.tcmdRun_forget hwalk htaken false hheld rfl))⟩
  · rw [exec_tetherEventEnd_hit hevent hnone hhit hb, if_neg hother]
  · rw [exec_tetherEventEnd_hit hevent hnone hhit hb, if_pos htethered]
  · rw [exec_dataRequestPoll_ready hfound hpoll hnode hev hrun hmore hawait hb,
      Block.sendHead_frame s.fuse hnode hpoll hgrant hfirst]
  · rw [exec_dataRequestPoll_ready hfound hpoll hnode hev hrun hmore hawait hb,
      Block.sendHead_none s.fuse hnode hpoll hgrant hempty]
  · rw [exec_downlinkSend_found hfound, Block.sendNext_spent s.fuse hexch (by rwa [hnode]) hspent]
  · rw [exec_meshEnqueue_queued hrun hqueued, Block.dlEnqueue_refused (.inr (.inr hfull))]
  · exact congrArg s.next (if_neg (ne_true_of_eq_false hdue))
  · exact congrArg s.next (if_neg fun h => ne_true_of_eq_false hbuilt h.2)

end Sys2Proof.Machine
end

section
/-! Post's downlink from enqueueing to its acknowledgement (R213, R226, R232 to R235) and mesh frames from reception to the steward
(R203 to R207, R218, R237, R238). -/

namespace Sys2Proof.Machine

variable (b : Block) (s : State)

/-! ### The downlink of a tether event -/

/-- Within its event's limit a tether event sends with what its node's grant and queue hold (R226). -/
theorem exec_downlinkSend_ready {n : Fin 131072} {x : Exch} {e : TetherEvent} {c : Block}
    (hfound : s.blk.post.exch.find? (fun x => x.node == n.val && x.event) = some x) (hexch : x.event = true) (hnode : x.node = n.val)
    (hevent : s.blk.eventOf n.val = some e) (hleft : e.dlSent < e.maxDl) (hearly : x.next ≤ e.anchor + 500000 * e.interval)
    (hrun : s.blk.est 10 = stRun) (hmore : x.more = false) (hawait : s.blk.post.await = [])
    (hc : c = s.blk.dlAge n.val (s.blk.dlQueue n.val).length) :
    exec (.downlinkSend n) s = s.next (c.sendHead s.fuse x) := by
  subst hc
  rw [← hnode] at hevent ⊢
  rw [exec_downlinkSend_found hfound, Block.sendNext_ready s.fuse hrun hmore hawait (.inr ⟨hexch, e, hevent, hleft, hearly⟩),
    Block.exchReady_event hexch]

/-! ### Queueing and broadcast -/

section
variable {s} {h : SendHdr} {body : List Byte}

theorem Block.dlEnqueue_accepted (htaken : (s.blk.hot h.node).st ≠ stFree)
    (hshort : (s.blk.dlQueue h.node).length < max 1 (s.blk.get F.POST_DLQ.MAX_FRAMES)) (hroom : dlCells body ≤ s.blk.post.freeQ) :
    s.blk.dlEnqueue h body = ((s.blk.updPost (fun p => { p with freeQ := p.freeQ - dlCells body })).setDlQueue h.node
      (s.blk.dlQueue h.node ++ [({ hdr := h, body := body, ns := s.blk.ao } : DlFrame)])).lane 10 3 0 := by
  have haccepted : ¬ ((s.blk.hot h.node).st = stFree ∨
      max 1 (s.blk.get F.POST_DLQ.MAX_FRAMES) ≤ (s.blk.dlQueue h.node).length ∨ s.blk.post.freeQ < dlCells body) :=
    not_or_intro htaken (not_or_intro hshort.not_ge hroom.not_gt)
  simp only [Block.dlEnqueue, if_neg haccepted]
  rfl

/-- A broadcast goes out once; its sequence number and its power are free values (R221, R235). -/
theorem exec_meshBroadcast_run {bs : List Byte} {v p : Nat} {c : Block} (hrun : s.blk.est 10 = stRun) (hv : s.blk.draw.1 = v)
    (hc : c = s.blk.draw.2.draw.2) (hp : s.blk.draw.2.draw.1 = p)
    (hbs : bs = frameControl 1 false false false true false 2 1 2 ++ bytesLE 1 v ++ bytesLE 2 (c.pan h.pan 0 2) ++
      bytesLE 2 0xFFFF ++ bytesLE 2 (c.pan h.pan 2 2) ++ body) :
    exec (.meshBroadcast h body) s = s.next (c.meshRequest s.fuse
      { ch := h.channel, hyp := h.hyp, pre := c.preOct, coded := bitOf v 9, il := bitOf v 10, dw := bitOf v 11, fcs4 := bitOf v 8,
        psdu := bs ++ meshFcs (bitOf v 8) bs, power := signedOf 8 p, start := c.now + c.leadNs, role := 2, node := 131072 }) := by
  subst hbs hc hp hv
  change s.next (s.blk.broadcast s.fuse h body) = _
  simp only [Block.broadcast, hrun, ne_eq, not_true_eq_false, if_false, Block.drawPower]

end

/-! ### Frames that leave their queue -/

section
variable {s} {n : Fin 131072}

theorem exec_downlinkExpired_late {f : DlFrame} {t : List DlFrame} (hrun : s.blk.est 10 = stRun)
    (hqueue : s.blk.dlQueue n.val = f :: t) (hlate : s.blk.dlLate f = true) :
    exec (.downlinkExpired n) s = s.next (((s.blk.count .post C.POST.DL_EXPIRED).recCount n.val 7).dlDrop n.val f 2) := by
  change execDownlinkExpired n s = _
  simp only [execDownlinkExpired, hrun, hqueue, hlate, ne_eq, not_true_eq_false, if_false, if_true, Block.dlExpire]

section
variable {a : Await} {c : Block} (hawait : s.blk.post.await.find? (fun a => a.node == n.val) = some a)
  (hc : c = ((s.blk.updPost (fun p => { p with await := p.await.erase a })).dropWindows n.val).exchEnd n.val)
include hawait hc

/-- A grant that is not acknowledged stays pending (R213, R223). -/
theorem exec_downlinkAckTimeout_grant (hgrant : a.grant = true) : exec (.downlinkAckTimeout n) s = s.next c := by
  change execDownlinkAckTimeout n s = _
  simp only [execDownlinkAckTimeout, hawait, ← hc, hgrant, if_true]

/-- A frame that is not acknowledged is dropped at the retry limit, and before it keeps its place with one more retry (R213, R234). -/
theorem exec_downlinkAckTimeout_frame {f : DlFrame} (hframe : a.grant = false)
    (hsent : (c.dlQueue n.val).find? (fun f => f.dsn == some a.seq) = some f) : exec (.downlinkAckTimeout n) s =
      s.next (if max 1 (c.get F.POST_EVT.DL_RETRY) ≤ f.retry + 1 then
          ((c.count .post C.POST.DL_RETRY_DROP).recCount n.val 7).dlDrop n.val f 3
        else c.setDlQueue n.val ((c.dlQueue n.val).map
          (fun (q : DlFrame) => if q = f then { q with retry := q.retry + 1 } else q))) := by
  change execDownlinkAckTimeout n s = _
  simp only [execDownlinkAckTimeout, hawait, ← hc, hframe, hsent, Bool.false_eq_true, if_false]

end

end

/-! ### Good frames -/

section
variable {s} {i : Fin 128} {g : GoodFrame} {c : Block} (hgood : s.blk.post.good.find? (fun g => g.stall == i.val) = some g)
  (hruns : s.blk.runs 10 = true) (hbag : s.blk.bagDue = false)
  (hc : c = ((s.blk.updPost (fun p => { p with good := p.good.erase g })).count .post C.POST.RX_FRAME).lane 10 0 0)
include hgood hruns hbag hc

/-- A frame without an MHR is not for the GX-3256 (R203, R204). -/
theorem exec_postFrameAccept_noMhr (hmhr : parseMhr g = none) :
    exec (.postFrameAccept i) s = s.next (c.frameDrop g C.POST.RX_FILTERED) := by
  have hempty : (s.blk.updPost (fun p => { p with good := p.good.erase g })).bagDue = false := hbag
  change execPostFrameAccept i s = _
  simp only [execPostFrameAccept, hgood, Block.postHears_updPost, s.blk.postHears_of_runs hruns, hempty, hmhr, ← hc, Bool.not_true,
    Bool.false_eq_true, if_false]

theorem exec_postFrameAccept_mhr {f : MeshFrame} (hmhr : parseMhr g = some f) :
    exec (.postFrameAccept i) s = s.next (c.frameFor s.fuse g f) := by
  have hempty : (s.blk.updPost (fun p => { p with good := p.good.erase g })).bagDue = false := hbag
  change execPostFrameAccept i s = _
  simp only [execPostFrameAccept, hgood, Block.postHears_updPost, s.blk.postHears_of_runs hruns, hempty, hmhr, ← hc, Bool.not_true,
    Bool.false_eq_true, if_false]

end

section
variable {b} (fu : Fuses) (g : GoodFrame) {f : MeshFrame}

theorem Block.frameFor_ack (hack : f.kind = .ack) : b.frameFor fu g f = (b.freeCells g.cells).ackIn f := by
  simp only [Block.frameFor, hack, beq_self_eq_true, if_true]

theorem Block.frameFor_data {p : Nat} (hpan : b.panOf f = some p) (hsource : b.srcOk p f = true) (hdata : f.kind = .data) :
    b.frameFor fu g f = (b.lane 10 0 1).accepted fu f p g.cells g.bag := by
  have hkinds : (MeshKind.data == .ack) = false ∧ (MeshKind.data == .beacon) = false ∧
      (MeshKind.data == .other) = false := by decide
  simp only [Block.frameFor, hdata, hkinds, hpan, hsource, Bool.not_true, Bool.or_self, Bool.false_eq_true, if_false]

variable (hother : f.kind ≠ .ack)
include hother

theorem Block.frameFor_noPan (hpan : b.panOf f = none) : b.frameFor fu g f = b.frameDrop g C.POST.RX_FILTERED := by
  simp only [Block.frameFor, beq_eq_false_iff_ne.mpr hother, hpan, Bool.false_eq_true, if_false]

variable {p : Nat} (hpan : b.panOf f = some p)
include hpan

theorem Block.frameFor_unknownSource (hsource : b.srcOk p f = false) : b.frameFor fu g f = b.frameDrop g C.POST.UNKNOWN_SRC := by
  simp only [Block.frameFor, beq_eq_false_iff_ne.mpr hother, hpan, hsource, Bool.not_false, Bool.false_eq_true, if_false, if_true]

end

/-! ### Security, undone streams, the Saddlebag -/

/-- An unsecured frame of a PAN that requires security fails, and its node's failures are counted (R206). -/
theorem Block.takeIn_unsecured {f : MeshFrame} {p : Nat} (n : Nat) (hunsecured : f.secLevel = 0)
    (hrequired : bitOf (b.pan p 0x10 1) 2 = true) : b.takeIn f p (some n) 0 none = (b.count .post C.POST.SEC_FAIL).recCount n 2 := by
  have hfails : b.secure f p (some n) = (none, (b.count .post C.POST.SEC_FAIL).recCount n 2) := by
    simp only [Block.secure, hunsecured, hrequired, true_or, if_true]
  simp only [Block.takeIn, hfails]

section
variable {b} {stall : Nat}

theorem Block.undoStream_open {q : PostStream} (hopen : b.post.streams.find? (fun q => q.stall == stall) = some q) :
    b.undoStream stall = ({ b.freeCells q.cells with post := { (b.freeCells q.cells).post with
      streams := (b.freeCells q.cells).post.streams.filter (fun q => q.stall != stall) } } : Block).count .post C.POST.UNDONE := by
  simp only [Block.undoStream, hopen]

theorem Block.undoStream_none (hnone : b.post.streams.find? (fun q => q.stall == stall) = none) : b.undoStream stall = b := by
  simp only [Block.undoStream, hnone]

/-- The one frame of a node that still has a record is taken in as though it had just arrived (R238). -/
theorem Block.bagDrain_single {e : BagEntry} (hbag : b.post.bag = [e]) (hnode : e.node ≠ 0x1FFFF)
    (htaken : (b.hot e.node).st ≠ stFree) : b.bagDrain =
      ((b.takeIn e.frame e.pan (some e.node) 2 e.event).updPost (fun p => { p with bag := [] })).bagStatus := by
  simp only [Block.bagDrain, hbag, List.foldl_cons, List.foldl_nil, htaken, and_false, if_false, if_neg hnode]

/-- With one record the rebuild loads that node's entry before every entry is saved (R218). -/
theorem Block.hotRebuild_single {n : Nat} {c : Block} (hsingle : b.recNodes = [n])
    (hc : c = (b.setTabBytes (hotAddr n) (readBytes b.dram 0 (recAddr n + 0x1C) 16)).fixPend n) :
    b.hotRebuild = (c.hotNodes.foldl (fun b n => b.saveHot n) c).updPost (fun p => { p with rebuild := false }) := by
  simp only [Block.hotRebuild, hsingle, List.foldl_cons, List.foldl_nil, ← hc]

end

/-- Settles O17: each clause by the lemma on its command. -/
theorem meshDownlinkAndDelivery : Obligations.MeshDownlinkAndDelivery := by
  refine ⟨⟨fun s _ _ _ _ hfound hpoll hnode hev hrun hmore hawait hb hgrant => ?_,
      fun s _ _ _ _ _ hfound hexch hnode hev hleft hearly hrun hmore hawait hb hnone hfirst => ?_,
      fun s h body hrun hqueued htaken hshort hroom => ?_, fun s h body hrun hqueued hfree => ?_,
      fun s _ _ _ _ _ _ hrun hv hb hp hbs => exec_meshBroadcast_run hrun hv hb hp hbs,
      fun s _ _ _ => exec_downlinkExpired_late,
      fun s _ _ _ hawait _ hb => ⟨exec_downlinkAckTimeout_grant hawait hb,
        fun _ hframe hsent => ⟨fun hlast => ?_, fun hagain => ?_⟩⟩⟩,
    fun s _ g _ hgood hruns hbag hb => ⟨exec_postFrameAccept_noMhr hgood hruns hbag hb, fun _ hmhr => ?_⟩,
    fun b _ _ n => b.takeIn_unsecured n, fun s _ _ hopen => congrArg s.next (Block.undoStream_open hopen),
    fun s _ hnone => congrArg s.next (Block.undoStream_none hnone), fun s _ hdue hbag hnode htaken => ?_,
    fun s _ _ hstart hlost hsingle hb => ?_⟩
  · rw [exec_dataRequestPoll_ready hfound hpoll hnode hev hrun hmore hawait hb, Block.sendHead_grant s.fuse hnode hgrant]
  · rw [exec_downlinkSend_ready s hfound hexch hnode hev hleft hearly hrun hmore hawait hb,
      Block.sendHead_frame s.fuse hnode hexch hnone hfirst]
  · rw [exec_meshEnqueue_queued hrun hqueued, Block.dlEnqueue_accepted htaken hshort hroom]
  · rw [exec_meshEnqueue_queued hrun hqueued, Block.dlEnqueue_refused (.inl hfree)]
  · rw [exec_downlinkAckTimeout_frame hawait hb hframe hsent, if_pos hlast]
  · rw [exec_downlinkAckTimeout_frame hawait hb hframe hsent, if_neg hagain.not_ge]
  · rw [exec_postFrameAccept_mhr hgood hruns hbag hb hmhr]
    exact ⟨fun hack => congrArg s.next (Block.frameFor_ack s.fuse g hack),
      fun hother hpan => congrArg s.next (Block.frameFor_noPan s.fuse g hother hpan),
      fun _ hother hpan => ⟨fun hsource => congrArg s.next (Block.frameFor_unknownSource s.fuse g hother hpan hsource),
        fun hsource hdata => congrArg s.next (Block.frameFor_data s.fuse g hpan hsource hdata)⟩⟩
  · exact congrArg s.next ((if_pos hdue).trans (Block.bagDrain_single hbag hnode htaken))
  · exact congrArg s.next ((if_pos ⟨hstart, hlost⟩).trans (Block.hotRebuild_single hsingle hb))

end Sys2Proof.Machine
end

section
/-! Regulatory fuses and caps: what the lock keeps (R255), and the two registers that write them, RFC_REG_DATA and RFC_IMGCAP (R257). -/

namespace Sys2Proof.Machine

variable {s : State} {road : Road} {v : Word}

/-! ### The regulatory lock -/

/-- REG_LOCK is itself a regulatory fuse. -/
theorem Fuses.regLock_congr {fu gu : Fuses} (h : gu.reg = fu.reg) : gu.regLock = fu.regLock := by rw [regLock, h, regLock]

/-- No move programs a regulatory fuse once the lock is set. -/
theorem State.Moves.reg_of_locked {t : State} (h : s.Moves t) (hlock : s.fuse.regLock = true) : t.fuse.reg = s.fuse.reg := by
  induction h with
  | refl => rfl
  | blk b _ ih => exact ih
  | assay a _ ih => exact ih
  | burnSec w v _ ih => exact ih
  | burnReg w v _ hopen ih => exact absurd ((Fuses.regLock_congr ih).trans hlock) (ne_true_of_eq_false hopen)

/-- Settles O54: a step comes to its next state by moves, and none of them programs a regulatory fuse behind the lock. -/
theorem regulatoryLockHolds : Obligations.RegulatoryLockHolds := by
  intro s t hstep hlock
  obtain ⟨u, hu, hmoves⟩ := step_moves hstep
  rw [← hu] at hlock ⊢
  have hreg : t.fuse.reg = u.fuse.reg := hmoves.reg_of_locked hlock
  exact ⟨hreg, (Fuses.regLock_congr hreg).trans hlock⟩

/-! ### RFC_REG_DATA -/

theorem exec_regFuseWrite_unlocked (hroad : s.blk.roadStops road R.RFC_REG_DATA = none) (hlc : s.blk.sec.lc < 2)
    (hopen : s.fuse.regLock = false) : exec (.regFuseWrite road v) s = .next { s with fuse := { s.fuse with
      reg := put s.fuse.reg (s.blk.get F.RFC_REG_IDX.WORD) (look s.fuse.reg (s.blk.get F.RFC_REG_IDX.WORD) 0 |||
        (v.toNat &&& regFuseMask (s.blk.get F.RFC_REG_IDX.WORD))) 0 } } := by
  have hallowed : (decide (2 ≤ s.blk.sec.lc) || s.fuse.regLock) = false := by rw [hopen, decide_eq_false hlc.not_ge]; rfl
  change execRegFuseWrite road v s = _
  simp only [execRegFuseWrite, s.viaRoad_open _ _ _ _ hroad, State.regFuse, hallowed, Bool.false_eq_true, if_false]

theorem exec_regFuseWrite_refused (hroad : s.blk.roadStops road R.RFC_REG_DATA = none)
    (hclosed : 2 ≤ s.blk.sec.lc ∨ s.fuse.regLock = true) :
    exec (.regFuseWrite road v) s = s.next (s.blk.noteWrite road R.RFC_REG_DATA v.toNat) := by
  have hrefused : (decide (2 ≤ s.blk.sec.lc) || s.fuse.regLock) = true := by rwa [Bool.or_eq_true, decide_eq_true_eq]
  change execRegFuseWrite road v s = _
  simp only [execRegFuseWrite, s.viaRoad_open _ _ _ _ hroad, State.regFuse, hrefused, if_true, State.next]

/-! ### RFC_IMGCAP -/

theorem exec_rfcImgcapWrite_open (hroad : s.blk.roadStops road R.RFC_IMGCAP = none) :
    exec (.rfcImgcapWrite road v) s = s.next (s.blk.imgcapWrite road v.toNat) :=
  congrArg s.next (s.blk.viaRoad_open _ _ _ _ hroad)

variable (b : Block)

/-- The four caps are the bytes of the word. -/
theorem Block.imgcapWrite_beforePass2 (v : Nat) (hearly : b.ost.pass2Done = false) : b.imgcapWrite road v =
    (((b.set F.RFC_IMGCAP.CAP0 v).set F.RFC_IMGCAP.CAP1 (v / 2 ^ 8)).set F.RFC_IMGCAP.CAP2 (v / 2 ^ 16)).set
      F.RFC_IMGCAP.CAP3 (v / 2 ^ 24) := by
  have hlo : v / 2 ^ F.RFC_IMGCAP.CAP0.lo = v := Nat.div_one v
  simp only [Block.imgcapWrite, hearly, Bool.false_and, Bool.false_eq_true, if_false, List.foldl_cons, List.foldl_nil, hlo]
  rfl

theorem Block.imgcapWrite_raising {v : Nat} (hlate : b.ost.pass2Done = true) (hraise : b.get F.RFC_IMGCAP.CAP0 < v % 256) :
    b.imgcapWrite road v = b.noteWrite road R.RFC_IMGCAP v := by
  have hlo : v / 2 ^ F.RFC_IMGCAP.CAP0.lo = v := Nat.div_one v
  simp only [Block.imgcapWrite, hlate, List.any_cons, hlo, decide_eq_true hraise, Bool.true_or, Bool.and_self, if_true]

/-- The last of the four needs no cut: a word has 32 bits. -/
theorem exec_rfcImgcapWrite_beforePass2 (hroad : s.blk.roadStops road R.RFC_IMGCAP = none) (hearly : s.blk.ost.pass2Done = false) :
    blockStep (.rfcImgcapWrite road v) s (fun b => b.get F.RFC_IMGCAP.CAP0 = v.toNat % 256 ∧
      b.get F.RFC_IMGCAP.CAP1 = v.toNat / 2 ^ 8 % 256 ∧ b.get F.RFC_IMGCAP.CAP2 = v.toNat / 2 ^ 16 % 256 ∧
      b.get F.RFC_IMGCAP.CAP3 = v.toNat / 2 ^ 24) := by
  refine ⟨_, exec_rfcImgcapWrite_open hroad, ?_⟩
  rw [Block.imgcapWrite_beforePass2 s.blk _ hearly]
  refine ⟨?_, ?_, ?_, ?_⟩
  · rw [Block.get_set_other _ _ (by decide), Block.get_set_other _ _ (by decide), Block.get_set_other _ _ (by decide),
      Block.get_set_same]
    rfl
  · rw [Block.get_set_other _ _ (by decide), Block.get_set_other _ _ (by decide), Block.get_set_same]
    rfl
  · rw [Block.get_set_other _ _ (by decide), Block.get_set_same]
    rfl
  · rw [Block.get_set_same]
    exact Nat.mod_eq_of_lt (Nat.div_lt_of_lt_mul v.isLt)

end Sys2Proof.Machine
end

section
/-! The duty windows of the mesh sub-bands (R264, R265): 3,600 bins held as runs. -/

namespace Sys2Proof.Machine

variable (b : Block) (fu : Fuses) {n u : Nat}

/-! ### The sum of the bins -/

theorem sumNat_eq_sum (l : List Nat) : sumNat l = l.sum := List.sum_eq_foldl.symm

@[simp] theorem binSum_nil : binSum [] = 0 := rfl

@[simp] theorem binSum_cons (k v : Nat) (t : List (Nat × Nat)) : binSum ((k, v) :: t) = k * v + binSum t := by
  simp only [binSum, sumNat_eq_sum, List.map_cons, List.sum_cons]

theorem binSum_pushBin_zero (l : List (Nat × Nat)) : binSum (pushBin 0 l) = binSum l := by
  cases l with
  | nil => rfl
  | cons p t =>
    obtain ⟨k, v⟩ := p
    simp only [pushBin]
    split
    case isTrue hzero => simp only [hzero, binSum_cons, Nat.mul_zero]
    case isFalse => simp only [binSum_cons, Nat.mul_zero, Nat.zero_add]

theorem binSum_takeBins_le (n : Nat) (l : List (Nat × Nat)) : binSum (takeBins n l) ≤ binSum l := by
  induction l generalizing n with
  | nil => exact le_rfl
  | cons p t ih =>
    obtain ⟨k, v⟩ := p
    simp only [takeBins]
    split
    · exact Nat.zero_le _
    · split
      case isTrue hshort =>
        simp only [binSum_cons, binSum_nil, Nat.add_zero]
        exact (Nat.mul_le_mul_right v hshort).trans (Nat.le_add_right _ _)
      case isFalse =>
        simp only [binSum_cons]
        exact Nat.add_le_add_left (ih (n - k)) _

/-- A charge adds its units once: the current bin is split off its run. -/
theorem binSum_chargeBin {l : List (Nat × Nat)} (hruns : ∀ p ∈ l, 1 ≤ p.1) : binSum (chargeBin u l) = binSum l + u := by
  cases l with
  | nil => simp only [chargeBin, binSum_cons, binSum_nil, Nat.one_mul, Nat.add_comm]
  | cons p t =>
    obtain ⟨k, v⟩ := p
    have hrun : 1 ≤ k := hruns (k, v) List.mem_cons_self
    simp only [chargeBin]
    split
    case isTrue hsingle =>
      obtain rfl : k = 1 := hsingle.antisymm hrun
      simp only [binSum_cons]
      omega
    case isFalse =>
      obtain ⟨m, rfl⟩ := Nat.exists_eq_add_of_le' hrun
      simp only [binSum_cons, Nat.add_sub_cancel, Nat.succ_mul]
      omega

/-! ### Windows -/

@[simp] theorem Block.dutyWin_setDuty (n : Nat) (l : List (Nat × Nat)) : (b.setDuty n l).dutyWin n = l := by
  have hgone : (b.rfc.duty.filter (fun w => w.sub != n)).find? (fun w => w.sub == n) = none := by simp [List.find?_eq_none]
  simp only [Block.dutyWin, Block.setDuty, List.find?_append, hgone, List.find?_cons, beq_self_eq_true, Option.none_or]

/-- A charge that the window grants keeps it within its allowance (R265). -/
theorem Block.dutyCharge_within (hkeeps : keepsDuty fu n = true) (hgrants : b.dutyGrants fu n u = true)
    (hruns : ∀ p ∈ b.dutyWin n, 1 ≤ p.1) : binSum ((b.dutyCharge fu n u).dutyWin n) ≤ (subBand fu n).duty * 360000 := by
  have hallowed : binSum (b.dutyWin n) + u ≤ (subBand fu n).duty * 360000 := by
    rwa [Block.dutyGrants, hkeeps, Bool.not_true, Bool.false_or, decide_eq_true_eq] at hgrants
  rwa [Block.dutyCharge, if_pos hkeeps, Block.dutyWin_setDuty, binSum_chargeBin hruns]

/-- Settles O19: windows by the sums of their bins, each write by the lemma on its command. -/
theorem dutyAndRegulatoryEffects : Obligations.DutyAndRegulatoryEffects :=
  ⟨⟨fun _ => rfl, fun b fu _ _ => b.dutyCharge_within fu,
      fun l => (binSum_takeBins_le _ _).trans_eq (binSum_pushBin_zero l)⟩,
    fun _ _ _ hroad hlc hopen => ⟨_, rfl, exec_regFuseWrite_unlocked hroad hlc hopen⟩,
    fun _ _ _ => exec_regFuseWrite_refused,
    fun _ _ _ => exec_rfcImgcapWrite_beforePass2,
    fun s _ _ hroad hlate hraise =>
      (exec_rfcImgcapWrite_open hroad).trans (congrArg s.next (s.blk.imgcapWrite_raising hlate hraise))⟩

end Sys2Proof.Machine
end

section
/-! Front ends from WARM to READY, their calibrations and what ends a transmission that waits (R244 to R251, R269). -/

namespace Sys2Proof.Machine

variable {s : State} {f : Fin 4} {temp : Int}

/-! ### WARM and SETTLE -/

/-- A temperature taken leaves the state of a front end. -/
theorem Block.fe_setFeTemp (b : Block) (f g : Nat) (t : Int) : (b.setFeTemp f t).fe g = b.fe g :=
  b.get_set_other _ (by simp only [Fld.key, F.RFC_FE_STATUS.STATE, F.RFC_TEMP.T, fld]; omega)

theorem exec_feWarmDone_warm (hwarm : s.blk.fe f.val = feWarm) :
    exec (.feWarmDone f temp) s = s.next ((s.blk.setFeTemp f.val temp).feWarmed f.val) := congrArg s.next (if_pos hwarm)

section
variable {b : Block} {g : Nat} (hwarm : b.fe g = feWarm)
include hwarm

theorem Block.feWarmed_valid (hvalid : b.calValid g = true) : b.feWarmed g = b.setFe g feSettle := by
  simp only [Block.feWarmed, hwarm, hvalid, ne_eq, not_true_eq_false, if_false, if_true]

theorem Block.feWarmed_invalid (hinvalid : b.calValid g = false) :
    b.feWarmed g = (b.setFe g feCal).updFe g (fun e => { e with startup := true, steps := 0 }) := by
  simp only [Block.feWarmed, hwarm, hinvalid, ne_eq, not_true_eq_false, Bool.false_eq_true, if_false]

end

theorem exec_feSettleDone_idle (hsettle : s.blk.fe f.val = feSettle) (hidle : (s.blk.feAt f.val).wifi = none) :
    exec (.feSettleDone f) s = s.next (((s.blk.setFe f.val feReady).updFe f.val
      (fun e => { e with readyAo := s.blk.ao, waiting := [], wifi := none })).wakeReady f.val) := by
  change s.next (s.blk.feSettled s.fuse f.val) = _
  simp only [Block.feSettled, hsettle, hidle, if_true]

/-! ### The start-up calibration -/

section
variable {c : Block} (hcal : s.blk.fe f.val = feCal) (hstartup : (s.blk.feAt f.val).startup = true)
  (hc : c = ((s.blk.setFe f.val feSettle).setFeTemp f.val temp).updFe f.val (fun e => { e with startup := false }))
include hcal hstartup hc

theorem exec_startupCalibrationDone_ok : exec (.startupCalibrationDone f true temp) s = s.next
    (((c.calStore f.val [0, 1, 2, 3] temp).setB (F.RFC_FE_STATUS.DEGRADED f.val) false).count (.rfc f) C.RFC.CAL_STARTUP) := by
  change execStartupCalibrationDone f true temp s = _
  simp only [execStartupCalibrationDone, hcal, hstartup, ← hc, decide_true, Bool.and_self, if_true]

theorem exec_startupCalibrationDone_outOfRange : exec (.startupCalibrationDone f false temp) s = s.next
    (((c.setB (F.RFC_FE_STATUS.DEGRADED f.val) true).count (.rfc f) C.RFC.CAL_FAIL).feNote f.val 4) := by
  change execStartupCalibrationDone f false temp s = _
  simp only [execStartupCalibrationDone, hcal, hstartup, ← hc, decide_true, Bool.and_self, Bool.false_eq_true, if_true, if_false]

end

/-! ### In-service calibrations -/

/-- With no step completed there is none to lose (R249). -/
theorem exec_calibrationDue_noSteps (hon : s.blk.fe f.val ≠ feOff) (hsteps : ((s.blk.setFeTemp f.val temp).feAt f.val).steps = 0) :
    exec (.calibrationDue f temp) s = s.next (s.blk.setFeTemp f.val temp) := by
  change execCalibrationDue f temp s = _
  simp only [execCalibrationDue, hon, hsteps, bne_self_eq_false, Bool.false_and, Bool.false_eq_true, if_false]

section
variable {ok : Bool} {k : Nat} {c q : Block} (hc : c = s.blk.setFeTemp f.val temp)
include hc

/-- A gap in which calibration k is the first due begins a step of it (R248). -/
theorem exec_inserviceStep_begins (hready : c.fe f.val = feReady) (hheld : (c.feAt f.val).readyAo + 200000 ≤ c.ao)
    (hgap : c.calGap f.val = true) (hsteps : (c.feAt f.val).steps = 0)
    (hdue : (List.range 4).find? (fun k => c.calDue f.val k) = some k) : exec (.inserviceStep f ok temp) s =
      s.next ((((c.feBlank f.val).setFe f.val feCal).set (F.RFC_FE_STATUS.CAL_RUN f.val) k).updFe f.val
        (fun e => { e with steps := 0 })) := by
  have hother : decide (feReady = feCal) = false := rfl
  change execInserviceStep f ok temp s = _
  simp only [execInserviceStep, ← hc, hready, hheld, hgap, hsteps, hdue, hother, ite_self, decide_true, Bool.false_and, Bool.and_self,
    Bool.false_eq_true, if_false, if_true]

/-- A step that ends leads to SETTLE; with the last one its calibration ends (R248, R249). -/
theorem exec_inserviceStep_ends (hcal : c.fe f.val = feCal) (hinservice : (c.feAt f.val).startup = false)
    (hk : k = c.get (F.RFC_FE_STATUS.CAL_RUN f.val))
    (hq : q = (c.setFe f.val feSettle).updFe f.val (fun e => { e with steps := e.steps + 1 })) (hdue : q.calDue f.val k = true) :
    exec (.inserviceStep f ok temp) s =
      s.next (if (c.feAt f.val).steps + 1 < calSteps f.val k then q else q.calEnd f.val k ok temp) := by
  change execInserviceStep f ok temp s = _
  simp only [execInserviceStep, ← hc, hcal, hinservice, ← hk, ← hq, hdue, decide_true, Bool.not_false, Bool.not_true, Bool.and_self,
    Bool.false_eq_true, if_true, if_false]

end

/-! ### Waiting and lock losses -/

theorem exec_txWaitedLate_wifi {j : TxJob} (hradio : f.val ≠ 3) (hwaits : (s.blk.feAt f.val).wifi = some j) :
    exec (.txWaitedLate f none) s =
      s.next ((s.blk.updFe f.val (fun e => { e with wifi := none })).refuseTx f.val j.kind (.rfc f) C.RFC.TX_LATE) := by
  change execTxWaitedLate f none s = _
  simp only [execTxWaitedLate, hradio, hwaits, Option.isSome_some, Option.map_some, Option.getD_some, if_false, if_true]

/-- The link MACs are no part of a front end. -/
@[simp] theorem Block.lmAt_updFe (b : Block) (g r : Nat) (h : FrontEnd → FrontEnd) : (b.updFe g h).lmAt r = b.lmAt r := rfl

/-- The first loss in SETTLE, with no response owed, is counted, recorded and remembered (R269). -/
theorem exec_synthLockLost_first {c : Block} (hsettle : s.blk.fe f.val = feSettle)
    (hc : c = (s.blk.count (.rfc f) C.RFC.LOCK_LOSS).feNote f.val 1) (hfirst : (c.feAt f.val).losses = [])
    (hresp : f.val < 3 → (c.lmAt f.val).resp = none) :
    exec (.synthLockLost f) s = s.next (c.updFe f.val (fun e => { e with losses := [c.ao] })) := by
  have hnotOwed : (decide (f.val < 3) && (c.lmAt f.val).resp.isSome) = false := by
    by_cases hradio : f.val < 3
    · rw [hresp hradio, Option.isSome_none, Bool.and_false]
    · rw [decide_eq_false hradio, Bool.false_and]
  have hstate : ¬ feSettle < feSettle ∧ ¬ feSettle = feTx := by decide
  change execSynthLockLost f s = _
  simp only [execSynthLockLost, hsettle, hstate, ← hc, hfirst, List.filter_nil, List.length_singleton, Nat.reduceLT,
    Block.lmAt_updFe, hnotOwed, Bool.false_eq_true, if_false]

end Sys2Proof.Machine
end

section
/-! Power control and the mask monitor of the chains (R260 to R263). -/

namespace Sys2Proof.Machine

variable {s : State} {c : Fin 17} {m t : Int} {sp : List (Int × Int)}

/-- An update that stays below the upper bound moves the gain index and counts nothing (R260, R262). -/
theorem exec_alcUpdate_inside {f : Nat} {i : Int} (hf : f = chainFe c.val) (htarget : (s.blk.chainAt c.val).target = some t)
    (hmoves : s.blk.on (F.RFC_ALC.FREEZE f) = false) (hi : i = clampInt 0 127 ((s.blk.chainAt c.val).idx +
      loopStep (t - m) (s.blk.get (F.RFC_ALC.GAIN_SHIFT f)) (max 1 (s.blk.get (F.RFC_ALC.STEP f))))) (hinside : i < 127) :
    exec (.alcUpdate c m) s = s.next ((s.blk.updChain c.val (fun x => { x with idx := i.toNat })).updChain c.val (fun x =>
      if x.viol = true then { x with target := none, viol := false, clean := 0 }
      else if max 1 (s.blk.get (F.RFC_MON.RECOVER f)) ≤ x.clean + 1 then
        { x with target := none, clean := 0, strikes := 0, backoff := x.backoff - max 1 (s.blk.get (F.RFC_MON.STEP f)) }
      else { x with target := none, clean := x.clean + 1, strikes := 0 })) := by
  have hbelow : ¬ (i = 127 ∧ m < t) := fun h => hinside.ne h.1
  change execAlcUpdate c m s = _
  simp only [execAlcUpdate, htarget, ← hf, hmoves, ← hi, hbelow, Bool.false_eq_true, if_false]
  rfl

theorem exec_alcOvershoot_over (htarget : (s.blk.chainAt c.val).target = some t)
    (hover : 10 * (s.blk.get (F.RFC_ALC.OVER (chainFe c.val)) : Int) < 25 * (m - t)) : exec (.alcOvershoot c m) s =
      s.next ((s.blk.updChain c.val (fun x => { x with idx := x.idx - (m - t).toNat })).count
        (.rfc (Fin.ofNat 4 (chainFe c.val))) C.RFC.ALC_OVERSHOOT) := by
  change execAlcOvershoot c m s = _
  simp only [execAlcOvershoot, htarget, hover.not_ge, if_false]

theorem exec_maskViolation_kept (hkept : s.blk.maskBroken (chainFe c.val) sp = false) :
    exec (.maskViolation { chain := c, spectrum := sp }) s = s.next s.blk := by
  change execMaskViolation { chain := c, spectrum := sp } s = _
  simp only [execMaskViolation, hkept, Bool.not_false, Bool.or_true, if_true]

/-- The first violation of a transmission below MAX counts and backs its chain off by STEP, up to MAX (R262). -/
theorem exec_maskViolation_backsOff {f n : Nat} {b : Block} (hbroken : s.blk.maskBroken f sp = true) (hf : f = chainFe c.val)
    (hn : n = 2 * s.blk.get (F.RFC_MON.MAX f)) (hmonitored : s.blk.on (F.RFC_MON.EN f) = true)
    (hair : (s.blk.chainAt c.val).target.isSome = true) (hnew : (s.blk.chainAt c.val).viol = false)
    (hroom : (s.blk.chainAt c.val).backoff < n) (hb : b = s.blk.count (.rfc (Fin.ofNat 4 f)) C.RFC.MON_VIOLATION) :
    exec (.maskViolation { chain := c, spectrum := sp }) s = s.next (b.updChain c.val (fun x => { x with
      viol := true, clean := 0, strikes := 0, backoff := min n (x.backoff + max 1 (b.get (F.RFC_MON.STEP f))) })) := by
  have htop : 2 * b.get (F.RFC_MON.MAX f) = n := by rw [hb, Block.get_count, hn]
  have hon : (s.blk.chainAt c.val).target.isNone = false := by rw [← Option.not_isSome, hair]; rfl
  change execMaskViolation { chain := c, spectrum := sp } s = _
  simp only [execMaskViolation, ← hf, hbroken, hmonitored, hon, hnew, ← hb, htop, hroom, Bool.not_true, Bool.or_self, Bool.false_eq_true,
    if_false, if_true]

/-- Settles O18: each clause by the lemma on its command. -/
theorem frontEndAndChainEffects : Obligations.FrontEndAndChainEffects := by
  refine ⟨⟨fun s f temp hwarm => ?_, fun _ _ => exec_feSettleDone_idle,
      fun _ _ _ hcal hstartup => ⟨_, rfl, exec_startupCalibrationDone_ok hcal hstartup rfl,
        exec_startupCalibrationDone_outOfRange hcal hstartup rfl⟩,
      fun _ _ _ hon _ => exec_calibrationDue_noSteps hon, fun _ _ _ _ _ _ => exec_inserviceStep_begins,
      fun s f ok temp k b q hb hcal hinservice hk hq hdue => ?_, fun _ _ => rfl, fun _ _ _ => exec_txWaitedLate_wifi,
      fun _ _ _ hsettle _ _ => exec_synthLockLost_first hsettle⟩,
    ⟨fun _ _ _ _ _ _ => exec_alcUpdate_inside, fun _ _ _ _ => exec_alcOvershoot_over, fun _ _ _ => exec_maskViolation_kept,
      fun _ _ _ _ _ hbroken hf hn hmonitored hair hnew hroom =>
        ⟨_, rfl, exec_maskViolation_backsOff hbroken hf hn hmonitored hair hnew hroom rfl⟩,
      fun s road _ hroad => congrArg s.next (s.blk.viaRoad_open road _ _ _ hroad)⟩⟩
  · have hstill : (s.blk.setFeTemp f.val temp).fe f.val = feWarm := (s.blk.fe_setFeTemp ..).trans hwarm
    exact ⟨fun hvalid => (exec_feWarmDone_warm hwarm).trans (congrArg s.next (Block.feWarmed_valid hstill hvalid)),
      fun hinvalid => (exec_feWarmDone_warm hwarm).trans (congrArg s.next (Block.feWarmed_invalid hstill hinvalid))⟩
  · rw [exec_inserviceStep_ends hb hcal hinservice hk hq hdue]
    exact ⟨fun hmore => congrArg s.next (if_pos hmore), fun hlast => congrArg s.next (if_neg hlast.not_gt)⟩

end Sys2Proof.Machine
end

section
/-! Frames into Carter's pipe: what the checks before the pipeline let through (R279, R285, R298). -/

namespace Sys2Proof.Machine

variable {s : State} {b c : Block} {g : Ingress}

/-- The block once a frame of source src is received: counted at its port and in its pipe's lane. -/
def Block.received (b : Block) (src : Nat) : Block := (b.cartCount (portOf src) C.CART.RX_FRAMES).lane 3 (pipeOf src) 0

theorem Block.ingress_deaf (hdeaf : b.portHears g.src = false) : b.ingress g = b :=
  if_pos (by rw [hdeaf, Bool.not_false, Bool.or_true])

/-- Every port but a ring port hears at all times (R271). -/
theorem Block.portHears_inner (hinner : 2 ≤ g.src) : b.portHears g.src = true := by
  rw [Block.portHears, decide_eq_true hinner, Bool.true_or]

/-- A frame whose FCS is known to be good is judged from its header on as it is when stored (R285). -/
theorem exec_cutThrough_good (hgood : g.fcs = .good) : exec (.cutThrough g) s = s.next (s.blk.ingress g) := by
  have hsame : { g with fcs := .good } = g := by rw [← hgood]
  change execCutThrough g s = _
  simp only [execCutThrough, hsame, ite_self]

/-- With the bypass not open a ring port takes no frame (R298). -/
theorem Block.ingress_bypassed (hruns : b.runs 3 = true) (hhears : b.portHears g.src = true) (hwhole : g.rsLost = 0)
    (hring : g.src ≤ 1) (hc : c = b.received g.src) (hlit : c.lame = false) (hclosed : c.cart.keeper.isOpen = false) :
    b.ingress g = c.pipeDrop g.src C.CART.BLOCKED_DROP := by
  rw [Block.received] at hc
  simp [Block.ingress, hruns, hhears, hwhole, ← hc, hlit, hring, hclosed]

/-- A frame meets the checks before those of its VLAN: it is heard, whole, good, of a legal length, for neither the steward nor
the MAC of a ring port, and the device forwards. c: the block once it is received. -/
structure Block.Forwards (b c : Block) (g : Ingress) : Prop where
  runs : b.runs 3 = true
  hears : b.portHears g.src = true
  whole : g.rsLost = 0
  taken : c = b.received g.src
  lit : c.lame = false
  opened : g.src ≤ 1 → c.cart.keeper.isOpen = true
  good : g.fcs = .good
  long : 64 ≤ g.len
  short : g.len ≤ c.mtu
  carried : g.src ≤ 1 → g.frame.etype ≠ 0x8808
  plain : g.frame.etype ≠ c.get F.CART_STEWARD.ETYPE

section
variable (h : b.Forwards c g)
include h

theorem Block.Forwards.not_bypassed : (decide (g.src ≤ 1) && !c.cart.keeper.isOpen) = false := by
  by_cases hring : g.src ≤ 1
  · rw [h.opened hring, Bool.not_true, Bool.and_false]
  · rw [decide_eq_false hring, Bool.false_and]

theorem Block.Forwards.not_control : (decide (g.src ≤ 1) && g.frame.etype == 0x8808) = false := by
  by_cases hring : g.src ≤ 1
  · rw [beq_eq_false_iff_ne.mpr (h.carried hring), Bool.and_false]
  · rw [decide_eq_false hring, Bool.false_and]

/-- A source that is not valid takes no frame (R273). -/
theorem Block.ingress_invalidSource (hinvalid : bitOf (c.srcFlags g.src) 0 = false) :
    b.ingress g = c.pipeDrop g.src C.CART.VLAN_DROP := by
  have htaken : c = (b.cartCount (portOf g.src) C.CART.RX_FRAMES).lane 3 (pipeOf g.src) 0 := h.taken
  simp [Block.ingress, h.runs, h.hears, h.whole, ← htaken, h.lit, h.not_bypassed, h.good, h.long.not_gt, h.short.not_gt, h.not_control,
    h.plain, hinvalid, Block.giveBack]

/-- An untagged frame is in the VLAN of its source; of the frames that are admitted to theirs a blocked ring port drops its own
(R279). -/
theorem Block.ingress_admitted (hvalid : bitOf (c.srcFlags g.src) 0 = true) (huntagged : g.frame.tag = none)
    (hvlan : bitOf (c.vlanByte (c.pvid g.src) 2) 0 = true)
    (hmember : bitOf (c.vlanByte (c.pvid g.src) 0) (memberBit (portOf g.src)) = true) :
    b.ingress g = if (decide (g.src ≤ 1) && c.on (ringBlockFld g.src)) = true then c.pipeDrop g.src C.CART.BLOCKED_DROP
      else c.pipeline g none (c.pvid g.src) := by
  have htaken : c = (b.cartCount (portOf g.src) C.CART.RX_FRAMES).lane 3 (pipeOf g.src) 0 := h.taken
  simp [Block.ingress, h.runs, h.hears, h.whole, ← htaken, h.lit, h.not_bypassed, h.good, h.long.not_gt, h.short.not_gt, h.not_control,
    h.plain, hvalid, huntagged, hvlan, hmember]

end

end Sys2Proof.Machine
end

section
/-! Frames out of Carter: stomps, spills to the Loft, egress and the links of the ring (R271, R282, R283, R284, R287). -/

namespace Sys2Proof.Machine

variable {s : State} {b c : Block}

/-- A cut-through frame whose ingress fails by its FCS is stomped at the octets it has (R287). -/
theorem exec_cutThroughStomp_bad {p : Fin 2} {n : Nat} {f : CutFlight}
    (hflight : s.blk.cart.cut.find? (fun c => c.ingress == p.val) = some f) : exec (.cutThroughStomp p n .bad) s =
      s.next ((s.blk.cartCount p.val C.CART.RX_FCS_ERR).stomp { f with frame := { f.frame with
        payload := f.frame.payload.take (min n s.blk.mtu - (18 + (if f.frame.tag.isSome then 4 else 0))) } }) := by
  change execCutThroughStomp p n .bad s = _
  simp only [execCutThroughStomp, hflight]

/-- A frame that waits in a trough goes to the Loft while the Cellar is low and the Loft has cells and time for it (R34, R282). -/
theorem exec_loftSpill_moves {n : Nat} {u : CellUse} (hholds : s.blk.poolAt n = some u) (hcellar : u.loft = false)
    (hwaits : s.blk.cart.troughs.any (fun t => t.frames.any (fun f => f.pool == n)) = true) (hruns : s.blk.runs 3 = true)
    (hen : s.blk.on F.CART_BUF.LOFT_EN = true) (hsize : s.blk.get F.CART_LOFT.SIZE_MIB ≠ 0)
    (hlow : s.blk.cart.cellar < s.blk.get F.CART_BUF.SPILL_AT) (hroom : u.cells ≤ s.blk.cart.loft)
    (hfree : s.blk.loftLimit = false) (hb : b = (s.blk.loftMove u.cells).updCart (fun c => { c with
      loft := c.loft - u.cells
      pool := c.pool.map (fun (q : CellUse) => if q.id = n then { q with loft := true } else q) })) :
    exec (.loftSpill n) s = s.next ((b.freeCells u.cells).cartCount 7 C.CART.SPILLED) := by
  change execLoftSpill n s = _
  simp only [execLoftSpill, hholds, hwaits, hcellar, hruns, hen, bne_iff_ne.mpr hsize, hlow, hroom, hfree, ← hb, decide_true,
    Bool.true_or, Bool.not_false, Bool.and_self, if_true]

/-- With no cut-through frame toward it a ring port sends the head of the trough that is its turn (R283). -/
theorem Block.ringSend_scheduled {p t : Nat} {f : CartFrame} (hup : b.on (ringLinkFld p) = true) (hon : b.ringOn p = true)
    (hopen : b.cart.keeper.isOpen = true) (hcut : b.cart.cut = []) {q : Block} (hpick : b.pickTrough p = some (t, q))
    (htake : q.takeHead t = some (f, c)) (hplain : f.oneStep = false) : b.ringSend p =
      (((c.emit (.ring p f.vlan (c.airFrame p f.vlan (t % 8) f.frame none) false)).cartCount p C.CART.TX_FRAMES).poolDrop
        f.pool).stampOwe p f := by
  simp only [Block.ringSend, hup, hon, hopen, hcut, hpick, htake, hplain, List.find?_nil, Bool.and_self, Bool.not_true,
    Bool.false_eq_true, if_false]

theorem exec_egressSchedule_ringA (hruns : s.blk.runs 3 = true) (hlit : s.blk.lame = false) :
    exec (.egressSchedule 0) s = s.next (s.blk.ringSend 0) :=
  congrArg s.next (if_neg (by rw [hruns, hlit]; decide))

/-- A ring link comes up: shown, recorded and fired; with the other one up too the 500 ms of R299 end. -/
theorem exec_ringLink_up {p : Fin 2} (hon : s.blk.ringOn p.val = true) (hrun : s.blk.est 3 = stRun)
    (hdown : s.blk.on (ringLinkFld p.val) = false) (hb : b = (s.blk.set (ringLinkFld p.val) 1).ringNote p.val) :
    exec (.ringLink p true) s = s.next (if (b.on F.CART_STATUS.LINK_A && b.on F.CART_STATUS.LINK_B) = true then
      b.updCart (fun c => { c with keeper := { c.keeper with openedAo := none } }) else b) := by
  change execRingLink p true s = _
  simp only [execRingLink, hon, hrun, hdown, ← hb, beq_self_eq_true, Bool.not_false, Bool.and_self, if_true]

/-- Settles O20: each clause by the lemma on its command, those of a frame's ingress by the checks that it meets. -/
theorem forwardingEffects : Obligations.ForwardingEffects := by
  refine ⟨fun s g b hruns _ hinner hgood hwhole hb hmin hmax hplain hlit => ?_,
    fun s g b hruns hring hhears hwhole hgood hb hlit hopen hmin hmax hplain hdata hvalid huntagged hvlan hmember => ?_,
    fun s _ hdeaf => congrArg s.next (Block.ingress_deaf hdeaf),
    fun s _ hruns hhears hwhole hring => ⟨_, rfl, fun hlit hclosed =>
      congrArg s.next (Block.ingress_bypassed hruns hhears hwhole hring rfl hlit hclosed)⟩,
    fun _ _ _ _ => exec_cutThroughStomp_bad, fun _ _ _ _ => exec_loftSpill_moves,
    fun s _ _ _ _ hruns hlit hup hon hopen hcut hpick htake hplain => (exec_egressSchedule_ringA hruns hlit).trans
      (congrArg s.next (Block.ringSend_scheduled hup hon hopen hcut hpick htake hplain)),
    fun s p hon hrun hdown b hb => ⟨fun hone => ?_, fun hA hB => ?_⟩, fun _ _ => rfl⟩
  · have hpass : s.blk.Forwards b g := ⟨hruns, Block.portHears_inner hinner, hwhole, hb, hlit,
      fun hring => absurd hinner (by omega), hgood, hmin, hmax, fun hring => absurd hinner (by omega), hplain⟩
    have hinside : (decide (g.src ≤ 1) && b.on (ringBlockFld g.src)) = false := by
      rw [decide_eq_false (by omega), Bool.false_and]
    rw [exec_cutThrough_good hgood]
    refine ⟨fun hinvalid => and_self_iff.mpr (congrArg s.next (Block.ingress_invalidSource hpass hinvalid)),
      fun hvalid huntagged hvlan hmember => and_self_iff.mpr (congrArg s.next ?_)⟩
    rw [Block.ingress_admitted hpass hvalid huntagged hvlan hmember, hinside, if_neg Bool.false_ne_true]
  · have hpass : s.blk.Forwards b g :=
      ⟨hruns, hhears, hwhole, hb, hlit, fun _ => hopen, hgood, hmin, hmax, fun _ => hdata, hplain⟩
    rw [exec_cutThrough_good hgood, Block.ingress_admitted hpass hvalid huntagged hvlan hmember, decide_eq_true hring,
      Bool.true_and]
    exact ⟨fun hblocked => congrArg s.next (if_pos hblocked),
      fun hfree => congrArg s.next (if_neg (ne_true_of_eq_false hfree))⟩
  · have hnotBoth : (b.on F.CART_STATUS.LINK_A && b.on F.CART_STATUS.LINK_B) = false := by
      rcases hone with h | h <;> simp only [h, Bool.false_and, Bool.and_false]
    rw [exec_ringLink_up hon hrun hdown hb, hnotBoth, if_neg Bool.false_ne_true]
  · rw [exec_ringLink_up hon hrun hdown hb, hA, hB, Bool.and_self, if_pos rfl]

end Sys2Proof.Machine
end

section
/-! Carter's MAC table: its four commands, ageing and what an insertion leaves in it (R274, R275). -/

namespace Sys2Proof.Machine

variable {s : State} {b c : Block} {road : Road} {mac vlan dest : Nat} {static : Bool} {m : MacEntry}

/-! ### Commands by L2CMD -/

section
variable (hruns : b.runs 3 = true)
include hruns

theorem Block.l2Cmd_insert_done (hput : b.macPut b.l2Key.1 b.l2Key.2 (b.get F.CART_L2ARG2.DEST) true = some c) :
    b.l2Cmd 1 = c.l2Status 2 0 none := by
  simp only [Block.l2Cmd, hruns, hput, Bool.not_true, Bool.false_eq_true, if_false]

theorem Block.l2Cmd_insert_full (hput : b.macPut b.l2Key.1 b.l2Key.2 (b.get F.CART_L2ARG2.DEST) true = none) :
    b.l2Cmd 1 = b.l2Status 3 1 none := by
  simp only [Block.l2Cmd, hruns, hput, Bool.not_true, Bool.false_eq_true, if_false]

theorem Block.l2Cmd_delete_absent (habsent : b.macAt b.l2Key.1 b.l2Key.2 = none) : b.l2Cmd 2 = b.l2Status 3 2 none := by
  simp only [Block.l2Cmd, hruns, habsent, Bool.not_true, Bool.false_eq_true, if_false]

theorem Block.l2Cmd_delete_present (hpresent : b.macAt b.l2Key.1 b.l2Key.2 = some m) : b.l2Cmd 2 = (b.updCart (fun c => { c with
    macs := c.macs.filter (fun m => !(m.mac == b.l2Key.1 && m.vlan == b.l2Key.2)) })).l2Status 2 0 none := by
  simp only [Block.l2Cmd, hruns, hpresent, Bool.not_true, Bool.false_eq_true, if_false]

theorem Block.l2Cmd_lookup_absent (habsent : b.macAt b.l2Key.1 b.l2Key.2 = none) : b.l2Cmd 3 = b.l2Status 3 2 none := by
  simp only [Block.l2Cmd, hruns, habsent, Bool.not_true, Bool.false_eq_true, if_false]

theorem Block.l2Cmd_lookup_present (hpresent : b.macAt b.l2Key.1 b.l2Key.2 = some m) : b.l2Cmd 3 = b.l2Status 2 0 (some m) := by
  simp only [Block.l2Cmd, hruns, hpresent, Bool.not_true, Bool.false_eq_true, if_false]

/-- A flush of every destination in every VLAN keeps the static entries alone. -/
theorem Block.l2Cmd_flush_all (hdest : b.on F.CART_L2ARG2.ANY_DEST = true) (hvlan : b.on F.CART_L2ARG2.ANY_VLAN = true) :
    b.l2Cmd 4 = (b.updCart (fun c => { c with macs := c.macs.filter (fun m => m.static) })).l2Status 2 0 none := by
  simp only [Block.l2Cmd, hruns, hdest, hvlan, Bool.true_or, Bool.and_true, Bool.not_not, Bool.not_true, Bool.false_eq_true,
    if_false]

end

/-! ### Commands by their road -/

section
variable (hroad : s.blk.roadStops road R.CART_L2CMD = none)
include hroad

theorem exec_l2Insert_open : exec (.l2Insert road) s = s.next (s.blk.l2Cmd 1) :=
  congrArg s.next (s.blk.viaRoad_open road _ _ _ hroad)

theorem exec_l2Delete_open : exec (.l2Delete road) s = s.next (s.blk.l2Cmd 2) :=
  congrArg s.next (s.blk.viaRoad_open road _ _ _ hroad)

theorem exec_l2Lookup_open : exec (.l2Lookup road) s = s.next (s.blk.l2Cmd 3) :=
  congrArg s.next (s.blk.viaRoad_open road _ _ _ hroad)

theorem exec_l2Flush_open : exec (.l2Flush road) s = s.next (s.blk.l2Cmd 4) :=
  congrArg s.next (s.blk.viaRoad_open road _ _ _ hroad)

end

/-! ### Ageing -/

/-- At the end of a period the learned entries without a frame in it leave, and the others are a period older (R275). -/
theorem exec_macAgeing_due (hruns : s.blk.runs 3 = true) (hage : s.blk.get F.CART_L2.AGE_S ≠ 0)
    (hdue : max s.blk.cart.agedAt s.blk.cart.runSince + 1000000000 * s.blk.get F.CART_L2.AGE_S ≤ s.blk.mono + tickNs) :
    exec .macAgeing s = s.next (s.blk.updCart (fun c => { c with
      agedAt := s.blk.mono
      macs := (s.blk.cart.macs.filter (fun m => m.static || m.age == 0)).map
        (fun (m : MacEntry) => if m.static then m else { m with age := m.age + 1 }) })) :=
  congrArg s.next (if_neg (by simp [hruns, hage, hdue]))

/-! ### Insertion -/

theorem mem_macIns (l : List MacEntry) (m : MacEntry) : m ∈ macIns l m := by
  simp only [macIns, List.mem_append, List.mem_singleton, true_or, or_true]

theorem Block.macAt_some (hfound : b.macAt mac vlan = some m) : m.mac = mac ∧ m.vlan = vlan := by
  simpa only [Bool.and_eq_true, beq_iff_eq] using List.find?_some hfound

/-- An entry put in the table is there with its key, destination and kind and a fresh age, whether it was there before or not. -/
theorem Block.macPut_mem (hput : b.macPut mac vlan dest static = some c) : ∃ m : MacEntry, m ∈ c.cart.macs ∧
    m.mac = mac ∧ m.vlan = vlan ∧ m.dest = dest ∧ m.static = static ∧ m.age = 0 := by
  unfold Block.macPut at hput
  split at hput
  case h_1 m hfound =>
    obtain ⟨hmac, hvlan⟩ := Block.macAt_some hfound
    obtain rfl := Option.some.inj hput
    exact ⟨_, mem_macIns _ _, hmac, hvlan, rfl, rfl, rfl⟩
  case h_2 =>
    obtain ⟨w, -, rfl⟩ := Option.map_eq_some_iff.mp hput
    exact ⟨_, mem_macIns _ _, rfl, rfl, rfl, rfl, rfl⟩

/-- Settles O21: each command of L2CMD by what it does once its road lets it through. -/
theorem macTableEffects : Obligations.MacTableEffects :=
  ⟨fun s _ hroad hruns =>
    ⟨fun _ hput => (exec_l2Insert_open hroad).trans (congrArg s.next (Block.l2Cmd_insert_done hruns hput)),
      fun hfull => (exec_l2Insert_open hroad).trans (congrArg s.next (Block.l2Cmd_insert_full hruns hfull)),
      fun habsent => ⟨(exec_l2Delete_open hroad).trans (congrArg s.next (Block.l2Cmd_delete_absent hruns habsent)),
        (exec_l2Lookup_open hroad).trans (congrArg s.next (Block.l2Cmd_lookup_absent hruns habsent))⟩,
      fun _ hpresent => ⟨(exec_l2Lookup_open hroad).trans (congrArg s.next (Block.l2Cmd_lookup_present hruns hpresent)),
        (exec_l2Delete_open hroad).trans (congrArg s.next (Block.l2Cmd_delete_present hruns hpresent))⟩,
      fun hdest hvlan => (exec_l2Flush_open hroad).trans (congrArg s.next (Block.l2Cmd_flush_all hruns hdest hvlan))⟩,
    fun _ => exec_macAgeing_due, fun _ _ _ _ _ _ => Block.macPut_mem⟩

end Sys2Proof.Machine
end

section
/-! Device time under PTP: timestamps, corrections, the servo, holdover, steps and PPS_OUT (R293 to R297). -/

namespace Sys2Proof.Machine

variable {s : State} {b : Block}

theorem Block.updCart_congr {f h : Carter → Carter} (hsame : f b.cart = h b.cart) : b.updCart f = b.updCart h := by
  rw [Block.updCart, hsame, Block.updCart]

/-- A timestamp that is owed leaves for the FIFO while that has room (R293). -/
theorem exec_ptpTimestamp_owed {p : Fin 2} {q : BitVec 16} (ns : Fin 30518) (hrun : s.blk.est 3 = stRun)
    (hroom : s.blk.cart.stamps.length < 64) (howed : (p.val, q.toNat) ∈ s.blk.cart.stampDue) :
    exec (.ptpTimestamp p q true ns) s = s.next (s.blk.updCart (fun c => { c with
      stampDue := c.stampDue.erase (p.val, q.toNat)
      stamps := c.stamps ++ [(⟨p.val, q.toNat, (s.blk.now + ns.val) % 2 ^ 64⟩ : TxStamp)] })) := by
  change execPtpTimestamp p q true ns s = _
  rw [execPtpTimestamp, if_pos ⟨hrun, rfl, List.contains_iff_mem.mpr howed⟩]
  exact congrArg s.next (Block.updCart_congr (by rw [if_pos hroom]))

/-- A Delay_Req, which has no Follow_Up, carries its residence time itself (R294). -/
theorem exec_transparentClock_delayReq {p : Fin 2} {m : PtpMsg} (hrun : s.blk.est 3 = stRun)
    (hen : s.blk.on F.CART_PTP.TC_EN = true) (hmeant : m.transport ≠ 6) (hkind : m.kind.val = 1) :
    exec (.transparentClock p m) s = s.next ((s.blk.emit (.tc p.val (m.corr + 65536 * m.residence) (m.transport == 4))).cartCount
      p.val C.CART.TC_CORRECTED) := by
  change execTransparentClock p m s = _
  simp only [execTransparentClock, hrun, hen, beq_eq_false_iff_ne.mpr hmeant, hkind, ne_eq, not_true_eq_false, Bool.not_true,
    Bool.or_self, Bool.false_eq_true, if_false]

/-- A Sync of the slave port in the servo's domain is a sample of it (R295). -/
theorem exec_servoSample_sync {p n t o : Nat} {corr : Int} (hen : s.blk.on F.CART_PTP.EN = true) (hrun : s.blk.est 3 = stRun)
    (hsrc : s.blk.get F.CART_PTP.SRC = 1) (hport : p = s.blk.get F.CART_PTP.SLAVE_PORT) (hdomain : n = s.blk.get F.CART_PTP.DOMAIN) :
    exec (.servoSample (.sync p n t o corr)) s =
      s.next (s.blk.servoRun ((t : Int) - (o + corr + s.blk.get F.CART_PTP_DELAY.DELAY_NS)) t) := by
  change execServoSample (.sync p n t o corr) s = _
  simp only [execServoSample, hen, hrun, hsrc, ← hport, ← hdomain, Bool.not_true, bne_self_eq_false, Bool.or_self,
    Bool.false_eq_true, and_self, if_false, if_true]

theorem exec_ptpHoldover_due (hen : s.blk.on F.CART_PTP.EN = true) (hrun : s.blk.est 3 = stRun)
    (hsilent : max (s.blk.cart.servo.seen.getD 0) s.blk.cart.runSince + 8000000000 ≤ s.blk.mono) : exec .ptpHoldover s =
      s.next (((s.blk.set F.CART_PTP_STATUS.LOCKED 0).set F.CART_PTP_STATUS.HOLDOVER 1).updCart (fun c =>
        { c with servo := { c.servo with last := none, good := 0 } })) :=
  congrArg s.next (if_pos (by rw [hen, hrun, decide_eq_true hsilent]; rfl))

/-- A write of CART_TIME_ADJ steps device time by its signed value modulo 2^64, unlocks the servo and moves every anchor (R296). -/
theorem exec_timeStep_open {road : Road} {v : Word} (hroad : s.blk.roadStops road R.CART_TIME_ADJ = none)
    (hb : b = { s.blk with time := { s.blk.time with
      device := (((s.blk.time.device : Int) + signedOf 32 v.toNat) % 2 ^ 64).toNat
      stepped := s.blk.time.stepped + signedOf 32 v.toNat } }) :
    exec (.timeStep road v) s = s.next (((b.set F.CART_PTP_STATUS.LOCKED 0).updCart (fun c =>
      { c with servo := { c.servo with last := none } })).stepAnchors (signedOf 32 v.toNat)) := by
  subst hb
  exact congrArg s.next (s.blk.viaRoad_open road _ _ _ hroad)

/-- PPS_OUT goes to its level, which in RUN with it enabled is that of the first 100 ms of a second (R297). -/
theorem exec_ppsOut_level (hen : s.blk.on F.CART_PTP.PPS_OUT_EN = true) (hrun : s.blk.est 3 = stRun) {v : Bool}
    (hv : v = decide ((s.blk.now + tickNs) % 1000000000 < 100000000)) :
    exec (.ppsOut v) s = s.next (s.blk.updCart (fun c => { c with ppsHigh := v })) := by
  have hlevel : s.blk.ppsLevel = v := by rw [Block.ppsLevel, hen, hrun, hv, beq_self_eq_true, Bool.and_self, Bool.true_and]
  exact congrArg s.next (if_pos hlevel)

end Sys2Proof.Machine
end

section
/-! The ring keeper: what closes the bypass, when it opens and when it is closed again (R58, R298, R299). -/

namespace Sys2Proof.Machine

variable {s : State} {b : Block}

theorem exec_keeperRelease_untriggered (hnone : s.blk.keeperTrigger = false) : exec (.keeperRelease false) s = .next s :=
  congrArg s.next (if_neg (by rw [hnone]; decide))

theorem exec_keeperOpen_due (hnone : s.blk.keeperTrigger = false) (hA : s.blk.on F.CART_STATUS.LINK_A = true)
    (hB : s.blk.on F.CART_STATUS.LINK_B = true) (hclosed : s.blk.cart.keeper.isOpen = false)
    (hheld : s.blk.cart.keeper.holdTo ≤ s.blk.ao) : exec .keeperOpen s = s.next (((s.blk.updCart (fun c =>
      { c with keeper := { c.keeper with isOpen := true, openedAo := some s.blk.ao } })).ringDown 0).ringDown 1) :=
  congrArg s.next (if_pos (by rw [hnone, hA, hB, hclosed, decide_eq_true hheld]; rfl))

/-- An opening that both links have not proved in 500 ms is undone, with a hold of 10 s (R299). -/
theorem exec_keepRetry_unproved {t : Nat} (hopened : s.blk.cart.keeper.openedAo = some t) (hopen : s.blk.cart.keeper.isOpen = true)
    (hlate : t + 500000000 ≤ s.blk.ao) (hb : b = s.blk.keeperClose.cartCount 7 C.CART.KEEP_RETRY) (hao : b.ao = s.blk.ao) :
    exec .keepRetry s =
      s.next (b.updCart (fun c => { c with keeper := { c.keeper with holdTo := s.blk.ao + 10000000000 } })) := by
  change execKeepRetry s = _
  simp only [execKeepRetry, hopened, hopen, hlate, ← hb, hao, decide_true, Bool.and_self, if_true]

/-- Settles O22: each clause by the lemma on its command. -/
theorem timeAndKeeperEffects : Obligations.TimeAndKeeperEffects :=
  ⟨⟨fun _ _ _ hrun hroom howed ns => exec_ptpTimestamp_owed ns hrun hroom howed, fun _ => rfl,
      fun _ _ _ => exec_transparentClock_delayReq, fun _ _ _ _ _ _ => exec_servoSample_sync, fun _ => exec_ptpHoldover_due,
      fun _ _ _ _ => exec_timeStep_open, fun _ hen hrun _ => exec_ppsOut_level hen hrun⟩,
    fun _ => rfl, fun _ => exec_keeperRelease_untriggered, fun _ => exec_keeperOpen_due, fun _ _ _ => exec_keepRetry_unproved⟩

end Sys2Proof.Machine
end

section
/-! The always-on tick: what it adds to the two times, and what it leaves (R295, R411). -/

namespace Sys2Proof.Machine

variable (b : Block) {s : State}

/-! ### Fractions that carry -/

/-- A time of a units of n parts each, with f parts over, moves on by p parts: whole units carry, and wrap at m. -/
theorem carry_modEq (m n a f p : Nat) : (a + (f + p) / n) % m * n + (f + p) % n ≡ a * n + f + p [MOD m * n] := by
  have hwrap : (a + (f + p) / n) % m * n ≡ (a + (f + p) / n) * n [MOD m * n] := (Nat.mod_modEq _ m).mul_right' n
  have hcarry : (a + (f + p) / n) * n + (f + p) % n = a * n + f + p := by
    rw [Nat.add_mul, Nat.add_assoc, Nat.div_add_mod', ← Nat.add_assoc]
  exact (hwrap.add_right _).trans (hcarry ▸ Nat.ModEq.refl _)

/-! ### What follows the times in a tick -/

/-- Times, registers, Watchman and flash of a block. -/
def Block.tickView (b : Block) : Times × List (Nat × Nat) × Watch × Flash := (b.time, b.regs, b.watch, b.flash)

theorem Block.count_tickView (c : CntSet) (n k : Nat) : (b.count c n k).tickView = b.tickView := by
  rw [Block.tickView, Block.count_time, Block.count_regs, Block.count_watch, Block.count_flash, Block.tickView]

/-- The busy time of a channel is a count. -/
theorem Block.ccaTick_tickView (r ns : Nat) : (b.ccaTick r ns).tickView = b.tickView := by
  unfold Block.ccaTick
  split
  · exact Block.count_tickView _ _ _ _
  · rfl

/-- The age of a precoder is in Drover's table. -/
theorem Block.agePrecoders_tickView : b.agePrecoders.tickView = b.tickView := by
  refine b.foldl_keeps Block.tickView (fun c i => ?_) rfl
  split <;> rfl

/-- The awake time is summed in a counter and, below a millisecond, in Watchman. -/
theorem Block.awakeSum_leaves : b.awakeSum.time = b.time ∧ b.awakeSum.regs = b.regs ∧
    b.awakeSum.watch = { b.watch with awakeRem := b.awakeSum.watch.awakeRem, awakeSince := b.awakeSum.watch.awakeSince } ∧
    b.awakeSum.flash = b.flash := by
  unfold Block.awakeSum
  split
  · simp
  · exact ⟨rfl, rfl, rfl, rfl⟩

/-! ### The tick -/

/-- The times after a tick: device time by its step, always-on time by 30,517 37/64 ns (R295, R411). -/
def Block.tickTime (b : Block) : Times := { b.time with
  device := (b.time.device + (b.time.deviceFrac + b.deviceStep) / nsUnits) % 2 ^ 64
  deviceFrac := (b.time.deviceFrac + b.deviceStep) % nsUnits
  ao := (b.time.ao + 30517 + (b.time.aoFrac + 37) / 64) % 2 ^ 64
  aoFrac := (b.time.aoFrac + 37) % 64 }

/-- The block with the times of its next tick, the TSFs of the radios with them (R118). -/
def Block.atTick (b : Block) : Block := { b with
  time := b.tickTime
  lm := [0, 1, 2].map (fun r =>
    if b.on (F.LM_MAC_CFG.TSF_PTP r) then (b.lmAt r).tsfAdd b.deviceStep
    else if b.domRun 1 then (b.lmAt r).tsfAdd (1953125 * 1000000000) else b.lmAt r) }

/-- The block at its next tick, the channels found busy since the last one counted. -/
def Block.ccaTicked (b : Block) : Block := [0, 1, 2].foldl (fun c r => c.ccaTick r (c.time.ao - b.time.ao)) b.atTick

theorem Block.ccaTicked_tickView : b.ccaTicked.tickView = (b.tickTime, b.regs, b.watch, b.flash) :=
  b.atTick.foldl_keeps Block.tickView (fun c r => c.ccaTick_tickView r _) rfl

theorem exec_alwaysOnTick_tickView : ∃ c, exec .alwaysOnTick s = s.next c ∧ c.tickView = s.blk.ccaTicked.awakeSum.tickView := by
  refine ⟨_, rfl, ?_⟩
  split
  · rfl
  · exact Block.agePrecoders_tickView _

/-- A tick sets the times, and of the registers, Watchman and the flash it changes the sum of the awake time alone. -/
theorem exec_alwaysOnTick_leaves : ∃ c, exec .alwaysOnTick s = s.next c ∧ c.time = s.blk.tickTime ∧ c.regs = s.blk.regs ∧
    c.watch = { s.blk.watch with awakeRem := c.watch.awakeRem, awakeSince := c.watch.awakeSince } ∧ c.flash = s.blk.flash := by
  obtain ⟨c, hexec, hview⟩ := exec_alwaysOnTick_tickView (s := s)
  obtain ⟨htime, hregs, hwatch, hflash⟩ := s.blk.ccaTicked.awakeSum_leaves
  have hbefore := s.blk.ccaTicked_tickView
  simp only [Block.tickView, Prod.mk.injEq] at hview hbefore
  obtain ⟨htime', hregs', hwatch', hflash'⟩ := hview
  obtain ⟨htimeTicked, hregsTicked, hwatchTicked, hflashTicked⟩ := hbefore
  refine ⟨c, hexec, (htime'.trans htime).trans htimeTicked, (hregs'.trans hregs).trans hregsTicked, ?_,
    (hflash'.trans hflash).trans hflashTicked⟩
  rw [hwatch', ← hwatchTicked]
  exact hwatch

/-- Without a trim device time goes at the rate of always-on time, whether Carter carries it or not (R295). -/
theorem Block.deviceStep_untrimmed (htrim : b.cart.servo.trim = 0) : b.deviceStep = 1953125 * 1000000000 := by
  have hnone : b.trimPpb = 0 := by rw [Block.trimPpb, htrim, ite_self]
  rw [Block.deviceStep, hnone]
  rfl

/-- Settles O39: the times of a tick carry their fractions (`carry_modEq`), and what follows them leaves the rest. -/
theorem tickAdvancesTimeExactly : Obligations.TickAdvancesTimeExactly := by
  intro s _ _
  obtain ⟨c, hexec, htime, hregs, hwatch, hflash⟩ := exec_alwaysOnTick_leaves (s := s)
  refine ⟨c, hexec, ?_, ?_, fun htrim => ?_, ?_, ?_, hregs, hwatch, hflash⟩ <;> rw [htime]
  · have hcarry := carry_modEq (2 ^ 64) 64 (s.blk.time.ao + 30517) s.blk.time.aoFrac 37
    rwa [show (s.blk.time.ao + 30517) * 64 + s.blk.time.aoFrac + 37 = s.blk.time.ao * 64 + s.blk.time.aoFrac + 1953125 by omega]
      at hcarry
  · exact carry_modEq (2 ^ 64) nsUnits s.blk.time.device s.blk.time.deviceFrac s.blk.deviceStep
  · rw [Block.tickTime, s.blk.deviceStep_untrimmed htrim]
  · exact Nat.mod_lt _ (by decide)
  · exact Nat.mod_lt _ (by decide)

end Sys2Proof.Machine
end

section
/-! Keys given for use and values of the mesh frame counter: the limits they stay under (R313, R314, R316, R317). -/

namespace Sys2Proof.Machine

variable {b c : Block}

/-- A key that is not at its hard limit has uses left, and packet numbers where its mode has them (R313). -/
theorem KeyRec.uses_left {k : KeyRec} {epoch : Nat} (hfree : k.atHard epoch = false) :
    k.uses < k.limit ∧ (1 ≤ k.mode → k.mode ≤ 4 → k.pn < 2 ^ 48 - 1) := by
  simp only [KeyRec.atHard, Bool.or_eq_false_iff, decide_eq_false_iff_not, Nat.not_le, Bool.and_eq_false_iff] at hfree
  obtain ⟨⟨huses, hpn⟩, -⟩ := hfree
  exact ⟨huses, fun hlo hhi => hpn.resolve_left (not_not_intro ⟨hlo, hhi⟩)⟩

/-- Reporting limits marks them in the key and leaves the rest of it (R315). -/
theorem Block.reportLimits_key (b : Block) (k : KeyRec) :
    ∃ soft hardHit, (b.reportLimits k).1 = { k with soft := soft, hardHit := hardHit } := by
  unfold Block.reportLimits
  split
  next k' d hmarked =>
    have hkey : ∃ soft, k' = { k with soft := soft } := by
      split at hmarked <;> cases hmarked <;> exact ⟨_, rfl⟩
    obtain ⟨soft, rfl⟩ := hkey
    split <;> exact ⟨soft, _, rfl⟩

/-- A key given for a protect operation was fetched below its hard limit, and one use and packet number go to it (R313, R314). -/
theorem Block.keyProtect_given {sp h : Nat} {k : KeyRec} (hgiven : b.keyProtect sp h = (some k, c)) :
    ∃ j epoch soft hardHit, KeyRec.atHard j epoch = false ∧ k = { j with
      uses := j.uses + 1, pn := if 1 ≤ j.mode ∧ j.mode ≤ 4 then j.pn + 1 else j.pn, soft := soft, hardHit := hardHit } := by
  unfold Block.keyProtect at hgiven
  split at hgiven
  · cases hgiven
  split at hgiven
  · cases hgiven
  next j d _ =>
    split at hgiven
    · cases hgiven
    next hfree =>
      obtain ⟨soft, hardHit, hkey⟩ := d.reportLimits_key
        { j with uses := j.uses + 1, pn := if 1 ≤ j.mode ∧ j.mode ≤ 4 then j.pn + 1 else j.pn }
      exact ⟨j, _, soft, hardHit, Bool.not_eq_true _ ▸ hfree, (Option.some.inj (congrArg Prod.fst hgiven)).symm.trans hkey⟩

/-- A value of the mesh frame counter is given with no write of the resumption owed, below the reservation (R316, R317). -/
theorem Block.mfcTake_given {n : Nat} (hgiven : b.mfcTake = (some n, c)) : n = b.get F.LOCK_MFC.N ∧ n < b.mfcResv ∧
    n < 0xFFFFFFFF ∧ b.lock.mfcOwed = false := by
  unfold Block.mfcTake at hgiven
  dsimp only at hgiven
  split at hgiven
  · cases hgiven
  next hfree =>
    simp only [Bool.or_eq_true, decide_eq_true_eq, not_or, Nat.not_le, Bool.not_eq_true] at hfree
    obtain ⟨⟨howed, hresv⟩, hlast⟩ := hfree
    obtain rfl := Option.some.inj (congrArg Prod.fst hgiven)
    exact ⟨rfl, hresv, hlast, howed⟩

/-- Settles O26: the key given is the one fetched (`keyProtect_given`), which had uses left (`uses_left`). -/
theorem keyLimitsHold : Obligations.KeyLimitsHold := by
  refine ⟨fun b c sp h k hgiven => ?_, fun b c n => Block.mfcTake_given⟩
  obtain ⟨j, epoch, soft, hardHit, hfree, rfl⟩ := Block.keyProtect_given hgiven
  obtain ⟨huses, hpn⟩ := KeyRec.uses_left hfree
  exact ⟨j, huses, fun hlo hhi => ⟨hpn hlo hhi, if_pos ⟨hlo, hhi⟩⟩, rfl, rfl, rfl, rfl, rfl⟩

end Sys2Proof.Machine
end

section
/-! Key INSTALL, CLEAR and READ: what each answers and what it leaves (R307, R309, R312, R320, R352, R354). -/

namespace Sys2Proof.Machine

variable {s : State} {b : Block} {fu : Fuses} {road : Road} {sp h : Nat}

/-! ### The end of a key command -/

/-- The end of a command shows in registers, and empties the staging buffer (R309). -/
theorem Block.keyDone_eq (b : Block) (n : Nat) : b.keyDone n = { b with
    regs := (b.keyDone n).regs, lock := { b.lock with staging := [], staged := false } } := rfl

theorem Block.get_keyDone_reason (b : Block) (n : Nat) :
    (b.keyDone n).get F.LOCK_KSTATUS.REASON = n % 2 ^ F.LOCK_KSTATUS.REASON.width := Block.get_set_same _ _ _

/-- STATE of LOCK_KSTATUS after a command that succeeds (R309). -/
theorem Block.get_keyDone_state (b : Block) : (b.keyDone 0).get F.LOCK_KSTATUS.STATE = 2 :=
  (Block.get_set_other _ _ (by decide)).trans (Block.get_set_same _ _ _)

/-! ### Commands by their road -/

section
variable (sp : Fin 4) (h : Fin 131072) (hroad : s.blk.roadStops road R.LOCK_KCMD = none)
include hroad

theorem exec_keyInstall_open : exec (.keyInstall road sp h) s = s.next (s.blk.keyInstall s.fuse road sp.val h.val) :=
  congrArg s.next (s.blk.viaRoad_open road _ _ _ hroad)

theorem exec_keyClear_open : exec (.keyClear road sp h) s = s.next (s.blk.keyClear road sp.val h.val) :=
  congrArg s.next (s.blk.viaRoad_open road _ _ _ hroad)

theorem exec_keyRead_open : exec (.keyRead road sp h) s = s.next (s.blk.keyRead sp.val h.val) :=
  congrArg s.next (s.blk.viaRoad_open road _ _ _ hroad)

end

/-! ### A name that no key has -/

section
variable (hnamed : keyNamed sp h = false)
include hnamed

theorem Block.keyInstall_unnamed : b.keyInstall fu road sp h = b.keyDone 1 := if_pos (by rw [hnamed]; rfl)

theorem Block.keyClear_unnamed : b.keyClear road sp h = b.keyDone 1 := if_pos (by rw [hnamed]; rfl)

theorem Block.keyRead_unnamed : b.keyRead sp h = b.keyDone 1 := if_pos (by rw [hnamed]; rfl)

end

/-! ### INSTALL -/

/-- Ciphertext is made in advance for Wi-Fi keys alone (R310). -/
theorem Block.discardCipher_other (hspace : sp ≠ 0) : b.discardCipher sp h = b := if_pos hspace

/-- A mesh key goes to the Vault, and its backing sector becomes dirty (R309, R320). -/
theorem Block.keyInstall_mesh {c : Block} (hnamed : keyNamed 1 h = true) (hmode : b.get F.LOCK_KARG.MODE = 9)
    (hstaged : b.lock.staged = true) (hsecret : fu.hasSecret = true) (hvault : b.vaultUp = true)
    (hc : c = (({ b with lock := { b.lock with cache := dropKey b.lock.cache 1 h } } : Block).vaultWrite (b.newKey 1 h))) :
    b.keyInstall fu road 1 h = (c.markDirty h).keyDone 0 := by
  have hallowed : modeAllowed 1 h (b.get F.LOCK_KARG.MODE) = true := beq_iff_eq.mpr hmode
  simp only [Block.keyInstall, hnamed, hallowed, hstaged, hsecret, hvault, Block.discardCipher_other one_ne_zero, Bool.not_true,
    Nat.reduceBEq, Bool.false_and, Bool.and_false, Bool.or_self, Bool.false_eq_true, OfNat.one_ne_ofNat, if_false, if_true]
  exact congrArg (fun c => (Block.markDirty c h).keyDone 0) hc.symm

section
variable (hmode : b.get F.LOCK_KARG.MODE = 10)
include hmode

/-- The first steward key installs through BAR0, and disarms (R312, R354). -/
theorem Block.keyInstall_steward (hstaged : b.lock.staged = true) (hsecret : fu.hasSecret = true)
    (hnone : b.lock.steward = none) : b.keyInstall fu .bar0 2 0 = ({ b with
      lock := { b.lock with steward := some (b.newKey 2 0) }
      creosh := { b.creosh with armed := none } } : Block).keyDone 0 := by
  have hallowed : modeAllowed 2 0 (b.get F.LOCK_KARG.MODE) = true := beq_iff_eq.mpr hmode
  have hsteward : b.stewardOk .bar0 = true := by rw [Block.stewardOk, hnone]; rfl
  simp only [Block.keyInstall, hallowed, hsteward, hstaged, hsecret]
  rfl

/-- An installed steward key is replaced only while armed (R354). -/
theorem Block.keyInstall_steward_unarmed {k : KeyRec} (hsome : b.lock.steward = some k) (hdisarmed : b.creosh.armed = none) :
    b.keyInstall fu .bar0 2 0 = b.keyDone 5 := by
  have hallowed : modeAllowed 2 0 (b.get F.LOCK_KARG.MODE) = true := beq_iff_eq.mpr hmode
  have hsteward : b.stewardOk .bar0 = false := by rw [Block.stewardOk, Block.armed, hsome, hdisarmed]; rfl
  simp only [Block.keyInstall, hallowed, hsteward]
  rfl

end

/-! ### CLEAR -/

/-- A key leaves cache and Vault, with the ciphertext made under it; a mesh key's sector becomes dirty (R309, R310, R320). -/
theorem Block.keyClear_vault (hspace : sp < 2) (hnamed : keyNamed sp h = true) (hvault : b.vaultUp = true) {c : Block}
    (hc : c = (({ b with lock := { b.lock with cache := dropKey b.lock.cache sp h, vault := dropKey b.lock.vault sp h } } :
      Block).discardCipher sp h)) : b.keyClear road sp h = (if sp = 1 then c.markDirty h else c).keyDone 0 := by
  simp only [Block.keyClear, hnamed, hspace.ne, hvault, hc, Bool.not_true, Bool.false_eq_true, if_false]
  rfl

/-- The steward key is not cleared through Creosh (R354). -/
theorem Block.keyClear_steward_creosh : b.keyClear .creosh 2 0 = b.keyDone 5 := rfl

/-! ### READ -/

theorem Block.keyRead_absent (hnamed : keyNamed sp h = true) (habsent : b.keyAt sp h = none) : b.keyRead sp h = b.keyDone 6 := by
  rw [Block.keyRead, hnamed, habsent]
  rfl

/-- What LOCK_KSTATUS, LOCK_KUSES and LOCK_KPN show of a key (R309). -/
def Block.showKey (b : Block) (k : KeyRec) : Block :=
  let b := ((((b.set F.LOCK_KSTATUS.VALID 1).setB F.LOCK_KSTATUS.SOFT_HIT k.soft).setB F.LOCK_KSTATUS.HARD_HIT
    (k.atHard (b.tally 4))).setB F.LOCK_KSTATUS.GRACE_END k.graceEnd).setB F.LOCK_KSTATUS.BACKED k.backed
  let b := (b.set F.LOCK_KSTATUS.MODE k.mode).set F.LOCK_KSTATUS.HARD_LOG2 k.hard
  let b := (b.set F.LOCK_KUSES_LO.USES_LO k.uses).set F.LOCK_KUSES_HI.USES_HI (k.uses / 2 ^ 32)
  let v := if k.mode = 9 then k.epoch else k.pn
  (b.set F.LOCK_KPN_LO.PN_LO v).set F.LOCK_KPN_HI.PN_HI (v / 2 ^ 32)

theorem Block.keyRead_present {k : KeyRec} (hnamed : keyNamed sp h = true) (hpresent : b.keyAt sp h = some k) :
    b.keyRead sp h = (b.keyDone 0).showKey k := by
  rw [Block.keyRead, hnamed, hpresent]
  rfl

theorem Block.showKey_eq (b : Block) (k : KeyRec) : b.showKey k = { b with regs := (b.showKey k).regs } := rfl

/-- A READ changes registers and the staging buffer alone (R309). -/
theorem Block.showKey_keyDone_eq (b : Block) (k : KeyRec) (n : Nat) : (b.keyDone n).showKey k = { b with
    regs := ((b.keyDone n).showKey k).regs, lock := { b.lock with staging := [], staged := false } } :=
  (Block.showKey_eq _ k).trans (congrArg (fun c : Block => { c with regs := ((b.keyDone n).showKey k).regs }) (b.keyDone_eq n))

theorem Block.get_showKey_state (b : Block) (k : KeyRec) :
    (b.showKey k).get F.LOCK_KSTATUS.STATE = b.get F.LOCK_KSTATUS.STATE := by
  simp (disch := decide) only [Block.showKey, Block.setB, Block.get_set_other]

/-- The fields of a present key read back, behind the fields set after them (R309). -/
theorem Block.get_showKey (b : Block) (k : KeyRec) :
    (b.showKey k).get F.LOCK_KSTATUS.VALID = 1 ∧
    (b.showKey k).get F.LOCK_KSTATUS.MODE = k.mode % 2 ^ F.LOCK_KSTATUS.MODE.width ∧
    (b.showKey k).get F.LOCK_KUSES_LO.USES_LO = k.uses % 2 ^ 32 ∧
    (k.mode ≠ 9 → (b.showKey k).get F.LOCK_KPN_LO.PN_LO = k.pn % 2 ^ 32) := by
  simp (disch := decide) only [Block.showKey, Block.setB, Block.get_set_other, Block.get_set_same, true_and]
  exact ⟨rfl, rfl, fun hmode => congrArg (· % 2 ^ 32) (if_neg hmode)⟩

theorem keyNamed_mesh (h : Fin 131072) : keyNamed 1 h.val = true := decide_eq_true h.isLt

/-- Settles O23: each clause by the lemma on its command. -/
theorem keyCommandEffects : Obligations.KeyCommandEffects :=
  ⟨fun s _ sp h hroad hnamed => ⟨(exec_keyInstall_open sp h hroad).trans (congrArg s.next (Block.keyInstall_unnamed hnamed)),
      (exec_keyClear_open sp h hroad).trans (congrArg s.next (Block.keyClear_unnamed hnamed)),
      (exec_keyRead_open sp h hroad).trans (congrArg s.next (Block.keyRead_unnamed hnamed))⟩,
    fun s _ h hroad hmode hstaged hsecret hvault => ⟨_, rfl, (exec_keyInstall_open 1 h hroad).trans
      (congrArg s.next (Block.keyInstall_mesh (keyNamed_mesh h) hmode hstaged hsecret hvault rfl))⟩,
    fun s hroad hmode hstaged hsecret hnone => (exec_keyInstall_open 2 0 hroad).trans
      (congrArg s.next (Block.keyInstall_steward hmode hstaged hsecret hnone)),
    fun s _ hroad hmode hsome hdisarmed => (exec_keyInstall_open 2 0 hroad).trans
      (congrArg s.next (Block.keyInstall_steward_unarmed hmode hsome hdisarmed)),
    fun s hroad => (exec_keyClear_open 2 0 hroad).trans (congrArg s.next Block.keyClear_steward_creosh),
    fun s _ sp h hspace hroad hnamed hvault => ⟨_, rfl, (exec_keyClear_open sp h hroad).trans
      (congrArg s.next (Block.keyClear_vault hspace hnamed hvault rfl))⟩,
    fun s _ sp h hroad hnamed habsent => (exec_keyRead_open sp h hroad).trans
      (congrArg s.next (Block.keyRead_absent hnamed habsent)),
    fun s _ sp h k hroad hnamed hpresent => ⟨_, (exec_keyRead_open sp h hroad).trans
      (congrArg s.next (Block.keyRead_present hnamed hpresent)), s.blk.showKey_keyDone_eq k 0,
      ((s.blk.keyDone 0).get_showKey_state k).trans s.blk.get_keyDone_state, (s.blk.keyDone 0).get_showKey k⟩,
    fun b n => ⟨rfl, rfl, b.get_keyDone_reason n⟩⟩

end Sys2Proof.Machine
end

section
/-! Keys fetched and used: the cache, the limit FIFO, the AES pool, late ciphertext (R303, R305, R308, R314, R315). -/

namespace Sys2Proof.Machine

variable {s : State}

/-! ### The limit FIFO -/

theorem exec_limitFifoRead_empty (hempty : s.blk.lock.fifo = []) :
    exec .limitFifoRead s = s.next (s.blk.updLock (fun l => { l with fifoOvf := false })) := by
  change execLimitFifoRead s = _
  rw [execLimitFifoRead, Block.limitRead, hempty]

theorem exec_limitFifoRead_cons {e : LimitEntry} {t : List LimitEntry} (hfifo : s.blk.lock.fifo = e :: t) :
    exec .limitFifoRead s = s.next (s.blk.updLock (fun l => { l with fifo := t })) := by
  change execLimitFifoRead s = _
  rw [execLimitFifoRead, Block.limitRead, hfifo]

/-! ### The cache -/

/-- A cached key of the spaces 0 and 1 comes to the front (R308). -/
theorem Block.fetchKey_hit {b : Block} {sp h : Nat} {k : KeyRec} (hspace : sp ≠ 2)
    (hcached : findKey b.lock.cache sp h = some k) : b.fetchKey sp h =
      some (k, (b.updLock (fun l => { l with cache := k :: dropKey l.cache sp h })).count .lock C.LOCK.CACHE_HIT) := by
  rw [Block.fetchKey, if_neg hspace, hcached]

section
variable {sp : Fin 2} {h : Fin 131072}

theorem exec_keyFetch_found {k : KeyRec} {b : Block} (hruns : s.blk.runs 2 = true)
    (hfound : s.blk.fetchKey sp.val h.val = some (k, b)) : exec (.keyFetch sp h) s = s.next b := by
  change execKeyFetch sp h s = _
  rw [execKeyFetch, hruns, hfound]
  rfl

/-- In REDUCED a key that is not cached does not come (R308, R326). -/
theorem exec_keyFetch_refused (hreduced : s.blk.est 2 = stReduced) (hnone : s.blk.fetchKey sp.val h.val = none) :
    exec (.keyFetch sp h) s = s.next (s.blk.count .lock C.LOCK.CACHE_REFUSED) := by
  have hruns : s.blk.runs 2 = true := by rw [Block.runs, hreduced]; rfl
  change execKeyFetch sp h s = _
  rw [execKeyFetch, hruns, hnone, hreduced]
  rfl

end

/-! ### The AES pool -/

/-- What becomes of a request once its key has been asked for (R303, R314). -/
def Block.aesServed (core : Nat) (q : AesReq) : Option KeyRec × Block → Block
  | (none, b) => if q.cls = 1 then b.noKey q.frame else b
  | (some k, b) =>
    let b := b.countBlocks core k.mode q.octets
    match q.cls with
    | 1 => b.count .lock C.LOCK.RX_DECRYPT
    | 2 => (b.count .lock C.LOCK.TX_ENCRYPT).markEnc q.frame true
    | 3 => b.count .lock C.LOCK.MESH_CCM
    | _ => b

/-- The only request is the oldest of the highest class, whatever its class (R303). -/
theorem aesPick_only {q : AesReq} (hlo : 1 ≤ q.cls) (hhi : q.cls ≤ 4) :
    [1, 2, 3, 4].findSome? (fun c => [q].find? (fun q => q.cls == c)) = some q := by
  obtain hcls | hcls | hcls | hcls : q.cls = 1 ∨ q.cls = 2 ∨ q.cls = 3 ∨ q.cls = 4 := by omega
  all_goals simp [hcls]

/-- The only request is taken, its key asked for, and the packet run to its end (R303). -/
theorem exec_aesRequest_only {core : Fin 16} {q : AesReq} {b : Block} (hqueue : s.blk.lock.queue = [q]) (hlo : 1 ≤ q.cls)
    (hhi : q.cls ≤ 4) (hcore : s.blk.coreOk core.val = true) (hmasks : ∀ n, s.blk.maskRoom core.val n = true)
    (hb : b = s.blk.updLock (fun l => { l with queue := [] })) :
    exec (.aesRequest core) s = s.next (Block.aesServed core.val q
      (if q.protect then b.keyProtect q.space q.handle else b.keyVerify q.space q.handle)) := by
  have htaken : s.blk.updLock (fun l => { l with queue := l.queue.erase q }) = b := by
    rw [hb, Block.updLock, hqueue, List.erase_cons_head]
    rfl
  change execAesRequest core s = _
  simp only [execAesRequest, hqueue, aesPick_only hlo hhi, hcore, hmasks, htaken, Bool.not_true, Bool.or_self, Bool.false_eq_true,
    if_false]
  obtain ⟨_ | k, c⟩ := if q.protect then b.keyProtect q.space q.handle else b.keyVerify q.space q.handle
  · rfl
  · rfl

/-- The only request, one to verify, by what `keyVerify` answers (R303, R314). -/
theorem exec_aesRequest_verify {core : Fin 16} {q : AesReq} {b : Block} (hqueue : s.blk.lock.queue = [q]) (hlo : 1 ≤ q.cls)
    (hhi : q.cls ≤ 4) (hverify : q.protect = false) (hcore : s.blk.coreOk core.val = true)
    (hmasks : ∀ n, s.blk.maskRoom core.val n = true) (hb : b = s.blk.updLock (fun l => { l with queue := [] }))
    {a : Option KeyRec × Block} (hanswer : b.keyVerify q.space q.handle = a) :
    exec (.aesRequest core) s = s.next (Block.aesServed core.val q a) := by
  rw [exec_aesRequest_only hqueue hlo hhi hcore hmasks hb, hverify, if_neg Bool.false_ne_true, hanswer]

/-! ### Late ciphertext -/

section
variable {r : Fin 3} {n : Nat} {p : Plan} {b : Block} (hlate : s.blk.latePlan r.val n = some p)
  (hb : b = (s.blk.markLate n).updLock (fun l => { l with queue := l.queue.filter (fun q => !(q.cls == 2 && q.frame == n)) }))
include hlate hb

/-- A PPDU is not started without the first frame of a user (R305). -/
theorem exec_txCipherLate_first (hidle : (b.phyAt r.val).tx = none)
    (hfirst : p.users.any (fun u => u.frames.head? == some n) = true) :
    exec (.txCipherLate r n true) s = s.next (b.dropTxop r.val) := by
  have hphy : b.phyAt r.val = s.blk.phyAt r.val := by rw [hb]; rfl
  rw [hphy] at hidle
  change execTxCipherLate r n true s = _
  simp only [execTxCipherLate, hlate, hidle, hfirst, ← hb, Option.isNone_none, ne_eq, not_true_eq_false, if_false,
    Bool.and_self, if_true]

/-- Any other late frame is left out and counted (R305). -/
theorem exec_txCipherLate_counted
    (hother : (b.phyAt r.val).tx.isSome = true ∨ p.users.any (fun u => u.frames.head? == some n) = false) :
    exec (.txCipherLate r n (s.blk.phyAt r.val).tx.isNone) s = s.next (b.count .lock C.LOCK.TX_CIPHER_LATE) := by
  have hphy : b.phyAt r.val = s.blk.phyAt r.val := by rw [hb]; rfl
  rw [hphy] at hother
  have hkept : ((s.blk.phyAt r.val).tx.isNone && p.users.any (fun u => u.frames.head? == some n)) = false :=
    hother.elim (fun hair => by rw [Option.isNone_eq_false_iff.mpr hair, Bool.false_and])
      (fun hnot => by rw [hnot, Bool.and_false])
  change execTxCipherLate r n _ s = _
  simp only [execTxCipherLate, hlate, hkept, ← hb, ne_eq, not_true_eq_false, if_false, Bool.false_eq_true]

end

end Sys2Proof.Machine
end

section
/-! The Vault: recryption, backing sectors, the rebuild (R309, R319 to R321, R425). -/

namespace Sys2Proof.Machine

variable {s : State} {b c : Block}

/-- The Vault at its soft limit takes a new generation (R319). -/
theorem exec_vaultRecrypt_due (hup : s.blk.vaultUp = true) (hsoft : s.blk.xtsSoft ≤ s.blk.lock.vaultUses)
    (htally : s.blk.tallyOk 5 = true)
    (hb : b = (s.blk.tallyPut 5 ((s.blk.tally 5 + 1) % 2 ^ 32)).updLock (fun l => { l with vaultUses := 2176 * 256 })) :
    exec .vaultRecrypt s = s.next (((b.set F.LOCK_VSTATUS.PTR 2176).lane 2 16 0 (2176 * 128)).lane 2 17 0 (2176 * 128)) := by
  subst hb
  exact congrArg s.next (if_pos (by rw [hup, decide_eq_true hsoft, htally]; rfl))

/-! ### The backing area -/

section
variable {u : Nat} (hdirty : s.blk.lock.dirty = [u]) (hup : s.blk.vaultUp = true) (hbacking : s.blk.backing = true)
  (hwell : s.blk.on F.LOCK_VSTATUS.BACK_FAIL = false)
include hdirty hup hbacking hwell

/-- At the limit of the backing key nothing more is written under it (R313, R320). -/
theorem exec_backingRewrite_limit (hlimit : s.blk.xtsLimit ≤ s.blk.lock.backUses) (ok : Bool) :
    exec (.backingRewrite ok) s = s.next (s.blk.set F.LOCK_VSTATUS.BACK_FAIL 1) := by
  change execBackingRewrite ok s = _
  rw [execBackingRewrite, hdirty, List.foldl_cons, List.foldl_nil]
  simp only [hup, hbacking, hwell, hlimit, Bool.and_self, Bool.not_true, Bool.or_self, Bool.false_eq_true, if_false, if_true]

section
variable (hbelow : s.blk.lock.backUses < s.blk.xtsLimit)
include hbelow

/-- A sector is written anew, and with it its keys are backed (R320). -/
theorem exec_backingRewrite_written {a : Nat} (ha : a = s.blk.backBase + 4096 * u) (hb : b = s.blk.norErase a 4096)
    (hc : c = b.norProgram a (xtsEnc (b.backKey s.fuse) u ((List.range 128).map (fun i => backBytes
      (s.blk.keyAt 1 (128 * u + i)))).flatten)) : exec (.backingRewrite true) s = s.next ((((c.updLock (fun l => { l with
        dirty := l.dirty.filter (· != u)
        vault := l.vault.map (fun (k : KeyRec) => if k.space = 1 ∧ k.handle / 128 = u then { k with backed := true } else k)
        cache := l.cache.map (fun (k : KeyRec) => if k.space = 1 ∧ k.handle / 128 = u then { k with backed := true } else k)
      })).xtsUse 2 256).maskUse 16 256).count .lock C.LOCK.BACK_WRITE) := by
  subst ha hb hc
  change execBackingRewrite true s = _
  rw [execBackingRewrite, hdirty, List.foldl_cons, List.foldl_nil]
  simp only [hup, hbacking, hwell, Nat.not_le.mpr hbelow, Bool.and_self, Bool.not_true, Bool.or_self, Bool.false_eq_true,
    if_false, if_true]

/-- A write that fails leaves the sector's contents open and stops backing (R320, R329 row 7). -/
theorem exec_backingRewrite_failed (hb : b = { s.blk with free := s.blk.free + 4096 }) : exec (.backingRewrite false) s =
    s.next (((b.norProgram (s.blk.backBase + 4096 * u) ((List.range 4096).map (fun i =>
      (Config.freeValue (s.blk.free + i)).truncate 8))).set F.LOCK_VSTATUS.BACK_FAIL 1).fault 2 .note 7 0xFFFF []) := by
  subst hb
  change execBackingRewrite false s = _
  rw [execBackingRewrite, hdirty, List.foldl_cons, List.foldl_nil]
  simp only [hup, hbacking, hwell, Nat.not_le.mpr hbelow, Bool.and_self, Bool.not_true, Bool.or_self, Bool.false_eq_true,
    if_false]

end
end

/-! ### The rebuild -/

/-- The end of the rebuild takes in the frames that waited for it, in order (R321, R425). -/
theorem exec_vaultRebuild_owed {l : List Nat} (howed : s.blk.rebuilding = true)
    (hb : b = (s.blk.rebuildVault s.fuse l).wipeClear 28) : exec (.vaultRebuild l) s =
      s.next (b.post.held.foldl (fun b h => (b.freeCells h.cells).takeIn h.frame h.pan (some h.node) 0 h.event)
        (b.updPost (fun p => { p with held := [] }))) := by
  subst hb
  exact congrArg s.next (if_pos howed)

/-- Settles O24: each clause by the lemma on its command. -/
theorem keyUseEffects : Obligations.KeyUseEffects := by
  refine ⟨fun s sp h k hruns hcached => exec_keyFetch_found hruns (Block.fetchKey_hit (Nat.ne_of_lt sp.isLt) hcached), ?_,
    fun s r n p b hlate hb => ⟨exec_txCipherLate_first hlate hb, exec_txCipherLate_counted hlate hb⟩,
    fun s => exec_limitFifoRead_empty, fun s e t => exec_limitFifoRead_cons, fun s b => exec_vaultRecrypt_due,
    fun s u hdirty hup hbacking hwell => exec_backingRewrite_limit hdirty hup hbacking hwell,
    fun s u a b c hdirty hup hbacking hwell hbelow => exec_backingRewrite_written hdirty hup hbacking hwell hbelow, ?_⟩
  · intro s core q k b c hqueue hcls hprotect hcore hmasks hb hgiven
    rw [exec_aesRequest_only hqueue (by omega) (by omega) hcore hmasks hb, if_pos hprotect, hgiven, Block.aesServed, hcls]
    rfl
  · intro s l b howed hb hnone
    rw [exec_vaultRebuild_owed howed hb, hnone]
    rfl

end Sys2Proof.Machine
end

section
/-! The mesh frame counter, the noise source and the DRBG (R316 to R318, R322 to R324, R329). -/

namespace Sys2Proof.Machine

variable {s : State} {b : Block}

/-! ### The mesh frame counter -/

section
variable (hruns : s.blk.runs 2 = true)
include hruns

/-- With 16,384 values left the reservation moves up, and the former one serves until that is persistent (R316). -/
theorem exec_mfcReservationWrite_low {n : Nat} (hn : n = s.blk.get F.LOCK_MFC.N) (howed : s.blk.lock.mfcOwed = false)
    (hdone : s.blk.tallyDone 3 = true) (hlow : s.blk.tally 3 ≤ n + 16384) (hroom : s.blk.tally 3 < min (n + 65536) 0xFFFFFFFF) :
    exec .mfcReservationWrite s = s.next ((s.blk.updLock (fun l => { l with resvOld := s.blk.tally 3 })).tallyPut 3
      (min (n + 65536) 0xFFFFFFFF)) := by
  subst hn
  exact congrArg s.next (if_pos (by rw [hruns, howed, hdone, decide_eq_true ⟨hlow, hroom⟩]; rfl))

/-- After its last value the counter starts again under a new epoch (R317). -/
theorem exec_mfcWrap_last (howed : s.blk.lock.mfcOwed = false) (hlast : s.blk.get F.LOCK_MFC.N = 0xFFFFFFFF)
    (htally : s.blk.tallyOk 4 = true) : exec .mfcWrap s = s.next s.blk.mfcWrap :=
  congrArg s.next (if_pos (by rw [hruns, howed, hlast, htally]; rfl))

/-- The resumption goes on at the reservation, and makes a new one (R318). -/
theorem exec_mfcResume_owed (howed : s.blk.lock.mfcOwed = true) (htally : s.blk.tallyOk 3 = true)
    (hroom : s.blk.tally 3 < 0xFFFFFFFF)
    (hb : b = (s.blk.set F.LOCK_MFC.N (s.blk.tally 3)).updLock (fun l => { l with mfcOwed := false, mfcSoft := false })) :
    exec .mfcResume s = s.next ((b.updLock (fun l => { l with resvOld := s.blk.tally 3 })).tallyPut 3
      (min (s.blk.tally 3 + 65536) 0xFFFFFFFF)) := by
  subst hb
  exact congrArg s.next ((if_pos (by rw [hruns, howed, htally]; rfl)).trans (if_neg hroom.ne))

end

/-! ### The noise source -/

/-- A good window crosses group 7 as an event (R322, R375). -/
theorem exec_noiseWindow_pass (hunparked : bitOf (s.blk.get F.CLK_XSTATUS.PARKED) 7 = false) : exec (.noiseWindow true) s =
    s.next ((s.blk.count (.clk 7) C.CLK.EVT_SENT).count (.clk 7) C.CLK.EVT_RECEIVED).noisePass := by
  change execNoiseWindow true s = _
  simp only [execNoiseWindow, hunparked, Bool.false_eq_true, if_true, if_false]

/-! ### The DRBG -/

theorem exec_drbgReseed_due (hinst : s.blk.on F.LOCK_RNG_STATUS.INSTANTIATED = true) (hseed : s.blk.lock.seed = true)
    (hdue : s.blk.reseedDue = true) : exec .drbgReseed s =
      s.next (((((s.blk.updLock (fun l => { l with seed := false, gens := 0 })).wrap F.LOCK_RNG_STATUS.RESEEDS 1).set
        F.LOCK_RNG_STATUS.STARVED 0).updLock (fun l => { l with masks := [] })).lane 2 20 1) :=
  congrArg s.next (if_pos (by rw [hinst, hseed, hdue]; rfl))

theorem exec_drbgReseed_early (hearly : s.blk.reseedDue = false) : exec .drbgReseed s = s.next s.blk :=
  congrArg s.next (if_neg (by rw [hearly, Bool.and_false]; decide))

/-- A DRBG that is due a seed and has none stands still, with no action in its first 100 ms (R324, R329). -/
theorem exec_drbgStopped_short {us : Nat} (hseed : s.blk.lock.seed = false) (hruns : s.blk.runs 2 = true)
    (hdue : s.blk.reseedDue = true) (hb : b = (s.blk.set F.LOCK_RNG_STATUS.STARVED 1).count .lock C.LOCK.MASK_STALL_US us)
    (hshort : us ≤ 100000) (hfirst : b.lock.drbgSect = none) : exec (.drbgStopped us) s = s.next b := by
  change execDrbgStopped us s = _
  simp only [execDrbgStopped, hruns, hdue, hseed, ← hb, hfirst, Nat.not_lt.mpr hshort, Bool.not_false, Bool.and_true,
    Bool.or_true, Bool.not_true, Bool.false_eq_true, if_false]

/-- Settles O25: each clause by the lemma on its command. -/
theorem counterAndRandomEffects : Obligations.CounterAndRandomEffects := by
  refine ⟨⟨fun s n hn hruns => exec_mfcReservationWrite_low hruns hn, ?_, fun s b => exec_mfcResume_owed,
      fun s hunparked => ⟨_, rfl, exec_noiseWindow_pass hunparked, rfl⟩, fun s => exec_drbgReseed_due,
      fun s => exec_drbgReseed_early, fun s us hseed hruns _ hdue => ⟨_, rfl, exec_drbgStopped_short hseed hruns hdue rfl⟩⟩,
    fun s sp h k b => exec_keyFetch_found, fun s sp h => exec_keyFetch_refused, ?_,
    fun s e hfifo => ⟨_, exec_limitFifoRead_cons hfifo, rfl, rfl, rfl, rfl⟩,
    fun s hup hsoft htally => ⟨_, exec_vaultRecrypt_due hup hsoft htally rfl, ?_⟩,
    fun s l b => exec_vaultRebuild_owed,
    fun s u b hdirty hup hbacking hwell hbelow => exec_backingRewrite_failed hdirty hup hbacking hwell hbelow⟩
  · intro s b hruns howed hlast htally hb
    subst hb
    exact exec_mfcWrap_last hruns howed hlast htally
  · intro s core q b c hqueue hlo hhi hverify hcore hmasks hb
    have hserved : ∀ a, b.keyVerify q.space q.handle = a →
        exec (.aesRequest core) s = s.next (Block.aesServed core.val q a) :=
      fun a => exec_aesRequest_verify hqueue hlo hhi hverify hcore hmasks hb
    refine ⟨fun hnone hcls => ?_, fun hnone hcls => ?_, fun k hsome hcls => ?_, fun k hsome hcls => ?_⟩
    · exact (hserved _ hnone).trans (congrArg s.next (if_neg hcls))
    · exact (hserved _ hnone).trans (congrArg s.next (if_pos hcls))
    · rw [hserved _ hsome, Block.aesServed, hcls]
      rfl
    · rw [hserved _ hsome, Block.aesServed, hcls]
      rfl
  · simp only [Block.lane, Block.count_lock, Block.set_lock, Block.updLock_lock, Block.get_count, Block.get_set_same, true_and]
    rfl

end Sys2Proof.Machine
end

section
/-! Tally writes do not reach Locksmith: the flash, the crossing of group 7 and counters alone are changed (R368, R445). -/

namespace Sys2Proof.Machine

variable {b c : Block}

theorem Block.putUnit_lock {u : JUnit} (hput : b.putUnit u = some c) : c.lock = b.lock := by
  unfold Block.putUnit at hput
  split at hput
  · cases hput
  · obtain rfl := Option.some.inj hput
    rfl

theorem Block.putRecord_lock {id v : Nat} (hput : b.putRecord id v = some c) : c.lock = b.lock := by
  unfold Block.putRecord at hput
  dsimp only at hput
  split at hput
  · cases hput
  next d hfirst =>
    split at hput
    · obtain rfl := Option.some.inj hput
      rw [Block.count_lock, Block.putUnit_lock hfirst]
    · split at hput
      · cases hput
      next e hsecond =>
        obtain rfl := Option.some.inj hput
        rw [Block.count_lock, Block.putUnit_lock hsecond, ← Block.putUnit_lock hfirst]
        rfl

theorem Block.putFirst_lock {t : TallyReq} (hput : b.putFirst t = some c) : c.lock = b.lock := by
  unfold Block.putFirst at hput
  split at hput
  · cases hput
  · split at hput
    · cases hput
    next d hfirst =>
      obtain rfl := Option.some.inj hput
      rw [Block.count_lock, Block.putUnit_lock hfirst]

theorem Block.putReq_lock {t : TallyReq} (hput : b.putReq t = some c) : c.lock = b.lock := by
  unfold Block.putReq at hput
  split at hput
  · exact Block.putRecord_lock hput
  · obtain ⟨d, hsecond, rfl⟩ := Option.map_eq_some_iff.mp hput
    rw [Block.count_lock, Block.putUnit_lock hsecond]

@[simp] theorem Block.tallyIn_lock (b : Block) (id v : Nat) : (b.tallyIn id v).lock = b.lock := by
  unfold Block.tallyIn
  split
  · exact Block.count_lock ..
  split
  · exact Block.count_lock ..
  · dsimp only
    split
    · exact Block.count_lock ..
    · rfl

@[simp] theorem Block.tallyTake_lock (b : Block) (l : List (Nat × Nat)) : (b.tallyTake l).lock = b.lock := by
  induction l generalizing b with
  | nil => rfl
  | cons t rest ih =>
    unfold Block.tallyTake
    split
    · rfl
    · rw [ih, Block.tallyIn_lock, Block.count_lock]

@[simp] theorem Block.flushTallies_lock (b : Block) (n : Nat) : (b.flushTallies n).lock = b.lock := by
  induction n generalizing b with
  | zero => rfl
  | succ n ih =>
    unfold Block.flushTallies
    split
    · rfl
    next t _ =>
      split
      · cases hfirst : b.putFirst t with
        | none => rfl
        | some c => exact Block.putFirst_lock hfirst
      next c hput => rw [ih, Block.tallyTake_lock, ← Block.putReq_lock hput]

@[simp] theorem Block.tallyPut_lock (b : Block) (id v : Nat) : (b.tallyPut id v).lock = b.lock := by
  unfold Block.tallyPut
  dsimp only
  split
  · split
    · exact Block.count_lock ..
    · rfl
  · rw [Block.flushTallies_lock, Block.tallyIn_lock, Block.count_lock]

end Sys2Proof.Machine
end

section
/-! Zeroisation: what it destroys at once, its overwrites, and tampering (R328, R424, R425, R434 to R436). -/

namespace Sys2Proof.Machine

variable {s : State}

/-! ### What a zeroisation destroys -/

theorem Block.ledgerOnly.lock {b c : Block} (h : b.ledgerOnly c) : c.lock = b.lock := by rw [h.1]

@[simp] theorem Block.endSession_lock (b : Block) : b.endSession.lock = b.lock := by
  unfold Block.endSession
  dsimp only
  split
  · exact (Block.ledgerOnly_event ..).lock
  · rfl

/-- An open-and-wipe that goes on changes the session and a tally (R432). -/
@[simp] theorem Block.openGo_lock (b : Block) : b.openGo.lock = b.lock := by
  have hopened : ∀ c : Block,
      ((c.updSec (fun x => { x with openStep := 0, level := 3, status := 4 })).debugRec 3 0).lock = c.lock :=
    fun c => (Block.ledgerOnly_event ..).lock
  unfold Block.openGo
  dsimp only
  split <;> split <;> simp only [hopened, Block.updSec_lock, Block.tallyPut_lock]

/-- Locksmith after a zeroisation: no key left, the Vault to be rebuilt (R424). -/
def Lock.zeroised (l : Lock) : Lock := { l with
  vault := [], cache := [], staging := [], staged := false, dirty := [], steward := none, vaultOk := false,
  rebuildOwed := true, backUses := 0, vaultUses := 0 }

theorem Block.wipeCommit_lock (b : Block) : b.wipeCommit.lock = b.lock.zeroised := by
  unfold Block.wipeCommit Block.wipeRec
  dsimp only
  rw [(Block.ledgerOnly_event ..).lock]
  split
  · rfl
  · rw [Block.endSession_lock]
    rfl

/-- After a zeroisation no name finds a key. -/
theorem Block.keyless_of_zeroised {b : Block} {l : Lock} (hlock : b.lock = l.zeroised) : b.lock.vault = [] ∧
    b.lock.cache = [] ∧ b.lock.staging = [] ∧ b.lock.steward = none ∧ ∀ sp h, b.keyAt sp h = none := by
  refine ⟨by rw [hlock]; rfl, by rw [hlock]; rfl, by rw [hlock]; rfl, by rw [hlock]; rfl, fun sp h => ?_⟩
  rw [Block.keyAt, hlock]
  split
  · exact ite_self _
  · rfl

/-- A zeroisation that is neither refused nor waits for its tally write has committed (R424). -/
theorem Block.zeroise_lock {b : Block} (haccepted : b.wipeRefused = false) (hnow : b.zeroise.sec.wipeWait = false) :
    b.zeroise.lock = b.lock.zeroised := by
  unfold Block.zeroise at hnow ⊢
  dsimp only at hnow ⊢
  rw [haccepted, Bool.false_or] at hnow ⊢
  split at hnow
  next hwaits => rw [hwaits] at hnow; cases hnow
  next hfree =>
    rw [if_neg hfree]
    split at hnow
    next hdone => rw [if_pos hdone, Block.wipeCommit_lock, Block.tallyPut_lock]
    next => cases hnow

/-- One that waits commits once its tally write is persistent (R424). -/
theorem Block.secSettle_lock {b : Block} (hwaits : b.sec.wipeWait = true) (hdone : b.tallyDone 8 = true) :
    b.secSettle.lock = b.lock.zeroised := by
  rw [Block.secSettle, hwaits, hdone, Bool.and_self, if_pos rfl, Block.openGo_lock, Block.wipeCommit_lock]

/-! ### SEC_ZEROISE -/

section
variable {road : Road} {v : Word} (hroad : s.blk.roadStops road R.SEC_ZEROISE = none)
include hroad

theorem exec_zeroise_keyed (haccepted : s.blk.wipeRefused = false) (hkey : v.toNat / 2 ^ 16 = 0x5A45)
    (hgo : bitOf v.toNat 0 = true) (hlo : 1 ≤ s.fuse.lifecycle) (hhi : s.fuse.lifecycle ≤ 3) :
    exec (.zeroise road v) s = s.next s.blk.zeroise :=
  congrArg s.next ((s.blk.viaRoad_open road _ _ _ hroad).trans
    ((if_pos ⟨hkey, hgo, hlo, hhi⟩).trans (if_neg (by simp [haccepted]))))

theorem exec_zeroise_unkeyed (hkey : v.toNat / 2 ^ 16 ≠ 0x5A45) : exec (.zeroise road v) s = .next s :=
  congrArg s.next ((s.blk.viaRoad_open road _ _ _ hroad).trans (if_neg (fun h => hkey h.1)))

end

/-! ### Overwrites -/

section
variable (hwait : s.blk.sec.wipeWait = false)
include hwait

theorem exec_wipeOverwriteDone_steward (hpend : bitOf (s.blk.tally 8) 30 = true) :
    exec (.wipeOverwriteDone 2) s = s.next (s.blk.wipeClear 30) :=
  congrArg s.next (if_neg (by rw [hwait]; simp [hpend]))

/-- The Vault's overwrite is its rebuild (R425). -/
theorem exec_wipeOverwriteDone_vault (hpend : bitOf (s.blk.tally 8) 28 = true) (hdram : s.blk.lockDram = true) :
    exec (.wipeOverwriteDone 0) s =
      s.next (((s.blk.rebuildVault s.fuse []).updLock (fun l => { l with vault := [] })).wipeClear 28) :=
  congrArg s.next ((if_neg (by rw [hwait]; simp [hpend])).trans (if_pos hdram))

end

/-! ### Tampering -/

@[simp] theorem Block.hpReq_sec (b : Block) : b.hpReq.sec = b.sec := by
  simp only [Block.hpReq, Block.lane, Block.count_sec, Block.set_sec]

@[simp] theorem Block.raise_sec (b : Block) : b.raise.sec = b.sec := by
  unfold Block.raise
  dsimp only
  split <;> rfl

@[simp] theorem Block.wakeMark_sec (b : Block) (n : Nat) : (b.wakeMark n).sec = b.sec := by
  unfold Block.wakeMark
  split
  · dsimp only
    split
    · exact Block.raise_sec _
    · rfl
  · rfl

/-- A wake source changes registers, counters and Watchman. -/
@[simp] theorem Block.wakeHit_sec (b : Block) (n : Nat) : (b.wakeHit n).sec = b.sec := by
  unfold Block.wakeHit
  split
  · rw [Block.wakeMark_sec, Block.hpReq_sec]
  · rfl

/-- Outside FIELD and RETURN a falling TAMPER_N wakes and is reported (R435). -/
theorem exec_tamper_reported {b : Block} (hb : b = s.blk.updSec (fun c => { c with tamperLow := true }))
    (hfield : s.blk.sec.lc ≠ 2) (hreturn : s.blk.sec.lc ≠ 3) : exec (.tamper true) s = s.next ((b.wakeHit 6).fire 21 32) := by
  subst hb
  change s.next (s.blk.tamperFall s.fuse) = _
  refine congrArg s.next (if_neg ?_)
  rw [Block.wakeHit_sec]
  exact not_or_intro hfield hreturn

/-- In FIELD and RETURN it ends the session, counts, and zeroises where fuse or register asks for it (R435). -/
theorem exec_tamper_guarded {b c d : Block} (hb : b = (s.blk.updSec (fun c => { c with tamperLow := true })).wakeHit 6)
    (hlc : b.sec.lc = 2 ∨ b.sec.lc = 3) (hc : c = b.sealSession.updSec (fun c => { c with chal := none }))
    (hd : d = (c.tallyPut 12 (c.tally 12 + 1)).fire 21 32) : exec (.tamper true) s =
      s.next (if bitOf (fuseByte s.fuse.sec 1) 0 || d.on F.SEC_TAMPER_CFG.WIPE then d.zeroise else d) := by
  subst hb hc hd
  exact congrArg s.next (if_pos hlc)

/-- Settles O41: each clause by the lemma on its command; no key outlives a zeroisation by the state it leaves Locksmith in
(`keyless_of_zeroised`). -/
theorem zeroisationEffects : Obligations.ZeroisationEffects :=
  ⟨⟨fun _ _ _ hroad haccepted => ⟨exec_zeroise_keyed hroad haccepted, exec_zeroise_unkeyed hroad⟩,
      fun _ hpend hwait => exec_wipeOverwriteDone_steward hwait hpend,
      fun _ hpend hwait => exec_wipeOverwriteDone_vault hwait hpend,
      fun _ hfield hreturn => ⟨_, rfl, exec_tamper_reported rfl hfield hreturn⟩,
      fun _ _ _ _ => exec_tamper_guarded, fun _ => rfl⟩,
    fun _ haccepted hnow => Block.keyless_of_zeroised (Block.zeroise_lock haccepted hnow),
    fun _ hwaits hdone => Block.keyless_of_zeroised (Block.secSettle_lock hwaits hdone)⟩

end Sys2Proof.Machine
end

section
/-! The Creosh window over a sequence of SEQ values (R349). -/

namespace Sys2Proof.Machine

/-- Every value in taken lies at or below the window's highest, and those that the window still reaches are in it. -/
def Creosh.remembers (c : Creosh) (taken : List Nat) : Prop := ∀ x ∈ taken, x ≤ c.high ∧ (c.high ≤ x + 63 → x ∈ c.seen)

/-- The window after a SEQ is offered to it, and the values accepted so far. -/
def Creosh.offer (p : Creosh × List Nat) (q : Nat) : Creosh × List Nat := ((p.1.window q).map (fun d => (d, q :: p.2))).getD p

/-- A SEQ that the window accepts is new to it, and the window remembers it from then on. -/
theorem Creosh.window_accepts {c d : Creosh} {q : Nat} {taken : List Nat} (hknown : c.remembers taken)
    (hwindow : c.window q = some d) : q ∉ taken ∧ d.remembers (q :: taken) := by
  unfold Creosh.window at hwindow
  split at hwindow
  case isTrue hnewest =>
    obtain rfl := Option.some.inj hwindow
    refine ⟨fun hq => absurd (hknown q hq).1 hnewest.not_ge, fun x hx => ?_⟩
    obtain rfl | hx := List.mem_cons.mp hx
    · exact ⟨le_rfl, fun _ => List.mem_cons_self⟩
    · obtain ⟨hbelow, hseen⟩ := hknown x hx
      refine ⟨hbelow.trans hnewest.le, fun hreach => List.mem_cons_of_mem _ (List.mem_filter.mpr ⟨hseen ?_, ?_⟩)⟩
      · exact hnewest.le.trans hreach
      · exact decide_eq_true hreach
  case isFalse hbelow =>
    split at hwindow
    case isFalse => cases hwindow
    case isTrue hinside =>
      obtain ⟨hreach, hnew⟩ := hinside
      obtain rfl := Option.some.inj hwindow
      refine ⟨fun hq => ?_, fun x hx => ?_⟩
      · rw [List.contains_iff_mem.mpr ((hknown q hq).2 hreach)] at hnew
        cases hnew
      · obtain rfl | hx := List.mem_cons.mp hx
        · exact ⟨not_lt.mp hbelow, fun _ => List.mem_cons_self⟩
        · exact ⟨(hknown x hx).1, fun h => List.mem_cons_of_mem _ ((hknown x hx).2 h)⟩

/-- Values accepted one after another have no repeat and are apart from those already seen. -/
theorem Creosh.foldl_offer (seen l : List Nat) {p : Creosh × List Nat} (hknown : p.1.remembers (p.2 ++ seen))
    (hfresh : p.2.Nodup ∧ ∀ x ∈ p.2, x ∉ seen) : (l.foldl Creosh.offer p).2.Nodup ∧ ∀ x ∈ (l.foldl Creosh.offer p).2, x ∉ seen := by
  induction l generalizing p with
  | nil => exact hfresh
  | cons q t ih =>
    obtain ⟨c, acc⟩ := p
    rw [List.foldl_cons, Creosh.offer]
    cases hwindow : c.window q with
    | none => exact ih hknown hfresh
    | some d =>
      obtain ⟨hnew, hknows⟩ := Creosh.window_accepts hknown hwindow
      obtain ⟨hacc, hseen⟩ := not_or.mp (fun h => hnew (List.mem_append.mpr h))
      exact ih hknows ⟨hfresh.1.cons hacc, List.forall_mem_cons.mpr ⟨hseen, hfresh.2⟩⟩

/-- Settles O33, by the window's memory of all it has taken, which each offer keeps (`Creosh.window_accepts`). -/
theorem creoshSeqTakenOnce : Obligations.CreoshSeqTakenOnce := by
  rintro l c hhigh acc rfl
  exact Creosh.foldl_offer c.seen l (p := (c, [])) (fun x hx => ⟨hhigh x hx, fun _ => hx⟩)
    ⟨List.nodup_nil, fun _ hx => absurd hx List.not_mem_nil⟩

end Sys2Proof.Machine
end

section
/-! Steps and the queue (spec/98_reader.md). -/

namespace Sys2Proof.Machine

theorem step_front {s : State} {c : Instr} {rest : List Instr} (h : s.pending = c :: rest) :
    step s = exec c { s with pending := rest } := by rw [step, h]

/-- Settles O1: both clauses are the two cases of the queue. -/
theorem stepRunsFrontOfQueue : Obligations.StepRunsFrontOfQueue :=
  ⟨fun _ _ _ => step_front, fun s h => by rw [step, h]⟩

theorem State.Moves.pending {s t : State} (h : s.Moves t) : t.pending = s.pending := by
  induction h with
  | refl => rfl
  | blk | assay | burnSec | burnReg => assumption

theorem exec_answers (c : Instr) (s : State) : ∃ t, exec c s = .next t ∧ t.pending = s.pending := by
  obtain ⟨t, hexec, hmoves⟩ := exec_moves s c
  exact ⟨t, hexec, hmoves.pending⟩

theorem run_succ_of_step {M : Host.Core} {k : Nat} {s t : M.State} (h : M.step s = .next t) : M.run (k + 1) s = M.run k t := by
  simp only [Host.Core.run, h]

/-- As many steps as a list at the front of the queue is long take that list from it. -/
theorem run_drains (l : List Instr) {rest : List Instr} {s : State} (h : s.pending = l ++ rest) :
    ∃ t : State, core.run l.length s = .next t ∧ t.pending = rest := by
  induction l generalizing s with
  | nil => exact ⟨s, rfl, h⟩
  | cons c l ih =>
    obtain ⟨u, hexec, hqueue⟩ := exec_answers c { s with pending := l ++ rest }
    obtain ⟨t, hrun, hrest⟩ := ih hqueue
    refine ⟨t, ?_, hrest⟩
    have hstep : core.step s = .next u := (step_front h).trans hexec
    exact (run_succ_of_step hstep).trans hrun

/-- Settles O52: what a command leaves of the queue by the moves it is made of, the queue by induction on its front. -/
theorem everyCommandAnswersAndQueueDrains : Obligations.EveryCommandAnswersAndQueueDrains :=
  ⟨exec_answers, fun l _ _ h => run_drains l h⟩

end Sys2Proof.Machine
end

section
/-! The order of the lifecycle (R417, R418): the LC fuse bits only grow. -/

namespace Sys2Proof.Machine

/-- The lifecycle that a nibble of LC bits spells. -/
def lcOfNibble (n : Nat) : Nat := match n with | 0 => 0 | 1 => 1 | 3 => 2 | 7 => 3 | _ => 4

/-- With every bit of x set in y too, y spells no earlier lifecycle. -/
theorem lcOfNibble_le : ∀ x y : Fin 16, x.val ∈ [0, 1, 3, 7, 8, 9, 10, 11, 12, 13, 14, 15] → x.val &&& y.val = x.val →
    lcOfNibble x.val ≤ lcOfNibble y.val := by decide

theorem fuseByte_zero_nibble (m : List (Nat × Nat)) : fuseByte m 0 % 16 = look m 0 0 % 2 ^ 4 :=
  Nat.mod_mod_of_dvd (look m 0 0) (by decide)

/-- Growing fuses keep the bits of the LC nibble. -/
theorem fusesKept.nibble {m n : List (Nat × Nat)} (h : fusesKept m n) :
    (fuseByte m 0 % 16) &&& (fuseByte n 0 % 16) = fuseByte m 0 % 16 := by
  rw [fuseByte_zero_nibble, fuseByte_zero_nibble]
  refine Nat.eq_of_testBit_eq fun i => ?_
  have hbit := h 0 i
  rw [bitOf_eq_testBit, bitOf_eq_testBit] at hbit
  rw [Nat.testBit_and, Nat.testBit_mod_two_pow, Nat.testBit_mod_two_pow]
  cases hm : (look m 0 0).testBit i with
  | false => simp only [Bool.and_false, Bool.false_and]
  | true => rw [hbit hm, Bool.and_self]

/-- Settles O55: the fuses of a step grow (`State.Moves.grown`), and the lifecycle with them. -/
theorem lifecycleNeverGoesBack : Obligations.LifecycleNeverGoesBack := by
  intro s t hstep hform
  obtain ⟨u, hfuse, hmoves⟩ := step_moves hstep
  have hgrown : fusesKept s.fuse.sec t.fuse.sec := hfuse ▸ hmoves.grown.1
  exact lcOfNibble_le ⟨fuseByte s.fuse.sec 0 % 16, Nat.mod_lt _ (by decide)⟩ ⟨fuseByte t.fuse.sec 0 % 16, Nat.mod_lt _ (by decide)⟩
    hform hgrown.nibble

end Sys2Proof.Machine
end

section
/-! The run of a delta (R465). -/

namespace Sys2Proof.Machine

/-- What a run has put out is the beginning of the image that it yields, which has the declared length. -/
theorem deltaRun_image {base l out img : List Byte} {n k : Nat} (h : deltaRun base n k l out = some img) :
    out <+: img ∧ img.length = n := by
  induction k generalizing l out with
  | zero => cases h
  | succ k ih =>
    have hmore {l more : List Byte} (h : deltaRun base n k l (out ++ more) = some img) : out <+: img ∧ img.length = n :=
      ⟨(List.prefix_append out more).trans (ih h).1, (ih h).2⟩
    simp only [deltaRun] at h
    split at h
    · cases h
    split at h
    · split at h
      next hend =>
        obtain rfl := Option.some.inj h
        exact ⟨List.prefix_refl _, hend.2.2⟩
      · cases h
    split at h
    · cases h
    split at h
    · split at h
      · cases h
      · exact hmore h
    split at h
    · split at h
      · cases h
      · exact hmore h
    · cases h

/-- Settles O46: both clauses by `deltaRun_image`. -/
theorem deltaStaysInsideItsLengths : Obligations.DeltaStaysInsideItsLengths := by
  refine ⟨fun base payload img n h => ?_, fun base l out img n k h => ?_⟩
  · unfold deltaApply at h
    split at h
    · exact (deltaRun_image h).2
    · cases h
  · obtain ⟨hprefix, hlength⟩ := deltaRun_image h
    exact ⟨hlength ▸ hprefix.length_le, List.prefix_iff_eq_take.mp hprefix⟩

end Sys2Proof.Machine
end

section
/-! Tallies as they read after a write (R445, R451): the image changes at the tally written, and programming leaves it. -/

namespace Sys2Proof.Machine

variable {b c : Block}

/-! ### What programming leaves -/

theorem Block.count_eq (b : Block) (s : CntSet) (n k : Nat) : b.count s n k = { b with counts := (b.count s n k).counts } := by
  unfold Block.count
  split <;> rfl

/-- c is b but for counters and for the blocks, the place and the queue of the journal. -/
def Block.programmed (b c : Block) : Prop := c = { b with
  counts := c.counts
  flash := { b.flash with blks := c.flash.blks, head := c.flash.head, nextSeq := c.flash.nextSeq, queue := c.flash.queue } }

theorem Block.programmed.count (h : b.programmed c) (s : CntSet) (n k : Nat) : b.programmed (c.count s n k) := by
  rw [Block.count_eq]
  unfold Block.programmed at h
  rw [h]
  rfl

theorem Block.programmed.trans {d : Block} (h : b.programmed c) (g : c.programmed d) : b.programmed d := by
  unfold Block.programmed at h g
  rw [g, h]
  rfl

theorem Block.putUnit_programmed {u : JUnit} (hput : b.putUnit u = some c) : b.programmed c := by
  unfold Block.putUnit at hput
  split at hput
  · cases hput
  · obtain rfl := Option.some.inj hput
    rfl

/-- The sequence number of the next record is the journal's own. -/
theorem Block.programmed.nextSeq (h : b.programmed c) (n : Nat) :
    b.programmed { c with flash := { c.flash with nextSeq := n } } := h.trans rfl

theorem Block.putRecord_programmed {id v : Nat} (hput : b.putRecord id v = some c) : b.programmed c := by
  unfold Block.putRecord at hput
  dsimp only at hput
  split at hput
  · cases hput
  next d hfirst =>
    have hd := Block.putUnit_programmed hfirst
    split at hput
    · obtain rfl := Option.some.inj hput
      exact (hd.nextSeq _).count ..
    · split at hput
      · cases hput
      next e hsecond =>
        obtain rfl := Option.some.inj hput
        have hskip : d.programmed (d.addUnits d.flash.head (List.replicate (d.pageRest d.flash.head) .skip)) := rfl
        exact (((hd.trans hskip).trans (Block.putUnit_programmed hsecond)).nextSeq _).count ..

theorem Block.putFirst_programmed {t : TallyReq} (hput : b.putFirst t = some c) : b.programmed c := by
  unfold Block.putFirst at hput
  split at hput
  · cases hput
  · split at hput
    · cases hput
    next d hfirst =>
      obtain rfl := Option.some.inj hput
      exact ((Block.putUnit_programmed hfirst).trans (by exact rfl)).count ..

theorem Block.putReq_programmed {t : TallyReq} (hput : b.putReq t = some c) : b.programmed c := by
  unfold Block.putReq at hput
  split at hput
  · exact Block.putRecord_programmed hput
  · obtain ⟨d, hsecond, rfl⟩ := Option.map_eq_some_iff.mp hput
    exact (Block.putUnit_programmed hsecond).count ..

/-- What the tallies read, and the writes that wait in the crossing of group 7. -/
def Block.tallyView (b : Block) : List (Nat × Nat) × List (Nat × Nat) := (b.flash.image, b.clk.cmds)

theorem Block.programmed.tallyView (h : b.programmed c) : c.tallyView = b.tallyView := by
  unfold Block.programmed at h
  rw [h]
  rfl

theorem Block.tallyView_count (b : Block) (s : CntSet) (n k : Nat) : (b.count s n k).tallyView = b.tallyView := by
  rw [Block.count_eq]
  rfl

theorem Block.tally_of_view (h : c.tallyView = b.tallyView) (n : Nat) : c.tally n = b.tally n :=
  congrArg (fun m => look m n 0) (Prod.mk.inj h).1

/-- With no write waiting in the crossing, programming shows nothing new. -/
theorem Block.flushTallies_view (hidle : b.clk.cmds = []) (n : Nat) : (b.flushTallies n).tallyView = b.tallyView := by
  induction n generalizing b with
  | zero => rfl
  | succ n ih =>
    unfold Block.flushTallies
    split
    · rfl
    next t _ =>
      split
      · cases hfirst : b.putFirst t with
        | none => rfl
        | some c => exact (Block.putFirst_programmed hfirst).tallyView
      next c hput =>
        have hview := (Block.putReq_programmed hput).tallyView
        have hnone : c.clk.cmds = [] := (Prod.mk.inj hview).2.trans hidle
        rw [hnone]
        exact (ih (b := { c with flash := { c.flash with queue := c.flash.queue.erase t } }) hnone).trans hview

/-! ### A write at the flash controller -/

/-- A class A write in stage EXHAUSTED is refused (R451). -/
theorem Block.tallyIn_exhausted {id : Nat} (hclass : tallyClassA id = true) (hstage : b.stage = stageExhausted) (v : Nat) :
    (b.tallyIn id v).tallyView = b.tallyView := by
  rw [Block.tallyIn, if_pos (by rw [hclass, hstage]; rfl)]
  exact Block.tallyView_count ..

/-- Any other is shown at once: in the queue, or from WORN on as a shadow (R445, R451). -/
theorem Block.tallyIn_taken {id : Nat} (htakes : tallyClassA id = true → b.stage ≠ stageExhausted) (v : Nat) :
    (b.tallyIn id v).tallyView = (put b.flash.image id v 0, b.clk.cmds) := by
  unfold Block.tallyIn
  split
  next hrefused =>
    simp only [Bool.and_eq_true, beq_iff_eq] at hrefused
    exact absurd hrefused.2 (htakes hrefused.1)
  split
  · exact Block.tallyView_count ..
  · dsimp only
    split
    · exact Block.tallyView_count ..
    · rfl

/-! ### A write by its owner -/

/-- A write that waits changes what waits alone (R368). -/
theorem Block.tallyPut_waits {id : Nat} (hwaits : (!b.clk.cmds.isEmpty || b.tallyFull id) = true) (v : Nat) :
    b.tallyPut id v = { b with clk := { b.clk with cmds := b.clk.cmds ++ [(id, v % 2 ^ 32)] } } ∨ ∃ c : Block,
      c = b.count (.clk 7) C.CLK.CMD_STALL ∧ b.tallyPut id v = { c with clk := { c.clk with cmds := c.clk.cmds ++ [(id, v % 2 ^ 32)] } } := by
  unfold Block.tallyPut
  dsimp only
  rw [if_pos hwaits]
  split
  · exact .inr ⟨_, rfl, rfl⟩
  · exact .inl rfl

theorem Block.tallyPut_waits_tally {id : Nat} (hwaits : (!b.clk.cmds.isEmpty || b.tallyFull id) = true) (v n : Nat) :
    (b.tallyPut id v).tally n = b.tally n := by
  obtain h | ⟨c, rfl, h⟩ := Block.tallyPut_waits hwaits v
  · rw [h]
    rfl
  · rw [h]
    exact Block.tally_of_view (Block.tallyView_count ..) n

/-- A write that need not wait shows what the controller makes of it. -/
theorem Block.tallyPut_view {id : Nat} (hgoes : (!b.clk.cmds.isEmpty || b.tallyFull id) = false) (v : Nat) :
    (b.tallyPut id v).tallyView = ((b.count (.clk 7) C.CLK.XFER).tallyIn id (v % 2 ^ 32)).tallyView := by
  have hidle : b.clk.cmds = [] := by
    rw [Bool.or_eq_false_iff, Bool.not_eq_false', List.isEmpty_iff] at hgoes
    exact hgoes.1
  have hcount : (b.count (.clk 7) C.CLK.XFER).clk.cmds = [] := (Prod.mk.inj (b.tallyView_count ..)).2.trans hidle
  have hin : ((b.count (.clk 7) C.CLK.XFER).tallyIn id (v % 2 ^ 32)).clk.cmds = [] := by
    by_cases htakes : tallyClassA id = true → (b.count (.clk 7) C.CLK.XFER).stage ≠ stageExhausted
    · exact (Prod.mk.inj (Block.tallyIn_taken htakes _)).2.trans hcount
    · obtain ⟨hclass, hstage⟩ := Classical.not_imp.mp htakes
      exact (Prod.mk.inj (Block.tallyIn_exhausted hclass (not_not.mp hstage) _)).2.trans hcount
  unfold Block.tallyPut
  dsimp only
  rw [if_neg (by rw [hgoes]; decide)]
  exact Block.flushTallies_view hin 40

theorem Block.stage_count (b : Block) (s : CntSet) (n k : Nat) : (b.count s n k).stage = b.stage := b.get_count ..

/-- What each tally reads after a write that is taken. -/
theorem Block.tallyPut_taken {id : Nat} (hgoes : (!b.clk.cmds.isEmpty || b.tallyFull id) = false)
    (htakes : tallyClassA id = true → b.stage ≠ stageExhausted) (v n : Nat) :
    (b.tallyPut id v).tally n = look (put b.flash.image id (v % 2 ^ 32) 0) n 0 := by
  have hview := (Block.tallyPut_view hgoes v).trans (Block.tallyIn_taken (by rwa [Block.stage_count]) _)
  rw [Block.tally, (Prod.mk.inj hview).1, Block.count_flash]

theorem Block.tallyPut_exhausted {id : Nat} (hclass : tallyClassA id = true) (hstage : b.stage = stageExhausted) (v n : Nat) :
    (b.tallyPut id v).tally n = b.tally n := by
  cases hgoes : !b.clk.cmds.isEmpty || b.tallyFull id with
  | true => exact Block.tallyPut_waits_tally hgoes v n
  | false => exact Block.tally_of_view ((Block.tallyPut_view hgoes v).trans
      ((Block.tallyIn_exhausted hclass ((Block.stage_count ..).trans hstage) _).trans (Block.tallyView_count ..))) n

theorem Block.tallyPut_other {id n : Nat} (hother : n ≠ id) (v : Nat) : (b.tallyPut id v).tally n = b.tally n := by
  by_cases htakes : tallyClassA id = true → b.stage ≠ stageExhausted
  · cases hgoes : !b.clk.cmds.isEmpty || b.tallyFull id with
    | true => exact Block.tallyPut_waits_tally hgoes v n
    | false => exact (Block.tallyPut_taken hgoes htakes v n).trans (look_put_other _ _ _ _ hother)
  · obtain ⟨hclass, hstage⟩ := Classical.not_imp.mp htakes
    exact Block.tallyPut_exhausted hclass (not_not.mp hstage) v n

/-- Settles O44: each clause by what becomes of the write: it waits, is refused, or is shown. -/
theorem tallyReadsBackAndOthersStay : Obligations.TallyReadsBackAndOthersStay := by
  refine fun b id v => ⟨fun hidle hroom htakes => ?_, fun n hother => Block.tallyPut_other hother v, fun hwaits => ?_,
    fun hclass hstage n => Block.tallyPut_exhausted hclass hstage v n⟩
  · have hgoes : (!b.clk.cmds.isEmpty || b.tallyFull id) = false := by
      rw [hidle, Block.tallyFull, decide_eq_false hroom.not_ge]
      rfl
    rw [Block.tallyPut_taken hgoes htakes, look_put_same]
  · refine Block.tallyPut_waits ?_ v
    rw [Bool.or_eq_true, Bool.not_eq_true', List.isEmpty_eq_false_iff]
    exact .inl hwaits

/-! ### What a tally write leaves -/

/-- c is b but for registers, counters, the flash and the crossings. -/
def Block.tallyOnly (b c : Block) : Prop := c = { b with regs := c.regs, counts := c.counts, flash := c.flash, clk := c.clk }

theorem Block.tallyOnly.trans {d : Block} (h : b.tallyOnly c) (g : c.tallyOnly d) : b.tallyOnly d := by
  unfold Block.tallyOnly at h g
  rw [g, h]
  rfl

theorem Block.tallyOnly_count (b : Block) (s : CntSet) (n k : Nat) : b.tallyOnly (b.count s n k) := by
  rw [Block.count_eq]
  rfl

theorem Block.programmed.tallyOnly (h : b.programmed c) : b.tallyOnly c := by
  unfold Block.programmed at h
  rw [h]
  rfl

theorem Block.tallyOnly_tallyIn (b : Block) (id v : Nat) : b.tallyOnly (b.tallyIn id v) := by
  unfold Block.tallyIn
  split
  · exact Block.tallyOnly.trans (by exact rfl) (Block.tallyOnly_count ..)
  split
  · exact Block.tallyOnly.trans (by exact rfl) (Block.tallyOnly_count ..)
  · dsimp only
    split
    · exact Block.tallyOnly.trans (by exact rfl) (Block.tallyOnly_count ..)
    · rfl

theorem Block.tallyOnly_tallyTake (b : Block) (l : List (Nat × Nat)) : b.tallyOnly (b.tallyTake l) := by
  induction l generalizing b with
  | nil => rfl
  | cons t rest ih =>
    unfold Block.tallyTake
    split
    · rfl
    · exact Block.tallyOnly.trans (Block.tallyOnly.trans (by exact rfl) (Block.tallyOnly_count ..))
        ((Block.tallyOnly_tallyIn ..).trans (ih _))

theorem Block.tallyOnly_flushTallies (b : Block) (n : Nat) : b.tallyOnly (b.flushTallies n) := by
  induction n generalizing b with
  | zero => rfl
  | succ n ih =>
    unfold Block.flushTallies
    split
    · rfl
    next t _ =>
      split
      · cases hfirst : b.putFirst t with
        | none => rfl
        | some c => exact (Block.putFirst_programmed hfirst).tallyOnly
      next c hput =>
        exact (Block.putReq_programmed hput).tallyOnly.trans
          (Block.tallyOnly.trans (by exact rfl) ((Block.tallyOnly_tallyTake ..).trans (ih _)))

/-- A tally write changes registers, counters, the flash and the crossings, and nothing else. -/
theorem Block.tallyOnly_tallyPut (b : Block) (id v : Nat) : b.tallyOnly (b.tallyPut id v) := by
  unfold Block.tallyPut
  dsimp only
  split
  · split
    · exact (Block.tallyOnly_count ..).trans (by exact rfl)
    · rfl
  · exact (Block.tallyOnly_count ..).trans ((Block.tallyOnly_tallyIn ..).trans (Block.tallyOnly_flushTallies ..))

end Sys2Proof.Machine
end

section
/-! The events of the Assay die and its mirrors (R472, R474, R475, R479, R484, R485, R487, R490). -/

namespace Sys2Proof.Machine

variable (s : State)

/-- Mirroring reaches the block alone. -/
theorem State.mirror_eq : ∃ b, s.mirror = { s with blk := b } := by
  unfold State.mirror
  dsimp only
  split
  · exact ⟨s.blk, rfl⟩
  · exact ⟨_, rfl⟩

/-- While group 10 is parked the mirrors stand. -/
theorem State.mirror_parked (hparked : s.blk.parked 10 = true) : s.mirror = s := if_pos hparked

variable {s} in
theorem State.onAssay_congr {f g : Assay → Assay} (h : f s.assay = g s.assay) : s.onAssay f = s.onAssay g := by
  rw [State.onAssay, h, State.onAssay]

section
variable {s} (hup : s.assay.up = true)
include hup

theorem exec_assaySample_up (codes : List (Int × Int)) :
    exec (.assaySample codes) s = .next (s.onAssay (fun a => a.sample codes)) :=
  congrArg Host.Outcome.next (State.onAssay_congr (if_pos hup))

theorem exec_assayPulse_owed (howed : 0 < s.assay.pulseOwed) : exec .assayPulse s =
    .next { s with assay := { s.assay with pulseOwed := s.assay.pulseOwed - 1, pulses := s.assay.pulses + 1 }, blk := s.blk.emit .pulse } :=
  congrArg Host.Outcome.next (if_pos (by rw [hup, decide_eq_true howed]; rfl))

theorem exec_intervalRecord_due (hdue : s.assay.recDue = true) : exec .intervalRecord s = .next (s.onAssay Assay.interval) :=
  congrArg Host.Outcome.next (State.onAssay_congr (if_pos (by rw [hup, hdue]; rfl)))

theorem exec_sealChange_changes {v : Bool} (hseal : s.assay.sealOpen = !v) : exec (.sealChange v) s =
    .next (s.onAssay (fun a => ({ a with sealOpen := v }).logAdd (if v then 3 else 4))) :=
  congrArg Host.Outcome.next (State.onAssay_congr (if_neg (by rw [hup, hseal]; cases v <;> decide)))

theorem exec_assaySupplyFail_sudden : exec (.assaySupplyFail false) s = .next (s.onAssay (fun a => { a with up := false })) :=
  congrArg Host.Outcome.next (State.onAssay_congr (by simp only [Assay.supplyFail, hup, Bool.not_true, Bool.false_eq_true, if_false]))

theorem exec_assaySupplyFail_holdup {c : Assay} (hc : c = s.assay.settleDue.logAdd 2) : exec (.assaySupplyFail true) s =
    .next (s.onAssay (fun _ => { c with up := false, check := some ⟨c.eIn, c.eOut, c.rtc, c.sets, c.run, c.pulseAcc, c.seq⟩ })) := by
  subst hc
  exact congrArg Host.Outcome.next (State.onAssay_congr
    (by simp only [Assay.supplyFail, hup, Bool.not_true, Bool.false_eq_true, if_false, if_true]))

theorem exec_assayCrystalFault_sound (hsound : s.assay.clockFault = false) : exec .assayCrystalFault s =
    .next (s.onAssay (fun a => ({ a with clockFault := true, sawClock := true }).logAdd 11)) :=
  congrArg Host.Outcome.next (State.onAssay_congr (if_neg (by rw [hup, hsound]; decide)))

theorem exec_assayCrystalRecovered_failed (hfailed : s.assay.clockFault = true) : exec .assayCrystalRecovered s =
    .next (s.onAssay (fun a => ({ a with clockFault := false }).logAdd 12)) :=
  congrArg Host.Outcome.next (State.onAssay_congr (if_pos (by rw [hup, hfailed]; rfl)))

end

/-- A supply that returns brings the die up, with its time lost and the loss marked (R484). -/
theorem Assay.supplyReturn_down {a : Assay} (hdown : a.up = false) :
    a.supplyReturn.up = true ∧ a.supplyReturn.timeLost = true ∧ a.supplyReturn.sawPower = true := by
  simp only [Assay.supplyReturn, hdown, Bool.false_eq_true, if_false]
  exact ⟨rfl, rfl, rfl⟩

/-- Settles O47: each clause by the lemma on its event. -/
theorem assayEventEffects : Obligations.AssayEventEffects := by
  refine ⟨fun _ => rfl, fun s => ⟨s.mirror_parked, ?_⟩, fun _ _ => rfl,
    fun s hup => ⟨exec_assaySample_up hup, exec_assayPulse_owed hup, exec_intervalRecord_due hup,
      fun _ => exec_sealChange_changes hup, exec_assaySupplyFail_sudden hup, fun _ => exec_assaySupplyFail_holdup hup,
      exec_assayCrystalFault_sound hup, exec_assayCrystalRecovered_failed hup⟩,
    fun s hdown => ⟨rfl, Assay.supplyReturn_down hdown⟩⟩
  obtain ⟨b, hmirror⟩ := s.mirror_eq
  rw [hmirror]
  exact ⟨rfl, rfl, rfl⟩

end Sys2Proof.Machine
end

section
/-! The commands of the Assay die through its two inputs (R471, R475, R487 to R489). -/

namespace Sys2Proof.Machine

variable {s : State}

/-! ### The calibration port -/

theorem State.calDo_open (hup : s.assay.up = true) (hopen : s.assay.sealOpen = true) (cmd arg : Nat) (data : List Byte) :
    s.calDo cmd arg data = ({ s with
      assay := (s.assay.settleDue.calCmd cmd arg data).die
      blk := s.blk.emit (.cal (calReply cmd arg (s.assay.settleDue.calCmd cmd arg data))) } : State).mirror :=
  if_neg (by rw [hup, hopen]; decide)

theorem State.calDo_sealed (hsealed : s.assay.sealOpen = false) (cmd arg : Nat) (data : List Byte) : s.calDo cmd arg data = s :=
  if_pos (by rw [hsealed, Bool.not_false, Bool.or_true])

/-- A good frame runs the command it holds (R488). -/
theorem exec_calibrationFrame_good {f : List Byte} (hup : s.assay.up = true) (hopen : s.assay.sealOpen = true)
    (hlen : f.length = numAt f 2 2 + 10) (hstart : numAt f 0 1 = 0xA5)
    (hcrc : crc16 ((f.drop 1).take (numAt f 2 2 + 7)) = numAt f (8 + numAt f 2 2) 2) :
    exec (.calibrationFrame f true) s = .next (s.calDo (numAt f 1 1) (numAt f 4 4) ((f.drop 8).take (numAt f 2 2))) := by
  change Host.Outcome.next (s.calFrame f true) = _
  simp only [State.calFrame, ← hlen, hstart, hcrc, hup, hopen, beq_self_eq_true, Bool.and_self, Bool.not_true, Bool.or_self,
    Bool.false_eq_true, and_false, if_false]

/-! ### The Hatch -/

theorem Block.set_hatch (b : Block) (f : Fld) (v : Nat) : (b.set f v).hatch = b.hatch := rfl

@[simp] theorem Block.count_hatch (b : Block) (c : CntSet) (n k : Nat) : (b.count c n k).hatch = b.hatch := by
  unfold Block.count
  split <;> rfl

theorem Block.hatchEnd_hatch (b : Block) (r : AssayResult) (data : List Byte) : (b.hatchEnd r data).hatch = none := by
  rw [Block.hatchEnd, Block.count_hatch]

/-- The argument of a command is no part of a group's state. -/
theorem Block.parked_set_arg (b : Block) (v g : Nat) : (b.set F.HATCH_ARG0.ARG0 v).parked g = b.parked g := by
  rw [Block.parked, Block.get_set_other _ _ (by decide), Block.parked]

section
variable (hidle : s.blk.hatch = none)
include hidle

/-- With none in progress the writes of ARG0 and HATCH_CMD come first (R487). -/
theorem exec_assayStatus_hatch_idle : exec (.assayStatus .hatch) s =
    .next (if ((s.blk.set F.HATCH_ARG0.ARG0 0).hatchStart s.assay .bar0 1).hatch.isSome
      then ({ s with blk := (s.blk.set F.HATCH_ARG0.ARG0 0).hatchStart s.assay .bar0 1 } : State).hatchRun 1
      else { s with blk := (s.blk.set F.HATCH_ARG0.ARG0 0).hatchStart s.assay .bar0 1 }) := by
  change Host.Outcome.next (s.hatchDo 1 0 []) = _
  rw [State.hatchDo, hidle]
  rfl

theorem exec_assayStatus_hatch_down (hdown : s.assay.up = false) :
    exec (.assayStatus .hatch) s = s.next ((s.blk.set F.HATCH_ARG0.ARG0 0).hatchEnd .down []) := by
  have hstart : (s.blk.set F.HATCH_ARG0.ARG0 0).hatchStart s.assay .bar0 1 = (s.blk.set F.HATCH_ARG0.ARG0 0).hatchEnd .down [] := by
    simp only [Block.hatchStart, Block.set_hatch, hidle, hdown, Option.isSome_none, Bool.not_false, Bool.false_eq_true, if_false, if_true]
  simp only [exec_assayStatus_hatch_idle hidle, hstart, Block.hatchEnd_hatch, Option.isSome_none, Bool.false_eq_true, if_false, State.next]

section
variable (hup : s.assay.up = true)
include hup

theorem exec_assayStatus_hatch_parked (hparked : s.blk.parked 10 = true) :
    exec (.assayStatus .hatch) s = s.next ((s.blk.set F.HATCH_ARG0.ARG0 0).hatchEnd .timeout []) := by
  have hstart : (s.blk.set F.HATCH_ARG0.ARG0 0).hatchStart s.assay .bar0 1 = (s.blk.set F.HATCH_ARG0.ARG0 0).hatchEnd .timeout [] := by
    simp only [Block.hatchStart, Block.set_hatch, Block.parked_set_arg, hidle, hup, hparked, Option.isSome_none, Bool.not_true,
      Bool.false_eq_true, if_false, if_true]
  simp only [exec_assayStatus_hatch_idle hidle, hstart, Block.hatchEnd_hatch, Option.isSome_none, Bool.false_eq_true, if_false, State.next]

/-- A command that starts is BUSY, crosses to the die and runs (R487). -/
theorem exec_assayStatus_hatch_runs {b : Block} (hparked : s.blk.parked 10 = false)
    (hb : b = ((s.blk.set F.HATCH_ARG0.ARG0 0).hatchStatus 1 0 0).count (.clk 10) C.CLK.XFER) :
    exec (.assayStatus .hatch) s = .next (({ s with blk := { b with hatch := some 1 } } : State).hatchRun 1) := by
  have hstart : (s.blk.set F.HATCH_ARG0.ARG0 0).hatchStart s.assay .bar0 1 = { b with hatch := some 1 } := by
    simp only [Block.hatchStart, Block.set_hatch, Block.parked_set_arg, hidle, hup, hparked, Option.isSome_none, Bool.not_true,
      Bool.false_eq_true, if_false, ← hb, Nat.reduceMod]
  simp only [exec_assayStatus_hatch_idle hidle, hstart, Option.isSome_some, if_true]

end

end

theorem State.hatchDo_same {c : Nat} (hbusy : s.blk.hatch = some c) (arg : Nat) (req : List Byte) : s.hatchDo c arg req = s.hatchRun c := by
  simp only [State.hatchDo, hbusy, if_true]

/-- While a command is in progress the start of another is ignored with a NOTE record (R487). -/
theorem State.hatchDo_other {c k : Nat} (hbusy : s.blk.hatch = some c) (hother : c ≠ k) (arg : Nat) (req : List Byte) :
    s.hatchDo k arg req = { s with blk := s.blk.noteWrite .bar0 R.HATCH_CMD k } := by
  simp only [State.hatchDo, hbusy, hother, if_false]

theorem exec_hatchCmdFailed_busy {c : Nat} (hbusy : s.blk.hatch = some c) (timeout : Bool) :
    exec (.hatchCmdFailed timeout) s = s.next (s.blk.hatchEnd (if timeout then .timeout else .down) []) :=
  congrArg s.next (if_pos (by rw [hbusy]; rfl))

/-- Settles O48: the calibration port by `State.calDo_open`, the Hatch by what stands in it. -/
theorem assayCommandEffects : Obligations.AssayCommandEffects := by
  refine ⟨fun s hup hopen => ⟨fun cmd arg _ r => ({ s with assay := r.die, blk := s.blk.emit (.cal (calReply cmd arg r)) } : State).mirror,
      fun _ _ _ _ => rfl, ?_⟩,
    fun s hdown hidle => exec_assayStatus_hatch_down hidle hdown,
    fun s hup hidle hparked => exec_assayStatus_hatch_parked hidle hup hparked,
    fun s b hup hidle hparked hb => exec_assayStatus_hatch_runs hidle hup hparked hb,
    fun s c k hbusy hother => State.hatchDo_other hbusy hother 0 [],
    fun s c hbusy => ?_, fun s c hbusy => ⟨exec_hatchCmdFailed_busy hbusy true, exec_hatchCmdFailed_busy hbusy false⟩,
    fun s f => exec_calibrationFrame_good, fun a x n => ⟨rfl, rfl, rfl, rfl, rfl, rfl, rfl⟩⟩
  · have hport (cmd arg : Nat) (data : List Byte) :=
      congrArg (Host.Outcome.next (φ := Fault) (ρ := Refusal)) (State.calDo_open hup hopen cmd arg data)
    exact ⟨hport 1 0 [], hport 2 0 [], fun n => hport 3 n [], fun n => hport 4 n [], hport 5 0, hport 16 0 [], hport 17 0, hport 18,
      fun t => hport 19 t.toNat []⟩
  · have hsame (k arg : Nat) (req : List Byte) (h : c = k) :=
      congrArg (Host.Outcome.next (φ := Fault) (ρ := Refusal)) (State.hatchDo_same (h ▸ hbusy) arg req)
    exact ⟨hsame 1 0 [], hsame 2 0 [], fun n => hsame 3 n [], fun n => hsame 4 n [], fun x => hsame 5 0 x, hsame 16 0 [],
      fun x => hsame 17 0 x, fun n x => hsame 18 n x, fun t => hsame 19 t.toNat []⟩

end Sys2Proof.Machine
end

section
/-! What the seal guards on the Assay die, and its energy registers (R471, R472, R475, R476, R482). -/

namespace Sys2Proof.Machine

variable (a : Assay)

/-! ### Parameters, keys, seals and energies -/

/-- What R475 and R476 put under the seal, with the energies. -/
def Assay.sealedPart (a : Assay) : AssayParam × Option AssayParam × List Byte × List Byte × Nat × List Energy × List Energy :=
  (a.params, a.next, a.kRec, a.kTime, a.seals, a.eIn, a.eOut)

theorem Assay.sealedPart_logAdd (ty ch : Nat) (data : List Byte) : (a.logAdd ty ch data).sealedPart = a.sealedPart := rfl

theorem Assay.sealedPart_interval : a.interval.sealedPart = a.sealedPart := rfl

theorem Assay.sealedPart_ite {c : Prop} [Decidable c] {d e : Assay} (hd : d.sealedPart = a.sealedPart) (he : e.sealedPart = a.sealedPart) :
    (if c then d else e).sealedPart = a.sealedPart := by
  split
  · exact hd
  · exact he

theorem Assay.sealedPart_setRtc (t : Nat) : (a.setRtc t).sealedPart = a.sealedPart := a.sealedPart_ite rfl rfl

theorem Assay.sealedPart_snapshot : a.cmdSnapshot.die.sealedPart = a.sealedPart := by
  unfold Assay.cmdSnapshot
  dsimp only
  split <;> split <;> rfl

theorem Assay.cmdReadRecord_die (seq : Nat) : (a.cmdReadRecord seq).die = a := by
  unfold Assay.cmdReadRecord
  split <;> rfl

theorem Assay.cmdReadLog_die (idx : Nat) : (a.cmdReadLog idx).die = a := by
  unfold Assay.cmdReadLog
  split <;> rfl

theorem Assay.sealedPart_timeSet (req : List Byte) : (a.cmdTimeSet req).die.sealedPart = a.sealedPart := by
  unfold Assay.cmdTimeSet
  dsimp only
  split
  · rfl
  split
  · rfl
  split
  · rfl
  · exact Assay.sealedPart_setRtc ..

/-! ### Sealed, or through the Hatch -/

/-- With the seal closed a write command is refused on either port. -/
theorem Assay.writeBar_sealed {a : Assay} (hsealed : a.sealOpen = false) (p : AssayIn) : a.writeBar p = some .refused :=
  if_pos (.inr (by rw [hsealed]; rfl))

/-- No command through the Hatch reaches what the seal guards. -/
theorem Assay.sealedPart_hatchCmd (cmd arg : Nat) (x : List Byte) : (a.hatchCmd cmd arg x).die.sealedPart = a.sealedPart := by
  unfold Assay.hatchCmd
  split
  case h_2 => exact a.sealedPart_snapshot
  case h_3 => rw [a.cmdReadRecord_die]
  case h_4 => rw [a.cmdReadLog_die]
  case h_5 => exact a.sealedPart_timeSet _
  all_goals rfl

theorem Assay.sealedPart_calCmd {a : Assay} (hsealed : a.sealOpen = false) (cmd arg : Nat) (x : List Byte) :
    (a.calCmd cmd arg x).die.sealedPart = a.sealedPart := by
  have hbar := Assay.writeBar_sealed hsealed .cal
  unfold Assay.calCmd
  split
  case h_2 => exact a.sealedPart_snapshot
  case h_3 => rw [a.cmdReadRecord_die]
  case h_4 => rw [a.cmdReadLog_die]
  case h_5 => exact a.sealedPart_timeSet _
  case h_7 => rw [Assay.cmdWriteParam, hbar]
  case h_8 => rw [Assay.cmdInstallKey, hbar]
  case h_9 => rw [Assay.cmdSetTime, hbar]
  all_goals rfl

/-! ### Energies -/

/-- An addition carries its whole units and keeps the rest (R472). -/
theorem Energy.add_exact (r : Energy) (e : Nat) :
    (r.add e).mwh * mwhUnits + (r.add e).res = r.mwh * mwhUnits + r.res + e ∧ (r.add e).res < mwhUnits := by
  refine ⟨?_, Nat.mod_lt _ (by decide)⟩
  have hparts := Nat.div_add_mod' (r.res + e) mwhUnits
  calc (r.mwh + (r.res + e) / mwhUnits) * mwhUnits + (r.res + e) % mwhUnits
      = r.mwh * mwhUnits + ((r.res + e) / mwhUnits * mwhUnits + (r.res + e) % mwhUnits) := by rw [Nat.add_mul, Nat.add_assoc]
    _ = r.mwh * mwhUnits + r.res + e := by rw [hparts, Nat.add_assoc]

/-- What a sample measures, beside pulses and time. -/
def Assay.metered (a : Assay) : AssayParam × List Energy × List Energy × List (Int × Int) := (a.params, a.eIn, a.eOut, a.present)

theorem Assay.metered_over (c : Nat) (v : Bool) : (a.over c v).metered = a.metered := by
  unfold Assay.over
  split <;> rfl

theorem Assay.metered_overs (v : Nat → Bool) (l : List Nat) : (l.foldl (fun (a : Assay) c => a.over c (v c)) a).metered = a.metered := by
  induction l generalizing a with
  | nil => rfl
  | cons c t ih => exact (ih _).trans (a.metered_over c (v c))

theorem nth_map_range {α : Type} (f : Nat → α) (d : α) (c : Fin 8) : nth ((List.range 8).map f) c.val d = f c.val := by
  simp [nth, c.isLt]

/-- The registers after a sample: for each channel its energy added to its direction, under parameters p (R472). -/
def Assay.measured (a : Assay) (p : AssayParam) (codes : List (Int × Int)) : AssayParam × List Energy × List Energy × List (Int × Int) :=
  (p, (List.range 8).map (fun c => (nth a.eIn c {}).add (p.energy c (nth codes c (0, 0))).toNat),
    (List.range 8).map (fun c => (nth a.eOut c {}).add (-(p.energy c (nth codes c (0, 0)))).toNat),
    (List.range 8).map (fun c => nth codes c (0, 0)))

/-- The parameters of a sample: those that wait, taken first (R477). -/
def Assay.switched (a : Assay) : Assay :=
  match a.next with
  | some p => { a with params := p, other := a.params, next := none, sawParam := true }
  | none => a

/-- The die with a sample's energies, before OVERRANGE, pulses and time. -/
def Assay.metering (a : Assay) (codes : List (Int × Int)) : Assay :=
  let cs := (List.range 8).map (fun c => nth codes c (0, 0))
  let es := (List.range 8).map (fun c => a.params.energy c (nth cs c (0, 0)))
  { a with
    present := cs
    eIn := (List.range 8).map (fun c => (nth a.eIn c {}).add (nth es c 0).toNat)
    eOut := (List.range 8).map (fun c => (nth a.eOut c {}).add (-(nth es c 0)).toNat) }

theorem Assay.metered_metering (codes : List (Int × Int)) : (a.metering codes).metered = a.measured a.params codes := by
  have hcode (c : Nat) (hc : c ∈ List.range 8) : nth ((List.range 8).map (fun c => nth codes c (0, 0))) c (0, 0) = nth codes c (0, 0) :=
    nth_map_range _ _ ⟨c, List.mem_range.mp hc⟩
  have henergy : (List.range 8).map (fun c => a.params.energy c (nth ((List.range 8).map (fun c => nth codes c (0, 0))) c (0, 0))) =
      (List.range 8).map (fun c => a.params.energy c (nth codes c (0, 0))) :=
    List.map_congr_left fun c hc => congrArg (a.params.energy c) (hcode c hc)
  have hnth (c : Nat) (hc : c ∈ List.range 8) : nth ((List.range 8).map (fun c => a.params.energy c (nth codes c (0, 0)))) c 0 =
      a.params.energy c (nth codes c (0, 0)) := nth_map_range _ _ ⟨c, List.mem_range.mp hc⟩
  simp only [Assay.metering, Assay.metered, Assay.measured, henergy, Prod.mk.injEq, true_and, and_true]
  exact ⟨List.map_congr_left fun c hc => by rw [hnth c hc], List.map_congr_left fun c hc => by rw [hnth c hc]⟩

/-- A sample takes waiting parameters first and measures under those (R472, R477). -/
theorem Assay.metered_sample (codes : List (Int × Int)) : (a.sample codes).metered = a.measured (a.next.getD a.params) codes := by
  have hmetering : (a.sample codes).metered = (a.switched.metering codes).metered := by
    unfold Assay.sample
    extract_lets _ _ _ _ overs
    have hovers : overs.metered = (a.switched.metering codes).metered := Assay.metered_overs ..
    split <;> exact hovers
  rw [hmetering, Assay.metered_metering, Assay.switched]
  cases a.next <;> rfl

/-- Settles O49: what the seal guards by `Assay.sealedPart`, energies by what a sample measures. -/
theorem sealAndEnergyHold : Obligations.SealAndEnergyHold := by
  refine ⟨fun a p cmd arg x hguard d hd => ?_, fun r e => r.add_exact e, fun a codes c p hp => ⟨_, rfl, ?_⟩⟩
  · have hsame : d.sealedPart = a.sealedPart := by
      rcases hd with rfl | ⟨hcal, rfl⟩
      · exact a.sealedPart_hatchCmd cmd arg x
      · rcases hguard with hsealed | hhatch
        · exact Assay.sealedPart_calCmd hsealed cmd arg x
        · rw [hcal] at hhatch
          cases hhatch
    simpa only [Assay.sealedPart, Prod.mk.injEq] using hsame
  · have hmetered := a.metered_sample codes
    rw [← hp] at hmetered
    simp only [Assay.metered, Assay.measured, Prod.mk.injEq] at hmetered
    obtain ⟨hparams, hin, hout, hpresent⟩ := hmetered
    refine ⟨hparams, ?_, ?_, hpresent⟩
    · rw [hin, nth_map_range]
    · rw [hout, nth_map_range]

/-! ### SET_TIME through the calibration port -/

/-- A due record leaves everything that a time set reads but the marks of the interval. -/
def Assay.timePart (a : Assay) : Nat × Nat × List (Nat × Nat) × List Byte × List Energy × List Energy :=
  (a.seals, a.tsSeq, a.sets, a.kTime, a.eIn, a.eOut)

theorem Assay.timePart_settleDue : a.settleDue.timePart = a.timePart := by
  unfold Assay.settleDue
  split <;> rfl

theorem Assay.setRtc_time (t : Nat) : (a.setRtc t).rtc = t ∧ (a.setRtc t).timePart = a.timePart := by
  unfold Assay.setRtc
  dsimp only
  split <;> exact ⟨rfl, rfl⟩

theorem Assay.writeBar_settleDue (p : AssayIn) : a.settleDue.writeBar p = a.writeBar p := by
  unfold Assay.settleDue
  split <;> rfl

/-- With the seal open, room in its counter and no flash fault the port may write. -/
theorem Assay.writeBar_cal {a : Assay} (hopen : a.sealOpen = true) (hroom : a.seals < 4096) (hsound : a.flashFault = false) :
    a.writeBar .cal = none := by
  simp only [Assay.writeBar, hopen, hsound, hroom.not_ge, reduceCtorEq, Bool.not_true, Bool.false_eq_true, or_self, if_false]

/-- Settles O58: with the seal open by what `Assay.setRtc` sets and leaves. -/
theorem calibrationPortSetsTime : Obligations.CalibrationPortSetsTime := by
  intro s v
  refine ⟨fun hup hopen hroom hsound => ?_, fun hsealed => congrArg Host.Outcome.next (State.calDo_sealed hsealed ..)⟩
  obtain ⟨t, hexec, hdie⟩ := exec_assay s (c := .setTime .cal v) rfl
  have hset : t.assay = ({ s.assay.settleDue with seals := s.assay.settleDue.seals + 1 } : Assay).setRtc v.toNat := by
    have hbar : s.assay.settleDue.writeBar .cal = none := (s.assay.writeBar_settleDue .cal).trans (Assay.writeBar_cal hopen hroom hsound)
    have hword : v.toNat % 2 ^ 32 = v.toNat := Nat.mod_eq_of_lt v.isLt
    rw [hdie, dieAfter, Assay.afterCal, hup, hopen]
    simp only [Bool.not_true, Bool.or_self, Bool.false_eq_true, if_false, Assay.calCmd, Assay.cmdSetTime, hbar, hword]
  obtain ⟨hrtc, htime⟩ := Assay.setRtc_time { s.assay.settleDue with seals := s.assay.settleDue.seals + 1 } v.toNat
  have hkept := s.assay.timePart_settleDue
  rw [← hset] at hrtc htime
  simp only [Assay.timePart, Prod.mk.injEq] at htime hkept
  obtain ⟨hseals, hseq, hsets, hkey, hin, hout⟩ := htime
  obtain ⟨hseals', hseq', hsets', hkey', hin', hout'⟩ := hkept
  exact ⟨t, hexec, hrtc, hseals.trans (congrArg (· + 1) hseals'), hseq.trans hseq', hsets.trans hsets', hkey.trans hkey',
    hin.trans hin', hout.trans hout'⟩

end Sys2Proof.Machine
end

section
/-! The host port: resets, link, WAKE_N, descriptor rings and DMA errors (R332 to R338). -/

namespace Sys2Proof.Machine

variable {s : State} {b c : Block}

/-! ### A register with a rule of its own, written over a road -/

/-- A write that its road lets through has its register's effect. -/
theorem State.busWrite_open {road : Road} {a v : Nat} {f : Block → Block} (hroad : s.blk.roadStops road a = none)
    (hspace : s.spaceWrite road a v = s.onBlk f) : s.busWrite road a v = { s with blk := f s.blk } :=
  (s.viaRoad_open road a v _ hroad).trans hspace

/-! ### The link and WAKE_N -/

section
variable {x : LinkFacts} (hruns : s.blk.runs 3 = true)
include hruns

theorem exec_hostPortUp_up (hb : b = s.blk.hostLink x) (hkept : s.blk.host.linkUp = false ∨ x.l0 = true) : exec (.hostPortUp x) s =
    s.next ({ b with clerk := { b.clerk with msixMask := x.mask } } : Block).feedAll.msix := by
  have hlost : (s.blk.host.linkUp && !x.l0) = false := by
    rcases hkept with h | h
    · rw [h, Bool.false_and]
    · rw [h, Bool.not_true, Bool.and_false]
  subst hb
  exact congrArg s.next ((if_neg (by rw [hruns]; decide)).trans (if_neg (ne_true_of_eq_false hlost)))

theorem exec_hostPortUp_lost (hup : s.blk.host.linkUp = true) (hl0 : x.l0 = false) : exec (.hostPortUp x) s = s.next s.blk.hostReset :=
  congrArg s.next ((if_neg (by rw [hruns]; decide)).trans (if_pos (by rw [hup, hl0]; rfl)))

end

theorem exec_wakeNAssert_owed (howed : s.blk.host.wakeOwed = true) : exec .wakeNAssert s =
    s.next { s.blk with host := { s.blk.host with wakeOwed := false, wakeN := true, wakeAo := s.blk.ao } } :=
  congrArg s.next (if_pos howed)

theorem exec_wakeNTimeout_due (hdue : s.blk.host.wakeAo + 1000000000 ≤ s.blk.ao + tickNs) :
    exec .wakeNTimeout s = s.next { s.blk with host := { s.blk.host with wakeN := false } } := congrArg s.next (if_pos hdue)

/-! ### Rings enabled -/

theorem State.spaceWrite_ringCtrl (s : State) (road : Road) (v : Nat) :
    s.spaceWrite road (R.HOST_RING_CTRL 0) v = s.onBlk (fun b => b.ringCtrl 0 v) := rfl

/-- A ring that is enabled starts at index 0 and is stopped no more (R335). -/
theorem exec_ringCtrlEnable_starts {road : Road} {v : Word} (hroad : s.blk.roadStops road (R.HOST_RING_CTRL 0) = none)
    (hoff : s.blk.on (F.HOST_RING_CTRL.EN 0) = false) (hen : bitOf v.toNat 31 = true)
    (hb : b = (s.blk.setB (F.HOST_RING_CTRL.EN 0) true).set (F.HOST_RING_CTRL.SIZE_LOG2 0) v.toNat) :
    exec (.ringCtrlEnable road 0 v) s = s.next (((b.set (F.HOST_RING_PROD.PROD 0) 0).set (F.HOST_RING_CONS.CONS 0) 0).set
      F.HOST_STATUS.TX_STOPPED (setBit (b.get F.HOST_STATUS.TX_STOPPED) 0 false)) := by
  have hring : s.blk.ringCtrl 0 v.toNat = ((b.set (F.HOST_RING_PROD.PROD 0) 0).set (F.HOST_RING_CONS.CONS 0) 0).set
      F.HOST_STATUS.TX_STOPPED (setBit (b.get F.HOST_STATUS.TX_STOPPED) 0 false) := by
    subst hb
    simp only [Block.ringCtrl, hoff, hen]
    rfl
  exact congrArg Host.Outcome.next ((State.busWrite_open hroad (s.spaceWrite_ringCtrl road v.toNat)).trans (by rw [hring]))

/-! ### Transmit descriptors -/

section
variable {n : Fin 8} {d : TxDesc} (hruns : s.blk.ringRuns n.val = true) (hposted : s.blk.ringPosted n.val ≠ 0) (hread : d.dmaOk = true)
include hruns hposted hread

theorem exec_txDescriptor_read : exec (.txDescriptor n d) s = s.next (if d.len < 60 ∨ s.blk.mtu - 4 < d.len then s.blk.txDone n.val 3
    else if s.blk.txRefused n.val d then ((s.blk.txFrame n.val d).txDone n.val 2).count .host C.HOST.TX_NOT_ADMITTED
    else (s.blk.txFrame n.val d).txDone n.val 1) :=
  congrArg s.next ((if_neg (by simp [hruns, hposted])).trans (if_neg (by simp [hread])))

theorem exec_txDescriptor_length (hlen : d.len < 60 ∨ s.blk.mtu - 4 < d.len) :
    exec (.txDescriptor n d) s = s.next (s.blk.txDone n.val 3) :=
  (exec_txDescriptor_read hruns hposted hread).trans (congrArg s.next (if_pos hlen))

theorem exec_txDescriptor_sent (hmin : 60 ≤ d.len) (hmax : d.len ≤ s.blk.mtu - 4) (hadmitted : s.blk.txRefused n.val d = false) :
    exec (.txDescriptor n d) s = s.next ((s.blk.txFrame n.val d).txDone n.val 1) :=
  (exec_txDescriptor_read hruns hposted hread).trans (congrArg s.next
    ((if_neg (by omega)).trans (if_neg (ne_true_of_eq_false hadmitted))))

end

/-! ### Receive descriptors -/

theorem Block.frames_of_headOf {t : Nat} {f : CartFrame} (h : b.headOf t = some f) : ∃ rest, (b.trough t).frames = f :: rest := by
  unfold Block.headOf at h
  split at h
  · cases h
  next g rest hframes =>
    split at h
    · cases h
    · exact ⟨rest, hframes.trans (congrArg (· :: rest) (Option.some.inj h))⟩

section
variable {n : Fin 8} {f : CartFrame} (hruns : s.blk.ringRuns (8 + n.val) = true) (hhead : s.blk.headOf (16 + n.val) = some f)
include hruns hhead

/-- Without a descriptor the frame waits, which is counted once (R337). -/
theorem exec_rxDescriptorFill_waits (l : List RxDesc) (hposted : s.blk.ringPosted (8 + n.val) = 0)
    (hdata : s.blk.rxOctets n.val f ≠ []) (hfirst : f.waited = false) : exec (.rxDescriptorFill n l) s =
      s.next ((s.blk.setTrough { s.blk.trough (16 + n.val) with
        frames := { f with waited := true } :: (s.blk.trough (16 + n.val)).frames.drop 1 }).lane 3 4 1) := by
  obtain ⟨rest, hframes⟩ := Block.frames_of_headOf hhead
  have hshort : sumNat ((l.take (s.blk.ringPosted (8 + n.val))).map (fun d => d.bufLen)) < (s.blk.rxOctets n.val f).length := by
    rw [hposted, List.take_zero]
    exact List.length_pos_iff.mpr hdata
  have hwait : s.blk.rxWait (16 + n.val) = (s.blk.setTrough { s.blk.trough (16 + n.val) with
      frames := { f with waited := true } :: (s.blk.trough (16 + n.val)).frames.drop 1 }).lane 3 4 1 := by
    simp only [Block.rxWait, hframes, hfirst, Bool.false_eq_true, if_false, List.drop_succ_cons, List.drop_zero]
  change execRxDescriptorFill n l s = _
  simp only [execRxDescriptorFill, hruns, hhead, hshort, hwait, Bool.not_true, Bool.false_eq_true, if_false, if_true]

/-- A frame that a descriptor holds is laid into it, counted, and its cells are freed (R337). -/
theorem exec_rxDescriptorFill_filled {d : RxDesc} (hposted : 1 ≤ s.blk.ringPosted (8 + n.val))
    (hfits : (s.blk.rxOctets n.val f).length ≤ d.bufLen)
    (hfill : s.blk.rxFill (8 + n.val) f (s.blk.rxOctets n.val f) true [d] = (b, true)) (htake : b.takeHead (16 + n.val) = some (f, c)) :
    exec (.rxDescriptorFill n [d]) s = s.next ((c.poolDrop f.pool).cartCount 2 C.CART.TX_FRAMES) := by
  have hall : [d].take (s.blk.ringPosted (8 + n.val)) = [d] := List.take_of_length_le hposted
  have henough : ¬ sumNat ([d].map (fun d => d.bufLen)) < (s.blk.rxOctets n.val f).length := by
    rw [List.map_singleton, sumNat_eq_sum, List.sum_singleton]
    exact hfits.not_gt
  change execRxDescriptorFill n [d] s = _
  simp only [execRxDescriptorFill, hruns, hhead, hall, henough, hfill, htake, Bool.not_true, Bool.false_eq_true, if_false]

end

/-! ### DMA errors -/

/-- A failed transfer of a transmit ring with a descriptor posted: counted, done with status 4, the ring stopped (R338). -/
theorem exec_dmaFault_transmit {n : Fin 16} (htransmit : n.val < 8) (hruns : s.blk.ringRuns n.val = true)
    (hb : b = s.blk.count .host C.HOST.DMA_ERR) (hposted : b.ringPosted n.val ≠ 0) :
    exec (.dmaFault n) s = s.next (((b.txDone n.val 4).ringStop n.val).note 23 1) := by
  have herror : s.blk.dmaError n.val = (b.txDone n.val 4).ringStop n.val := by
    subst hb
    simp only [Block.dmaError, htransmit, hposted, if_true, if_false]
  refine congrArg s.next ((if_pos hruns).trans ?_)
  rw [Block.dmaFault, herror]

/-- Settles O27: each clause by the lemma on its command. -/
theorem hostPortEffects : Obligations.HostPortEffects :=
  ⟨fun _ => ⟨rfl, rfl, rfl, rfl⟩, fun _ _ _ hruns hb => ⟨exec_hostPortUp_up hruns hb, exec_hostPortUp_lost hruns⟩,
    fun _ => exec_wakeNAssert_owed, fun _ => exec_wakeNTimeout_due, fun _ _ _ _ => exec_ringCtrlEnable_starts,
    fun _ _ _ hruns hposted hread =>
      ⟨exec_txDescriptor_length hruns hposted hread, exec_txDescriptor_sent hruns hposted hread⟩,
    fun _ _ l _ hruns hhead => exec_rxDescriptorFill_waits hruns hhead l,
    fun _ _ _ _ _ _ hruns hhead => exec_rxDescriptorFill_filled hruns hhead, fun _ _ _ => exec_dmaFault_transmit⟩

end Sys2Proof.Machine
end

section
/-! Doorbells of the host rings and the indices they set (R335, R367). -/

namespace Sys2Proof.Machine

variable {s : State} {b : Block} {q : Fin 16} {v : BitVec 16}

theorem Block.get_ringConsume (b : Block) (q : Nat) :
    (b.ringConsume q).get (F.HOST_RING_CONS.CONS q) = (b.get (F.HOST_RING_CONS.CONS q) + 1) % 2 ^ 16 :=
  (b.get_set_same _ _).trans (Nat.mod_mod ..)

@[simp] theorem Block.count_clk (b : Block) (c : CntSet) (n k : Nat) : (b.count c n k).clk = b.clk := by
  unfold Block.count
  split <;> rfl

/-! ### The crossing of group 6 -/

/-- A doorbell that finds its crossing unparked and empty is one transfer of it. -/
theorem Block.valueSend_doorbell (hopen : b.parked 6 = false) (hidle : b.clk.values = []) (k w : Nat) :
    b.valueSend 6 k w = (b.count (.clk 6) C.CLK.XFER).doorbell k w := by
  have hback : ({ b with clk := { b.clk with values := [] } } : Block) = b := by rw [← hidle]
  have hsent : (({ b with clk := { b.clk with values := [({ g := 6, k := k, pub := w } : ValueX)] } } : Block)).parked 6 = false := hopen
  simp only [Block.valueSend, hidle, List.find?_nil, List.nil_append, hsent, Bool.false_eq_true, if_false, Block.valueTake,
    List.filter_cons, List.filter_nil, beq_self_eq_true, if_true, List.foldl_cons, List.foldl_nil, Block.valueDone,
    List.erase_cons_head, hback, Block.valueGot]
  rfl

/-- A value sent into a parked crossing that has no request is published (R367). -/
theorem Block.valueSend_published {g : Nat} (hparked : b.parked g = true) (hidle : b.clk.values = []) (k w : Nat) :
    b.valueSend g k w = { b with clk := { b.clk with values := [{ g := g, k := k, pub := w }] } } := by
  have hsent : (({ b with clk := { b.clk with values := [({ g := g, k := k, pub := w } : ValueX)] } } : Block)).parked g = true := hparked
  simp only [Block.valueSend, hidle, List.find?_nil, List.nil_append, hsent, if_true]

section
variable {g k : Nat} {x : ValueX} (hparked : b.parked g = true) (hone : b.clk.values = [x]) (hg : x.g = g) (hk : x.k = k)
include hparked hone hg hk

/-- Behind a published value one waits in the holding register (R367). -/
theorem Block.valueSend_held (hfirst : x.held = none) (w : Nat) :
    b.valueSend g k w = { b with clk := { b.clk with values := [{ x with held := some w }] } } := by
  subst hg hk
  have hsent : (({ b with clk := { b.clk with values := [{ x with held := some w }] } } : Block)).parked x.g = true := hparked
  simp only [Block.valueSend, hone, List.find?_cons, beq_self_eq_true, Bool.and_self, hfirst, Option.isSome_none,
    Bool.false_eq_true, if_false, Block.valueDone, List.erase_cons_head, List.nil_append, hsent, if_true]

/-- One that replaces a value already held there counts it as superseded (R367). -/
theorem Block.valueSend_replaces (hheld : x.held.isSome = true) (w : Nat) {c : Block}
    (hc : c = b.count (.clk (Fin.ofNat 11 g)) C.CLK.SUPERSEDED) :
    b.valueSend g k w = { c with clk := { c.clk with values := [{ x with held := some w }] } } := by
  subst hg hk
  have hparked' : c.parked x.g = true := by rw [hc, Block.parked, Block.get_count]; exact hparked
  have hone' : c.clk.values = [x] := by rw [hc, Block.count_clk, hone]
  have hsent : (({ c with clk := { c.clk with values := [{ x with held := some w }] } } : Block)).parked x.g = true := hparked'
  simp only [Block.valueSend, hone, List.find?_cons, beq_self_eq_true, Bool.and_self, hheld, if_true, ← hc, Block.valueDone, hone',
    List.erase_cons_head, List.nil_append, hsent]

end

/-! ### Doorbells -/

section
variable (hup : s.blk.host.linkUp = true)
include hup

theorem exec_doorbellWrite_ignored (hearly : s.blk.startIgnores .bar0 (R.HOST_RING_PROD q.val) = true) :
    exec (.doorbellWrite q v) s = s.next (s.blk.noteWrite .bar0 (R.HOST_RING_PROD q.val) v.toNat) :=
  congrArg s.next ((if_neg (by rw [hup]; decide)).trans (if_pos hearly))

theorem exec_doorbellWrite_sent (hstarted : s.blk.startIgnores .bar0 (R.HOST_RING_PROD q.val) = false) :
    exec (.doorbellWrite q v) s = s.next (s.blk.valueSend 6 q.val v.toNat) :=
  congrArg s.next ((if_neg (by rw [hup]; decide)).trans (if_neg (ne_true_of_eq_false hstarted)))

end

/-- Within the ring's size, or with the ring off, the producer index is stored and nothing more (R335). -/
theorem Block.doorbell_stored {k w : Nat} {c : Block} (hc : c = b.set (F.HOST_RING_PROD.PROD k) w)
    (hinside : (c.on (F.HOST_RING_CTRL.EN k) && decide (c.ringSize k < c.ringPosted k)) = false) : b.doorbell k w = c := by
  subst hc
  exact if_neg (ne_true_of_eq_false hinside)

theorem Block.doorbell_ahead {k w : Nat} {c : Block} (hc : c = b.set (F.HOST_RING_PROD.PROD k) w)
    (hen : c.on (F.HOST_RING_CTRL.EN k) = true) (hahead : c.ringSize k < c.ringPosted k) : b.doorbell k w = c.ringStop k := by
  subst hc
  exact if_pos (by rw [hen, decide_eq_true hahead]; rfl)

/-- A ring that stops is off. -/
theorem Block.on_ringStop (b : Block) (q : Fin 16) : (b.ringStop q.val).on (F.HOST_RING_CTRL.EN q.val) = false := by
  have hledger : ∀ g ∈ ledgerFields, (F.HOST_RING_CTRL.EN q.val).key ≠ g.key := by
    revert q; decide
  have hstatus : (F.HOST_RING_CTRL.EN q.val).key ≠ (if q.val < 8 then F.HOST_STATUS.TX_STOPPED else F.HOST_STATUS.RX_STOPPED).key := by
    revert q; decide
  rw [Block.on, Block.ringStop, (Block.ledgerOnly_fire ..).2 _ hledger, Block.get_set_other _ _ hstatus, Block.get_set_same]
  rfl

end Sys2Proof.Machine
end

section
/-! Served sources and the ledger copy (R341, R344, R346). -/

namespace Sys2Proof.Machine

variable {b : Block}

/-! ### What feeding leaves -/

/-- The served sources, the error books and the copy, which feeding the host ring leaves. -/
def Block.clerkView (b : Block) : List ServedSrc × List ErrBook × List LedgerRec × Nat :=
  (b.clerk.served, b.clerk.errs, b.clerk.copy, b.clerk.copyHead)

@[simp] theorem Block.clerkView_msix (b : Block) : b.msix.clerkView = b.clerkView := by
  unfold Block.msix
  dsimp only
  split
  · split <;> rfl
  · rfl

@[simp] theorem Block.clerkView_feedOne (b : Block) : b.feedOne.clerkView = b.clerkView := by
  unfold Block.feedOne
  split
  · rfl
  · exact Block.clerkView_msix _

@[simp] theorem Block.clerkView_feed (b : Block) (n : Nat) : (b.feed n).clerkView = b.clerkView := by
  induction n generalizing b with
  | zero => rfl
  | succ n ih =>
    unfold Block.feed
    split
    · rw [ih, Block.clerkView_feedOne]
    · rfl

@[simp] theorem Block.clerkView_traceRec (b : Block) (r : LedgerRec) : (b.traceRec r).clerkView = b.clerkView := by
  unfold Block.traceRec
  split <;> rfl

/-- A record written leaves the served sources and the error books, comes first in a copy of at most 4,096, and moves its head (R344). -/
theorem Block.clerkView_writeRec (b : Block) (r : LedgerRec) : ∃ older : List LedgerRec,
    older.length = min b.clerk.copy.length 4095 ∧
    (b.writeRec r).clerkView = (b.clerk.served, b.clerk.errs, r :: older, (b.clerk.copyHead + 1) % 2 ^ 32) := by
  have hlength : (b.clerk.copy.take 4095).length = min b.clerk.copy.length 4095 := by rw [List.length_take, Nat.min_comm]
  unfold Block.writeRec
  extract_lets wait lost kept copy _ c d
  have hview : ∃ older : List LedgerRec, older.length = min b.clerk.copy.length 4095 ∧
      c.clerkView = (b.clerk.served, b.clerk.errs, r :: older, (b.clerk.copyHead + 1) % 2 ^ 32) := by
    cases hlost : lost with
    | false => exact ⟨b.clerk.copy.take 4095, hlength, by simp only [c, copy, hlost]; rfl⟩
    | true =>
      exact ⟨upd (b.clerk.copy.take 4095) 4094 (fun q => { q with ovfl := true }), (length_upd ..).trans hlength,
        by simp only [c, copy, hlost]; rfl⟩
  have hsame : ((d.traceRec r).feedAll).clerkView = c.clerkView := by
    rw [Block.feedAll, Block.clerkView_feed, Block.clerkView_traceRec]
    simp only [d]
    split <;> rfl
  rw [hsame]
  exact hview

/-! ### Served sources -/

/-- The name of a served source. -/
def ServedSrc.name (x : ServedSrc) : Nat × Nat := (x.origin, x.src)

theorem Block.servedActive_iff {o n : Nat} : b.servedActive o n = true ↔ (o, n) ∈ b.clerk.served.map ServedSrc.name := by
  simp only [Block.servedActive, List.any_eq_true, Bool.and_eq_true, beq_iff_eq, List.mem_map, ServedSrc.name, Prod.mk.injEq]

theorem Block.served_find_none {o n : Nat} (hidle : b.servedActive o n = false) :
    b.clerk.served.findIdx? (fun x => x.origin == o && x.src == n) = none := by
  rw [List.findIdx?_eq_none_iff]
  exact fun x hx => Bool.eq_false_iff.mpr (List.any_eq_false.mp hidle x hx)

theorem Block.served_find_some {o n : Nat} (hactive : b.servedActive o n = true) :
    ∃ i, b.clerk.served.findIdx? (fun x => x.origin == o && x.src == n) = some i := by
  rw [← Option.isSome_iff_exists, List.findIdx?_isSome]
  exact hactive

theorem map_upd_of_fixed {α β : Type} {g : α → β} {f : α → α} (h : ∀ x, g (f x) = g x) (l : List α) (i : Nat) :
    (upd l i f).map g = l.map g := by
  induction l generalizing i with
  | nil => rfl
  | cons x t ih =>
    cases i with
    | zero => simp only [upd, List.map_cons, h]
    | succ i => simp only [upd, List.map_cons, ih]

section
variable {o n : Nat} (hidle : b.servedActive o n = false)
include hidle

theorem Block.fire_idle (p : List Byte) : b.fire o n p =
    ({ b with clerk := { b.clerk with served := b.clerk.served ++ [{ origin := o, src := n, arg := p }] } } : Block).writeRec
      (b.servedRec { origin := o, src := n, arg := p } 1) := by
  rw [Block.fire, Block.served_find_none hidle]

/-- A source that was idle joins the served list (R346). -/
theorem Block.fire_joins (p : List Byte) : (b.fire o n p).clerk.served = b.clerk.served ++ [{ origin := o, src := n, arg := p }] := by
  obtain ⟨older, -, hview⟩ := Block.clerkView_writeRec ({ b with clerk := { b.clerk with
    served := b.clerk.served ++ [{ origin := o, src := n, arg := p }] } } : Block) (b.servedRec { origin := o, src := n, arg := p } 1)
  rw [Block.fire_idle hidle]
  exact (Prod.mk.inj hview).1

theorem Block.serveDone_idle : b.serveDone o n = b := by rw [Block.serveDone, Block.served_find_none hidle]

end

/-- One that is active stays in its place and counts the refire (R346). -/
theorem Block.fire_active {o n : Nat} (hactive : b.servedActive o n = true) (p : List Byte) :
    b.fire o n p = { b with clerk := { b.clerk with served := (b.fire o n p).clerk.served } } ∧
      (b.fire o n p).clerk.served.map ServedSrc.name = b.clerk.served.map ServedSrc.name := by
  obtain ⟨i, hfind⟩ := Block.served_find_some hactive
  rw [Block.fire, hfind]
  exact ⟨rfl, map_upd_of_fixed (g := ServedSrc.name)
    (f := fun x : ServedSrc => { x with pending := true, refires := x.refires + 1, arg := p }) (fun _ => rfl) _ i⟩

/-- Once fired, a source is active. -/
theorem Block.fire_servedActive (b : Block) (o n : Nat) (p : List Byte) : (b.fire o n p).servedActive o n = true := by
  rw [Block.servedActive_iff]
  cases hactive : b.servedActive o n with
  | true => rwa [(Block.fire_active hactive p).2, ← Block.servedActive_iff]
  | false =>
    rw [Block.fire_joins hactive, List.map_append]
    exact List.mem_append_right _ List.mem_cons_self

/-- Settles O30: the served list by what firing makes of it, the copy by what `Block.clerkView_writeRec` shows. -/
theorem servedSourcesAndLedgerCopy : Obligations.ServedSourcesAndLedgerCopy := by
  refine ⟨fun b o n p => ⟨b.fire_servedActive o n p, fun hidle => Block.fire_joins hidle p, fun hactive => Block.fire_active hactive p,
    fun hidle => Block.serveDone_idle hidle⟩, fun b r hlen => ?_⟩
  obtain ⟨older, hlength, hview⟩ := b.clerkView_writeRec r
  simp only [Block.clerkView, Prod.mk.injEq] at hview
  obtain ⟨-, -, hcopy, hhead⟩ := hview
  refine ⟨?_, hhead, r, by rw [hcopy]; rfl, rfl⟩
  rw [hcopy, List.length_cons, hlength]
  omega

end Sys2Proof.Machine
end

section
/-! What a doorbell does (R335). -/

namespace Sys2Proof.Machine

theorem Block.servedActive_ringStop (b : Block) (q : Nat) : (b.ringStop q).servedActive 23 18 = true := Block.fire_servedActive ..

/-- Settles O28: a doorbell by the crossing it is sent into, then by what its ring makes of it. -/
theorem doorbellsAndIndices : Obligations.DoorbellsAndIndices := by
  refine ⟨fun b q => b.get_ringConsume q.val, fun _ _ _ => rfl, fun s q v b hup hstarted hopen hidle hb => ?_,
    fun s q v hup hearly => exec_doorbellWrite_ignored hup hearly, fun s q v x hup hstarted hparked => ?_⟩
  · have hexec : exec (.doorbellWrite q v) s = s.next ((s.blk.count (.clk 6) C.CLK.XFER).doorbell q.val v.toNat) :=
      (exec_doorbellWrite_sent hup hstarted).trans (congrArg s.next (Block.valueSend_doorbell hopen hidle _ _))
    rw [hexec]
    refine ⟨fun hoff => congrArg s.next (Block.doorbell_stored hb ?_), fun hinside => congrArg s.next (Block.doorbell_stored hb ?_),
      fun hen hahead => ⟨_, hexec.trans (congrArg s.next (Block.doorbell_ahead hb hen hahead)), rfl, b.on_ringStop q,
        b.servedActive_ringStop q.val⟩⟩
    · rw [hoff, Bool.false_and]
    · rw [decide_eq_false hinside.not_gt, Bool.and_false]
  · rw [exec_doorbellWrite_sent hup hstarted]
    refine ⟨fun hidle => congrArg s.next (Block.valueSend_published hparked hidle _ _), fun hone hg hk hfirst => ?_,
      fun hone hg hk hheld => ⟨_, rfl, ?_⟩⟩
    · exact congrArg s.next (Block.valueSend_held hparked hone hg hk hfirst _)
    · exact congrArg s.next (Block.valueSend_replaces hparked hone hg hk hheld _ rfl)

end Sys2Proof.Machine
end

section
/-! The commands of Clerk's ledger (R339 to R347). -/

namespace Sys2Proof.Machine

variable {s : State} {road : Road} {v : Word}

/-! ### Records -/

/-- An occurrence of a source without a record in the copy is a record of its own (R345). -/
theorem Block.pulse_first {b : Block} {r : LedgerRec} (hfirst : b.clerk.latest r.origin r.src = none) : b.pulse r = b.writeRec r := by
  rw [Block.pulse, hfirst]

/-! ### Ledger registers -/

theorem exec_ledgerTailWrite_open (hroad : s.blk.roadStops road R.CLERK_LEDGER_TAIL = none) :
    exec (.ledgerTailWrite road v) s = s.next (s.blk.ledgerTail road v.toNat) :=
  congrArg Host.Outcome.next (State.busWrite_open (f := fun b => b.ledgerTail road v.toNat) hroad rfl)

theorem exec_ledgerCfgWrite_open (hroad : s.blk.roadStops road R.CLERK_LEDGER_CFG = none) :
    exec (.ledgerCfgWrite road v) s = s.next (s.blk.ledgerCfg road v.toNat) :=
  congrArg Host.Outcome.next (State.busWrite_open (f := fun b => b.ledgerCfg road v.toNat) hroad rfl)

theorem exec_done_open (hroad : s.blk.roadStops road R.CLERK_DONE = none) :
    exec (.done road v) s = s.next (s.blk.serveDone (bitsOf v.toNat 12 8) (v.toNat % 256)) :=
  congrArg Host.Outcome.next (State.busWrite_open (f := fun b => b.serveDone (bitsOf v.toNat 12 8) (v.toNat % 256)) hroad rfl)

/-- A ledger that is enabled starts empty (R341). -/
theorem Block.ledgerCfg_enables {b : Block} {n : Nat} (hoff : b.on F.CLERK_LEDGER_CFG.EN = false) (hen : bitOf n 31 = true) :
    b.ledgerCfg road n = (((b.set F.CLERK_LEDGER_CFG.SIZE_LOG2 (n % 32)).set F.CLERK_LEDGER_CFG.EN 1).set F.CLERK_LEDGER_HEAD.HEAD
      0).set F.CLERK_LEDGER_TAIL.TAIL 0 := by
  simp only [Block.ledgerCfg, hoff, hen, Bool.false_eq_true, if_false, if_true]

/-! ### The message -/

section
variable (hup : s.blk.portUp = true) (hurgent : s.blk.clerk.msixUrgent = true) (hsince : 0 < s.blk.clerk.msixSince)
include hup hurgent hsince

/-- A message is due at once with an urgent record since the last one (R347). -/
theorem exec_msixMessage_due : exec .msixMessage s = s.next (if s.blk.clerk.msixMask then
      { s.blk with clerk := { s.blk.clerk with msixPend := true } }
    else { s.blk.emit .msix with clerk := { s.blk.clerk with msixSince := 0, msixFirst := 0, msixUrgent := false, msixPend := false } }) :=
  congrArg s.next (if_pos (by rw [hup, hurgent, decide_eq_true hsince]; rfl))

theorem exec_msixMessage_masked (hmask : s.blk.clerk.msixMask = true) :
    exec .msixMessage s = s.next { s.blk with clerk := { s.blk.clerk with msixPend := true } } :=
  (exec_msixMessage_due hup hurgent hsince).trans (congrArg s.next (if_pos hmask))

theorem exec_msixMessage_sent {b : Block} (hmask : s.blk.clerk.msixMask = false) (hb : b = s.blk.emit .msix) : exec .msixMessage s =
    s.next { b with clerk := { b.clerk with msixSince := 0, msixFirst := 0, msixUrgent := false, msixPend := false } } := by
  subst hb
  exact (exec_msixMessage_due hup hurgent hsince).trans (congrArg s.next (if_neg (ne_true_of_eq_false hmask)))

end

/-! ### The copy -/

/-- A read of the copy data over PCIe advances its index (R344). -/
theorem exec_copyDataRead_up (hup : s.blk.pcieDown = false) :
    exec .copyDataRead s = s.next (s.blk.set F.CLERK_COPY_IDX.IDX (s.blk.get F.CLERK_COPY_IDX.IDX + 1)) := by
  have hgives : (!s.blk.roadReads .bar0 R.CLERK_COPY_DATA7) = false := by rw [Block.roadReads, hup]; rfl
  have hread : s.busRead .bar0 R.CLERK_COPY_DATA7 = (_, { s with blk := (s.blk.readTakes s.fuse R.CLERK_COPY_DATA7).2 }) :=
    if_neg (ne_true_of_eq_false hgives)
  exact congrArg (fun t => Host.Outcome.next t.2) hread

/-- Settles O29: each clause by the lemma on its command. -/
theorem ledgerEffects : Obligations.LedgerEffects := by
  refine ⟨fun s o n k p hfirst => congrArg s.next (Block.pulse_first hfirst), fun _ => rfl, fun s road v n hroad hn => ?_,
    fun s road v hroad hoff hen => (exec_ledgerCfgWrite_open hroad).trans (congrArg s.next (Block.ledgerCfg_enables hoff hen)),
    fun s o n p x hidle hx => congrArg s.next (by rw [Block.fire, hidle, hx]), fun s road v => exec_done_open,
    fun s hup hurgent hsince => ⟨exec_msixMessage_masked hup hurgent hsince,
      fun hmask => ⟨_, rfl, exec_msixMessage_sent hup hurgent hsince hmask rfl⟩⟩,
    fun s => exec_copyDataRead_up, fun s n => ⟨_, rfl, ?_⟩⟩
  · rw [exec_ledgerTailWrite_open hroad, Block.ledgerTail, ← hn]
    exact ⟨fun hinside => congrArg s.next (if_neg hinside.not_gt), fun hahead => congrArg s.next (if_pos hahead)⟩
  · exact congrArg (fun l => s.next (s.blk.hitchCount.emit (.hitch l))) (List.append_nil _)

end Sys2Proof.Machine
end

section
/-! The error books (R491, R493, R494): detected errors, latching and acknowledgement. -/

namespace Sys2Proof.Machine

variable {s : State} {b : Block}

/-! ### Records leave the error books -/

theorem Block.writeRec_errs (b : Block) (r : LedgerRec) : (b.writeRec r).clerk.errs = b.clerk.errs := by
  obtain ⟨older, -, hview⟩ := b.clerkView_writeRec r
  simp only [Block.clerkView, Prod.mk.injEq] at hview
  exact hview.2.1

theorem Block.pulse_errs (b : Block) (r : LedgerRec) : (b.pulse r).clerk.errs = b.clerk.errs := by
  unfold Block.pulse
  split
  · split
    · split
      · rfl
      · exact b.writeRec_errs r
    · exact b.writeRec_errs r
  · exact b.writeRec_errs r

theorem Block.errBook_of_errs {c : Block} (h : c.clerk.errs = b.clerk.errs) (o : Nat) : c.errBook o = b.errBook o :=
  congrArg (fun l => (l.find? (fun e => e.origin == o)).getD { origin := o }) h

theorem Block.errBook_pulse (b : Block) (r : LedgerRec) (o : Nat) : (b.pulse r).errBook o = b.errBook o :=
  Block.errBook_of_errs (b.pulse_errs r) o

/-! ### A book set, a book cleared -/

theorem Block.errBook_origin (b : Block) (o : Nat) : (b.errBook o).origin = o := by
  unfold Block.errBook
  cases hfound : b.clerk.errs.find? (fun e => e.origin == o) with
  | none => rfl
  | some e =>
    have horigin := List.find?_some hfound
    simpa using horigin

theorem Block.errBook_setErr (b : Block) (e : ErrBook) : (b.setErr e).errBook e.origin = e := by
  have hnone : (b.clerk.errs.filter (fun q => q.origin != e.origin)).find? (fun q => q.origin == e.origin) = none := by simp
  have hself : [e].find? (fun q => q.origin == e.origin) = some e := by simp
  simp only [Block.setErr, Block.errBook, List.find?_append, hnone, hself]
  rfl

theorem Block.errBook_ackErr_same (b : Block) (o : Nat) : (b.ackErr o).errBook o = { origin := o } := by
  have hnone : (b.clerk.errs.filter (fun q => q.origin != o)).find? (fun q => q.origin == o) = none := by simp
  simp only [Block.ackErr, Block.errBook, hnone]
  rfl

theorem Block.errBook_ackErr_other {o k : Nat} (hother : o ≠ k) (b : Block) : (b.ackErr k).errBook o = b.errBook o := by
  have hfind : (b.clerk.errs.filter (fun q => q.origin != k)).find? (fun q => q.origin == o) =
      b.clerk.errs.find? (fun q => q.origin == o) := by
    rw [List.find?_filter]
    congr 1
    funext q
    by_cases h : q.origin = o
    · simp [h, hother]
    · simp [h]
  simp only [Block.ackErr, Block.errBook, hfind]

theorem Block.ackErr_of_none {o : Nat} (hnone : ∀ e ∈ b.clerk.errs, e.origin ≠ o) : b.ackErr o = b := by
  have hall : b.clerk.errs.filter (fun e => e.origin != o) = b.clerk.errs :=
    List.filter_eq_self.mpr (fun e he => bne_iff_ne.mpr (hnone e he))
  rw [Block.ackErr, hall]

/-! ### Latching (R493) -/

/-- The first error of an origin is its primary error and writes its record. -/
theorem Block.latch_first {o : Nat} {v : Sev} (hlow : v.code ≤ 3) (hfree : (b.errBook o).valid = false) (kind lane : Nat) (p : List Byte) :
    b.latch o v false kind lane p =
      (b.setErr { b.errBook o with valid := true, sev := v, escalated := false, kind := kind, lane := lane }).pulse
        { sev := v, escalated := false, origin := o, src := 0, kind := kind,
          time := (b.setErr { b.errBook o with valid := true, sev := v, escalated := false, kind := kind, lane := lane }).now, payload := padTo 16 p } := by
  unfold Block.latch
  extract_lets e send c
  rw [if_neg (by omega)]
  exact if_pos (by rw [hfree]; rfl)

theorem Block.errBook_latch_first {o : Nat} {v : Sev} (hlow : v.code ≤ 3) (hfree : (b.errBook o).valid = false) (kind lane : Nat)
    (p : List Byte) : (b.latch o v false kind lane p).errBook o =
      { b.errBook o with valid := true, sev := v, escalated := false, kind := kind, lane := lane } := by
  rw [Block.latch_first hlow hfree, Block.errBook_pulse]
  have hself := b.errBook_setErr { b.errBook o with valid := true, sev := v, escalated := false, kind := kind, lane := lane }
  rwa [show ({ b.errBook o with valid := true, sev := v, escalated := false, kind := kind, lane := lane } : ErrBook).origin = o from
    b.errBook_origin o] at hself

/-- One no worse than the primary error is counted. -/
theorem Block.errBook_latch_second {o : Nat} {v : Sev} (hlow : v.code ≤ 3) (hheld : (b.errBook o).valid = true)
    (hworse : v.code ≤ (b.errBook o).sev.code) (kind lane : Nat) (p : List Byte) :
    (b.latch o v false kind lane p).errBook o = (b.errBook o).second v.code := by
  have hlatch : b.latch o v false kind lane p = b.setErr ((b.errBook o).second v.code) := by
    unfold Block.latch
    extract_lets e send c
    rw [if_neg (by omega)]
    exact (if_neg (by rw [show e.valid = true from hheld]; decide)).trans (if_pos hworse)
  have hself := b.errBook_setErr ((b.errBook o).second v.code)
  rw [hlatch]
  rwa [show ((b.errBook o).second v.code).origin = o from b.errBook_origin o] at hself

/-! ### Acknowledgement (R494) -/

theorem exec_errAck_open {road : Road} {v : Word} (hroad : s.blk.roadStops road R.CLERK_ERR_ACK = none) :
    exec (.errAck road v) s = s.next (s.blk.ackErr (bitsOf v.toNat 12 8)) := congrArg s.next (Block.viaRoad_open _ road _ _ _ hroad)

theorem clerk_after_start (b : Block) (road : Road) : b.startIgnores road R.CLERK_ERR_ACK = false := by
  rw [Block.startIgnores, show (R.CLERK_ERR_ACK / 0x100000 != 2) = false from rfl, Bool.and_false]

theorem Block.roadStops_errAck_hitch (b : Block) : b.roadStops .hitch R.CLERK_ERR_ACK = none := by
  have hmay : b.hitchWrites R.CLERK_ERR_ACK = true := rfl
  unfold Block.roadStops
  rw [if_pos rfl, hmay]
  rfl

theorem Block.roadStops_errAck_creosh (hup : b.creoshUp = true) : b.roadStops .creosh R.CLERK_ERR_ACK = none := by
  unfold Block.roadStops
  rw [clerk_after_start, hup]
  rfl

theorem Block.roadStops_errAck_bar0 (hup : b.pcieDown = false) : b.roadStops .bar0 R.CLERK_ERR_ACK = none := by
  unfold Block.roadStops
  rw [clerk_after_start, hup]
  rfl

/-- Settles O59: the book of the origin is gone, so that the next error is a first one. -/
theorem acknowledgementClearsErrors : Obligations.AcknowledgementClearsErrors := by
  intro s road v hroad
  have hclear := s.blk.errBook_ackErr_same (bitsOf v.toNat 12 8)
  refine ⟨_, exec_errAck_open hroad, by rw [hclear]; rfl, by simp [hclear, ErrBook.secondary], fun o hother => Block.errBook_ackErr_other hother _,
    Block.ackErr_of_none, fun w kind lane p hlow => ?_, s.blk.roadStops_errAck_hitch, Block.roadStops_errAck_creosh,
    Block.roadStops_errAck_bar0⟩
  rw [Block.latch_first hlow (by rw [hclear]), hclear]
  rfl

/-! ### Detected errors (R491) -/

theorem Block.detected_row {fu : Fuses} {o code : Nat} {v : Sev} (hrow : faultSev o code = some v)
    (hplain : (o, code) ∉ [(5, 3), (6, 3), (7, 3), (9, 4)]) (lane n : Nat) :
    b.detected fu o code lane n = (b.faultSide fu o code n).fault o v code lane (bytesLE 2 lane) := by
  simp only [List.mem_cons, Prod.mk.injEq, List.not_mem_nil, or_false, not_or] at hplain
  obtain ⟨hmac0, hmac1, hmac2, htack⟩ := hplain
  have hbridle : ¬((5 ≤ o ∧ o ≤ 7) ∧ code = 3) := by omega
  unfold Block.detected
  rw [if_neg hbridle, if_neg htack]
  dsimp only
  rw [hrow]

theorem exec_errorDetected_row {o : Fin 25} {code : BitVec 8} {v : Sev} (hrow : faultSev o.val code.toNat = some v)
    (hplain : (o.val, code.toNat) ∉ [(5, 3), (6, 3), (7, 3), (9, 4)]) (lane : BitVec 16) (n : Nat) :
    exec (.errorDetected o code lane n) s =
      s.next ((s.blk.faultSide s.fuse o.val code.toNat n).fault o.val v code.toNat lane.toNat (bytesLE 2 lane.toNat)) := by
  have hdevice : o.val ≠ 22 := by
    intro h
    rw [h] at hrow
    cases hrow
  rw [← Block.detected_row hrow hplain]
  exact if_neg hdevice

/-- The CRC errors of the Bridle act by their count (R95). -/
theorem exec_errorDetected_bridle {o : Fin 25} (hmac : 5 ≤ o.val ∧ o.val ≤ 7) (lane : BitVec 16) (n : Nat) :
    exec (.errorDetected o 3 lane n) s = s.next (s.blk.bridleCrc (lmRadio o.val) 3) := by
  have hdevice : o.val ≠ 22 := by omega
  exact (if_neg hdevice).trans (congrArg s.next (if_pos ⟨hmac, rfl⟩))

/-- So do those of Tack (R200). -/
theorem exec_errorDetected_tack (lane : BitVec 16) (n : Nat) : exec (.errorDetected 9 4 lane n) s = s.next (s.blk.tackCrc 4) := by
  change execErrorDetected 9 4 lane n s = _
  unfold execErrorDetected Block.detected
  rw [if_neg (by decide), if_neg (by decide), if_pos ⟨rfl, rfl⟩]

theorem exec_errorDetected_die (hup : s.assay.up = true) (code : BitVec 8) (lane : BitVec 16) (n : Nat) :
    exec (.errorDetected 22 code lane n) s = .next (s.onAssay (fun a => a.flashError code.toNat n)) := by
  have hdie : s.onAssay (fun a => if a.up then a.flashError code.toNat n else a) = s.onAssay (fun a => a.flashError code.toNat n) := by
    simp only [State.onAssay, hup, if_true]
  exact congrArg Host.Outcome.next hdie

/-- Settles O50: errors by their rows, the book by what latching leaves of it. -/
theorem detectedErrorEffects : Obligations.DetectedErrorEffects := by
  refine ⟨fun s o code lane n v hrow hplain => exec_errorDetected_row hrow hplain lane n,
    fun s lane n => ⟨exec_errorDetected_tack lane n, exec_errorDetected_bridle (by decide) lane n,
      exec_errorDetected_bridle (by decide) lane n, exec_errorDetected_bridle (by decide) lane n⟩, fun s code lane n hup => exec_errorDetected_die hup code lane n,
    fun s road v hroad => exec_errAck_open hroad, fun b o kind lane v w p hlow hworse hfree => ?_⟩
  have hfirst := Block.errBook_latch_first hlow hfree kind lane p
  have hsecond := Block.errBook_latch_second (b := b.latch o v false kind lane p) (o := o) (hworse.trans hlow) (by rw [hfirst])
    (by rw [hfirst]; exact hworse) kind lane p
  rw [hsecond, hfirst]
  exact ⟨rfl, rfl, rfl, rfl, rfl⟩

end Sys2Proof.Machine
end

section
/-! Musters, books and pins (R499 to R501, R524, R525). -/

namespace Sys2Proof.Machine

variable {s : State} {b : Block}

/-! ### Books -/

theorem exec_muster_on (hen : s.blk.on F.CLERK_MUSTER_CFG.EN = true) (hrun : s.blk.runs 1 = true) :
    exec .muster s = s.next (s.blk.wrap F.CLERK_MUSTER_STATUS.AUDITS 1) :=
  congrArg s.next (if_pos (by rw [hen, hrun]; rfl))

theorem exec_bookCapture_audited {k : Fin 8} (haudited : s.blk.audited k.val = true) (i : Nat) (d : Int) (ok : Bool)
    (hbook : b = (s.blk.set F.CLERK_MUSTER_STATUS.DEFERRED (setBit (s.blk.get F.CLERK_MUSTER_STATUS.DEFERRED) k.val false)).setDefers k.val 0) :
    exec (.bookCapture k i d ok) s = s.next (if d = 0 then b else b.mismatch s.fuse k.val i d ok) := by
  rw [hbook]
  exact congrArg s.next (if_neg (by rw [haudited]; decide))

theorem exec_musterDefer_audited {k : Fin 8} (haudited : s.blk.audited k.val = true)
    (hbook : b = s.blk.set F.CLERK_MUSTER_STATUS.DEFERRED (setBit (s.blk.get F.CLERK_MUSTER_STATUS.DEFERRED) k.val true)) :
    exec (.musterDefer k) s = s.next (if look s.blk.clerk.defers k.val 0 + 1 = 8
      then (b.setDefers k.val 0).note (bookOwner k.val) 0 (bytesLE 1 k.val) else b.setDefers k.val (look s.blk.clerk.defers k.val 0 + 1)) := by
  rw [hbook]
  exact congrArg s.next (if_neg (by rw [haudited]; decide))

theorem exec_musterDefer_unaudited {k : Fin 8} (hidle : s.blk.audited k.val = false) : exec (.musterDefer k) s = .next s :=
  congrArg s.next (if_pos (by rw [hidle]; rfl))

/-! ### Pins -/

theorem exec_gpio_on (hon : s.blk.gpioOn = true) (v : BitVec 24) :
    exec (.gpio v) s = s.next (s.blk.gpioLevels (s.blk.gpioDriven v.toNat)) := congrArg s.next (if_pos hon)

theorem BitVec.toNat_and_allOnes (v : BitVec 24) : v.toNat &&& (0 ^^^ (2 ^ 24 - 1)) = v.toNat := by
  rw [Nat.zero_xor, Nat.and_two_pow_sub_one_eq_mod, Nat.mod_eq_of_lt v.isLt]

/-- With no pin driven the levels are the board's. -/
theorem Block.gpioDriven_inputs (hin : b.get F.PIN_GPIO_OE.OE = 0) (v : BitVec 24) : b.gpioDriven v.toNat = v.toNat := by
  simp only [Block.gpioDriven, hin, Nat.and_zero, Nat.or_zero]
  exact BitVec.toNat_and_allOnes v

theorem Block.gpioLevels_disabled (hrise : b.get F.PIN_GPIO_RISE.RISE = 0) (hfall : b.get F.PIN_GPIO_FALL.FALL = 0) (v : Nat) :
    b.gpioLevels v = b.set F.PIN_GPIO_IN.IN v := by
  unfold Block.gpioLevels
  exact if_pos (by rw [hrise, hfall, Nat.and_zero, Nat.and_zero]; rfl)

/-- From all pins low, what rises is what is high. -/
theorem Block.gpioLevels_rising (hlow : b.get F.PIN_GPIO_IN.IN = 0) {v : BitVec 24} (hedge : v.toNat &&& b.get F.PIN_GPIO_RISE.RISE ≠ 0)
    {c : Block} (hc : c = b.set F.PIN_GPIO_IN.IN v.toNat) : b.gpioLevels v.toNat =
      (c.set F.PIN_GPIO_EVT.EVT (c.get F.PIN_GPIO_EVT.EVT ||| (v.toNat &&& b.get F.PIN_GPIO_RISE.RISE))).fire 24 32 := by
  unfold Block.gpioLevels
  rw [hc, hlow]
  simp only [BitVec.toNat_and_allOnes, Nat.zero_and, Nat.or_zero]
  exact if_neg hedge

theorem exec_overtemperature_on (d : Fin 3) (t : Int) (hb : b = s.blk.setS (tempFld d.val) t) : exec (.overtemperature d t) s =
    s.next (if 115 ≤ t ∧ (!b.pinExcl.contains d.val) = true then b.fault 24 .fatal 2 0xFFFF [] else b) := by
  rw [hb]
  rfl

theorem exec_therm_on (d : Fin 3) (t : Int) (hb : b = s.blk.setS (tempFld d.val) t) : exec (.therm d t) s =
    s.next (if (clampTo 70 110 (b.get F.PIN_THERM.WARN_C) : Int) ≤ t then (b.note 24 1).fire 24 33 else b) := by
  rw [hb]
  rfl

/-- Settles O51: each clause by the branch of its command. -/
theorem musterAndPinEffects : Obligations.MusterAndPinEffects := by
  refine ⟨⟨fun s hen hrun => exec_muster_on hen hrun, fun s k haudited => ⟨_, rfl, fun i ok => exec_bookCapture_audited haudited i 0 ok rfl,
      fun i d ok hdrift => ?_⟩, fun s k n haudited hn => ⟨_, rfl, fun hfew => ?_, fun height => ?_⟩,
      fun s k hidle => exec_musterDefer_unaudited hidle⟩,
    fun s v hon hin hrise hfall => ?_, fun s v b hon hin hlow hedge hb => ?_, fun s d t b hb => ⟨fun hwarm => ?_, fun hcool => ?_,
      fun hhot hcounted => ?_, fun hcool => ?_⟩, fun s => ⟨fun hline => congrArg s.next (if_pos hline), fun hline => congrArg s.next (if_pos hline)⟩⟩
  · exact (exec_bookCapture_audited haudited i d ok rfl).trans (congrArg s.next (if_neg hdrift))
  · rw [exec_musterDefer_audited haudited rfl, ← hn, if_neg hfew]
  · rw [exec_musterDefer_audited haudited rfl, ← hn, if_pos height]
  · rw [exec_gpio_on hon, Block.gpioDriven_inputs hin, Block.gpioLevels_disabled hrise hfall]
  · rw [exec_gpio_on hon, Block.gpioDriven_inputs hin, Block.gpioLevels_rising hlow hedge hb]
  · rw [exec_therm_on d t hb, if_pos hwarm]
  · rw [exec_therm_on d t hb, if_neg (not_le.mpr hcool)]
  · rw [exec_overtemperature_on d t hb, if_pos ⟨hhot, by rw [hcounted]; rfl⟩]
  · rw [exec_overtemperature_on d t hb, if_neg (fun h => absurd h.1 (not_le.mpr hcool))]

end Sys2Proof.Machine
end

section
/-! Clocks and crossings (R362, R363, R369 to R377, R396). -/

namespace Sys2Proof.Machine

variable {s : State} {b : Block}

/-! ### Oscillators -/

theorem exec_paddockStable_kept (hkept : s.blk.on F.CLK_STATUS.PADDOCK_LOST = false) :
    exec .paddockStable s = s.next (s.blk.set F.CLK_STATUS.PADDOCK_OK 1) := congrArg s.next (if_neg (ne_true_of_eq_false hkept))

theorem exec_paddockStable_lost (hlost : s.blk.on F.CLK_STATUS.PADDOCK_LOST = true) : exec .paddockStable s = .next s :=
  congrArg s.next (if_pos hlost)

theorem exec_paddockLost_lost (hlost : s.blk.on F.CLK_STATUS.PADDOCK_LOST = true) : exec .paddockLost s = .next s :=
  congrArg s.next (if_pos hlost)

/-- Outside HALT the Pony regulator is left as it is. -/
theorem exec_paddockLost_kept (hkept : s.blk.on F.CLK_STATUS.PADDOCK_LOST = false) (hrun : s.blk.watch.plan ≠ 4) : exec .paddockLost s =
    s.next (((s.blk.set F.CLK_STATUS.PADDOCK_OK 0).set F.CLK_STATUS.PADDOCK_LOST 1).note 19 0).crossSettle := by
  change s.next s.blk.paddockFail = _
  have hplan : ((s.blk.set F.CLK_STATUS.PADDOCK_OK 0).set F.CLK_STATUS.PADDOCK_LOST 1).watch.plan ≠ 4 := hrun
  unfold Block.paddockFail
  rw [if_neg (ne_true_of_eq_false hkept)]
  dsimp only
  rw [if_neg hplan]

/-- GROOM lost in GALLOP: HALT at once. -/
theorem Block.groomFail_gallop {fu : Fuses} (hgallop : (b.keeperClose.setCeil 3).watch.plan = 0) : b.groomFail fu =
    { (((b.keeperClose).setCeil 3).haltNow fu).fault 19 .fatal 1 0xFFFF [] with
      clk := { (((b.keeperClose).setCeil 3).haltNow fu).clk with groomAo := 0 } } := by
  unfold Block.groomFail
  dsimp only
  rw [if_neg (by omega)]

theorem exec_groomRecovered_idle (hup : s.blk.ceil 3 = false) : exec .groomRecovered s = .next s :=
  congrArg s.next (if_neg (ne_true_of_eq_false hup))

theorem exec_groomRecovered_lifts (hceil : s.blk.ceil 3 = true)
    (hb : b = s.blk.set F.WATCH_GAIT_STATUS.CEIL (setBit (s.blk.get F.WATCH_GAIT_STATUS.CEIL) 3 false))
    (hlame : b.on F.OST_START_STATUS.LAME = false) : exec .groomRecovered s = s.next { b with watch := { b.watch with liftCause := true } } := by
  rw [hb] at hlame ⊢
  change s.next (s.blk.groomBack s.fuse) = _
  unfold Block.groomBack
  rw [if_pos hceil]
  exact congrArg s.next (if_neg (fun h => absurd (h.1.symm.trans hlame) (by decide)))

/-! ### Parking (R375) -/

/-- A group that carries no Hatch command only parks. -/
theorem exec_groupPark_plain {g : Fin 11} (hb : b = s.blk.set F.CLK_XSTATUS.PARKED (setBit (s.blk.get F.CLK_XSTATUS.PARKED) g.val true))
    (hplain : g.val ≠ 10 ∨ b.hatch = none) : exec (.groupPark g) s = s.next (b.xmode g.val) := by
  rw [hb] at hplain ⊢
  refine congrArg (fun c : Block => s.next (c.xmode g.val)) (if_neg fun h => ?_)
  obtain hother | hnone := hplain
  · exact hother h.1
  · exact absurd h.2 (by rw [hnone]; decide)

theorem exec_groupPark_hatch {g : Fin 11} (hb : b = s.blk.set F.CLK_XSTATUS.PARKED (setBit (s.blk.get F.CLK_XSTATUS.PARKED) g.val true))
    (hg : g.val = 10) (hbusy : b.hatch.isSome = true) : exec (.groupPark g) s = s.next ((b.hatchEnd .timeout []).xmode g.val) := by
  rw [hb] at hbusy ⊢
  exact congrArg (fun c : Block => s.next (c.xmode g.val)) (if_pos ⟨hg, hbusy⟩)

theorem exec_groupUnpark_runs {g : Fin 11} (hrun : s.blk.groupRuns g.val = true) :
    exec (.groupUnpark g) s = s.next ((s.blk.unpark g.val).xmode g.val) := congrArg s.next (if_pos hrun)

theorem exec_groupUnpark_stopped {g : Fin 11} (hstop : s.blk.groupRuns g.val = false) : exec (.groupUnpark g) s = .next s :=
  congrArg s.next (if_neg (ne_true_of_eq_false hstop))

/-! ### Stopped clocks (R377) -/

theorem exec_stoppedClock_parked {g : Fin 11} (hparked : s.blk.parked g.val = true) (c : Fin 5) (d : Fin 8) (dead : Bool) :
    exec (.stoppedClock g c d dead) s = .next s := congrArg s.next (if_pos hparked)

/-- The record of a stopped clock of group 10 (R377). -/
def hatchStopped (cls dom log2 now : Nat) : LedgerRec :=
  let p := bytesLE 1 10 ++ bytesLE 1 cls ++ bytesLE 1 dom ++ [0] ++ bytesLE 4 (2 ^ clampTo 8 16 log2)
  { sev := .note, origin := 19, src := 0, kind := 2, time := now, payload := padTo 16 p }

theorem exec_stoppedClock_hatch (hopen : s.blk.parked 10 = false) (c : Fin 5) (d : Fin 8) (dead : Bool)
    (hb : b = ((s.blk.set F.CLK_XFAULT.TIMEOUT (setBit (s.blk.get F.CLK_XFAULT.TIMEOUT) 10 true)).count (.clk 10) C.CLK.TIMEOUT).park 10) :
    exec (.stoppedClock 10 c d dead) s = s.next (b.pulse (hatchStopped c.val d.val (s.blk.get F.CLK_XTIMEOUT.LOG2) b.now)) := by
  have hlog : ((s.blk.set F.CLK_XFAULT.TIMEOUT (setBit (s.blk.get F.CLK_XFAULT.TIMEOUT) 10 true)).count (.clk 10) C.CLK.TIMEOUT).get
      F.CLK_XTIMEOUT.LOG2 = s.blk.get F.CLK_XTIMEOUT.LOG2 := by
    rw [Block.get_count, Block.get_set_other _ _ (by decide)]
  rw [hb, ← hlog]
  exact congrArg s.next (if_neg (ne_true_of_eq_false hopen))

/-! ### Streams (R370) -/

theorem exec_streamFault_radio (r : Fin 3) :
    exec (.streamFault 0 r) s = s.next ((s.blk.count (.clk 0) C.CLK.STREAM_FAULT).bridleCrc r.val 3) := by
  change execStreamFault 0 r s = _
  unfold execStreamFault
  rfl

theorem exec_streamFault_ring (r : Fin 3) :
    exec (.streamFault 4 r) s = s.next ((s.blk.count (.clk 4) C.CLK.STREAM_FAULT).cartCount 0 C.CART.RX_FCS_ERR) := by
  have hgroup : (4 : Fin 11).val = 4 := rfl
  change execStreamFault 4 r s = _
  unfold execStreamFault
  simp only [hgroup]

/-- Settles O34: each clause by the branch of its command. -/
theorem clockAndCrossingEffects : Obligations.ClockAndCrossingEffects := by
  refine ⟨fun s hkept => exec_paddockStable_kept hkept, fun s hlost => ⟨exec_paddockStable_lost hlost, exec_paddockLost_lost hlost⟩,
    fun s hkept hrun => exec_paddockLost_kept hkept hrun, fun s _ => ⟨_, rfl, fun hgallop => congrArg s.next (Block.groomFail_gallop hgallop)⟩,
    fun s hup => exec_groomRecovered_idle hup, fun s hceil _ => ⟨_, rfl, fun hlame => exec_groomRecovered_lifts hceil rfl hlame⟩,
    fun s g => ⟨rfl, fun b hb => ⟨exec_groupPark_plain hb, exec_groupPark_hatch hb, exec_groupUnpark_runs, exec_groupUnpark_stopped⟩⟩,
    fun s g c d dead hparked => exec_stoppedClock_parked hparked c d dead,
    fun s c d dead hopen => ⟨_, rfl, exec_stoppedClock_hatch hopen c d dead rfl⟩, fun s g n => rfl,
    fun s r => ⟨exec_streamFault_ring r, exec_streamFault_radio r⟩⟩

end Sys2Proof.Machine
end

section
/-! The adaptive loops (R379 to R392): what AVS, droop stretching and the ring equalisers do. -/

namespace Sys2Proof.Machine

variable {s : State} {b c w : Block}

/-! ### AVS -/

theorem exec_avsUpdate_slow (hslow : s.blk.coreFast = false) (l : List (Nat × Nat)) (ok : Bool) : exec (.avsUpdate l ok) s = .next s :=
  congrArg s.next (if_neg (ne_true_of_eq_false hslow))

/-- With good readings, no exclusion, no stretch, no hold and no freeze, V moves by the loop step and AT_BOUND shows. -/
theorem Block.avsUpdate_steady {l : List (Nat × Nat)} {n : Nat} (hb : b = (w.takeShadows 20).avsMonitors l) (hexcluded : b.avs.excluded = [])
    (hstretch : b.avs.stretch = 0) (hhold : b.avs.hold = 0) (hgood : ∀ x ∈ l, x.2 ≤ 63) (hmany : 16 ≤ l.length)
    (hn : n = l.foldl (fun m x => min m x.2) 63) (hc : c = (b.set F.TOP_AVS_STATUS.SLACK n).updAvs (fun a => { a with stretch := 0 }))
    (hopen : c.on F.TOP_AVS_CTRL.FREEZE = false) (hbus : c.on F.TOP_AVS_STATUS.AVS_FAULT = false)
    (hlo : c.avsMin ≤ c.get F.TOP_AVS_STATUS.V) (hhi : c.get F.TOP_AVS_STATUS.V ≤ c.avsMax) {v : Nat}
    (hv : v = (clampInt c.avsMin c.avsMax (c.get F.TOP_AVS_STATUS.V - loopStep ((n : Int) - c.get F.TOP_AVS_CTRL.TARGET)
      (c.get F.TOP_AVS_CTRL.GAIN_SHIFT) c.avsStep)).toNat) :
    w.avsUpdate l true = ((c.avsWrite v n true).setB F.TOP_AVS_STATUS.AT_BOUND ((c.avsWrite v n true).get F.TOP_AVS_STATUS.V == c.avsMin ||
      (c.avsWrite v n true).get F.TOP_AVS_STATUS.V == c.avsMax)).updAvs (fun a => { a with hold := a.hold - 1 }) := by
  have hreadings : l.filter (fun x => !b.avs.excluded.contains x.1 && decide (x.2 ≤ 63)) = l := by
    refine List.filter_eq_self.mpr fun x hx => ?_
    rw [hexcluded, decide_eq_true (hgood x hx)]
    rfl
  have hsome : l.isEmpty = false := List.isEmpty_eq_false_iff.mpr (List.ne_nil_of_length_pos (by omega))
  have hfew : ¬(8 < (b.set F.TOP_AVS_STATUS.SLACK n).avs.excluded.length ∧ !(b.set F.TOP_AVS_STATUS.SLACK n).on F.TOP_AVS_STATUS.AVS_FAULT) := by
    rw [show (b.set F.TOP_AVS_STATUS.SLACK n).avs.excluded = [] from hexcluded]
    exact fun h => absurd h.1 (by decide)
  have hget (f : Fld) : (b.set F.TOP_AVS_STATUS.SLACK n).get f = c.get f := by
    rw [hc]
    rfl
  have hon (f : Fld) : (b.set F.TOP_AVS_STATUS.SLACK n).on f = c.on f := by
    rw [hc]
    rfl
  have hquiet : (b.set F.TOP_AVS_STATUS.SLACK n).avs.stretch = 0 := hstretch
  have hfree : c.avs.hold = 0 := by
    rw [hc]
    exact hhold
  have hinside : ¬(c.get F.TOP_AVS_STATUS.V < c.avsMin ∨ c.avsMax < c.get F.TOP_AVS_STATUS.V) := by omega
  unfold Block.avsUpdate
  simp only [← hb, hreadings, ← hn, hsome, Bool.false_eq_true, if_false, if_neg hfew, ← hc]
  simp only [hget, hon, hquiet, hfree, if_neg hinside, hopen, hbus, hmany, lt_irrefl, and_false, if_false, ← hv, Nat.not_lt_zero, decide_false,
    Bool.and_false, Bool.false_and, Bool.or_self, Bool.not_false, decide_true, Bool.and_self, if_true, Bool.false_eq_true]

/-- No write before: the raise goes at once by one step, within VMAX. -/
theorem exec_avsUrgentRaise_first {m : Fin 24} {n : Nat} (hfast : s.blk.coreFast = true) (hfirst : s.blk.avs.wroteAo = none)
    (hused : m.val ∉ s.blk.avs.excluded) (hurgent : n < s.blk.get F.TOP_AVS_CTRL.URGENT)
    (hb : b = (s.blk.updAvs (fun a => { a with hold := s.blk.get F.TOP_AVS_BOUND.DROOP_HOLD })).sat F.TOP_AVS_STATUS.URGENT_CNT 1) :
    exec (.avsUrgentRaise m n true) s = s.next (b.avsWrite (max (b.get F.TOP_AVS_STATUS.V) (min b.avsMax
      (b.get F.TOP_AVS_STATUS.V + b.avsStep))) n true) := by
  have hin : s.blk.avs.excluded.contains m.val = false := by simpa using hused
  subst hb
  change execAvsUrgentRaise m n true s = _
  simp only [execAvsUrgentRaise, hfast, hfirst, hin, decide_eq_true hurgent, Bool.and_self, Bool.not_false, if_true]

theorem exec_droopStretch_deep {mv : Nat} (hfast : s.blk.coreFast = true) (hen : s.blk.on F.TOP_DROOP_CTRL.EN = true)
    (hdeep : clampTo 20 60 (s.blk.get F.TOP_DROOP_CTRL.THRESH_MV) < mv) : exec (.droopStretch mv) s =
      s.next ((s.blk.wrap F.TOP_DROOP_STATUS.STRETCHES 1).updAvs (fun a => { a with stretch := a.stretch + 1 })) :=
  congrArg s.next (if_pos (by rw [hfast, hen, decide_eq_true hdeep]; rfl))

/-! ### Ring equalisers -/

section
variable {p : Fin 2} (hring : s.blk.ringRx p.val = true)
include hring

theorem exec_dfeUpdate_frozen {accs : List Int} {peaking : Int}
    (hfrozen : s.blk.on (if p.val = 0 then F.CART_EQ_CTRL.FREEZE_A else F.CART_EQ_CTRL.FREEZE_B) = true) :
    exec (.dfeUpdate p accs peaking) s =
      s.next (s.blk.updEq p.val (fun e => { e with periods := ((nth s.blk.eq p.val {}).periods + 1) % 16 })) := by
  change execDfeUpdate p accs peaking s = _
  simp only [execDfeUpdate, hring, hfrozen, Bool.not_true, Bool.false_eq_true, if_false, if_true]

theorem Block.ringRx_taken : ¬(!s.blk.ringRx p.val) = true := by
  rw [hring]
  decide

theorem exec_eqAcquisition_signal : exec (.eqAcquisition p .signal) s = s.next (s.blk.eqStart p.val false) :=
  congrArg s.next (if_neg (Block.ringRx_taken hring))

theorem exec_eqAcquisition_relock : exec (.eqAcquisition p .relock) s = s.next (s.blk.eqStart p.val false) :=
  congrArg s.next (if_neg (Block.ringRx_taken hring))

theorem exec_eqAcquisition_speedChange :
    exec (.eqAcquisition p .speedChange) s = s.next ((s.blk.eqDefaults p.val).eqStart p.val false) :=
  congrArg s.next (if_neg (Block.ringRx_taken hring))

theorem exec_eqAcquisition_tracking : exec (.eqAcquisition p .tracking) s = s.next (s.blk.setB (eqFld p.val 2) false) :=
  congrArg s.next (if_neg (Block.ringRx_taken hring))

theorem exec_eqAcquisition_lockFail (hfirst : (nth s.blk.eq p.val {}).restarted = false) :
    exec (.eqAcquisition p .lockFail) s = s.next ((s.blk.eqDefaults p.val).eqStart p.val true) :=
  congrArg s.next ((if_neg (Block.ringRx_taken hring)).trans (if_neg (ne_true_of_eq_false hfirst)))

end

section
variable {p : Fin 2}

theorem Block.getS_moveTap_same (shift lim : Nat) {x : Fld × Int} (hx : x.1 ∈ eqTaps p.val) : (b.moveTap shift lim x).getS x.1 =
    clampInt (-(tapMax x.1 : Int)) (tapMax x.1) (b.getS x.1 + loopStep x.2 shift lim) := by
  obtain ⟨hpos, hfits⟩ := eqTaps_width p x.1 hx
  obtain ⟨hlo, hhi⟩ := clampInt_within (by omega : -(tapMax x.1 : Int) ≤ tapMax x.1) (b.getS x.1 + loopStep x.2 shift lim)
  have hsize : (tapMax x.1 : Int) < 2 ^ (x.1.width - 1) := by exact_mod_cast hfits
  exact b.getS_setS_same hpos (by omega) (by omega)

theorem Block.getS_moveTap_other (shift lim : Nat) {x : Fld × Int} {f : Fld} (hx : x.1 ∈ eqTaps p.val) (hf : f ∈ eqTaps p.val)
    (hother : f ≠ x.1) : (b.moveTap shift lim x).getS f = b.getS f :=
  b.getS_set_other _ fun hkey => hother (eqTaps_key_inj p f hf x.1 hx hkey)

theorem Block.getS_moveTaps_other (shift lim : Nat) {l : List (Fld × Int)} (hl : ∀ x ∈ l, x.1 ∈ eqTaps p.val) {f : Fld}
    (hf : f ∈ eqTaps p.val) (hother : f ∉ l.map Prod.fst) : (l.foldl (Block.moveTap shift lim) b).getS f = b.getS f := by
  induction l generalizing b with
  | nil => rfl
  | cons x t ih =>
    obtain ⟨hhead, htail⟩ := not_or.mp (mt List.mem_cons.mpr hother)
    exact (ih (fun y hy => hl y (List.mem_cons_of_mem _ hy)) htail).trans
      (Block.getS_moveTap_other shift lim (hl x List.mem_cons_self) hf hhead)

/-- Each tap of a list without a tap twice moves once, from where it stood. -/
theorem Block.getS_moveTaps (shift lim : Nat) {l : List (Fld × Int)} (hl : ∀ x ∈ l, x.1 ∈ eqTaps p.val)
    (honce : (l.map Prod.fst).Nodup) {x : Fld × Int} (hx : x ∈ l) : (l.foldl (Block.moveTap shift lim) b).getS x.1 =
      clampInt (-(tapMax x.1 : Int)) (tapMax x.1) (b.getS x.1 + loopStep x.2 shift lim) := by
  induction l generalizing b with
  | nil => cases hx
  | cons y t ih =>
    obtain ⟨hhead, htail⟩ := List.nodup_cons.mp honce
    have hy := hl y List.mem_cons_self
    have ht : ∀ z ∈ t, z.1 ∈ eqTaps p.val := fun z hz => hl z (List.mem_cons_of_mem _ hz)
    obtain rfl | hmem := List.mem_cons.mp hx
    · exact (Block.getS_moveTaps_other shift lim ht hy hhead).trans (Block.getS_moveTap_same shift lim hy)
    · have hother : x.1 ≠ y.1 := fun h => hhead (h ▸ List.mem_map_of_mem hmem)
      exact (ih ht htail hmem).trans (by rw [Block.getS_moveTap_other shift lim hy (ht x hmem) hother])

theorem ctle_width : ∀ p : Fin 2, (eqFld p.val 0).width = 4 := by decide

theorem eqTaps_nodup : ∀ p : Fin 2, (eqTaps p.val).Nodup := by decide

/-- The CTLE setting moves in the sixteenth period alone. -/
theorem Block.get_moveCtle {n : Nat} {peaking : Int} (hctle : b.get (eqFld p.val 0) ≤ 15) :
    (b.moveCtle p.val n peaking).get (eqFld p.val 0) = if n ≠ 16 ∨ peaking = 0 then b.get (eqFld p.val 0)
      else if 0 < peaking then min 15 (b.get (eqFld p.val 0) + 1) else b.get (eqFld p.val 0) - 1 := by
  unfold Block.moveCtle
  split
  next hlast =>
    rw [Block.get_set_same, ctle_width, Nat.mod_eq_of_lt (by split_ifs <;> omega)]
    split_ifs <;> omega
  next hearlier => rw [if_pos (.inl hearlier)]

theorem blockStep_dfeUpdate {accs : List Int} {peaking : Int} {n : Nat} (hring : s.blk.ringRx p.val = true)
    (hopen : s.blk.on (if p.val = 0 then F.CART_EQ_CTRL.FREEZE_A else F.CART_EQ_CTRL.FREEZE_B) = false)
    (hctle : s.blk.get (eqFld p.val 0) ≤ 15)
    (hn : n = (if s.blk.on (eqFld p.val 2) then s.blk.get F.CART_EQ_CTRL.ACQ_SHIFT else s.blk.get F.CART_EQ_CTRL.GAIN_SHIFT)) :
    blockStep (.dfeUpdate p accs peaking) s (fun b =>
      (∀ x ∈ (eqTaps p.val).zip (accs ++ List.replicate 5 0), b.getS x.1 = clampInt (-(tapMax x.1 : Int)) (tapMax x.1) (s.blk.getS x.1 +
        loopStep x.2 n (max 1 (s.blk.get F.CART_EQ_CTRL.STEP)))) ∧
      b.get (eqFld p.val 0) = if (nth s.blk.eq p.val {}).periods ≠ 15 ∨ peaking = 0 then s.blk.get (eqFld p.val 0)
        else if 0 < peaking then min 15 (s.blk.get (eqFld p.val 0) + 1) else s.blk.get (eqFld p.val 0) - 1) := by
  have hfirsts : ((eqTaps p.val).zip (accs ++ List.replicate 5 0)).map Prod.fst = eqTaps p.val :=
    List.map_fst_zip (by simp [eqTaps_length])
  have htaps : ∀ x ∈ (eqTaps p.val).zip (accs ++ List.replicate 5 0), x.1 ∈ eqTaps p.val := fun x hx =>
    hfirsts ▸ List.mem_map_of_mem hx
  have hperiod : ((nth s.blk.eq p.val {}).periods + 1 ≠ 16 ∨ peaking = 0) ↔ ((nth s.blk.eq p.val {}).periods ≠ 15 ∨ peaking = 0) := by omega
  subst hn
  refine ⟨_, exec_dfeUpdate_unfrozen s hring hopen rfl, fun x hx => ?_, ?_⟩
  · have hx' := htaps x hx
    change Block.getS (Block.set _ _ _) x.1 = _
    rw [Block.getS_set_other _ _ (tap_key_ne_atBound p x.1 hx'), Block.getS_moveCtle_tap _ _ _ hx',
      Block.getS_moveTaps _ _ htaps (by rw [hfirsts]; exact eqTaps_nodup p) hx]
    rfl
  · have hkept := Block.ctle_moveTaps (s.blk.updEq p.val (fun e => { e with periods := ((nth s.blk.eq p.val {}).periods + 1) % 16 }))
      (if s.blk.on (eqFld p.val 2) then s.blk.get F.CART_EQ_CTRL.ACQ_SHIFT else s.blk.get F.CART_EQ_CTRL.GAIN_SHIFT)
      (max 1 (s.blk.get F.CART_EQ_CTRL.STEP)) htaps
    replace hkept := hkept.trans (show _ = s.blk.get (eqFld p.val 0) from rfl)
    change Block.get (Block.set _ _ _) _ = _
    rw [Block.get_set_other _ _ (ctle_key_ne_atBound p), Block.get_moveCtle (by rw [hkept]; exact hctle), hkept]
    simp only [hperiod]

end

/-- Settles O35: each clause by the lemma on its update. -/
theorem adaptiveLoopEffects : Obligations.AdaptiveLoopEffects :=
  ⟨fun _ hslow l ok => exec_avsUpdate_slow hslow l ok,
    fun s _ _ _ _ _ hfast hb hexcluded hstretch hhold hgood hmany hn hc hopen hbus hlo hhi hw => by
      rw [hw]
      exact congrArg s.next ((if_pos hfast).trans
        (Block.avsUpdate_steady hb hexcluded hstretch hhold hgood hmany hn hc hopen hbus hlo hhi rfl)),
    fun _ _ _ _ hfast hfirst hused hurgent hb => exec_avsUrgentRaise_first hfast hfirst hused hurgent hb,
    fun _ _ hfast hen hdeep => exec_droopStretch_deep hfast hen hdeep,
    fun _ _ _ _ hring hfrozen => exec_dfeUpdate_frozen hring hfrozen,
    fun _ _ _ _ _ hring hopen hctle hn => blockStep_dfeUpdate hring hopen hctle hn,
    fun _ _ hring => ⟨exec_eqAcquisition_signal hring, exec_eqAcquisition_relock hring, exec_eqAcquisition_speedChange hring,
      exec_eqAcquisition_tracking hring, exec_eqAcquisition_lockFail hring⟩⟩

end Sys2Proof.Machine
end

section
/-! Gaits (R395 to R401): requests, ceilings and transitions. -/

namespace Sys2Proof.Machine

variable {s : State} {b : Block}

/-! ### Requests (R397) -/

theorem Block.gaitRequest_legal {req resume lmgate : Nat} (hreq : req ≤ 4) (hresume : resume ≤ 4)
    (hgate : (req = 1 ∨ resume = 1) ↔ lmgate ≠ 0) : b.gaitRequest req resume lmgate false =
      some ((((b.set F.WATCH_GAIT_REQ.REQ req).set F.WATCH_GAIT_REQ.RESUME resume).set F.WATCH_GAIT_REQ.LMGATE lmgate).updWatch
        (fun w => { w with gateAsk := decide (req ≤ 1), riseWake := false })).keeperFall := by
  have hsame : ((req == 1 || resume == 1) != (lmgate != 0)) = false := by
    rw [bne_eq_false_iff_eq, Bool.eq_iff_iff, Bool.or_eq_true, beq_iff_eq, beq_iff_eq, bne_iff_ne]
    exact hgate
  have hlegal : ¬(4 < req ∨ 4 < resume ∨ ((req == 1 || resume == 1) != (lmgate != 0)) = true) := by
    rw [hsame, not_or, not_or]
    exact ⟨hreq.not_gt, hresume.not_gt, by decide⟩
  unfold Block.gaitRequest
  rw [if_neg (by omega), if_neg hlegal]
  rfl

section
variable {road : Road} {v : Word} (hroad : s.blk.roadStops road R.WATCH_GAIT_REQ = none)
include hroad

theorem exec_watchGaitReq_open : exec (.watchGaitReq road v) s = s.next (s.blk.gaitReqWrite road v.toNat) :=
  congrArg s.next (Block.viaRoad_open _ road _ _ _ hroad)

theorem exec_watchGaitReq_keyless (hkey : v.toNat / 2 ^ 16 ≠ 0x4741) :
    exec (.watchGaitReq road v) s = s.next (s.blk.noteWrite road R.WATCH_GAIT_REQ v.toNat) :=
  (exec_watchGaitReq_open hroad).trans (congrArg s.next (if_pos (by rw [bne_iff_ne.mpr hkey]; rfl)))

theorem exec_watchGaitReq_legal (hkey : v.toNat / 2 ^ 16 = 0x4741) (hlc : s.blk.sec.lc ≠ 4) (hreq : bitsOf v.toNat 2 0 ≤ 4)
    (hresume : bitsOf v.toNat 6 4 ≤ 4) (hclr : bitOf v.toNat 15 = false)
    (hgate : (bitsOf v.toNat 2 0 = 1 ∨ bitsOf v.toNat 6 4 = 1) ↔ bitsOf v.toNat 10 8 ≠ 0)
    (hb : b = ((s.blk.set F.WATCH_GAIT_REQ.REQ (bitsOf v.toNat 2 0)).set F.WATCH_GAIT_REQ.RESUME (bitsOf v.toNat 6 4)).set
      F.WATCH_GAIT_REQ.LMGATE (bitsOf v.toNat 10 8)) : exec (.watchGaitReq road v) s =
        s.next (b.updWatch (fun w => { w with gateAsk := decide (bitsOf v.toNat 2 0 ≤ 1), riseWake := false })).keeperFall := by
  have hkeyed : (v.toNat / 2 ^ 16 != 0x4741 || s.blk.sec.lc == 4) = false := by
    rw [bne_eq_false_iff_eq.mpr hkey, beq_false_of_ne hlc]
    rfl
  rw [exec_watchGaitReq_open hroad, Block.gaitReqWrite, if_neg (ne_true_of_eq_false hkeyed), hclr,
    Block.gaitRequest_legal hreq hresume hgate, hb]
  rfl

end

/-! ### Ceilings (R396, R399) -/

theorem exec_pwrLoss_new (hb : b = s.blk.updWatch (fun w => { w with pwrLow := true })) (hnew : s.blk.ceil 0 = false) :
    exec .pwrLoss s = s.next (b.set F.WATCH_GAIT_STATUS.CEIL (setBit (s.blk.get F.WATCH_GAIT_STATUS.CEIL) 0 true)).keeperFall := by
  rw [hb]
  exact congrArg s.next (if_neg (ne_true_of_eq_false hnew))

theorem Block.get_liftLowbat {f : Fld} (hother : f.key ≠ F.WATCH_GAIT_STATUS.CEIL.key) : b.liftLowbat.get f = b.get f := by
  unfold Block.liftLowbat
  split
  · exact b.get_set_other _ hother
  · rfl

/-- A return of the supply lifts its ceiling; where source 5 does not raise nothing else follows. -/
theorem exec_pwrRestored_set (hb : b = s.blk.updWatch (fun w => { w with pwrLow := false })) (hset : s.blk.ceil 0 = true)
    (hraise : s.blk.wakeRaises 5 = false) : exec .pwrRestored s =
      s.next ((b.set F.WATCH_GAIT_STATUS.CEIL (setBit (s.blk.get F.WATCH_GAIT_STATUS.CEIL) 0 false)).updWatch
        (fun w => { w with liftCause := true })).liftLowbat := by
  rw [hb]
  refine congrArg s.next ((if_pos hset).trans (if_neg ?_))
  rw [Block.wakeRaises, Block.get_liftLowbat (by decide)]
  change ¬(decide (5 < 6) && bitOf (Block.get (Block.set _ F.WATCH_GAIT_STATUS.CEIL _) F.WATCH_WAKE_EN.RISE) 5) = true
  rw [Block.get_set_other _ _ (by decide)]
  exact ne_true_of_eq_false hraise

theorem exec_fatalLift_due (hdue : s.blk.fatalDue = true) : exec .fatalLift s =
    s.next ((s.blk.updWatch (fun w => { w with lifts := s.blk.ao :: s.blk.recentLifts })).count .watch C.WATCH.FATAL_LIFT).liftFatal :=
  congrArg s.next (if_pos hdue)

theorem Block.vbatRead_inRange {mv : Nat} (hlo : 2000 ≤ mv) (hhi : mv ≤ 6000) : (b.vbatRead mv).watch.vbatOff = false := by
  unfold Block.vbatRead
  dsimp only
  rw [if_pos ⟨hlo, hhi⟩]
  rfl

theorem Block.haltMv_vbatRead (b : Block) (mv : Nat) : (b.vbatRead mv).haltMv = b.haltMv :=
  congrArg (clampTo 2700 5000) (b.get_vbatRead mv (by decide))

theorem exec_lowbat_set {mv : Nat} (hceil : s.blk.ceil 0 = true) (hlimit : s.blk.get F.WATCH_BATT.HALT_MV ≠ 0) (hlo : 2000 ≤ mv)
    (hhi : mv ≤ 6000) (hlow : mv < s.blk.haltMv) : exec (.lowbat mv) s = s.next ((s.blk.vbatRead mv).setCeil 2) := by
  refine congrArg s.next (if_pos ?_)
  rw [Block.ceil, Block.get_vbatRead _ mv (by decide), ← Block.ceil, hceil, Block.get_vbatRead _ mv (by decide), bne_iff_ne.mpr hlimit,
    Block.haltMv_vbatRead, decide_eq_true hlow, Block.vbatRead_inRange hlo hhi]
  rfl

theorem exec_lowbatLift_high {mv : Nat} (hhigh : s.blk.haltMv + 200 ≤ mv) : exec (.lowbatLift mv) s = s.next (s.blk.vbatRead mv).liftLowbat := by
  refine congrArg s.next (if_pos ?_)
  rw [Block.haltMv_vbatRead, decide_eq_true hhigh]
  rfl

/-! ### Transitions (R400, R401) -/

theorem exec_gaitTransition_begins {d : Nat} (hidle : s.blk.watch.move = none) (hnext : s.blk.nextMove = some d) :
    exec .gaitTransition s = s.next (s.blk.moveBegin s.fuse d) := by
  change s.next (s.blk.gaitTransition s.fuse) = _
  simp only [Block.gaitTransition, hidle, hnext]

theorem exec_gaitTransition_settled {m : GaitMove} (hmove : s.blk.watch.move = some m) (hsettled : s.blk.stepSettled = true) :
    exec .gaitTransition s = s.next (if max 1 s.blk.watch.plan = max 1 m.dst then s.blk.moveEnd m else s.blk.stepDone.fallStep s.fuse m.dst) := by
  change s.next (s.blk.gaitTransition s.fuse) = _
  simp only [Block.gaitTransition, hmove, hsettled, Bool.not_true, Bool.false_eq_true, if_false]

theorem Block.nextMove_toward {d : Nat} (hnext : b.nextMove = some d) : b.watch.plan ≤ 4 ∧ b.gait ≠ b.target ∧ (b.gait < d → d = b.target) ∧
    (1 < b.gait → d < b.gait → d = b.target ∨ d + 1 = b.gait) := by
  unfold Block.nextMove at hnext
  dsimp only at hnext
  split_ifs at hnext with hnone hslow hask hrise hhalt hwalk <;> cases hnext <;> omega

/-- Settles O37: requests and ceilings by the branch of their command, transitions by `Block.nextMove_toward`. -/
theorem gaitEffects : Obligations.GaitEffects :=
  ⟨⟨fun _ _ _ hroad => ⟨exec_watchGaitReq_keyless hroad, fun hkey hlc hreq hresume hclr hgate =>
      ⟨_, rfl, exec_watchGaitReq_legal hroad hkey hlc hreq hresume hclr hgate rfl⟩⟩,
    fun _ _ hb hnew => exec_pwrLoss_new hb hnew, fun _ _ hb hset hraise => exec_pwrRestored_set hb hset hraise,
    fun _ hdue => exec_fatalLift_due hdue, fun _ _ hceil hlimit hlo hhi hlow => exec_lowbat_set hceil hlimit hlo hhi hlow,
    fun _ _ hhigh => exec_lowbatLift_high hhigh, fun _ => rfl⟩,
  fun _ _ hidle hnext => exec_gaitTransition_begins hidle hnext,
  fun s _ hmove hsettled => ⟨fun hlast => (exec_gaitTransition_settled hmove hsettled).trans (congrArg s.next (if_pos hlast)),
    fun hmore => (exec_gaitTransition_settled hmove hsettled).trans (congrArg s.next (if_neg hmore))⟩,
  fun _ _ hnext => Block.nextMove_toward hnext⟩

end Sys2Proof.Machine
end

section
/-! A watch round and the detections kept for R182 (R408): the windows of a round forget those that are too old. -/

namespace Sys2Proof.Machine

/-- WALK, the Saddle die awake and rounds on over channel 5, with a detection of device time 0 kept at 10 s. -/
def agedDetection : State :=
  let b := State.reset.blk.setTab (0x2E00000 + 4 * 5) 4 0x7F
  let b := ((b.set F.WATCH_GAIT_STATUS.CURRENT 3).set F.WATCH_POWER_STATUS.AWAKE 1).set F.WATCH_ROUND.EN 1
  { State.reset with blk := { b with
      time := { b.time with device := 10000000000 }
      watch := { b.watch with plan := 3 }
      sieve := { b.sieve with span := some ⟨3, 860000000, true⟩, recent := [⟨5, 0, 0, 0⟩] } } }

/-- The detections kept after a command. -/
def keptDetections (o : Host.Outcome State Fault Refusal) : List MeshDet :=
  match o with
  | .next t => t.blk.sieve.recent
  | _ => []

theorem watchRound_forgets : keptDetections (exec (.watchRound []) agedDetection) = [] := by decide +kernel

theorem boundary_keeps : keptDetections (agedDetection.next (((agedDetection.blk.count .watch C.WATCH.ROUNDS).lane 11 0 0).boundary 11)) =
    [⟨5, 0, 0, 0⟩] := by decide +kernel

/-- Refutes O38: a round without detections is counted and is a boundary, but it also forgets the detections that R182 no longer
needs, of which its third clause says nothing. -/
theorem not_saddleWakeAndRoundEffects : ¬ Obligations.SaddleWakeAndRoundEffects := by
  intro h
  obtain ⟨-, -, hround, -⟩ := h
  have hsame := congrArg keptDetections
    (hround agedDetection (by decide +kernel) (by decide +kernel) (by decide +kernel) (by decide +kernel))
  rw [watchRound_forgets, boundary_keeps] at hsame
  cases hsame

end Sys2Proof.Machine
end

section
/-! Creosh (R348 to R354, R358): its operations, its frames, its blocks and its deliveries. -/

namespace Sys2Proof.Machine

variable {s : State} {q : CreoshReq}

/-! ### Reads over a road -/

theorem State.busRead_blk (s : State) (road : Road) (a : Nat) : (s.busRead road a).2 = { s with blk := (s.busRead road a).2.blk } := by
  unfold State.busRead
  dsimp only
  split
  · rfl
  · split <;> rfl

/-- A read changes the block alone. -/
theorem State.busReads_blk (s : State) (road : Road) (a n : Nat) :
    (s.busReads road a n).2 = { s with blk := (s.busReads road a n).2.blk } := by
  induction n generalizing s a with
  | zero => rfl
  | succ n ih =>
    change ((s.busRead road a).2.busReads road (a + 4) n).2 = { s with blk := ((s.busRead road a).2.busReads road (a + 4) n).2.blk }
    rw [ih, s.busRead_blk road a]

/-! ### Operations (R352) -/

section
variable (hup : s.blk.creoshUp = true)
include hup

theorem State.creoshOp_up (f : State → State) : s.creoshOp f = f s := if_pos hup

theorem exec_creoshRead_taken {n : Nat} (hlo : 1 ≤ n) (hhi : n ≤ 256) (a : Nat) : exec (.creoshRead q a n) s =
    .next (({ s with blk := (s.busReads .creosh a n).2.blk } : State).onBlk (fun b =>
      b.creoshReply q 1 0 ((s.busReads .creosh a n).1.flatMap (bytesLE 4)))) := by
  change Host.Outcome.next (s.creoshOp _) = _
  rw [State.creoshOp_up hup, State.creoshRead, if_neg (by omega), ← s.busReads_blk .creosh a n]
  rfl

theorem exec_creoshRead_refused {n : Nat} (hcount : n = 0 ∨ 256 < n) (a : Nat) :
    exec (.creoshRead q a n) s = s.next (s.blk.creoshReply q 1 3) := by
  change Host.Outcome.next (s.creoshOp _) = _
  rw [State.creoshOp_up hup, State.creoshRead, if_pos hcount]
  rfl

theorem exec_creoshWrite_taken {a : Nat} (v : Word) (hallowed : creoshRefuses a = false) (hplain : a ≠ R.FLASH_TALLY_DATA) :
    exec (.creoshWrite q a [v]) s = .next ((s.busWrite .creosh a v.toNat).onBlk (fun b => b.creoshReply q 2 0 (bytesLE 2 1))) := by
  change Host.Outcome.next (s.creoshOp _) = _
  simp only [State.creoshOp_up hup, State.creoshWrite, State.creoshDwords, hallowed, Bool.false_eq_true, if_false, if_neg hplain]
  rfl

theorem exec_creoshWrite_refused {a : Nat} (v : Word) (hrefused : creoshRefuses a = true) :
    exec (.creoshWrite q a [v]) s = .next ((s.busWrite .creosh a v.toNat).onBlk (fun b => b.creoshReply q 2 3 (bytesLE 2 0))) := by
  change Host.Outcome.next (s.creoshOp _) = _
  simp only [State.creoshOp_up hup, State.creoshWrite, State.creoshDwords, hrefused, if_true]
  rfl

theorem exec_creoshLedger_taken {i n : Nat} (hlo : 1 ≤ n) (hhi : n ≤ 40)
    (hkept : (s.blk.clerk.copyHead + 2 ^ 32 - i % 2 ^ 32) % 2 ^ 32 ≤ 4096) : exec (.creoshLedger q i n) s =
      s.next (s.blk.creoshReply q 3 0 (bytesLE 4 s.blk.clerk.copyHead ++ bytesLE 4 0 ++ s.blk.copyRecs i n)) := by
  change Host.Outcome.next (s.creoshOp _) = _
  rw [State.creoshOp_up hup]
  exact congrArg s.next (if_neg (by omega))

theorem exec_creoshDone_up (o n : Byte) : exec (.creoshDone q o n) s = s.next ((s.blk.serveDone o.toNat n.toNat).creoshReply q 4 0) :=
  congrArg Host.Outcome.next (State.creoshOp_up hup _)

theorem exec_creoshPiece_up (body : List Byte) : exec (.creoshPiece q body) s = s.next (s.blk.creoshPiece s.fuse q body) :=
  congrArg Host.Outcome.next (State.creoshOp_up hup _)

theorem exec_creoshPiece_badLength {body : List Byte} (hlength : body.length ≠ 1032) (hkind : natLE (body.take 1) ≤ 1) :
    exec (.creoshPiece q body) s = s.next (s.blk.creoshReply q 5 2) := by
  rw [exec_creoshPiece_up hup, Block.creoshPiece]
  simp only [List.drop_zero, decide_eq_false hlength, Bool.false_eq_true, if_false]
  obtain hmanifest | hpayload : natLE (body.take 1) = 0 ∨ natLE (body.take 1) = 1 := by omega
  · simp only [hmanifest]
  · simp only [hpayload]

theorem exec_creoshPiece_manifest {body : List Byte} (hlength : body.length = 1032) (hkind : natLE (body.take 1) = 0) :
    exec (.creoshPiece q body) s = s.next (s.blk.manifestPiece s.fuse q
      { update := natLE ((body.drop 4).take 4), index := natLE ((body.drop 2).take 2), data := body.drop 8 }) := by
  rw [exec_creoshPiece_up hup, Block.creoshPiece]
  simp only [List.drop_zero, hkind, decide_eq_true hlength, if_true]

theorem exec_creoshPiece_query {body : List Byte} (hlength : body.length = 8) (hkind : natLE (body.take 1) = 2) :
    exec (.creoshPiece q body) s = s.next (s.blk.phQuery q (natLE ((body.drop 2).take 2))) := by
  rw [exec_creoshPiece_up hup, Block.creoshPiece]
  simp only [List.drop_zero, hkind, decide_eq_true hlength, if_true]

theorem exec_creoshGait_up (r u l f : Byte) : exec (.creoshGait q r u l f) s = s.next (s.blk.creoshGait q r.toNat u.toNat l.toNat f.toNat) :=
  congrArg Host.Outcome.next (State.creoshOp_up hup _)

theorem exec_creoshGait_refused {r u l f : Byte} (hnone : s.blk.gaitRequest r.toNat u.toNat l.toNat (bitOf f.toNat 0) = none) :
    exec (.creoshGait q r u l f) s = s.next (s.blk.creoshReply q 6 3) := by
  rw [exec_creoshGait_up hup, Block.creoshGait, hnone]
  rfl

/-- The reply shows what stood before the request. -/
theorem exec_creoshGait_taken {r u l f : Byte} {b c : Block} (hsome : s.blk.gaitRequest r.toNat u.toNat l.toNat (bitOf f.toNat 0) ≠ none)
    (hb : b = s.blk.creoshReply q 6 0 (bytesLE 1 s.blk.gait ++ bytesLE 1 (s.blk.get F.WATCH_GAIT_STATUS.TARGET) ++
      bytesLE 1 (s.blk.get F.WATCH_GAIT_STATUS.CEIL) ++ [0]))
    (hc : b.gaitRequest r.toNat u.toNat l.toNat (bitOf f.toNat 0) = some c) : exec (.creoshGait q r u l f) s = s.next c := by
  rw [exec_creoshGait_up hup, Block.creoshGait, ← hb]
  dsimp only
  rw [if_neg (by rwa [Option.isNone_iff_eq_none]), hc]
  rfl

theorem exec_creoshReset_up (k : BitVec 16) : exec (.creoshReset q k) s = s.next (s.blk.creoshReset s.fuse q k.toNat) :=
  congrArg Host.Outcome.next (State.creoshOp_up hup _)

theorem exec_creoshReset_keyed : exec (.creoshReset q 0x4B47) s =
    s.next ((s.blk.creoshReply q 7 0).wideReset s.fuse kindDevice (creoshCause q.src) none) :=
  (exec_creoshReset_up hup _).trans (congrArg s.next (if_neg (by decide)))

theorem exec_creoshReset_keyless {k : BitVec 16} (hkey : k ≠ 0x4B47#16) : exec (.creoshReset q k) s = s.next (s.blk.creoshReply q 7 3) :=
  (exec_creoshReset_up hup _).trans (congrArg s.next (if_pos fun h => hkey (BitVec.eq_of_toNat_eq h)))

theorem exec_creoshSend_up (d : BitVec 16) (c : Byte) (x : List Byte) :
    exec (.creoshSend q d c x) s = s.next (s.blk.creoshSendOp q d.toNat c.toNat x) := congrArg Host.Outcome.next (State.creoshOp_up hup _)

theorem exec_creoshSend_refused {x : List Byte} (hlength : x.length < 60 ∨ s.blk.mtu - 4 < x.length) (d : BitVec 16) (c : Byte) :
    exec (.creoshSend q d c x) s = s.next (s.blk.creoshReply q 8 3) :=
  (exec_creoshSend_up hup d c x).trans (congrArg s.next (if_pos hlength))

theorem exec_creoshSend_taken {d : BitVec 16} {x : List Byte} (hlong : 60 ≤ x.length) (hshort : x.length ≤ s.blk.mtu - 4)
    (hwired : d.toNat / 4096 ≠ 8) (c : Byte) : exec (.creoshSend q d c x) s =
      s.next ((s.blk.direct { src := 10, len := x.length + 4, fcs := .good, frame := ethOf x } d.toNat c.toNat none).creoshReply q 8 0) := by
  rw [exec_creoshSend_up hup, Block.creoshSendOp, if_neg (by omega)]
  dsimp only
  rw [if_neg hwired]

theorem exec_armKey_up : exec (.armKey q) s =
    s.next (({ s.blk with creosh := { s.blk.creosh with armed := some (s.blk.ao + 10000000000) } } : Block).creoshReply q 9 0) :=
  congrArg Host.Outcome.next (State.creoshOp_up hup _)

end

/-- Settles O31: each operation by its lemma. -/
theorem creoshRequestEffects : Obligations.CreoshRequestEffects := fun _ _ hup =>
  ⟨fun a _ hlo hhi => exec_creoshRead_taken hup hlo hhi a, fun a _ hcount => exec_creoshRead_refused hup hcount a,
    fun _ v hallowed hplain => exec_creoshWrite_taken hup v hallowed hplain, fun _ v hrefused => exec_creoshWrite_refused hup v hrefused,
    fun _ _ hlo hhi hkept => exec_creoshLedger_taken hup hlo hhi hkept, fun o n => exec_creoshDone_up hup o n,
    fun _ hlength hkind => exec_creoshPiece_badLength hup hlength hkind, fun _ hlength hkind => exec_creoshPiece_manifest hup hlength hkind,
    fun _ hlength hkind => exec_creoshPiece_query hup hlength hkind, fun _ _ _ _ hnone => exec_creoshGait_refused hup hnone,
    fun _ _ _ _ _ _ hsome hb hc => exec_creoshGait_taken hup hsome hb hc, exec_creoshReset_keyed hup, fun _ hkey => exec_creoshReset_keyless hup hkey,
    fun d c _ hlength => exec_creoshSend_refused hup hlength d c, fun _ c _ hlong hshort hwired => exec_creoshSend_taken hup hlong hshort hwired c,
    exec_armKey_up hup⟩

end Sys2Proof.Machine
end

section
/-! Creosh frames, blocks and deliveries (R349 to R353), the hitching port (R355 to R357) and the DAP (R427, R433). -/

namespace Sys2Proof.Machine

variable {s : State} {q : CreoshReq} {b : Block}

/-! ### Frames (R349) -/

section
variable {i : Fin 64} {v : BitVec 12} {a : BitVec 48} {o : List Byte} (hrun : s.blk.runs 3 = true) (hlit : s.blk.lame = false)
include hrun hlit

theorem State.creoshFrame_takes : (!s.blk.runs 3 || (s.blk.lame && portOf i.val != 2)) = false := by
  rw [hrun, hlit]
  rfl

/-- Step 1 of R349 counts what it turns away. -/
theorem exec_creoshFrame_bad (hbad : o.length < 32 ∨ natLE (o.take 1) ≠ 1 ∨ s.blk.creosh.floorDone = false ∨ s.blk.runs 2 = false) :
    exec (.creoshFrame i v a o) s = s.next (s.blk.count .host C.HOST.CREOSH_BAD) := by
  change Host.Outcome.next (s.creoshFrame i.val v.toNat a.toNat o) = _
  unfold State.creoshFrame
  dsimp only
  rw [if_neg (ne_true_of_eq_false (State.creoshFrame_takes hrun hlit)), if_pos]
  · rfl
  · simp only [Bool.or_eq_true, decide_eq_true_eq, bne_iff_ne, Bool.not_eq_true', List.drop_zero]
    obtain hshort | hversion | hfloor | hlock := hbad
    · simp [hshort]
    · simp [hversion]
    · simp [hfloor]
    · simp [hlock]

theorem exec_creoshFrame_wellFormed {n : Nat} (hn : n = natLE ((o.drop 12).take 2)) (hwhole : 32 + n ≤ o.length) (hbody : n ≤ 1400)
    (hversion : natLE (o.take 1) = 1) (hfloor : s.blk.creosh.floorDone = true) (hlock : s.blk.runs 2 = true)
    (hkey : (s.blk.keyAt 2 0).isSome = true) : exec (.creoshFrame i v a o) s =
      .next (s.creoshChecked ⟨i.val, v.toNat, a.toNat, natLE ((o.drop 4).take 8)⟩ (natLE ((o.drop 1).take 1)) o n) := by
  subst hn
  change Host.Outcome.next (s.creoshFrame i.val v.toNat a.toNat o) = _
  unfold State.creoshFrame
  dsimp only
  rw [if_neg (ne_true_of_eq_false (State.creoshFrame_takes hrun hlit)), if_neg]
  have hkeyed : (s.blk.keyAt 2 0).isNone = false := by
    rw [← Option.not_isSome, hkey]
    rfl
  simp only [Bool.or_eq_true, decide_eq_true_eq, List.drop_zero, hversion, bne_self_eq_false, hfloor, hlock, hkeyed, Bool.not_true,
    Bool.false_eq_true, or_false]
  omega

end

/-- A frame whose key is found: its tag, its floor, its window. -/
theorem State.creoshChecked_key {op n : Nat} {o : List Byte} {k : KeyRec} {x : Block} (hkey : s.blk.keyVerify 2 0 = (some k, b))
    (hx : x = b.countBlocks 0 10 (o.take (16 + n)).length) : s.creoshChecked q op o n =
      if gmac k.key (creoshIv q.seq 0) (o.take (16 + n)) ≠ (o.drop (16 + n)).take 16 then
        s.onBlk (fun _ => ((x.count .lock C.LOCK.VERIFY_FAIL_MIC).count .host C.HOST.AUTH_FAIL).event 23 17 0
          (bytesLE 1 q.src ++ [0] ++ bytesBE 6 q.sa))
      else if q.seq / 2 ^ 32 < x.tally 6 then s.onBlk (fun _ => x.creoshReply q op 4 (bytesLE 4 (x.tally 6)))
      else (x.creosh.window q.seq).elim (s.onBlk (fun _ => x.count .host C.HOST.REPLAY)) (fun c =>
        ({ s with blk := ({ x with creosh := { c with ret := some (reqBack q) } } : Block).count .host C.HOST.CREOSH_RX } : State).creoshRun q
          op ((o.drop 16).take n)) := by
  unfold State.creoshChecked
  simp only [hkey, ← hx]
  by_cases htag : gmac k.key (creoshIv q.seq 0) (o.take (16 + n)) = (o.drop (16 + n)).take 16
  · rw [if_neg (not_not.mpr htag), if_neg (by rw [beq_iff_eq.mpr htag]; decide)]
    refine ite_congr rfl (fun _ => rfl) fun _ => ?_
    cases x.creosh.window q.seq <;> rfl
  · rw [if_pos htag, if_pos (by rw [beq_eq_false_iff_ne.mpr htag]; rfl)]
    rfl

theorem State.creoshChecked_keyless {op n : Nat} {o : List Byte} (hkey : s.blk.keyVerify 2 0 = (none, b)) : s.creoshChecked q op o n =
    s.onBlk (fun _ => ((b.countBlocks 0 10 (o.take (16 + n)).length).count .host C.HOST.AUTH_FAIL).event 23 17 0
      (bytesLE 1 q.src ++ [0] ++ bytesBE 6 q.sa)) := by
  unfold State.creoshChecked
  simp only [hkey]
  rfl

/-! ### Floors and blocks (R350, R351) -/

theorem exec_creoshFloorWrite_first (hopen : s.blk.creosh.floorDone = false) (hrun : s.blk.runs 1 = true) (hok : s.blk.tallyOk 6 = true)
    (hfirst : s.blk.creosh.floorAsked = false)
    (hb : b = (s.blk.tallyPut 6 (s.blk.tally 6 + 1)).updCreosh (fun c => { c with floorAsked := true })) :
    exec .creoshFloorWrite s = s.next (if b.tallyDone 6 then b.updCreosh (fun c => { c with floorDone := true, high := 0, seen := [] }) else b) := by
  change s.next s.blk.creoshFloor = _
  unfold Block.creoshFloor
  rw [if_neg (by rw [hopen, hrun, hok]; decide), hfirst, hb]
  rfl

theorem Block.tallyPut_creosh (b : Block) (id v : Nat) : (b.tallyPut id v).creosh = b.creosh := by
  have honly := b.tallyOnly_tallyPut id v
  unfold Block.tallyOnly at honly
  rw [honly]

theorem Block.creoshBlock_asks (hused : b.creosh.txReady = false) (hok : b.tallyOk 7 = true) (hfirst : b.creosh.txAsked = false) {c : Block}
    (hc : c = (b.tallyPut 7 (b.tally 7 + 1)).updCreosh (fun c => { c with txAsked := true, txReady := false })) :
    b.creoshBlock = if c.tallyDone 7 then c.updCreosh (fun c => { c with txReady := true, txAsked := false, txNext := 0 }) else c := by
  unfold Block.creoshBlock
  rw [if_neg (by rw [hused, Bool.false_and]; decide), if_neg (by rw [hok]; decide), hfirst, hc]
  rfl

theorem exec_creoshTxblkWrite_first (hidle : s.blk.creosh.waiting = []) (hused : s.blk.creosh.txReady = false)
    (hok : s.blk.tallyOk 7 = true) (hfirst : s.blk.creosh.txAsked = false)
    (hb : b = (s.blk.tallyPut 7 (s.blk.tally 7 + 1)).updCreosh (fun c => { c with txAsked := true, txReady := false })) :
    exec .creoshTxblkWrite s = s.next (if b.tallyDone 7
      then b.updCreosh (fun c => { c with waiting := [], txReady := true, txAsked := false, txNext := 0 })
      else b.updCreosh (fun c => { c with waiting := [] })) := by
  have hwaiting : b.creosh.waiting = [] := by
    rw [hb]
    exact (congrArg Creosh.waiting (s.blk.tallyPut_creosh 7 _)).trans hidle
  change s.next (s.blk.creoshBlock.creoshFlush [] s.blk.creoshBlock.creosh.waiting) = _
  rw [Block.creoshBlock_asks hused hok hfirst hb]
  split
  · rw [show (b.updCreosh (fun c => { c with txReady := true, txAsked := false, txNext := 0 })).creosh.waiting = [] from hwaiting]
    rfl
  · rw [hwaiting]
    rfl

/-! ### Deliveries (R353) -/

section
variable {n : Nat} {d : StewFrame} (hfound : s.blk.cart.inbox.find? (fun x => x.2 == d) = some (n, d))
  (hb : b = (s.blk.updCart (fun c => { c with inbox := c.inbox.erase (n, d) })).poolDrop n)
include hfound hb

theorem exec_delivery_noReturn (hnone : b.creosh.ret = none) : exec (.delivery d) s = s.next (b.count .host C.HOST.RETURN_NONE) := by
  change s.next (s.blk.creoshDeliver d) = _
  unfold Block.creoshDeliver
  rw [hfound]
  simp only [← hb, hnone]

theorem exec_delivery_returns {r : RetPath} {x : List Byte} (hret : b.creosh.ret = some r)
    (hx : x = bytesLE 1 d.src ++ bytesLE 1 (d.cls % 8) ++ bytesLE 2 (d.vlan % 4096) ++ bytesLE 4 0 ++ bytesLE 8 d.time ++ d.octets)
    (hfits : x.length ≤ 1400) : exec (.delivery d) s = s.next (b.creoshSend { back := r, op := 0x40, status := 0, body := x }) := by
  change s.next (s.blk.creoshDeliver d) = _
  unfold Block.creoshDeliver
  rw [hfound]
  simp only [← hb, hret, ← hx, if_neg hfits.not_gt]

end

theorem exec_armKeyExpiry_due {t : Nat} (harmed : s.blk.creosh.armed = some t) (hdue : t < s.blk.ao) :
    exec .armKeyExpiry s = s.next (s.blk.updCreosh (fun c => { c with armed := none })) := by
  change execArmKeyExpiry s = _
  simp only [execArmKeyExpiry, harmed, if_pos hdue]

/-! ### The hitching port (R355 to R357) -/

theorem exec_hitchAddressMatch_awake {a : BitVec 7} (ha : a.toNat = s.blk.hitchAddr) (hawake : s.blk.tackAsleep = false) (inTime : Bool) :
    exec (.hitchAddressMatch a inTime) s = s.next (s.blk.wakeHit 0) := by
  change execHitchAddressMatch a inTime s = _
  simp only [execHitchAddressMatch, ha, hawake, ne_eq, not_true_eq_false, if_false, Bool.false_and, Bool.false_eq_true]

theorem exec_hitchAddressMatch_late {a : BitVec 7} (ha : a.toNat = s.blk.hitchAddr) (hasleep : s.blk.tackAsleep = true) :
    exec (.hitchAddressMatch a false) s = s.next (((s.blk.wakeHit 0).count .host C.HOST.HITCH_NACK).emit .hitchNack) := by
  change execHitchAddressMatch a false s = _
  simp only [execHitchAddressMatch, ha, hasleep, ne_eq, not_true_eq_false, if_false, Bool.not_false, Bool.and_self, if_true]

theorem exec_registerAccess_read (s : State) (a : Nat) : exec (.registerAccess (.read a 1)) s =
    .next ((({ s with blk := s.blk.hitchCount } : State).busRead .hitch a).2.onBlk
      (fun b => b.emit (.hitch (bytesLE 4 (({ s with blk := s.blk.hitchCount } : State).busRead .hitch a).1)))) := by
  change Host.Outcome.next (State.onBlk _ (fun b => b.emit (.hitch ([_].flatMap (bytesLE 4))))) = _
  rw [List.flatMap_singleton]
  rfl

theorem wholeDwords_four {x : List Byte} (hx : x.length = 4) : wholeDwords x = [natLE x] := by
  rw [wholeDwords, hx]
  change [natLE (x.take 4)] = _
  rw [List.take_of_length_le hx.le]

theorem exec_registerAccess_write (a : Nat) {x : List Byte} (hx : x.length = 4) : exec (.registerAccess (.write a x)) s =
    .next (({ s with blk := s.blk.hitchCount } : State).busWrite .hitch a (natLE x)) := by
  change Host.Outcome.next ((s.onBlk Block.hitchCount).hitchDwords a (wholeDwords x)) = _
  rw [wholeDwords_four hx]
  rfl

/-! ### The debug access port (R427) -/

theorem exec_dapAccess_up (hup : s.blk.dapUp = true) (op : DapOp) : exec (.dapAccess op) s = .next (s.dap op) :=
  congrArg Host.Outcome.next (if_pos hup)

theorem exec_dapAccess_down (hdown : s.blk.dapUp = false) (op : DapOp) : exec (.dapAccess op) s = .next s :=
  congrArg Host.Outcome.next (if_neg (ne_true_of_eq_false hdown))

theorem Block.roadStops_dap_level2 (hlevel : b.sec.level = 2) (a : Nat) : b.roadStops .dap a = some false := by
  unfold Block.roadStops
  rw [if_neg (by decide), if_neg (by simp), if_neg (by simp), if_pos ⟨rfl, .inl (by omega)⟩]

theorem exec_dapAccess_write_level2 (hup : s.blk.dapUp = true) (hlevel : s.blk.sec.level = 2) (a : Nat) (v : Word) :
    exec (.dapAccess (.write a v)) s = .next s := by
  rw [exec_dapAccess_up hup]
  change Host.Outcome.next (s.busWrite .dap a v.toNat) = _
  rw [State.busWrite, State.viaRoad, Block.roadStops_dap_level2 hlevel]

/-- Settles O32: frames, blocks, deliveries and accesses, each by its lemma. -/
theorem creoshTransportAndPorts : Obligations.CreoshTransportAndPorts :=
  ⟨⟨fun _ _ _ _ _ hrun hlit hbad => exec_creoshFrame_bad hrun hlit hbad,
    fun _ _ _ _ _ _ hrun hlit hn hwhole hbody hversion hfloor hlock hkey =>
      exec_creoshFrame_wellFormed hrun hlit hn hwhole hbody hversion hfloor hlock hkey,
    fun _ _ _ _ _ _ _ _ hkey hx => State.creoshChecked_key hkey hx, fun _ _ _ _ _ _ hkey => State.creoshChecked_keyless hkey,
    fun _ hopen hrun hok hfirst => ⟨_, rfl, exec_creoshFloorWrite_first hopen hrun hok hfirst rfl⟩,
    fun _ hidle hused hok hfirst => ⟨_, rfl, exec_creoshTxblkWrite_first hidle hused hok hfirst rfl⟩,
    fun _ _ _ hfound => ⟨_, rfl, exec_delivery_noReturn hfound rfl⟩,
    fun _ _ _ _ _ _ hfound hb hret hx hfits => exec_delivery_returns hfound hb hret hx hfits,
    fun _ _ harmed hdue => exec_armKeyExpiry_due harmed hdue⟩,
  fun _ _ ha hawake inTime => exec_hitchAddressMatch_awake ha hawake inTime, fun _ _ ha hasleep => exec_hitchAddressMatch_late ha hasleep,
  exec_registerAccess_read, fun _ a _ hx => exec_registerAccess_write a hx, fun _ => rfl, fun _ _ hup => exec_dapAccess_up hup _,
  fun _ op hdown => exec_dapAccess_down hdown op, fun _ a v hup hlevel => exec_dapAccess_write_level2 hup hlevel a v⟩

end Sys2Proof.Machine
end

section
/-! The lifecycle and the debug port (R417 to R434): commands, transitions, fuses, sessions, TAP instructions and challenges. -/

namespace Sys2Proof.Machine

variable {s : State} {b : Block}

/-! ### Sessions (R434) -/

/-- The end of a session lowers a level above that of reset, and ends its challenge. -/
theorem Block.endSession_sec (b : Block) : b.endSession.sec = if resetLevel b.sec.lc < b.sec.level
    then { b.sec with level := resetLevel b.sec.lc, chal := none } else b.sec := by
  unfold Block.endSession
  dsimp only
  split
  · rw [Block.debugRec, (Block.ledgerOnly_event ..).1]
    rfl
  · rfl

theorem Block.endSession_level (b : Block) : b.endSession.sec.level = min b.sec.level (resetLevel b.sec.lc) := by
  rw [b.endSession_sec]
  split
  next habove => exact (min_eq_right habove.le).symm
  next hbelow => exact (min_eq_left (not_lt.mp hbelow)).symm

theorem Block.sealSession_level (b : Block) : b.sealSession.sec.level = min b.sec.level (resetLevel b.sec.lc) := Block.endSession_level _

theorem Block.sealSession_openStep (b : Block) : b.sealSession.sec.openStep = 0 := by
  rw [Block.sealSession, Block.endSession_sec]
  split <;> rfl

theorem Block.sealSession_chal (habove : resetLevel b.sec.lc < b.sec.level) : b.sealSession.sec.chal = none := by
  rw [Block.sealSession, Block.endSession_sec]
  exact congrArg Sec.chal (if_pos habove)

theorem exec_sessionEnd_keyed {road : Road} {v : Word} (hroad : s.blk.roadStops road R.SEC_DBG_CTRL = none)
    (hkey : v.toNat / 2 ^ 16 = 0x4442) (hend : bitOf v.toNat 0 = true) (hfrom : lcRoad road = true ∨ road = .creosh) :
    exec (.sessionEnd road v) s = s.next s.blk.sealSession :=
  congrArg s.next ((Block.viaRoad_open _ road _ _ _ hroad).trans (if_pos ⟨hkey, hend, hfrom⟩))

theorem exec_sessionIdleTimeout_on (hidle : s.blk.get F.SEC_DBG_CFG.IDLE_S ≠ 0) :
    exec .sessionIdleTimeout s = s.next s.blk.sealSession := congrArg s.next (if_neg hidle)

/-! ### Lifecycle commands (R418) -/

section
variable {road : Road} {v : Word} (hroad : s.blk.roadStops road R.SEC_LC_CMD = none) (hidle : s.blk.sec.move = none)

theorem State.lcCmd_refused (hidle : s.blk.sec.move = none) {key op mv x r : Nat} (hroad : road ≠ .hitch)
    (hrefused : s.lcRefusal road key op mv = some r) : s.lcCmd road key op mv x = { s with blk := s.blk.lcStatus 3 r } := by
  simp only [State.lcCmd, hidle, hrefused, Option.isSome_none, Bool.false_eq_true, if_false, if_neg hroad]

theorem State.lcCmd_accepted (hidle : s.blk.sec.move = none) {key op mv x : Nat} (hopen : s.lcRefusal road key op mv = none) :
    s.lcCmd road key op mv x = if op = 1 then s.genSecret x
      else { s with blk := (s.blk.lcStatus 1 0).updSec (fun c => { c with move := some (lcTarget op) }) } := by
  simp only [State.lcCmd, hidle, hopen, Option.isSome_none, Bool.false_eq_true, if_false]

/-- A lifecycle command over a road that lets it through is one of the four. -/
theorem State.viaRoad_lcCmd {op mv x : Nat} (hroad : s.blk.roadStops road R.SEC_LC_CMD = none) :
    s.viaRoad road R.SEC_LC_CMD v.toNat (fun s => s.lcCmd road (v.toNat / 2 ^ 16) op mv x) = s.lcCmd road (v.toNat / 2 ^ 16) op mv x :=
  s.viaRoad_open road _ _ _ hroad

include hroad hidle

theorem exec_genSecret_accepted {x : BitVec 256} {mv : Nat} (hopen : s.lcRefusal road (v.toNat / 2 ^ 16) 1 mv = none) :
    exec (.genSecret road v x mv) s = .next (s.genSecret x.toNat) :=
  congrArg Host.Outcome.next ((State.viaRoad_lcCmd hroad).trans (State.lcCmd_accepted hidle hopen))

theorem exec_toMaker_accepted {mv : Nat} (hopen : s.lcRefusal road (v.toNat / 2 ^ 16) 2 mv = none) :
    exec (.toMaker road v mv) s = s.next ((s.blk.lcStatus 1 0).updSec (fun c => { c with move := some 1 })) :=
  congrArg Host.Outcome.next ((State.viaRoad_lcCmd hroad).trans (State.lcCmd_accepted hidle hopen))

theorem exec_toField_accepted {mv : Nat} (hopen : s.lcRefusal road (v.toNat / 2 ^ 16) 3 mv = none) :
    exec (.toField road v mv) s = s.next ((s.blk.lcStatus 1 0).updSec (fun c => { c with move := some 2 })) :=
  congrArg Host.Outcome.next ((State.viaRoad_lcCmd hroad).trans (State.lcCmd_accepted hidle hopen))

theorem exec_toRetired_accepted {mv : Nat} (hopen : s.lcRefusal road (v.toNat / 2 ^ 16) 4 mv = none) :
    exec (.toRetired road v mv) s = s.next ((s.blk.lcStatus 1 0).updSec (fun c => { c with move := some 4 })) :=
  congrArg Host.Outcome.next ((State.viaRoad_lcCmd hroad).trans (State.lcCmd_accepted hidle hopen))

theorem exec_toMaker_refused {mv r : Nat} (hplain : road ≠ .hitch) (hrefused : s.lcRefusal road (v.toNat / 2 ^ 16) 2 mv = some r) :
    exec (.toMaker road v mv) s = s.next (s.blk.lcStatus 3 r) :=
  congrArg Host.Outcome.next ((State.viaRoad_lcCmd hroad).trans (State.lcCmd_refused hidle hplain hrefused))

end

section
variable {road : Road} {key mv : Nat} (hroad : lcRoad road = true) (hkey : key = 0x4C43) (hmaker : s.fuse.lifecycle = 1)
  (hstage : s.blk.stage ≠ stageExhausted)
include hroad hkey hmaker hstage

/-- TO_FIELD in MAKER with all it asks for. -/
theorem State.lcRefusal_toField (hmv : 3000 ≤ mv) (hlock : s.fuse.regLock = true) (hroot : s.fuse.rootUsable 0 = true) :
    s.lcRefusal road key 3 mv = none := by
  have hslot : [0, 1, 2, 3].any s.fuse.rootUsable = true := by
    rw [List.any_cons, hroot]
    rfl
  simp [State.lcRefusal, State.lc, hroad, hkey, hmaker, hstage, hlock, hslot, hmv.not_gt]

/-- Below 3,000 mV nothing is burned. -/
theorem State.lcRefusal_lowVbat (hmv : mv < 3000) : s.lcRefusal road key 4 mv = some 4 := by
  simp [State.lcRefusal, State.lc, hroad, hkey, hmaker, hstage, hmv]

end

/-! ### Transitions (R419) -/

/-- A transition whose zeroisation is behind it, or that needs none, burns its bit, records the change and resets the device. -/
theorem State.transition_burns {t : Nat} {c : Block} {fu : Fuses} (hready : t < 3 ∨ (s.blk.sec.moveWiped = true ∧ s.blk.sec.wipeWait = false))
    (hb : b = (s.blk.updSec (fun c => { c with move := none, moveWiped := false })).sealSession)
    (hfu : fu = { s.fuse with sec := burnWords s.fuse.sec 0 [lcBit t] })
    (hc : c = b.event 21 35 0 (bytesLE 1 s.fuse.lifecycle ++ bytesLE 1 fu.lifecycle)) : s.transition t =
      { s with fuse := fu, blk := (c.updSec (fun c => { c with lc := fu.lifecycle, level := resetLevel fu.lifecycle, chal := none })).wideReset fu kindDevice 0 none } := by
  have hask : (decide (3 ≤ t) && !s.blk.sec.moveWiped) = false := by
    obtain hshort | ⟨hwiped, -⟩ := hready
    · rw [decide_eq_false hshort.not_ge, Bool.false_and]
    · rw [hwiped, Bool.not_true, Bool.and_false]
  have hthrough : ¬(3 ≤ t ∧ s.blk.sec.wipeWait = true) := by
    obtain hshort | ⟨-, hdone⟩ := hready
    · exact fun h => absurd h.1 hshort.not_ge
    · exact fun h => absurd h.2 (ne_true_of_eq_false hdone)
  subst hc hfu hb
  unfold State.transition
  simp only [hask, Bool.false_eq_true, if_false, false_and, if_neg hthrough]
  rfl

/-- One that still asks for its zeroisation is refused with it. -/
theorem State.transition_refused {t : Nat} (ht : 3 ≤ t) (hasks : s.blk.sec.moveWiped = false) (hrefused : s.blk.wipeRefused = true) :
    s.transition t = { s with blk := (s.blk.updSec (fun c => { c with move := none, moveWiped := false })).lcStatus 3 3 } := by
  unfold State.transition
  simp only [decide_eq_true ht, hasks, hrefused, Bool.not_false, Bool.and_self, and_self, if_true]

theorem State.transition_waits {t : Nat} (ht : 3 ≤ t) (hasks : s.blk.sec.moveWiped = false) (hopen : s.blk.wipeRefused = false)
    (hb : b = s.blk.zeroise.updSec (fun c => { c with moveWiped := true })) (hwait : b.sec.wipeWait = true) :
    s.transition t = { s with blk := b } := by
  unfold State.transition
  simp only [decide_eq_true ht, hasks, hopen, Bool.not_false, Bool.and_self, if_true, Bool.false_eq_true, and_false, if_false, ← hb,
    if_pos (And.intro ht hwait)]

theorem exec_lifecycleTransition_moving {t : Nat} (hmove : s.blk.sec.move = some t) :
    exec .lifecycleTransition s = .next (s.transition t) := by
  change execLifecycleTransition s = _
  simp only [execLifecycleTransition, hmove]

/-! ### Fuses (R421) -/

theorem exec_secFuseWrite_open {road : Road} {v : Word} {mv : Nat} (hroad : s.blk.roadStops road R.SEC_FUSE_DATA = none) :
    exec (.secFuseWrite road v mv) s = .next (s.fuseWrite road v.toNat mv) :=
  congrArg Host.Outcome.next (s.viaRoad_open road _ _ _ hroad)

/-- Words 8 to 55 are open up to MAKER, every bit of them. -/
theorem State.fuseWrite_burns {road : Road} {v mv : Nat} (hmv : 3000 ≤ mv) (hlc : s.fuse.lifecycle ≤ 1)
    (hlo : 8 ≤ s.blk.get F.SEC_FUSE_IDX.WORD) (hhi : s.blk.get F.SEC_FUSE_IDX.WORD < 56) : s.fuseWrite road v mv =
      { s with fuse := { s.fuse with sec := burnWords s.fuse.sec (s.blk.get F.SEC_FUSE_IDX.WORD) [v &&& 0xFFFFFFFF] } } := by
  have hmask : fuseMask (s.blk.get F.SEC_FUSE_IDX.WORD) = 0xFFFFFFFF := if_neg (by omega)
  have hopen : ∀ i < 4, fuseOpen s.lc (4 * s.blk.get F.SEC_FUSE_IDX.WORD + i) = true := by
    intro i hi
    rw [fuseOpen, if_neg (by omega), if_neg (by omega), if_pos (by omega)]
    exact decide_eq_true hlc
  have htouched : ((([0, 1, 2, 3].filter (fun i => v / 2 ^ (8 * i) % 256 != 0)).map
      (fun i => 4 * s.blk.get F.SEC_FUSE_IDX.WORD + i)).all (fuseOpen s.lc)) = true := by
    rw [List.all_map, List.all_eq_true]
    intro i hi
    have hmem := (List.mem_filter.mp hi).1
    exact hopen i (by simp only [List.mem_cons, List.not_mem_nil, or_false] at hmem; omega)
  have hword : (s.blk.get F.SEC_FUSE_IDX.WORD == 0) = false := beq_false_of_ne (by omega)
  unfold State.fuseWrite
  dsimp only
  rw [htouched, decide_eq_false hmv.not_gt, hword, hmask]
  rfl

theorem State.fuseWrite_lowVbat {road : Road} {v mv : Nat} (hmv : mv < 3000) :
    s.fuseWrite road v mv = { s with blk := s.blk.noteWrite road R.SEC_FUSE_DATA v } := by
  unfold State.fuseWrite
  exact if_pos (by rw [decide_eq_true hmv, Bool.or_true, Bool.true_or])

/-! ### TAP instructions (R426) -/

/-- An instruction that the level does not allow loads BYPASS. -/
theorem exec_tapInstructionLoad_bypass {c : BitVec 8} (hfree : s.blk.sec.hold = false)
    (hbarred : tapRule c.toNat = none ∨ ∃ lv up, tapRule c.toNat = some (lv, up) ∧ s.blk.sec.level < lv) :
    exec (.tapInstructionLoad c) s = s.next (s.blk.updSec (fun c => { c with ir := 0xFF, hold := false })) := by
  change s.next (s.blk.tapLoad s.fuse c.toNat) = _
  obtain hnone | ⟨lv, up, hrule, hlevel⟩ := hbarred
  · simp only [Block.tapLoad, hnone, hfree]
    rfl
  · simp only [Block.tapLoad, hrule, hfree, decide_eq_false hlevel.not_ge, Bool.false_and]
    rfl

section
variable {c : BitVec 8} {lv : Nat} {up : Bool} (hrule : tapRule c.toNat = some (lv, up)) (hlevel : lv ≤ s.blk.sec.level)
  (hgait : up = false ∨ s.blk.gait ≠ 4) (hfree : s.blk.sec.hold = false)
include hgait

theorem Block.tapInstruction_runs : (!up || s.blk.gait != 4) = true := by
  obtain hany | habove := hgait
  · rw [hany]
    rfl
  · rw [bne_iff_ne.mpr habove, Bool.or_true]

include hrule hlevel hfree

theorem exec_tapInstructionLoad_plain (hcode : c.toNat ≠ 1) (hplain : tapHolds c.toNat = false) :
    exec (.tapInstructionLoad c) s = s.next (s.blk.updSec (fun x => { x with ir := c.toNat, hold := false })) := by
  change s.next (s.blk.tapLoad s.fuse c.toNat) = _
  simp only [Block.tapLoad, hrule, decide_eq_true hlevel, Bool.or_false, Block.tapInstruction_runs hgait, Bool.and_self, if_true, hplain, hfree,
    Bool.false_and, bne_self_eq_false, Bool.false_eq_true, if_false, if_neg hcode]

theorem exec_tapInstructionLoad_holds (hcode : c.toNat ≠ 1) (hholds : tapHolds c.toNat = true) : exec (.tapInstructionLoad c) s =
    s.next ((s.blk.updSec (fun x => { x with ir := c.toNat, hold := true })).keeperClose.wideReset s.fuse kindPin 0 none) := by
  change s.next (s.blk.tapLoad s.fuse c.toNat) = _
  simp only [Block.tapLoad, hrule, decide_eq_true hlevel, Bool.or_false, Block.tapInstruction_runs hgait, Bool.and_self, if_true, hholds, hfree,
    Bool.not_false, if_neg hcode]
  rfl

end

theorem exec_tapInstructionLoad_idcode (hfree : s.blk.sec.hold = false) : exec (.tapInstructionLoad 1) s =
    s.next ((s.blk.updSec (fun c => { c with ir := 1, hold := false })).emit (.tap (bytesLE 4 0x132568BD))) := by
  have hrule : tapRule (1 : BitVec 8).toNat = some (0, false) := rfl
  change s.next (s.blk.tapLoad s.fuse (1 : BitVec 8).toNat) = _
  simp only [Block.tapLoad, hrule, decide_eq_true (Nat.zero_le s.blk.sec.level), hfree]
  rfl

/-! ### Challenges and responses (R428, R429) -/

theorem exec_dbgChallenge_barred (habove : s.blk.gait ≠ 4)
    (hbarred : s.blk.sec.lc = 4 ∨ s.blk.sec.tamperLow = true ∨ s.blk.tallyOk 10 = false)
    (hb : b = s.blk.updSec (fun c => { c with status := 3 })) : exec .dbgChallenge s = s.next (b.emit (.tap (b.chalRecord s.fuse))) := by
  have hbar : (s.blk.sec.lc == 4 || (s.blk.gait == 4 && (s.blk.ceil 2 || s.blk.ceil 3)) || s.blk.sec.tamperLow || !s.blk.tallyOk 10) = true := by
    obtain hretired | htamper | htally := hbarred
    · rw [hretired]
      rfl
    · rw [htamper, Bool.or_true, Bool.true_or]
    · rw [htally, Bool.not_false, Bool.or_true]
  subst hb
  change s.next (s.blk.askChallenge s.fuse) = _
  simp only [Block.askChallenge, if_neg habove, hbar, if_true]

theorem exec_dbgChallenge_issued {n : Nat} (habove : s.blk.gait ≠ 4) (hlc : s.blk.sec.lc ≠ 4) (hquiet : s.blk.sec.tamperLow = false)
    (hok : s.blk.tallyOk 10 = true) (hfree : s.blk.lockoutS = 0) (hn : n = (s.blk.tally 10 + 1) % 2 ^ 32)
    (hb : b = (s.blk.tallyPut 10 n).updSec (fun c => { c with status := 0, counter := n, chal := some (s.blk.ao, n) })) :
    exec .dbgChallenge s = s.next (b.emit (.tap (b.chalRecord s.fuse))) := by
  have hopen : (s.blk.sec.lc == 4 || (s.blk.gait == 4 && (s.blk.ceil 2 || s.blk.ceil 3)) || s.blk.sec.tamperLow || !s.blk.tallyOk 10) = false := by
    rw [beq_false_of_ne hlc, beq_false_of_ne habove, hquiet, hok]
    rfl
  subst hb hn
  change s.next (s.blk.askChallenge s.fuse) = _
  simp only [Block.askChallenge, if_neg habove, hopen, Bool.false_eq_true, if_false, hfree, ne_eq, not_true_eq_false]

theorem exec_challengeExpiry_due {t n : Nat} (hchal : s.blk.sec.chal = some (t, n)) (hdue : t + 60000000000 ≤ s.blk.ao) :
    exec .challengeExpiry s = s.next (s.blk.updSec (fun c => { c with chal := none })) := by
  change execChallengeExpiry s = _
  simp only [execChallengeExpiry, hchal, if_pos hdue]

theorem exec_dbgResponse_void (hnone : s.blk.challenge = none) (o : List Byte) :
    exec (.dbgResponse o) s = s.next (s.blk.dbgReject (o.getD 0 0).toNat) := by
  change s.next (s.blk.dbgResponse s.fuse o) = _
  simp only [Block.dbgResponse, hnone]

theorem exec_dbgResponse_badLength {c : Nat} {o : List Byte} (hchal : s.blk.challenge = some c) (hlength : o.length ≠ 132) :
    exec (.dbgResponse o) s = s.next (s.blk.dbgReject (o.getD 0 0).toNat) := by
  change s.next (s.blk.dbgResponse s.fuse o) = _
  simp only [Block.dbgResponse, hchal, if_neg hlength, decide_eq_false hlength, Bool.false_and, Bool.false_eq_true, if_false]

theorem exec_dbgResponse_granted {c : Nat} {o : List Byte} (hchal : s.blk.challenge = some c) (hlength : o.length = 132)
    (hb : b = s.blk.respJobs s.fuse s.blk.sec.lc c o) (habove : b.gait ≠ 4)
    (hallowed : s.fuse.reqAllowed s.blk.sec.lc (o.getD 0 0).toNat = true) (hsigned : s.fuse.signedOk s.blk.sec.lc c o = true)
    (hwipe : b.wipeRefused = false) : exec (.dbgResponse o) s = s.next (b.dbgGrant s.blk.sec.lc (o.getD 0 0).toNat) := by
  change s.next (s.blk.dbgResponse s.fuse o) = _
  simp only [Block.dbgResponse, hchal, if_pos hlength, ← hb, decide_eq_true hlength, hallowed, hsigned, hwipe, beq_false_of_ne habove,
    Bool.false_and, Bool.and_false, Bool.not_false, Bool.and_self, if_true]

/-- Settles O40: lifecycle commands, transitions and fuses by their lemmas, sessions by what their end leaves. -/
theorem lifecycleEffects : Obligations.LifecycleEffects := by
  refine ⟨fun s road v hroad hidle => ⟨fun x mv hopen => exec_genSecret_accepted hroad hidle hopen,
      fun mv hopen => exec_toMaker_accepted hroad hidle hopen, fun mv hopen => exec_toField_accepted hroad hidle hopen,
      fun mv hopen => exec_toRetired_accepted hroad hidle hopen, fun mv r hplain hrefused => exec_toMaker_refused hroad hidle hplain hrefused,
      fun hfrom hkey hmaker hstage => ⟨fun mv hmv hlock hroot => State.lcRefusal_toField hfrom hkey hmaker hstage hmv hlock hroot,
        fun mv hmv => State.lcRefusal_lowVbat hfrom hkey hmaker hstage hmv⟩⟩,
    ⟨fun s t b c fu ht hmove hb hfu hc => ?_, fun s hmove hasks hrefused => ?_, fun s t b ht hmove hasks hopen hb hwait => ?_,
      fun s t b c fu ht hmove hwiped hdone hb hfu hc => ?_, fun s road v mv hroad hmv hlc hlo hhi => ?_, fun s road v mv hroad hmv => ?_,
      fun s hsecret => if_pos hsecret⟩,
    fun s => ⟨_, rfl, s.blk.sealSession_level, s.blk.sealSession_openStep, Block.sealSession_chal⟩,
    fun s hidle => ⟨_, exec_sessionIdleTimeout_on hidle, s.blk.sealSession_level, s.blk.sealSession_openStep⟩,
    fun s v hroad hkey hend => ⟨_, exec_sessionEnd_keyed hroad hkey hend (.inr rfl), s.blk.sealSession_level, s.blk.sealSession_openStep⟩,
    fun s c lv up hrule hlevel hgait hfree hcode => ⟨exec_tapInstructionLoad_plain hrule hlevel hgait hfree hcode,
      exec_tapInstructionLoad_holds hrule hlevel hgait hfree hcode⟩,
    fun s b habove hbarred hb => exec_dbgChallenge_barred habove hbarred hb,
    fun s t n hchal hdue => ⟨_, exec_challengeExpiry_due hchal hdue, rfl, rfl⟩,
    fun s o c hchal hlength => exec_dbgResponse_badLength hchal hlength⟩
  · rw [exec_lifecycleTransition_moving hmove, State.transition_burns (.inl (by omega)) hb hfu hc]
  · rw [exec_lifecycleTransition_moving hmove, State.transition_refused (by decide) hasks hrefused]
    rfl
  · rw [exec_lifecycleTransition_moving hmove, State.transition_waits (by omega) hasks hopen hb hwait]
    rfl
  · rw [exec_lifecycleTransition_moving hmove, State.transition_burns (.inr ⟨hwiped, hdone⟩) hb hfu hc]
  · rw [exec_secFuseWrite_open hroad, State.fuseWrite_burns hmv hlc hlo hhi]
  · rw [exec_secFuseWrite_open hroad, State.fuseWrite_lowVbat hmv]
    rfl

/-- Settles O42: instructions, challenges, responses and sessions, each by its lemma. -/
theorem debugPortEffects : Obligations.DebugPortEffects :=
  ⟨fun _ _ hfree hbarred => exec_tapInstructionLoad_bypass hfree hbarred, fun _ hfree => exec_tapInstructionLoad_idcode hfree,
    fun _ _ _ habove hlc hquiet hok hfree hn hb => exec_dbgChallenge_issued habove hlc hquiet hok hfree hn hb,
    fun _ _ _ hchal hdue => exec_challengeExpiry_due hchal hdue, fun _ o hnone => exec_dbgResponse_void hnone o,
    fun _ _ _ _ hchal hlength hb habove hallowed hsigned hwipe => exec_dbgResponse_granted hchal hlength hb habove hallowed hsigned hwipe,
    fun _ => rfl, fun _ _ hroad hkey hend => exec_sessionEnd_keyed hroad hkey hend (.inl rfl),
    fun _ hidle => exec_sessionIdleTimeout_on hidle, Block.endSession_level⟩

end Sys2Proof.Machine
end

section
/-! The flash controller (R440 to R451): erases, reclaim, scrub, retirement, wear and tally writes. -/

namespace Sys2Proof.Machine

variable {s : State} {b c : Block}

/-! ### Erases (R440, R442) -/

/-- A block with nothing live is erased while background work runs, that of the steward store always. -/
theorem exec_flashErase_free {n : Fin 96} (hfree : s.blk.liveIn n.val = []) (hmay : s.blk.flashBg = true ∨ n.val = 78) :
    exec (.flashErase n) s = s.next (s.blk.eraseStart n.val) := by
  refine congrArg s.next (if_pos ?_)
  obtain hbg | hstore := hmay
  · rw [hfree, hbg]
    rfl
  · rw [hfree, beq_iff_eq.mpr hstore, Bool.or_true]
    rfl

theorem exec_eraseSuspend_shown (hbusy : s.blk.flash.erase ≠ none) (hb : b = (s.blk.sat F.FLASH_SUSPENDS.CUR 1).count .flash C.FLASH.SUSPENDS)
    (hnolimit : b.get F.FLASH_CFG.STARVE_N = 0) : exec .eraseSuspend s =
      s.next (b.set F.FLASH_SUSPENDS.MAX (max (b.get F.FLASH_SUSPENDS.CUR) (b.get F.FLASH_SUSPENDS.MAX))) := by
  subst hb
  refine congrArg s.next ((if_neg (by rwa [Option.isNone_iff_eq_none])).trans (if_neg fun h => h.1 ?_))
  rw [Block.get_set_other _ _ (by decide)]
  exact hnolimit

theorem exec_starve_first {ms : Nat} (hlimit : s.blk.get F.FLASH_CFG.STARVE_MS ≠ 0) (hlong : s.blk.get F.FLASH_CFG.STARVE_MS < ms)
    (hbusy : s.blk.flash.erase ≠ none) (hfirst : s.blk.on F.FLASH_STATUS.STARVED = false) : exec (.starve ms) s =
      s.next (((s.blk.set F.FLASH_STATUS.STARVED 1).count .flash C.FLASH.STARVE).fire 20 33) := by
  have hpending : s.blk.flash.erase.isNone = false := by rwa [Option.isNone_eq_false_iff, Option.isSome_iff_ne_none]
  exact congrArg s.next ((if_pos (.inl ⟨hlimit, hlong⟩)).trans (if_neg (by rw [hpending, hfirst]; decide)))

/-- An erase that completes outside the scrub and the steward store. -/
theorem exec_eraseComplete_plain {n : Nat} (hbusy : s.blk.flash.erase = some n) (hplain : n ≠ 78) (hdirect : s.blk.flash.scrubBuf = none)
    (hb : b = ((s.blk.updBlk n (fun k => { k with count := k.count + 1, hours := s.blk.tally 14, hdrOk := true, ready := true, marked := false })).updFlash
      (fun f => { f with erase := none })).count .flash C.FLASH.ERASES)
    (hc : c = (((((b.set F.FLASH_STATUS.ERASING 0).set F.FLASH_STATUS.SUSPENDED 0).set F.FLASH_STATUS.STARVED 0).wearUpdate).flushTallies 17).secSettle)
    (hyoung : (c.blkAt n).count < 100000) : exec .eraseComplete s = s.next c.lpRelease := by
  have hnobuf : ¬(((b.set F.FLASH_STATUS.ERASING 0).set F.FLASH_STATUS.SUSPENDED 0).set F.FLASH_STATUS.STARVED 0).flash.scrubBuf = some n := by
    intro h
    have hbuf : b.flash.scrubBuf = some n := h
    rw [hb, Block.count_flash] at hbuf
    cases hdirect.symm.trans hbuf
  have hdone : s.blk.eraseDone = c := by
    unfold Block.eraseDone
    rw [hbusy]
    simp only [← hb, if_neg hnobuf, if_neg hplain, ← hc, if_neg hyoung.not_ge]
  change s.next s.blk.eraseDone.lpRelease = _
  rw [hdone]

/-! ### Reclaim, scrub and retirement (R443, R447, R450) -/

theorem exec_journalReclaim_short {n : Nat} (hfew : s.blk.readyBlocks.length < 2) (hbg : s.blk.flashBg = true)
    (hold : s.blk.oldestBlk = some n) : exec .journalReclaim s = s.next (s.blk.reclaim n) := by
  change execJournalReclaim s = _
  simp only [execJournalReclaim, decide_eq_true hfew, hbg, hold, Bool.true_or, Bool.and_self, if_true]

theorem exec_scrubVisit_weak (hen : s.blk.on F.FLASH_SCRUB.EN = true) (hbg : s.blk.flashBg = true)
    (hb : b = (s.blk.count .flash C.FLASH.SCRUB_READ).updFlash (fun f => { f with scrubPos := (s.blk.flash.scrubPos % 96 + 1) % 96 }))
    (hused : (b.blkAt (s.blk.flash.scrubPos % 96)).retired = false) :
    exec (.scrubVisit true) s = s.next (b.scrubMark (s.blk.flash.scrubPos % 96)) := by
  change execScrubVisit true s = _
  simp only [execScrubVisit, hen, hbg, ← hb, hused, Bool.not_true, Bool.or_self, Bool.false_eq_true, if_false, Bool.true_or,
    Bool.not_false, Bool.and_self, if_true]

theorem exec_scrubRewrite_rotation {n : Fin 96} (hmarked : (s.blk.blkAt n.val).marked = true) (hfree : s.blk.flash.erase = none)
    (hbg : s.blk.flashBg = true) (hrotation : s.blk.inRotation n.val = true) (hhead : n.val ≠ s.blk.flash.head)
    (herased : (s.blk.reclaim n.val).flash.erase = some n.val) : exec (.scrubRewrite n) s =
      s.next (((s.blk.reclaim n.val).updBlk n.val (fun k => { k with scrubAo := s.blk.ao + 1 })).count .flash C.FLASH.SCRUB_REWRITE) := by
  refine congrArg s.next ((if_neg ?_).trans ((if_pos (.inl hrotation)).trans (if_neg ?_)))
  · rw [hmarked, hfree, hbg]
    decide
  · exact not_or.mpr ⟨hhead, not_not.mpr herased⟩

theorem exec_wear_first (hworn : 80 ≤ s.blk.get F.FLASH_WEAR.TALLY_WEAR) (hfirst : s.blk.flash.wearFired = false) :
    exec .wear s = s.next (((s.blk.set F.FLASH_STATUS.WARN 1).updFlash (fun f => { f with wearFired := true })).fire 20 32) :=
  congrArg s.next (if_pos ⟨hworn, by rw [hfirst]; rfl⟩)

/-! ### Tallies over a road (R444) -/

theorem exec_tallyWrite_open {road : Road} (hroad : s.blk.roadStops road R.FLASH_TALLY_DATA = none) (n : Fin 2048) (v : Word) :
    exec (.tallyWrite road n v) s = s.next (s.blk.tallyRoad road n.val v.toNat) := congrArg s.next (Block.viaRoad_open _ road _ _ _ hroad)

theorem exec_tallyWrite_device {road : Road} (hroad : s.blk.roadStops road R.FLASH_TALLY_DATA = none) {n : Fin 2048} (v : Word)
    (hdevice : n.val < 512) : exec (.tallyWrite road n v) s = s.next (s.blk.noteWrite road R.FLASH_TALLY_DATA v.toNat) :=
  (exec_tallyWrite_open hroad n v).trans (congrArg s.next (if_pos hdevice))

theorem exec_tallyWrite_steward {road : Road} (hroad : s.blk.roadStops road R.FLASH_TALLY_DATA = none) {n : Fin 2048} (v : Word)
    (hsteward : 512 ≤ n.val) : exec (.tallyWrite road n v) s = s.next (s.blk.tallyPut n.val v.toNat) :=
  (exec_tallyWrite_open hroad n v).trans (congrArg s.next (if_neg hsteward.not_gt))

end Sys2Proof.Machine
end

section
/-! Packhorse (R458 to R464): pieces, queries, aborts, sheaf checks, staging and installation. -/

namespace Sys2Proof.Machine

variable {s : State} {q : CreoshReq} {p : PieceReq} {b : Block}

theorem Block.sheafEnd_idle (hidle : b.ost.sheafCheck = none) : b.sheafEnd = b := by
  simp only [Block.sheafEnd, hidle]

/-! ### Pieces while Ostler runs -/

section
variable (hidle : s.blk.ost.sheafCheck = none) (hrun : s.blk.est 0 = stRun)
include hidle hrun

/-- The first manifest piece of an update names it and erases the head of the staging area. -/
theorem exec_manifestPiece_started (hstate : s.blk.phState = 0) (hindex : p.index ≤ 7) (hup : s.blk.stageUp = true) (hok : p.norOk = true) :
    exec (.manifestPiece q p) s =
      s.next ((((s.blk.norErase (s.blk.stageAt 0) 0x3000).tallyPut 18 p.update).tallyPut 17 (2 ^ 28)).phResult q 2) := by
  change s.next (s.blk.manifestPiece s.fuse q p) = _
  simp only [Block.manifestPiece, Block.sheafEnd_idle hidle, hrun, hstate, hup, hok, ne_eq, not_true_eq_false, false_and, if_false,
    if_neg hindex.not_gt, if_true, Bool.not_true, Bool.or_self, Bool.false_eq_true]

theorem exec_manifestPiece_other (hstate : s.blk.phState ≠ 0) (hother : p.update % 2 ^ 32 ≠ s.blk.tally 18) :
    exec (.manifestPiece q p) s = s.next (s.blk.phResult q 3) := by
  change s.next (s.blk.manifestPiece s.fuse q p) = _
  simp only [Block.manifestPiece, Block.sheafEnd_idle hidle, hrun, ne_eq, not_true_eq_false, if_false, if_pos (And.intro hstate hother)]

/-- A further piece is stored; without the first one the manifest is not yet judged. -/
theorem exec_manifestPiece_stored {m : Nat} (hstate : s.blk.phState = 1) (hsame : p.update % 2 ^ 32 = s.blk.tally 18) (hindex : p.index ≤ 7)
    (hok : p.norOk = true) (hnew : bitOf (s.blk.tally 17 % 256) p.index = false)
    (hb : b = s.blk.norProgram (s.blk.stageAt (0x1000 + 1024 * p.index)) (padTo 1024 p.data))
    (hm : m = setBit (s.blk.tally 17 % 256) p.index true) (hopen : bitOf m 0 = false) :
    exec (.manifestPiece q p) s = s.next (((b.tallyPut 17 (2 ^ 28 + m)).lane 0 1 1).phResult q 0 [17]) := by
  change s.next (s.blk.manifestPiece s.fuse q p) = _
  simp only [Block.manifestPiece, Block.sheafEnd_idle hidle, hrun, hstate, hsame, hok, hnew, ← hb, ← hm, hopen, ne_eq, not_true_eq_false,
    and_false, if_false, if_neg hindex.not_gt, one_ne_zero, Bool.not_true, Bool.false_eq_true, false_and, Bool.false_and]

theorem exec_payloadPiece_other (hstate : s.blk.phState ≠ 0) (hother : p.update % 2 ^ 32 ≠ s.blk.tally 18) :
    exec (.payloadPiece q p) s = s.next (s.blk.phResult q 3) := by
  change s.next (s.blk.payloadPiece q p) = _
  simp only [Block.payloadPiece, Block.sheafEnd_idle hidle, hrun, ne_eq, not_true_eq_false, if_false, if_pos (And.intro hstate hother)]

theorem exec_query_known {i : Nat} (hindex : i < 32) (u : Nat) : exec (.query q i u) s =
    s.next (s.blk.phReply q 0 ((List.range 8).flatMap (fun k => bytesLE 4 (s.blk.tally (256 + 8 * i + k))))) := by
  change s.next (s.blk.phQuery q i) = _
  simp only [Block.phQuery, Block.sheafEnd_idle hidle, hrun, ne_eq, not_true_eq_false, if_false, if_neg hindex.not_ge]

theorem exec_query_beyond {i : Nat} (hindex : 32 ≤ i) (u : Nat) :
    exec (.query q i u) s = s.next (s.blk.phReply q 5 (List.replicate 32 0)) := by
  change s.next (s.blk.phQuery q i) = _
  simp only [Block.phQuery, Block.sheafEnd_idle hidle, hrun, ne_eq, not_true_eq_false, if_false, if_pos hindex]

theorem exec_abort_held {u : Nat} (hstate : s.blk.phState ≠ 0) (hsame : u % 2 ^ 32 = s.blk.tally 18) :
    exec (.abort q u) s = s.next (s.blk.phIdle.phReply q 0) := by
  change s.next (s.blk.phAbort q u) = _
  simp only [Block.phAbort, Block.sheafEnd_idle hidle, hrun, hsame, ne_eq, not_true_eq_false, if_false, if_neg hstate]

theorem exec_abort_other {u : Nat} (hstate : s.blk.phState ≠ 0) (hother : u % 2 ^ 32 ≠ s.blk.tally 18) :
    exec (.abort q u) s = s.next (s.blk.phReply q 3) := by
  change s.next (s.blk.phAbort q u) = _
  simp only [Block.phAbort, Block.sheafEnd_idle hidle, hrun, ne_eq, not_true_eq_false, if_false, if_neg hstate, if_pos hother]

theorem exec_abort_none (hstate : s.blk.phState = 0) (u : Nat) : exec (.abort q u) s = s.next (s.blk.phReply q 7) := by
  change s.next (s.blk.phAbort q u) = _
  simp only [Block.phAbort, Block.sheafEnd_idle hidle, hrun, ne_eq, not_true_eq_false, if_false, if_pos hstate]

/-! A payload piece of the update in progress. -/

section
variable (hstate : s.blk.phState = 2) (hsame : p.update % 2 ^ 32 = s.blk.tally 18) (hindex : p.index < s.blk.pieceCount)
include hstate hsame hindex

theorem exec_payloadPiece_again (hset : s.blk.pieceSet p.index = true) : exec (.payloadPiece q p) s = s.next (s.blk.phResult q 1) := by
  change s.next (s.blk.payloadPiece q p) = _
  simp only [Block.payloadPiece, Block.sheafEnd_idle hidle, hrun, hstate, hsame, hset, ne_eq, not_true_eq_false, and_false, if_false,
    if_neg hindex.not_ge, lt_irrefl, Nat.reduceEqDiff, if_true]

theorem exec_payloadPiece_erases (hnew : s.blk.pieceSet p.index = false) (hok : p.norOk = true)
    (hlow : s.blk.tally (256 + 2 * (p.index / 64)) = 0) (hhigh : s.blk.tally (257 + 2 * (p.index / 64)) = 0)
    (hfresh : s.blk.ost.erased.contains (p.index / 64) = false) :
    exec (.payloadPiece q p) s = s.next ((s.blk.sheafErase (p.index / 64)).phResult q 2) := by
  change s.next (s.blk.payloadPiece q p) = _
  simp only [Block.payloadPiece, Block.sheafEnd_idle hidle, hrun, hstate, hsame, hnew, hok, hlow, hhigh, hfresh, ne_eq, not_true_eq_false,
    and_false, if_false, if_neg hindex.not_ge, lt_irrefl, Nat.reduceEqDiff, Bool.false_eq_true, Bool.not_true, Bool.not_false, and_self,
    if_true]

theorem exec_payloadPiece_stored (hnew : s.blk.pieceSet p.index = false) (hok : p.norOk = true)
    (herased : s.blk.ost.erased.contains (p.index / 64) = true)
    (hblank : (s.blk.norBytes (s.blk.stageAt (0x10000 + 1024 * p.index)) 1024).any (· != 0xFF) = false) :
    exec (.payloadPiece q p) s = s.next (s.blk.pieceStore q p) := by
  change s.next (s.blk.payloadPiece q p) = _
  simp only [Block.payloadPiece, Block.sheafEnd_idle hidle, hrun, hstate, hsame, hnew, hok, herased, hblank, ne_eq, not_true_eq_false,
    and_false, if_false, if_neg hindex.not_ge, lt_irrefl, Nat.reduceEqDiff, Bool.false_eq_true, Bool.not_true]

end

end

/-! ### Pieces while Ostler does not run -/

section
variable (hidle : s.blk.ost.sheafCheck = none) (hstop : s.blk.est 0 ≠ stRun)
include hidle hstop

theorem exec_manifestPiece_stopped : exec (.manifestPiece q p) s = s.next (s.blk.creoshReply q 5 5) := by
  change s.next (s.blk.manifestPiece s.fuse q p) = _
  simp only [Block.manifestPiece, Block.sheafEnd_idle hidle, if_pos hstop]

theorem exec_payloadPiece_stopped : exec (.payloadPiece q p) s = s.next (s.blk.creoshReply q 5 5) := by
  change s.next (s.blk.payloadPiece q p) = _
  simp only [Block.payloadPiece, Block.sheafEnd_idle hidle, if_pos hstop]

end

/-! ### Sheaf checks (R460) -/

section
variable {k : Nat} (hrun : s.blk.est 0 = stRun)
include hrun

/-- With no check waiting the next complete sheaf is judged. -/
theorem exec_sheafCheck_next (hidle : s.blk.ost.sheafCheck = none) (hstate : s.blk.phState = 2)
    (hnext : (List.range (ceilDiv s.blk.pieceCount 64)).find? (fun k => s.blk.sheafFull k && !s.blk.ost.sheafOk.contains k) = some k) :
    exec .sheafCheck s = s.next (s.blk.sheafJudge k).2 := by
  change execSheafCheck s = _
  simp only [execSheafCheck, hrun, hidle, hstate, hnext, ne_eq, not_true_eq_false, if_false, Option.isSome_none, Bool.false_eq_true, if_true]

theorem exec_sheafCheck_waiting (hwaits : s.blk.ost.sheafCheck = some (k, q)) : exec .sheafCheck s = s.next s.blk.sheafEnd := by
  change execSheafCheck s = _
  simp only [execSheafCheck, hrun, hwaits, ne_eq, not_true_eq_false, if_false, Option.isSome_some, if_true]

end

theorem Block.sheafEnd_good {a c : Block} {k : Nat} (hwaits : b.ost.sheafCheck = some (k, q)) (ha : a = b.updOst (fun o => { o with sheafCheck := none }))
    (hc : c = a.hashJob (a.sheafBytes k).length) (hgood : c.sheafGood k = true) : b.sheafEnd =
      ((c.updOst (fun o => { o with sheafOk := o.sheafOk ++ [k] })).count .packhorse C.PH.SHEAF_OK).phResult q 0 [256 + 2 * k, 257 + 2 * k] := by
  simp only [Block.sheafEnd, hwaits, ← ha, Block.sheafJudge, ← hc, hgood, if_true]

theorem Block.sheafEnd_bad {a c d : Block} {k : Nat} (hwaits : b.ost.sheafCheck = some (k, q)) (ha : a = b.updOst (fun o => { o with sheafCheck := none }))
    (hc : c = a.hashJob (a.sheafBytes k).length) (hbad : c.sheafGood k = false)
    (hd : d = ((c.clearSheaf k).count .packhorse C.PH.SHEAF_BAD).set F.OST_PH_STATUS.LAST_SHEAF_BAD k) :
    b.sheafEnd = (d.updateRec 4 (d.tally 18) k).phResult q 6 := by
  simp only [Block.sheafEnd, hwaits, ← ha, Block.sheafJudge, ← hc, hbad, Bool.false_eq_true, if_false, ← hd]

/-! ### Staging and installation (R461, R464) -/

theorem exec_stagingComplete_good {c : Block} (hrun : s.blk.est 0 = stRun) (hstate : s.blk.phState = 2)
    (hgood : (List.range (ceilDiv s.blk.pieceCount 64)).all (fun k => s.blk.sheafFull k && s.blk.ost.sheafOk.contains k) = true)
    (hb : b = s.blk.norProgram (s.blk.stageAt 0) (stagingHead (leAt s.blk.manBytes 6 1) (leAt s.blk.manBytes 8 4) s.blk.manLen s.blk.payloadLen))
    (hc : c = b.tallyPut 17 (3 * 2 ^ 28 + b.tally 17 % 256)) :
    exec .stagingComplete s = s.next (c.updateRec 0 (b.tally 18) b.installed) := by
  subst hc hb
  exact congrArg s.next (if_pos ⟨hrun, hstate, hgood⟩)

/-- A record leaves every tally. -/
theorem Block.tally_updateRec (kind v x n : Nat) : (b.updateRec kind v x).tally n = b.tally n :=
  congrArg (fun f : Flash => look f.image n 0) (Block.ledgerOnly_event ..).flash

theorem exec_stagingInstall_step4 (hstep : s.blk.step4 = true) (ok : Bool) : exec (.stagingInstall ok) s = s.next (s.blk.install s.fuse ok) :=
  congrArg s.next (if_pos hstep)

/-- The staging head that waited for OST_BOOT is erased. -/
theorem Block.install_owed {fu : Fuses} {m : NorMap} (hmap : b.ost.map = some m) (howed : b.ost.headOwed = true) (hdone : b.tallyDone 1 = true)
    (ok : Bool) : b.install fu ok = b.phIdle.updOst (fun q => { q with headOwed := false }) := by
  simp only [Block.install, hmap, howed, hdone, if_true]

/-- Settles O43: flash commands and update steps, each by its lemma. -/
theorem flashEraseAndScrubEffects : Obligations.FlashEraseAndScrubEffects := by
  refine ⟨⟨fun _ _ hfree hmay => exec_flashErase_free hfree hmay, fun _ _ hbusy hb hnolimit => exec_eraseSuspend_shown hbusy hb hnolimit,
      fun _ _ hlimit hlong hbusy hfirst => exec_starve_first hlimit hlong hbusy hfirst,
      fun _ _ _ _ hbusy hplain hdirect hb hc hyoung => exec_eraseComplete_plain hbusy hplain hdirect hb hc hyoung,
      fun _ _ hfew hbg hold => exec_journalReclaim_short hfew hbg hold, fun _ _ hen hbg hb hused => exec_scrubVisit_weak hen hbg hb hused,
      fun _ _ hmarked hfree hbg hrotation hhead herased => exec_scrubRewrite_rotation hmarked hfree hbg hrotation hhead herased,
      fun _ _ => ⟨rfl, rfl⟩, fun _ hworn hfirst => exec_wear_first hworn hfirst, fun _ => rfl,
      fun _ _ _ v hroad => ⟨exec_tallyWrite_device hroad v, exec_tallyWrite_steward hroad v⟩⟩,
    fun _ _ _ _ _ hidle hrun hstate hsame hindex hok hnew hb hm hopen =>
      exec_manifestPiece_stored hidle hrun hstate hsame hindex hok hnew hb hm hopen,
    fun _ _ _ hidle hrun hstate hsame hindex hnew hok hlow hhigh hfresh =>
      exec_payloadPiece_erases hidle hrun hstate hsame hindex hnew hok hlow hhigh hfresh,
    fun _ _ _ u hidle hrun => ⟨fun hindex => exec_query_beyond hidle hrun hindex u,
      fun hstate hother => exec_abort_other hidle hrun hstate hother⟩,
    fun _ _ hrun hidle hstate hnext => exec_sheafCheck_next hrun hidle hstate hnext,
    fun s hrun hstate hgood => ⟨_, exec_stagingComplete_good hrun hstate hgood rfl rfl, fun n hother => ?_⟩,
    fun s _ ok hstep hmap howed hdone => ?_⟩
  · rw [Block.tally_updateRec, Block.tallyPut_other hother]
    rfl
  · rw [exec_stagingInstall_step4 hstep, Block.install_owed hmap howed hdone]

/-- Settles O45: pieces, queries, aborts, checks and staging, each by its lemma. -/
theorem packhorseEffects : Obligations.PackhorseEffects :=
  ⟨fun _ _ _ hidle hrun => ⟨fun hstate hindex hup hok => exec_manifestPiece_started hidle hrun hstate hindex hup hok,
      fun hstate hother => ⟨exec_manifestPiece_other hidle hrun hstate hother, exec_payloadPiece_other hidle hrun hstate hother⟩,
      fun hstate hsame hindex hset => exec_payloadPiece_again hidle hrun hstate hsame hindex hset,
      fun hstate hsame hindex hnew hok herased hblank => exec_payloadPiece_stored hidle hrun hstate hsame hindex hnew hok herased hblank,
      fun _ u hindex => exec_query_known hidle hrun hindex u, fun _ hstate hsame => exec_abort_held hidle hrun hstate hsame,
      fun u hstate => exec_abort_none hidle hrun hstate u⟩,
    fun _ _ _ hidle hstop => ⟨exec_manifestPiece_stopped hidle hstop, exec_payloadPiece_stopped hidle hstop⟩,
    fun s _ _ hrun hwaits => ⟨_, _, rfl, rfl,
      fun hgood => (exec_sheafCheck_waiting hrun hwaits).trans (congrArg s.next (Block.sheafEnd_good hwaits rfl rfl hgood)),
      fun _ hbad hc => (exec_sheafCheck_waiting hrun hwaits).trans (congrArg s.next (Block.sheafEnd_bad hwaits rfl rfl hbad hc))⟩,
    fun _ _ _ hrun hstate hgood hb hc => exec_stagingComplete_good hrun hstate hgood hb hc,
    fun _ ok hstep => exec_stagingInstall_step4 hstep ok⟩

end Sys2Proof.Machine
end
